-- ==== Sys2Proof/Word.lean ====
section
/-! DEFINITION. The 32-bit word of mailbox messages, direct registers and link payloads. -/

namespace Sys2Proof

/-- A 32-bit word (13_host_port_and_mailboxes.md R405). -/
abbrev Word := BitVec 32

/-- The low 32 bits of a number as a word. -/
def Word.of (n : Nat) : Word := BitVec.ofNat 32 n

end Sys2Proof
end

