-- ==== Sys2Proof/Syntax.lean ====
section
/-! DEFINITION. The commands of the block and what they carry. -/

namespace Sys2Proof

/-- A Burza port (11_burza_link.md R319). -/
inductive Port where
  | A | B
deriving DecidableEq, Repr

/-- The other port. -/
def Port.other : Port → Port
  | .A => .B
  | .B => .A

/-- Port number as the spec codes it: 0 A, 1 B. -/
def Port.num : Port → Nat
  | .A => 0
  | .B => 1

/-- An oscillator that is judged (03_supply_power_clocks.md R72). -/
inductive Osc where
  | hfo | lfo | xo
deriving DecidableEq, Repr

/-- Who writes a direct register: the host at the head's SPI, or a REG_WR frame with its SEQ
(14_aeddo_command_reference.md R429). -/
inductive Source where
  | spi
  | frame (seq : Nat)
deriving DecidableEq, Repr

/-- An Aeddo command message as it has arrived (13_host_port_and_mailboxes.md R405). The row names the CODE,
LENGTH is the number of words: the header, the body and the trailer. -/
structure Msg where
  /-- SEQ. -/
  seq : BitVec 8
  /-- RSP. -/
  rsp : Bool
  /-- HEAD. -/
  head : Bool
  /-- QUIET. -/
  quiet : Bool
  /-- SEQ_GAP. -/
  gap : Bool
  /-- bits [11:10], reserved. -/
  rsv : BitVec 2
  /-- the message came as a broadcast. -/
  bcast : Bool
  /-- words 1 to LENGTH - 2. -/
  body : List Word
  /-- the CRC-32 trailer. -/
  crc : Word
deriving DecidableEq, Repr

/-- A link frame as received: header, blocks and payload (R325) (11_burza_link.md). -/
structure Frame where
  /-- port it arrived on (R333). -/
  port : Port
  /-- trip prefix (R326). -/
  trip : BitVec 6
  /-- TYPE (R327). -/
  typ : Nat
  /-- SEQ (R327). -/
  seq : Nat
  /-- ADDR (R327). -/
  addr : Nat
  /-- BCAST (R327). -/
  bcast : Bool
  /-- ALM (R327). -/
  alm : Bool
  /-- RTY (R327). -/
  rty : Nat
  /-- LENGTH (R327). -/
  len : Nat
  /-- TS_PHASE (R105). -/
  tsPhase : BitVec 32
  /-- TS_PERIOD (R105). -/
  tsPeriod : BitVec 32
  /-- HEAD_STATE and TS_INC (R105). -/
  tsWord2 : BitVec 32
  /-- sweep word, or payload words (R336). -/
  body : List (BitVec 32)
  /-- CRC-24 passes (R335). -/
  crcOk : Bool
  /-- 0 undamaged; by a violation, a SYNC or loss of signal: 1 before its CRC-24 passed, 2 after it and before its region; by a TRIP: 3 and 4 the same (R334). -/
  damagedAt : Nat
  /-- originated by this device (R388). -/
  own : Bool
deriving DecidableEq, Repr

/-- The values of Frame at reset: the spec's, and those of the log entries INVENTORY.md names. -/
def Frame.reset : Frame where
  port := .A
  trip := 0
  typ := 0
  seq := 0
  addr := 0
  bcast := false
  alm := false
  rty := 0
  len := 0
  tsPhase := 0
  tsPeriod := 0
  tsWord2 := 0
  body := []
  crcOk := true
  damagedAt := 0
  own := false

/-- What the head receives when a frame returns to it (11_burza_link.md R339). -/
structure FrameReturn where
  /-- the port it returns on. -/
  port : Port
  /-- its CRC-24 passes (R335). -/
  crcOk : Bool
  /-- damaged (R334): 0 not, 1 by a violation, a SYNC or loss of signal, 2 by a TRIP. -/
  damaged : Nat
  /-- TYPE. -/
  typ : Nat
  /-- SEQ. -/
  seq : Nat
  /-- LSTAT of the REPLY word, none where it fails its CRC-8, its SEQ is another's or the RCRC fails (R337, R339). -/
  reply : Option Nat
  /-- ADDR of the REPLY word (R337). -/
  addr : Nat
  /-- words of the reply after REPLY, without RCRC (R337). -/
  words : List Word
  /-- ACK or census pairs by address (R340). -/
  pairs : List (Nat × Nat)
  /-- slots of a sweep part by address: CRC-24 passes, ALIVE, words (R345). -/
  slots : List (Nat × Bool × Nat × List Word)
  /-- round trip in CK_PHASE cycles (R365). -/
  trip : Nat
deriving DecidableEq, Repr

/-- The commands of the block, one constructor per row of spec/opcode_table.json. -/
inductive Instr where
  /-- VSTK_POWER_ON (R70): VSTK stays above 8.0 V for 10 us. The always-on domain leaves reset, the oscillators are enabled and the buck soft start begins. -/
  | vstkPowerOn
  /-- VSTK_POWER_LOSS (R59): VSTK falls through 7.5 V and the device enters OFF from any state. -/
  | vstkPowerLoss
  /-- VSTK_LOW (R57): VSTK has been below 9.0 V for the 100 us filter time, and EV104 is raised. -/
  | vstkLow (low : Bool)
  /-- VSTK_HIGH (R57): VSTK has been above 142 V for the 100 us filter time, and EV105 is raised. -/
  | vstkHigh (high : Bool)
  /-- V5_FAULT (R57): V5 has been outside 4.60-5.40 V for 10 us, and EV106 is raised. -/
  | v5Fault (outside : Bool)
  /-- V5_BROWNOUT (R87): V5 falls below 4.20 V for 1 us. The safe state is forced and SAFE_HOLD is entered with cause V5_BROWNOUT. -/
  | v5Brownout (below : Bool)
  /-- VD_FAULT (R57): VD has been outside its target +-3 % for 10 us outside an operating-point transition, and EV107 is raised. -/
  | vdFault (outside : Bool)
  /-- VD_BROWNOUT (R87): VD falls below 90 % of its target for 1 us. The safe state is forced and SAFE_HOLD is entered with cause VD_BROWNOUT. -/
  | vdBrownout (below : Bool)
  /-- TJ_WARN (R57): A die has been above 125 deg C (or back below 115 deg C) for 1 ms, and EV108 is raised or cleared. -/
  | tjWarn (above : Bool)
  /-- TJ_SHUTDOWN (R57): A die has been above 150 deg C for 10 us. The safe state is forced and SAFE_HOLD is entered with cause TJ_SHUTDOWN. -/
  | tjShutdown (above : Bool)
  /-- OSC_STARTED (R72): An oscillator has counted 4096 of its own cycles and is judged started. -/
  | oscStarted (o : Osc)
  /-- CLOCK_COMPARE_DONE (R72): A comparison of an oscillator against an independent clock completes, and the oscillator is judged stable or failed. -/
  | clockCompareDone (o : Osc) (count : Nat)
  /-- CLOCK_COMPARE_RETRY (R73): The comparison of a failed clock is repeated 10 ms later, up to 3 times in all. -/
  | clockCompareRetry (o : Osc)
  /-- V5_POWER_GOOD (R70): V5 reaches power-good. VA and VREFC start and the first MODE sample is taken. -/
  | v5PowerGood (mode : Bool)
  /-- MODE_SAMPLE (R36): MODE is sampled 8 LFO cycles after the previous sample, and after the third sample the majority role is latched. -/
  | modeSample (mode : Bool)
  /-- CORE_RESET_RELEASE (R70): VD reaches power-good and the core die leaves reset on the boot clock. -/
  | coreResetRelease
  /-- PLL_P_LOCK (R70): PLL_P locks and CK_CORE switches to 25 MHz at OP-L. -/
  | pllPLock
  /-- BOOT_DONE (R70): The lockstep check, the ROM start and the OTP generation load complete, and the device enters STANDBY. -/
  | bootDone
  /-- HFO_FAIL (R74): The HFO missing-edge detector or frequency monitor declares a failure, and the device enters SAFE_HOLD with cause HFO_FAIL. -/
  | hfoFail
  /-- LFO_FAIL (R74): The LFO monitor declares a failure, and the device enters SAFE_HOLD with cause LFO_FAIL or starts at once from SLEEP. -/
  | lfoFail
  /-- XO_FAIL (R74): A selected XO fails its monitor, and the device enters SAFE_HOLD with cause XO_FAIL. -/
  | xoFail
  /-- PLL_P_UNLOCK (R74): PLL_P is declared unlocked, and the device enters SAFE_HOLD with cause PLL_P_UNLOCK. -/
  | pllPUnlock
  /-- CLK_FORCED (R77): No edge of the old clock arrives within 16 new-clock cycles. The multiplexer forces the switch and EV96 is raised. -/
  | clkForced
  /-- SAFE_WIRE_DISAGREE (R27): The two rails of a safe-state wire pair disagree for longer than 100 ns. This counts as a request and the safe state is forced. -/
  | safeWireDisagree (front : Bool) (asks : Bool)
  /-- SAFE_WIRE_REQUEST (R87): A safe-wire pair requests the safe state. The safe state is forced and SAFE_HOLD is entered with cause SAFE_WIRE. -/
  | safeWireRequest (front : Bool) (asks : Bool)
  /-- SAFE_HOLD_RETRY (R87): Every 10 ms in SAFE_HOLD, HFO and the failed source are restarted and judged again. -/
  | safeHoldRetry
  /-- SAFE_HOLD_EXIT (R88): The exit conditions hold, so the device restarts from step 7 of start-up with the latched cause and raises EV111. -/
  | safeHoldExit
  /-- OP_VD_GOOD (R78): VD reaches power-good during an upward operating-point transition, and the CK_CORE divider is changed. -/
  | opVdGood
  /-- OP_TIMEOUT (R79): VD power-good is not reached within 80 us. The previous target is restored and EV103 is raised. -/
  | opTimeout
  /-- GATE_HANDSHAKE (R82): A block's bus-idle handshake arrives, and the pending gate close completes. -/
  | gateHandshake
  /-- GATE_BUSY_TIMEOUT (R82): No bus-idle handshake arrives within 64 CK_CORE cycles, so the close is refused with GATE_BUSY. -/
  | gateBusyTimeout
  /-- GATE_BUSY_RETRY (R85): A sleep or ship transition retries a GATE_BUSY close 1 us later, up to 4 times, then restores every gate. -/
  | gateBusyRetry
  /-- SLEEP_CHECK (R64): SLEEP_PERIOD expires, and the sequencer powers the references, waits, converts cells and AX inputs and compares them with their limits. -/
  | sleepCheck (cells : List Nat) (ax : List Nat)
  /-- WAKE_PIN (R66): The WAKE pin is above 2.0 V for 10 us and wakes the device from SHIP or SLEEP. -/
  | wakePin (high : Bool)
  /-- WAKE_TONE_DETECT (R67): A receiver detects 64 valid wake-tone cycles and wakes the device. -/
  | wakeToneDetect (p : Port)
  /-- SLEEP_WAKE_AFTER (R66): The SLEEP_WAKE_AFTER timer expires, and the device starts from SLEEP with cause SLEEP_TIMER. -/
  | sleepWakeAfter
  /-- WAKE_TONE_END (R67): The 200 us of a transmitted wake tone end. -/
  | wakeToneEnd (p : Port)
  /-- WAKE_OUT_END (R65): WAKE_OUT_MS expires, and the device stops driving WAKE high. -/
  | wakeOutEnd
  /-- SLEEP_ENTRY (R436): Once an accepted response or broadcast frame has left the device, it writes its retention image and enters SLEEP or SHIP. -/
  | sleepEntry
  /-- ACT_RAMP_DONE (R244): All active commands have ramped to 0 before the device leaves ACTIVE, and the drivers turn off so the transition can begin. -/
  | actRampDone
  /-- MERIDIAN (R91): The phase accumulator wraps through phase zero and PERIOD_CNT increments. Lead points, plan switches and settings that wait for a meridian act here. -/
  | meridian
  /-- SYNC_OUT_PULSE_END (R119): The 1 us or quarter-period SYNC_OUT pulse ends. -/
  | syncOutPulseEnd
  /-- SYNC_IN_EDGE (R98): The selected SYNC_IN edge leaves its synchroniser and is captured, then accepted or rejected. It acts on the acquisition or the loop. -/
  | syncInEdge (rising : Bool)
  /-- TB_PW_PHASE_WRITE (R102): A write to TB_PW_PHASE is captured as a phase-word reference event. -/
  | tbPwPhaseWrite (v : Word)
  /-- TB_REF_TIMEOUT (R99): No reference is accepted within 2N periods (or 64 periods for phase words), and the LOCKED head enters FLYWHEEL. -/
  | tbRefTimeout
  /-- PHASE_LOST (R95): The count of meridians since FLYWHEEL reaches 1000. EV110 is raised and TB_STAT.PHASE_LOST is set. -/
  | phaseLost
  /-- MEMBER_TB_TIMEOUT (R107): 2 ms pass without a valid timing block, and the member enters FLYWHEEL. -/
  | memberTbTimeout
  /-- PLL_M_LOCK (R110): PLL_M declares lock after 64 periods of aligned edges. -/
  | pllMLock
  /-- PLL_M_UNLOCK (R110): PLL_M loses lock. CK_MOD free-runs at 8 MHz and EV101 is raised. -/
  | pllMUnlock
  /-- CONVERT_LEAD_POINT (R114): At the lead point of a CONVERT slot, the apertures of the named channels start, or the channels are found busy. -/
  | convertLeadPoint (slots : List Nat)
  /-- DARK_LEAD_POINT (R235): At the dark lead point, a DUTY beat commands the neighbouring FETs off. -/
  | darkLeadPoint (slot : Nat)
  /-- TRANSIT (R113): A slot fires as the accumulator reaches its phase in a selected period, and its action is carried out. -/
  | transit (slots : List Nat)
  /-- TRANSIT_MARK_END (R118): The TRANSIT_OUT pulse of a MARK bit ends. -/
  | transitMarkEnd (gpio : Nat)
  /-- APERTURE_END (R127): An aperture ends, and the dark hold of its DARK slot is released. -/
  | apertureEnd (tseq : Nat)
  /-- FRAME_END (R129): A CONTINUOUS-mode frame of R CK_MOD cycles ends, and the next frame begins. -/
  | frameEnd
  /-- RECORD_COMPLETE (R134): The last modulator bit of the longest support of a transit record arrives. -/
  | recordComplete (tseq : Nat)
  /-- RECORD_WRITE (R143): The sample assembler forms the values and flags of the record and writes it into history. -/
  | recordWrite (raw : List Int) (ovl : BitVec 25)
  /-- RECORD_VISIBLE (R135): A record and every record with an earlier TSEQ are complete, so the record becomes visible to consumers. -/
  | recordVisible
  /-- CAPTURE_GPIO_EDGE (R152): The selected edge arrives on a CAPTURE_IN GPIO and triggers the capture. -/
  | captureGpioEdge (gpio : Nat) (rising : Bool)
  /-- SAR_CONVERSION_DONE (R162): A SAR conversion ends, and its result goes to its entry, leat slot, check or diagnosis. -/
  | sarConversionDone (code : BitVec 12)
  /-- AUX_DELAY_END (R165): The DELAY of a loop entry expires, and the loop moves on to the next entry. -/
  | auxDelayEnd
  /-- AUX_RESULT_FILE (R173): The housekeeper reads AUX_RESULT, which clears VALID, and files the result in the last-value table. -/
  | auxResultFile
  /-- LEAT_SLOT_DUE (R178): LEAT_PERIOD expires and a leat slot falls due. A slot that falls due while one is pending is dropped and counted in LEAT_SLIP. -/
  | leatSlotDue
  /-- LEAT_SLOT_DONE (R180): The four conversions of a leat slot end, and the cell is compared, verified or substituted. -/
  | leatSlotDone (codes : List (BitVec 12))
  /-- LEAT_VERIFY_SWITCH (R181): After 15 us of DAC settling, leat divider n is switched to the test DAC for verification. -/
  | leatVerifySwitch
  /-- WIRE_CHECK_PERIOD (R177): WIRE_CHECK_PERIOD expires, and an input diagnosis run starts. -/
  | wireCheckPeriod
  /-- DIAG_PULL_END (R175): OW_PULL_US expires, and the diagnosed pins are read again and judged. -/
  | diagPullEnd (readings : List Int)
  /-- DIAG_RECOVER_END (R176): OW_RECOVER_US expires after a check, and the disturbed channels are released. -/
  | diagRecoverEnd
  /-- TEST_DAC_SETTLED (R174): The test DAC has settled 15 us after a code change, and its user proceeds. -/
  | testDacSettled
  /-- CMP_OUTPUT_CHANGE (R189): A comparator's raw output changes level as its input crosses a switching point. -/
  | cmpOutputChange (k : Fin 64) (level : Bool)
  /-- CMP_DEGLITCH_EXPIRY (R191): The deglitch time expires, so the effective level changes. Flags, events, edge records, TRIPN and trip insertion follow. -/
  | cmpDeglitchExpiry (k : Fin 64)
  /-- TRIP_INSERT_DEFERRED (R207): On a folded arm, a receiving trip port has been idle for 1 bit time, so the deferred TRIP is inserted. -/
  | tripInsertDeferred
  /-- TRIP_RX (R209): A TRIP symbol is recognised on a receive port. RX_LATCH is set, and FAULTN is driven where configured. -/
  | tripRx (p : Port)
  /-- CMP_SETTING_APPLY (R192): A change of threshold, hysteresis or deglitch takes effect at the comparator within 5 us. -/
  | cmpSettingApply (k : Fin 64)
  /-- CMP_CHECK_READ (R201): The output of a comparator under swap or tie check is read, and it is reconnected with its held level. -/
  | cmpCheckRead (k : Fin 64) (level : Bool)
  /-- BAL_PERIOD_BOUNDARY (R223): A balance period begins. Duty changes, derating and timing fallback take effect. -/
  | balPeriodBoundary
  /-- BAL_STEP (R225): A balance step begins, and the FETs that are scheduled on and not held are admitted under the current cap. -/
  | balStep
  /-- ISENSE_INTERVAL_END (R219): A 31.25 us sense interval ends. FET readings are taken and queued in ISENSE beats, or the beat is dropped. -/
  | isenseIntervalEnd (readings : List Nat)
  /-- BAL_FET_OVERCURRENT (R237): A FET carries more than 400 mA for 1 us, so it is latched off and EV121 is raised. -/
  | balFetOvercurrent (n : Nat)
  /-- BAL_PLAN_TIME_LIMIT (R229): A cell's plan time limit expires, and the plan ends. -/
  | balPlanTimeLimit (n : Nat)
  /-- BAL_TIMEOUT (R231): BAL_TIMEOUT expires. BAL_SET duties become 0 and active commands ramp to 0. -/
  | balTimeout
  /-- TEMP_STALE (R227): No TEMP_FRONT result has arrived for 100 ms, so the derate factor is treated as 0 and TEMP_STALE is set. -/
  | tempStale
  /-- ACT_PWM_PERIOD (R241): An active PWM period ends. The applied command moves toward the set command and AD_Sn is sampled. -/
  | actPwmPeriod (b : Fin 4) (mV : Nat)
  /-- ACT_SENSE_FAULT (R239): AD_Sn has been out of range for 4 periods, so the driver turns off and EV122 is raised. -/
  | actSenseFault (b : Fin 4)
  /-- ACT_MEAN_MS (R243): A 1 ms mean of the sensed current completes, and the deviation fault is judged. -/
  | actMeanMs (b : Fin 4)
  /-- D2D_BEAT_RX (R17): A die-to-die beat is received, its CRC is checked, and its content is delivered or discarded. -/
  | d2dBeatRx (up : Bool) (typ : Nat) (content : BitVec 52) (damage : BitVec 72)
  /-- D2D_NAK_RX (R22): A NAK is received, and the transmitter replays its buffer from the expected SEQ. -/
  | d2dNakRx (up : Bool) (seq : Nat)
  /-- D2D_RETRAIN_DONE (R23): A retrain ends. Beats flow again and held content is resent. -/
  | d2dRetrainDone
  /-- D2D_HOLD_ROOM (R25): Room returns in the hold buffer. Latched edges are sent and the SAR may start again. -/
  | d2dHoldRoom
  /-- PORT_LOS (R323): A port expected to receive sees no edge for 8 bit times. It declares loss of signal, and wrap handling follows. -/
  | portLos (p : Port)
  /-- PORT_LOCK (R323): A receiving port has seen 64 violation-free bit times and enters lock. -/
  | portLock (p : Port)
  /-- FRAME_TIMING (R333): A TIMING frame is received whole, and its timing block and almanac bit are taken. -/
  | frameTiming (f : Frame)
  /-- FRAME_SWEEP (R345): A sweep frame is received, and the member fills its slot with its latest record, ALIVE and CRC. -/
  | frameSweep (f : Frame)
  /-- FRAME_CMD (R333): A CMD frame is received. The fragment is stored and REPLY or an ACK pair is written. -/
  | frameCmd (f : Frame)
  /-- FRAME_POLL (R333): A POLL frame is received, and the member writes REPLY and its next response fragment. -/
  | framePoll (f : Frame)
  /-- FRAME_REG_WR (R333): A REG_WR frame is received. The register is written and REPLY or an ACK pair is written. -/
  | frameRegWr (f : Frame)
  /-- FRAME_REG_RD (R333): A REG_RD frame is received, and REPLY with the register value is written. -/
  | frameRegRd (f : Frame)
  /-- FRAME_ENUM (R370): An ENUM frame is received. A gated member claims or refuses and turns it, and a stale member forgets. -/
  | frameEnum (f : Frame)
  /-- FRAME_DELAY (R365): A DELAY frame is received and turned by its target for delay measurement. -/
  | frameDelay (f : Frame)
  /-- FRAME_CENSUS (R375): A CENSUS frame is received, and each member writes its ACK pair. -/
  | frameCensus (f : Frame)
  /-- RING_CTL_FORGET (R368): A broadcast FORGET sets address 0, closes the headgate, invalidates the delays and enters GATED. -/
  | ringCtlForget (f : Frame)
  /-- RING_CTL_SET_FOLD (R368): The target of SET_FOLD becomes FOLD on the arrival port. -/
  | ringCtlSetFold (f : Frame)
  /-- RING_CTL_EXTEND (R368): The fold that receives EXTEND becomes ARM or REVERSED. -/
  | ringCtlExtend (f : Frame)
  /-- RING_CTL_PROBE_FAR (R368): After its return pass, the fold sends 128 bit times of 1 bits on its far port. -/
  | ringCtlProbeFar (f : Frame)
  /-- RING_CTL_FAR_STAT (R368): The target reports FAR_LOCK and FAR_PROBE in DATA and then clears them. -/
  | ringCtlFarStat (f : Frame)
  /-- RING_CTL_UNWRAP_PREP (R368): Members of the A arm enter AWAIT after the return pass. -/
  | ringCtlUnwrapPrep (f : Frame)
  /-- RING_CTL_UNWRAP (R386): Members of the B arm enter NORMAL and the B fold forwards out of its far port. -/
  | ringCtlUnwrap (f : Frame)
  /-- HEAD_FRAME_START (R348): The head starts the next frame by precedence, including polls and remote accesses, when the link is free. -/
  | headFrameStart
  /-- HEAD_FRAME_RETURN (R339): A frame returns to the head. Replies, ACK pairs, slots and enumeration results are judged. -/
  | headFrameReturn (r : FrameReturn)
  /-- HEAD_RETURN_TIMEOUT (R339): A frame's last bit has not returned within the ring delay + 32 bit times, so the attempt fails. -/
  | headReturnTimeout
  /-- HEAD_RETRY (R339): 4 us after a failed attempt, the head resends the frame with RTY raised, or declares RETRY_FAIL. -/
  | headRetry
  /-- SWEEP_DUE (R342): LINK_SWEEP_PERIOD elapses, and a sweep's part 0 falls due. -/
  | sweepDue
  /-- TIMING_FRAME_DUE (R348): No frame has started for 400 us, so the head sends a TIMING frame. -/
  | timingFrameDue
  /-- FOLD_RETURN (R349): 4 bit times after an outbound pass ends, the fold sends the return pass. -/
  | foldReturn
  /-- TURN_RETURN (R364): A turning device launches the return SYNC of a turned frame at the fixed turn time. -/
  | turnReturn
  /-- ARM_RETURN_TIMEOUT (R360): No return edge arrives in time, so an ARM or REVERSED member turns its ports back. -/
  | armReturnTimeout
  /-- BEACON (R362): A port of a GATED or UNATTACHED device has seen no edge for 10 ms, so a beacon of fill is sent. -/
  | beacon (p : Port)
  /-- REVERSE_DECIDE (R378): 16 bit times after loss of signal, the member enters REVERSED or FOLD according to whether a mark arrived. -/
  | reverseDecide (mark : Bool)
  /-- BREAK_MARK_END (R378): The break mark ends. The member turns port B to receive, and the head sends CENSUS on its A arm. -/
  | breakMarkEnd
  /-- FAR_LOCK_SET (R384): A fold sees 32 violation-free bit times on its far port and sets FAR_LOCK. -/
  | farLockSet
  /-- FAR_PROBE_SET (R384): A fold sees 64 consecutive 1 bits on its far port and sets FAR_PROBE. -/
  | farProbeSet
  /-- CENSUS_DUE (R375): The 100 ms census interval expires, and the head sends CENSUS. -/
  | censusDue
  /-- AWAIT_TIMEOUT (R386): An AWAIT member receives no frame within 1 ms and returns to REVERSED. -/
  | awaitTimeout
  /-- HEAD_SILENCE_END (R388): The head's 2 ms of silence after STANDBY ends, and it may originate frames. -/
  | headSilenceEnd
  /-- ENUM_FORGET_WAIT (R370): The 100 us wait after FORGET ends, and the first ENUM of the pass is sent. -/
  | enumForgetWait
  /-- ENUM_QUIET (R374): 10 ms pass without a change of head port lock after a disturbed attempt, and a new attempt starts. -/
  | enumQuiet
  /-- DUP_KEEP_EXPIRY (R338): The 1 ms during which a member keeps its last reply for retries expires. -/
  | dupKeepExpiry
  /-- FRAG_TIMEOUT (R410): No fragment has arrived for 10 ms, so a partial message is discarded. -/
  | fragTimeout
  /-- SPI_NOP (R397): A NOP transaction returns the previous response or an unreported remote result. -/
  | spiNop (req : BitVec 64)
  /-- SPI_READ (R397): A READ transaction reads a head register, or starts a remote REG_RD. -/
  | spiRead (req : BitVec 64)
  /-- SPI_WRITE (R397): A WRITE transaction writes a head register, or starts a directed or broadcast REG_WR. -/
  | spiWrite (req : BitVec 64)
  /-- SPI_BURST (R400): A BURST transaction reads N consecutive head words with a CRC per group of 8. -/
  | spiBurst (req : BitVec 64)
  /-- SPI_SHORT_TRANSACTION (R395): A transaction with the wrong clock count is not executed, and the next response carries S_SHORT. -/
  | spiShortTransaction
  /-- REMOTE_ACCESS_DONE (R398): A pending remote register access completes or fails, and its result awaits a NOP. -/
  | remoteAccessDone (ok : Bool) (value : Word)
  /-- MBX_CMD_WIN_WRITE (R408): A write to MBX_CMD_WIN appends a word to the composed message, or sets OVF. -/
  | mbxCmdWinWrite (w : Word)
  /-- MBX_SEND (R409): SEND checks the composed message and submits it for relay or execution, or answers with a head response. -/
  | mbxSend
  /-- MBX_ABORT (R408): ABORT discards the composed words. -/
  | mbxAbort
  /-- MBX_RSP_WIN_READ (R408): A read of MBX_RSP_WIN returns and consumes the next word of the current response. -/
  | mbxRspWinRead
  /-- MBX_RSP_NEXT (R408): NEXT discards the rest of the current response. -/
  | mbxRspNext
  /-- MBX_EVT_WIN_READ (R418): A read of MBX_EVT_WIN returns and removes one event mailbox word. -/
  | mbxEvtWinRead
  /-- MBX_STRM_WIN_READ (R418): A read of MBX_STRM_WIN returns and removes one stream mailbox word. -/
  | mbxStrmWinRead
  /-- MBX_COUNTS_READ (R421): A read of MBX_COUNTS returns the counters and clears them. -/
  | mbxCountsRead
  /-- SWEEP_STAT_READ (R423): A read of SWEEP_STAT returns it and clears NEW and REPLACED. -/
  | sweepStatRead
  /-- TB_STAT_READ (R121): A read of TB_STAT returns it and clears REF_REJECT and LATE_CNT. -/
  | tbStatRead
  /-- TRIP_STAT_READ (R215): A read of TRIP_STAT returns it and clears INSERT_CNT. -/
  | tripStatRead
  /-- LINK_STAT_READ (R354): A read of LINK_STAT returns it and clears CRC_CNT, VIOL_CNT and RETRY_CNT. -/
  | linkStatRead
  /-- LINK_CTRL_CLR_CNT (R354): A write of 1 to CLR_CNT clears the link counters. -/
  | linkCtrlClrCnt
  /-- LINK_CTRL_PORT_EN (R355): A write of the port enables takes effect, except that disabling the receiving port is refused and EN_REFUSED is set. -/
  | linkCtrlPortEn (src : Source) (w : Word)
  /-- FAULT_PIN_CTRL_WRITE (R492): A write to FAULT_PIN_CTRL sets its RW fields, and clears LATCH only when no cause remains. -/
  | faultPinCtrlWrite (src : Source) (w : Word)
  /-- EVFORCE_WRITE (R496): A write of 1 to an EVFORCE bit raises an occurrence naming FORCE_UNIT. -/
  | evforceWrite (bank : Fin 4) (w : Word)
  /-- REGISTER_WRITE (R397): A write to a direct register that has no row of its own acts by its access codes. -/
  | registerWrite (src : Source) (addr : Nat) (w : Word)
  /-- HK_RESTART (R417): A lockstep mismatch restarts the housekeeper, while the hardware runs on. -/
  | hkRestart
  /-- HK_RESTART_DONE (R417): The housekeeper runs again. HK_RESTARTED is set, EV124 is raised and unexecuted commands resume. -/
  | hkRestartDone
  /-- IDENTIFY (R434): Returns the identity, firmware, role, start cause, UID, capabilities and OTP generation status. -/
  | identify (m : Msg)
  /-- CAPS (R434): Returns the capability words and resource sizes. -/
  | caps (m : Msg)
  /-- POWER_STATE (R60): Requests a change of power state, with its checks, sleep check, ramps and operating-point transition. -/
  | powerState (m : Msg) (codes : List Nat) (ax : List Nat)
  /-- SOFT_RESET (R438): Caches its response, restarts the housekeeper, returns items to reset values with OTP applied, and keeps the listed state. -/
  | softReset (m : Msg)
  /-- CFG_SET (R439): Checks and writes a list of configuration items atomically. -/
  | cfgSet (m : Msg)
  /-- CFG_GET (R440): Returns the values of the listed items and clears read-clear items. -/
  | cfgGet (m : Msg)
  /-- CFG_COMMIT_OTP (R441): Checks the conditions and starts programming the configuration into the lowest EMPTY OTP generation. -/
  | cfgCommitOtp (m : Msg)
  /-- OTP_LIMIT_DEPART (R532): VSTK or a die temperature leaves its limits during OTP programming, so programming stops and the generation is retired. -/
  | otpLimitDepart
  /-- OTP_PROGRAM_DONE (R532): OTP programming and readback end, and VALID_g or RETIRED_g is programmed and journalled. -/
  | otpProgramDone (ok : Bool)
  /-- CONV_SETUP (R447): Writes the conversion items 0x0101-0x0107 in one command. -/
  | convSetup (m : Msg)
  /-- TRANSIT_PLAN_LOAD (R449): Loads, replaces or releases a transit plan's slots, to take effect at its START meridian. -/
  | transitPlanLoad (m : Msg)
  /-- TRANSIT_PLAN_QUERY (R449): Returns slot ownership and a plan's slots, and changes nothing. -/
  | transitPlanQuery (m : Msg)
  /-- READ_CELLS (R450): Returns the latest visible record, and optionally statistics, for the named channels. -/
  | readCells (m : Msg)
  /-- HISTORY_READ (R451): Returns history records from TSEQ_FIRST through a HIST_PACK job. -/
  | historyRead (m : Msg)
  /-- CAPTURE_ARM (R452): Arms the lowest free capture with its PRE, POST and trigger, or fires it at once. -/
  | captureArm (m : Msg)
  /-- CAPTURE_RELEASE (R453): Disarms or unfreezes a capture, and ends its GPIO claim. -/
  | captureRelease (m : Msg)
  /-- CAPTURE_QUERY (R453): Returns a capture's state and its TSEQ span. -/
  | captureQuery (m : Msg)
  /-- AUX_TABLE_LOAD (R168): Loads a new auxiliary sequencer table, which takes effect after the conversions in progress. -/
  | auxTableLoad (m : Msg)
  /-- AUX_READ (R455): Returns the filed results of the named sequencer entries. -/
  | auxRead (m : Msg)
  /-- WINDOW_SET (R456): Sets OV, UV and AX window thresholds for the named cells and inputs. -/
  | windowSet (m : Msg)
  /-- BAL_SET (R228): Sets passive duties, claims or releases FETs, and clears overcurrent latches. -/
  | balSet (m : Msg)
  /-- BAL_PLAN (R229): Starts per-cell balancing plans with stop voltage, charge target and time limit. -/
  | balPlan (m : Msg)
  /-- ACTIVE_SET (R240): Sets active bank commands, with claims and AD_EN handling. -/
  | activeSet (m : Msg)
  /-- EIS_PLAN (R260): Checks an impedance plan and schedules it to replace the plan in force, or stops the plan. -/
  | eisPlan (m : Msg)
  /-- EIS_READ (R460): Returns impedance results from the result table. -/
  | eisRead (m : Msg)
  /-- TEMP_TABLE_LOAD (R277): Loads a phase-to-temperature table. -/
  | tempTableLoad (m : Msg)
  /-- KERNEL_LOAD_BEGIN (R312): Begins staging a custom kernel image in a slot. -/
  | kernelLoadBegin (m : Msg)
  /-- KERNEL_LOAD_DATA (R312): Stages up to 240 image words at an offset. -/
  | kernelLoadData (m : Msg)
  /-- KERNEL_LOAD_END (R313): Verifies, authenticates and installs the staged kernel image. -/
  | kernelLoadEnd (m : Msg)
  /-- KERNEL_UNLOAD (R316): Stops the kernel's generator, cancels its jobs and frees the slot. -/
  | kernelUnload (m : Msg)
  /-- JOB_STATS (R317): Returns engine and flume statistics, and optionally clears them. -/
  | jobStats (m : Msg)
  /-- ENUMERATE (R462): Starts an enumeration attempt of the ring. -/
  | enumerate (m : Msg)
  /-- CENSUS_QUERY (R465): Returns RING_EPOCH and the PRESENT and RESERVED maps. -/
  | censusQuery (m : Msg)
  /-- CENSUS_RELEASE (R465): Frees a RESERVED address. -/
  | censusRelease (m : Msg)
  /-- CENSUS_RUN (R465): Sends a census at once. -/
  | censusRun (m : Msg)
  /-- RING_STATUS (R466): Returns the ring status, the map entries and the delays. -/
  | ringStatus (m : Msg)
  /-- FAULT_CFG (R467): Writes FAULT_ESC_k entries, and claims, moves or releases FAULT_COPY. -/
  | faultCfg (m : Msg)
  /-- FAULT_READ (R468): Returns per-source escalation state, clears LOST and info counts, and optionally takes fault messages from Q28. -/
  | faultRead (m : Msg)
  /-- INJECT (R469): Arms check-bit error injection on a target within a service session. -/
  | inject (m : Msg)
  /-- BIST_CFG (R470): Sets the self-test budget, kinds and rate, and returns the coverage period. -/
  | bistCfg (m : Msg)
  /-- BIST_READ (R471): Returns self-test results per kind, and optionally clears the counts. -/
  | bistRead (m : Msg)
  /-- JOURNAL_READ (R472): Returns journal entries from an absolute index. -/
  | journalRead (m : Msg)
  /-- SERVICE_CHALLENGE (R473): Returns a 128-bit nonce for a service session. -/
  | serviceChallenge (m : Msg)
  /-- SERVICE_ANSWER (R534): Checks the HMAC answer, then opens the session or counts the failure. -/
  | serviceAnswer (m : Msg)
  /-- SERVICE_CLOSE (R473): Closes the open service session. -/
  | serviceClose (m : Msg)
  /-- SESSION_EXPIRY (R536): SERVICE_MAX_S expires, and the session ends with a SESSION_END entry. -/
  | sessionExpiry
  /-- NONCE_EXPIRY (R534): A challenge nonce expires 10 s after it was issued. -/
  | nonceExpiry
  /-- ESC_WINDOW_EXPIRY (R482): An escalation window expires before COUNT is reached, and the counter returns to IDLE. -/
  | escWindowExpiry (k : Fin 128)
  /-- ESC_HANDLING_END (R483): The minimum pulse has ended and the reaction is in force and journalled, so the counter returns to IDLE. -/
  | escHandlingEnd (k : Fin 128)
  /-- REACTION_JOURNAL (R483): The FAULT_REACTION journal entry of a reaction is written between commands. -/
  | reactionJournal (k : Fin 128)
  /-- STRETCH_END (R491): The FAULTN stretcher time after its latest trigger expires. -/
  | stretchEnd
  /-- FAULTN_STUCK (R493): FAULTN has been driven low but read high for 10 us, so EV127 is raised. -/
  | faultnStuck
  /-- STARTUP_CHECKS_DONE (R494): The start-up checks complete. DONE is queued and STARTUP clears unless a critical check failed. -/
  | startupChecksDone (fails : List (Nat × Nat))
  /-- JOB_DISPATCH (R299): The dispatcher moves a class-flume head job, or twin pair, to the local flume of the least-loaded qualifying engine. -/
  | jobDispatch
  /-- JOB_START (R300): An engine takes the head job of its local flume and checks its descriptor CRC. -/
  | jobStart (e : Fin 16) (damage : BitVec 256)
  /-- JOB_COMPLETE (R292): An engine completes a job. The result is written, the descriptor freed, and twins compared or rescues made. -/
  | jobComplete (e : Fin 16) (result : List Word)
  /-- JOB_OVERRUN (R290): A ROM kernel job exceeds twice its nominal cost, so it is abandoned and EV83 is raised. -/
  | jobOverrun (e : Fin 16)
  /-- KERNEL_OVERRUN (R315): A custom job exceeds twice COST, so it is abandoned without retry and EV84 is raised. -/
  | kernelOverrun (e : Fin 16)
  /-- ENGINE_TRAP (R308): An engine traps, abandons its job and raises EV82. -/
  | engineTrap (e : Fin 16)
  /-- ENGINE_STEAL (R301): An engine that has been idle for 16 cycles steals an eligible job from another local flume. -/
  | engineSteal (e : Fin 16)
  /-- TWIN_TIMEOUT (R306): The second twin has not completed within 10 ms of the first, so nothing is delivered and EV81 is raised. -/
  | twinTimeout (id : Nat)
  /-- ENGINE_LOADED (R287): An engine's code area has been loaded, and the engine becomes ACTIVE. -/
  | engineLoaded (e : Fin 16)
  /-- KERNEL_COPY (R314): An engine takes a custom kernel copy through Q30, and the generator starts once all engines hold it. -/
  | kernelCopy (e : Fin 16) (slot : Fin 4)
  /-- JOURNAL_WRITE (R520): The journal writer drains one entry from Q27 into the journal ring, chaining its CRC16. -/
  | journalWrite
  /-- BIST_SLOT (R504): A self-test slot falls, and the next kind's next unit starts its slice or is deferred. -/
  | bistSlot
  /-- BIST_SLICE_DONE (R509): A slice reaches its expected count and is judged PASS or FAIL, and the unit is returned. -/
  | bistSliceDone (ok : Bool) (result : Int) (direct : Int) (word : Nat)
  /-- BIST_BUDGET_EXPIRY (R510): BIST_BUDGET_US expires during a slice, so it is cut short and the unit is returned. -/
  | bistBudgetExpiry
  /-- DIAG_NO_GAP_TIMEOUT (R176): No gap free of support bits has come within 1 s for a pending input diagnosis check in TRANSIT mode, so the disturbed cells are disabled for the check interval and the check runs. -/
  | diagNoGapTimeout
  /-- EXCITE_FET_EDGE (R247): A FET running passive excitation turns on or off on the CK_MOD edge nearest each transition of frac(RATIO x PHI + phi) through 0 or 0.5. -/
  | exciteFetEdge (n : Nat)
  /-- OP_DOWN_VD_POWER_GOOD (R78): During a downward operating-point transition, VD slews into its new target +-3 %, and the transition ends, so VD window monitoring and self-test slices resume. -/
  | opDownVdPowerGood
  /-- SLEEP_ENTRY_TIMEOUT (R436): 10 ms after the OK response to a directed POWER_STATE to SLEEP or SHIP is ready, the device enters the state even though the response has not left it. -/
  | sleepEntryTimeout
deriving DecidableEq, Repr

end Sys2Proof
end

