-- ==== Sys2Proof/Machine/Bits.lean ====
section
/-! DEFINITION. Bit fields of words, masks of units, lists of fixed length, and the CRCs of the spec. -/

namespace Sys2Proof.Machine

/-- Bits [lo + n - 1 : lo] of a word. -/
def bf (w : Word) (lo n : Nat) : Nat := (w.toNat >>> lo) % 2 ^ n

/-- Bit i of a word. -/
def bit (w : Word) (i : Nat) : Bool := w.getLsbD i

/-- A Bool as a bit. -/
def b2n (b : Bool) : Nat := if b then 1 else 0

/-- A two's complement reading of the low n bits of a number. -/
def sext (n v : Nat) : Int := if 2 ^ (n - 1) ≤ v % 2 ^ n then (v % 2 ^ n : Int) - 2 ^ n else (v % 2 ^ n : Int)

/-- A signed number as an n-bit field. -/
def ufield (n : Nat) (v : Int) : Nat := (v % (2 ^ n : Int)).toNat

/-- Saturating increment of a counter that stops at top. -/
def satInc (top n : Nat) : Nat := if n < top then n + 1 else top

/-- Saturating addition. -/
def satAdd (top n k : Nat) : Nat := min top (n + k)

/-- Clamp of a signed number into lo..hi. -/
def clampInt (lo hi v : Int) : Int := max lo (min hi v)

/-- Element i of a list, d beyond its end. -/
def nth {α : Type} (l : List α) (i : Nat) (d : α) : α := l.getD i d

/-- Bit i of a mask. -/
def mbit {w : Nat} (m : BitVec w) (i : Nat) : Bool := m.getLsbD i

/-- The mask with only bit i. -/
def one (w i : Nat) : BitVec w := BitVec.ofNat w (2 ^ i)

/-- A mask with bit i set to b. -/
def mset {w : Nat} (m : BitVec w) (i : Nat) (b : Bool) : BitVec w :=
  if b then m ||| one w i else m &&& ~~~ one w i

/-- The positions of the 1 bits of a mask, ascending. -/
def mlist {w : Nat} (m : BitVec w) : List Nat := (List.range w).filter (fun i => m.getLsbD i)

/-- The number of 1 bits of a mask. -/
def mcount {w : Nat} (m : BitVec w) : Nat := (mlist m).length

/-- The mask whose 1 bits are the listed positions. -/
def mof (w : Nat) (l : List Nat) : BitVec w := l.foldl (fun m i => m ||| one w i) 0

/-- ceil (a / b). -/
def cdiv (a b : Nat) : Nat := (a + b - 1) / b

/-- a / b rounded to nearest, halves up, for signed a and positive b. -/
def rdiv (a : Int) (b : Nat) : Int := (2 * a + b) / (2 * b)

/-- A rational rounded to the nearest integer, halves up. -/
def rround (q : Rat) : Int := (q + 1 / 2).floor

/-- One bit of a CRC of width w and polynomial p, most significant bit first, no reflection. -/
def crcStep (w p reg : Nat) (b : Bool) : Nat :=
  if (reg.testBit (w - 1)) != b then ((reg <<< 1) % 2 ^ w) ^^^ p else (reg <<< 1) % 2 ^ w

/-- The CRC register after the n low bits of v, the highest first. -/
def crcBits (w p : Nat) : Nat → Nat → Nat → Nat
  | 0, _, reg => reg
  | n + 1, v, reg => crcBits w p n v (crcStep w p reg (v.testBit n))

/-- The CRC register after a list of words of n bits each. -/
def crcList (w p n : Nat) (l : List Nat) (reg : Nat) : Nat :=
  l.foldl (fun r v => crcBits w p n v r) reg

/-- CRC-32 of words (R406): polynomial 0x04C11DB7, start 0xFFFFFFFF, no final inversion. -/
def crc32 (l : List Word) : Word :=
  Word.of (crcList 32 0x04C11DB7 32 (l.map BitVec.toNat) 0xFFFFFFFF)

/-- CRC-8 of n bits (R18): polynomial 0x2F, start 0xFF. -/
def crc8 (n v : Nat) : Nat := crcBits 8 0x2F n v 0xFF

/-- CRC-8 over a group of words (R400). -/
def crc8Words (l : List Word) : Nat := crcList 8 0x2F 32 (l.map BitVec.toNat) 0xFF

/-- CRC-16 of the journal chain (R521) over the previous entry and the first 22 bytes of this one. -/
def crc16Chain (prev this : List Word) : Nat :=
  let whole := crcList 16 0x1021 32 ((prev ++ this.take 5).map BitVec.toNat) 0xFFFF
  crcBits 16 0x1021 16 ((nth this 5 0).toNat >>> 16) whole

/-- CRC-16 over a bit string given as a number (R353). -/
def crc16Bits (n v : Nat) : Nat := crcBits 16 0x1021 n v 0xFFFF

/-- The words without their last. -/
def initWords (l : List Word) : List Word := l.dropLast

/-- Entry of an association list under a Nat key. -/
def akey {α : Type} (l : List (Nat × α)) (k : Nat) : Option α := (l.find? (fun e => e.1 == k)).map (fun e => e.2)

/-- An association list with its entry under k replaced. -/
def aset {α : Type} (l : List (Nat × α)) (k : Nat) (v : α) : List (Nat × α) :=
  l.filter (fun e => e.1 != k) ++ [(k, v)]

/-- An association list without its entry under k. -/
def adel {α : Type} (l : List (Nat × α)) (k : Nat) : List (Nat × α) := l.filter (fun e => e.1 != k)

/-- Eight bytes a word list holds, most significant byte of each word first. -/
def bytesOf (l : List Word) : List Nat :=
  l.flatMap (fun w => [w.toNat >>> 24, (w.toNat >>> 16) % 256, (w.toNat >>> 8) % 256, w.toNat % 256])

end Sys2Proof.Machine
end

