-- ==== Sys2Proof/Machine/State.lean ====
section
/-! DEFINITION. The state of the block as plain data, and the state after reset. -/

namespace Sys2Proof.Machine

/-- Why a run stops with a fault: never. No command of the spec stops the block; a fault of the hardware is an
event, a status or a SAFE_HOLD, all of which are state. -/
inductive Fault where
deriving DecidableEq, Repr

/-- Why a command is refused by the model. -/
inductive Refusal where
  /-- The command has no meaning yet; raised by the dispatcher alone. Safe: nothing is claimed of such a run. -/
  | notModelled (mnemonic : String)
deriving DecidableEq, Repr

/-- The gates of the gating tree (03_supply_power_clocks.md R81, table "Gating levels"). -/
inductive Gate where
  | device | front | core
  | compute | memory | link | host | time | safety
  | convert | aux | balance | protect | linkAfe
  | engine (e : Nat) | decimator (n : Nat) | sram | spiPort
  | mac (e : Nat) | fir (n : Nat)
deriving DecidableEq, Repr

/-- What the gate controller answers a request (03_supply_power_clocks.md R84, table "Gate results"). -/
inductive GateResult where
  | done | childOpen | busy | locked | absent
deriving DecidableEq, Repr

/-- One sense interval of the balance FETs as the front die took it (08_balancing.md R219). -/
structure SenseInt where
  /-- time of its end. -/
  endAt : Nat
  /-- readings in 0.1 mA, FET 1 first. -/
  readings : List Nat
  /-- groups of four FETs whose beat was dropped (01_architecture.md R25). -/
  drop : BitVec 6
  /-- FETs on throughout it. -/
  onAll : BitVec 24
  /-- FETs off throughout it. -/
  offAll : BitVec 24
deriving DecidableEq, Repr

/-- Upward content in the front die's hold buffer (01_architecture.md R25). -/
inductive Held where
  /-- A SAR conversion of a source, with the table result it completes: entry, sum, conversions, transit, time. -/
  | sar (src code : Nat) (res : Option (Nat × Nat × Nat × Bool))
  /-- The four conversions of a leat slot of a cell; verify says that they verified its divider. -/
  | leat (cell : Nat) (verify : Bool) (codes : List Nat)
  /-- A comparator edge with the period and phase of the output's change. -/
  | edge (k : Nat) (hi : Bool) (period : Nat) (phase : BitVec 32)
  /-- The ISENSE beats of an interval. -/
  | sense (i : SenseInt)
  /-- Content of a beat of the bus: its SEQ, TYPE and CONTENT. -/
  | raw (seq typ : Nat) (content : BitVec 52)
deriving DecidableEq, Repr

/-- The reset sequencer table (06_aux_path_and_leat.md R169): SRC, four conversions, 100 us, window. -/
def resetAuxTable : List (BitVec 32) :=
  [(0x2B, 0), (0x2C, 0), (0x28, 1), (0x29, 2), (0x2A, 0), (0x2D, 3), (0x2F, 4)].map
    (fun (e : Nat × Nat) => BitVec.ofNat 32 (e.1 * 2 ^ 25 + 3 * 2 ^ 21 + 100 * 2 ^ 13 + e.2 * 2 ^ 8))

/-- The reset thresholds of the 64 comparators: OV 550, UV 50, AX windows 0 to 4095 (07_comparators_and_trip.md R216). -/
def cmpResetTh : List (Nat × Nat) :=
  List.replicate 24 (550, 0) ++ List.replicate 24 (50, 0) ++ List.replicate 16 (0, 4095)

/-- The part, fixed by fuses (00_scope.md R3-R4). -/
inductive Part where
  | tl2440 | tl2424 | tl1612
deriving DecidableEq, Repr

/-- The power state; starting = steps 1 to 9 of the start-up of R70 (03_supply_power_clocks.md R58-R59). -/
inductive PState where
  | off | ship | sleep | starting | standby | activeM | activeH
deriving DecidableEq, Repr

/-- The operating point (03_supply_power_clocks.md R78). -/
inductive OpPoint where
  | opL | opM | opH
deriving DecidableEq, Repr

/-- Start causes (03_supply_power_clocks.md R69). -/
inductive Cause where
  | por | wakePin | toneA | toneB | sleepCheck | sleepTimer | softReset | hfoFail | lfoFail | xoFail | pllPUnlock | safeWire | v5Brownout | vdBrownout | tjShutdown
deriving DecidableEq, Repr

/-- How far an oscillator has been judged (03_supply_power_clocks.md R72-R73). -/
inductive OscState where
  | off | starting | started | stable | failed
deriving DecidableEq, Repr

/-- The reference of PLL_P (03_supply_power_clocks.md R71, R75). -/
inductive RefSel where
  | hfo | xo | rck
deriving DecidableEq, Repr

/-- An edge of a pin (04_phase_timebase.md R122). -/
inductive Edge1 where
  | rising | falling
deriving DecidableEq, Repr

/-- Supply, power state, operating point, wake and sleep (03_supply_power_clocks.md). -/
structure Power where
  /-- power state in force (R58). -/
  pstate : PState
  /-- operating point in force (R78). -/
  op : OpPoint
  /-- target to restore on a time-out (R79). -/
  opPrev : OpPoint
  /-- target of the transition in progress (R78). -/
  opTarget : Option OpPoint
  /-- the transition goes up (R78). -/
  opUp : Bool
  /-- state a POWER_STATE command is moving to (R60). -/
  goal : Option PState
  /-- VD target (R78). -/
  vdTargetMv : Nat
  /-- always-on rail (R55). -/
  alwaysOn : Bool
  /-- VD retention rail of the journal region (R55). -/
  vdRetention : Bool
  /-- VD within target +-3 % (R57). -/
  vdOk : Bool
  /-- V5 below 4.20 V (R57). -/
  v5Brown : Bool
  /-- VD below 90 % of its target (R57). -/
  vdBrown : Bool
  /-- V5 power-good (R55). -/
  v5Good : Bool
  /-- VA, VREFC and VTREF on (R55). -/
  vaOn : Bool
  /-- last completed start-up step (R70). -/
  stepNo : Nat
  /-- start cause, always-on register (R69). -/
  cause : Cause
  /-- SAFE_HOLD in force (R87). -/
  safeHold : Bool
  /-- safe state in force (R86). -/
  safeForced : Bool
  /-- core die held in reset (R87). -/
  coreReset : Bool
  /-- SAFEF pair requests the safe state (R26). -/
  safeWireF : Bool
  /-- SAFEC pair requests the safe state (R26). -/
  safeWireC : Bool
  /-- VSTK below 9.0 V (R57). -/
  vstkLow : Bool
  /-- VSTK above 142 V (R57). -/
  vstkHigh : Bool
  /-- a die above 125 C (R57). -/
  tjWarn : Bool
  /-- thermal shutdown not yet below 135 C (R57). -/
  tjShut : Bool
  /-- device drives WAKE high (R65). -/
  wakeOut : Bool
  /-- ports sending a wake tone (R67). -/
  toneTx : List Port
  /-- tones are ignored until 10 ms after one was sent (R68). -/
  toneUntil : Nat
  /-- port to relay the wake tone on at V5 good (R68). -/
  toneRelay : Option Port
  /-- a sleep-check violation is being handled (R65). -/
  sleepViol : Bool
  /-- sleep cell mask (R62). -/
  sleepMask : BitVec 24
  /-- retention image: items (R62). -/
  retained : List (Nat × Int)
  /-- retention image: GPIO claims that survive (R62). -/
  retainedGpio : List Nat
  /-- accepted SLEEP or SHIP not yet entered (R436). -/
  leaving : Option PState
  /-- MODE samples of this start (R36). -/
  modeSamples : List Bool
  /-- latched role, true = head (R36). -/
  role : Bool
  /-- active commands ramp to 0 before leaving ACTIVE (R244). -/
  ramping : Bool
  /-- third SAFE_STATE restart in 10 s: WAKE or VSTK fall needed (R488). -/
  tripThird : Bool
  /-- that condition has happened (R488). -/
  wakeSeen : Bool
deriving DecidableEq, Repr

/-- The values of Power at reset: the spec's, and those of the log entries INVENTORY.md names. -/
def Power.reset : Power where
  pstate := .starting
  op := .opL
  opPrev := .opL
  opTarget := none
  opUp := false
  goal := none
  vdTargetMv := 800
  alwaysOn := true
  vdRetention := false
  vdOk := true
  v5Brown := false
  vdBrown := false
  v5Good := true
  vaOn := true
  stepNo := 7
  cause := .por
  safeHold := false
  safeForced := false
  coreReset := false
  safeWireF := false
  safeWireC := false
  vstkLow := false
  vstkHigh := false
  tjWarn := false
  tjShut := false
  wakeOut := false
  toneTx := []
  toneUntil := 0
  toneRelay := none
  sleepViol := false
  sleepMask := 0
  retained := []
  retainedGpio := []
  leaving := none
  modeSamples := [true, true, true]
  role := true
  ramping := false
  tripThird := false
  wakeSeen := false

/-- Oscillators, PLLs, monitors and the gating tree (03_supply_power_clocks.md). -/
structure Clocks where
  /-- HFO (R72). -/
  hfo : OscState
  /-- LFO (R72). -/
  lfo : OscState
  /-- crystal oscillator (R44). -/
  xo : OscState
  /-- failed HFO-LFO comparisons of this start (R73). -/
  pairTries : Nat
  /-- failed XO comparisons (R73). -/
  xoTries : Nat
  /-- comparison to be repeated 10 ms later (R73). -/
  retryDue : Option Osc
  /-- PLL_P locked (R70). -/
  pllP : Bool
  /-- PLL_P reference in use (R75). -/
  pllRef : RefSel
  /-- CK_CORE runs on the boot clock HFO / 4 (R70). -/
  boot : Bool
  /-- closed gates of present units (a gate of an absent unit is always closed, R83) (R81). -/
  closedGates : List Gate
  /-- requests the gate controller has still to serve, in arrival order: open or close, and the gate (R84). -/
  gateReqs : List (Bool × Gate)
  /-- closed gates before that entry (R85). -/
  savedGates : List Gate
  /-- close waiting for the bus-idle handshake (R82). -/
  waitGate : Option Gate
  /-- GATE_BUSY results of the waiting close (R85). -/
  gateTries : Nat
deriving DecidableEq, Repr

/-- The values of Clocks at reset: the spec's, and those of the log entries INVENTORY.md names. -/
def Clocks.reset : Clocks where
  hfo := .stable
  lfo := .stable
  xo := .off
  pairTries := 0
  xoTries := 0
  retryDue := none
  pllP := false
  pllRef := .hfo
  boot := true
  closedGates := []
  gateReqs := []
  savedGates := []
  waitGate := none
  gateTries := 0

/-- Pins the device drives or reads (02_pins_and_package.md). -/
structure Pins where
  /-- SB FETs conducting (R38). -/
  sb : BitVec 24
  /-- AD_Gn driver running (R38). -/
  adG : BitVec 4
  /-- high time of AD_G1 to AD_G4 in HFO cycles of a period of 2400; 0 is held low (R238). -/
  adGHigh : List Nat
  /-- ALERTN driven low (R403). -/
  alertLow : Bool
  /-- SYNC_OUT level (R38). -/
  syncOut : Bool
  /-- function code holding GPIO1-4 (R46, R47). -/
  gpioOwner : List Nat
  /-- level of GPIO1-4 (input level, or the level driven) (R46). -/
  gpioLevel : BitVec 4
  /-- GPIO1-4 high impedance: the device does not drive the pin (R38). -/
  gpioHiZ : BitVec 4
  /-- SYNC_OUT high impedance (R38). -/
  syncHiZ : Bool
  /-- SDO high impedance (R37, R38). -/
  sdoHiZ : Bool
  /-- LA and LB high impedance (R38). -/
  linkHiZ : Bool
  /-- OUT_LEVEL of GPIO_CFG_1-4 (R446). -/
  gpioOut : BitVec 4
  /-- driver of port A idle (R38, R86). -/
  linkIdleA : Bool
  /-- driver of port B idle (R38, R86). -/
  linkIdleB : Bool
  /-- FAULTN reads high while the device drives it low (R492, R493). -/
  faultnReadHigh : Bool
deriving DecidableEq, Repr

/-- The values of Pins at reset: the spec's, and those of the log entries INVENTORY.md names. -/
def Pins.reset : Pins where
  sb := 0
  adG := 0
  adGHigh := [0, 0, 0, 0]
  alertLow := false
  syncOut := false
  gpioOwner := [0, 0, 0, 0]
  gpioLevel := 0
  gpioHiZ := 0xF
  syncHiZ := false
  sdoHiZ := true
  linkHiZ := false
  gpioOut := 0
  linkIdleA := true
  linkIdleB := true
  faultnReadHigh := false

/-- Timebase state (04_phase_timebase.md R93). -/
inductive TbState where
  | free | acquire | locked | flywheel
deriving DecidableEq, Repr

/-- One transit slot of the ephemeris as it is held (R111) (04_phase_timebase.md). -/
structure Slot where
  /-- plan that holds the slot (R448). -/
  plan : Nat
  /-- PHASE after the rounding of R115 (R111). -/
  phase : BitVec 32
  /-- PHASE as loaded, rounded again whenever N changes (R115). -/
  asked : BitVec 32
  /-- DIV (R111). -/
  div : Nat
  /-- OFFSET (R111). -/
  offset : Nat
  /-- EN (R111). -/
  en : Bool
  /-- ACTION code (R112). -/
  action : Nat
  /-- MARK2 MARK1 (R118). -/
  mark : Nat
  /-- ARG (R112). -/
  arg : BitVec 25
deriving DecidableEq, Repr

/-- The values of Slot at reset: the spec's, and those of the log entries INVENTORY.md names. -/
def Slot.reset : Slot where
  plan := 0
  phase := 0
  asked := 0
  div := 1
  offset := 0
  en := false
  action := 0
  mark := 0
  arg := 0

/-- A transit plan waiting for its START meridian (04_phase_timebase.md). -/
structure PlanLoad where
  /-- plan number (R448). -/
  plan : Nat
  /-- START (R117). -/
  start : Nat
  /-- slot number and contents (R117). -/
  slots : List (Nat × Slot)
deriving DecidableEq, Repr

/-- The values of PlanLoad at reset: the spec's, and those of the log entries INVENTORY.md names. -/
def PlanLoad.reset : PlanLoad where
  plan := 0
  start := 0
  slots := []

/-- Phase accumulator, states and loop (04_phase_timebase.md). -/
structure Timebase where
  /-- accumulator, 32.16 (R91, R93). -/
  acc : Nat
  /-- increment, 32.16 (R91, R93). -/
  inc : Nat
  /-- phase correction still to be slewed, 32.16 (R92). -/
  corr : Int
  /-- PERIOD_CNT (R91). -/
  period : Nat
  /-- timebase state (R93). -/
  state : TbState
  /-- HEAD_STATE of the last timing block (R121). -/
  headState : Nat
  /-- PLL_M locked (R121). -/
  pllmLock : Bool
  /-- TB_STAT.PHASE_LOST (R95). -/
  phaseLost : Bool
  /-- meridians are being counted (R95). -/
  flyCounting : Bool
  /-- meridians since FLYWHEEL (R95). -/
  flyCount : Nat
  /-- timing blocks arrive on port B (R121). -/
  tsPortB : Bool
  /-- REF_REJECT (R121). -/
  refReject : Nat
  /-- LATE_CNT (R121). -/
  lateCnt : Nat
  /-- TB_PW_FREQ (R121). -/
  pwFreq : BitVec 32
  /-- N in force (R110). -/
  mult : Nat
  /-- N that takes effect at the next meridian (R110). -/
  multNext : Option Nat
  /-- TB_FREE_FREQ written in FREE: INC changes at the next meridian (R104). -/
  freqNext : Bool
  /-- time of the reference edge intervals are measured from (R99). -/
  refAt : Option Nat
  /-- time of the last accepted edge (R98). -/
  lastAcc : Option Nat
  /-- accepted reference events of this acquisition (R98). -/
  accN : Nat
  /-- consecutive rejections (R99). -/
  rejRun : Nat
  /-- period from which every accepted event met the criteria (R100). -/
  goodFrom : Option Nat
  /-- PERIOD_CNT at entry to ACQUIRE (R103). -/
  acqAt : Nat
  /-- periods of the words accepted in the last 64 (R103). -/
  wordsAt : List Nat
  /-- meridians until the period is renumbered (R101). -/
  renumAt : Option Nat
  /-- SYNC_DIV of that LOCKED declaration (R101). -/
  renumMod : Nat
  /-- the first phase error of the acquisition is still being slewed out (R98, R571). -/
  slewing : Bool
  /-- member: PERIOD_CNT to take at the next meridian (R101). -/
  stepTo : Option Nat
  /-- member: first timing block loaded (R106). -/
  loaded : Bool
  /-- consecutive timing blocks within tolerance (R107). -/
  goodBlocks : Nat
  /-- SYNC_OUT pulse running (R119). -/
  syncPulse : Bool
  /-- TRANSIT_OUT pulses running on GPIO1, GPIO2 (R118). -/
  markPulse : BitVec 2
  /-- the ephemeris (R111). -/
  slots : List (Option Slot)
  /-- CONVERT lead point and dark lead point of each slot, as computed at the last meridian (R114). -/
  leads : List (Option (Int × Int))
  /-- CONVERT slots of a replaced plan whose dark lead point acted before the switch and whose CONVERT lead point is to come: slot number and slot (R570). -/
  owed : List (Nat × Slot)
  /-- plans waiting for their START meridian (R117). -/
  loads : List PlanLoad
  /-- SWITCH of plans 0-3 (R448). -/
  switchAt : List Nat
  /-- open dark windows: CONVERT slot, whether its lead point has acted, the slot's mask (R235, R570). -/
  darkNow : List (Nat × Bool × BitVec 25)
deriving DecidableEq, Repr

/-- The values of Timebase at reset: the spec's, and those of the log entries INVENTORY.md names. -/
def Timebase.reset : Timebase where
  acc := 0
  inc := 0x0001B4E81B4F
  corr := 0
  period := 0
  state := .free
  headState := 0
  pllmLock := false
  phaseLost := false
  flyCounting := false
  flyCount := 0
  tsPortB := false
  refReject := 0
  lateCnt := 0
  pwFreq := 0
  mult := 800
  multNext := none
  freqNext := false
  refAt := none
  lastAcc := none
  accN := 0
  rejRun := 0
  goodFrom := none
  acqAt := 0
  wordsAt := []
  renumAt := none
  renumMod := 1
  slewing := false
  stepTo := none
  loaded := false
  goodBlocks := 0
  syncPulse := false
  markPulse := 0
  slots := List.replicate 16 none
  leads := List.replicate 16 none
  owed := []
  loads := []
  switchAt := [0, 0, 0, 0]
  darkNow := []

/-- The settings that form a sample (R136, R143) (05_cell_conversion.md). -/
structure Cal where
  /-- SH_RANGE (R136, R160). -/
  range : Nat
  /-- CONV_TCOMP (R136, R160). -/
  tcomp : Nat
  /-- CAL_GAIN of cells 1 to 24 and the shunt (R136, R160). -/
  gain : List Int
  /-- CAL_OFS of cells 1 to 24 and the shunt (R136, R160). -/
  ofs : List Int
deriving DecidableEq, Repr

/-- The values of Cal at reset: the spec's, and those of the log entries INVENTORY.md names. -/
def Cal.reset : Cal where
  range := 0
  tcomp := 1
  gain := List.replicate 25 0
  ofs := List.replicate 25 0

/-- A CONVERT whose lead point has acted and whose transit is to come (R114) (05_cell_conversion.md). -/
structure Lead where
  /-- CONVERT slot (R133). -/
  slot : Nat
  /-- place in the modulator stream of the aperture's first bit (R125, R127). -/
  modAt : Nat
  /-- its phase under the plan that acted (R115). -/
  phase : BitVec 32
  /-- its MARK bits (R118). -/
  mark : Nat
  /-- channels whose aperture started (R114). -/
  started : BitVec 25
  /-- channels that were busy (R132). -/
  busy : BitVec 25
  /-- served by an enabled DARK slot (R127). -/
  quiet : Bool
  /-- N in force, 0 while PLL_M is unlocked (R114). -/
  mult : Nat
  /-- INC (R114). -/
  inc : Nat
  /-- CONV_DEC in force (R136). -/
  dec : Nat
  /-- CONV_FIR in force (R127). -/
  fir : Bool
  /-- sample settings in force (R136). -/
  cal : Cal
deriving DecidableEq, Repr

/-- The values of Lead at reset: the spec's, and those of the log entries INVENTORY.md names. -/
def Lead.reset : Lead where
  slot := 0
  modAt := 0
  phase := 0
  mark := 0
  started := 0
  busy := 0
  quiet := false
  mult := 0
  inc := 0
  dec := 2
  fir := false
  cal := Cal.reset

/-- One transit record, in flight or in history (05_cell_conversion.md). -/
structure Rec where
  /-- TSEQ (R135). -/
  tseq : Nat
  /-- PERIOD of the transit log (R150). -/
  period : Nat
  /-- phase of the transit (R150). -/
  phase : BitVec 32
  /-- lowest CONVERT slot (R150). -/
  slot : Nat
  /-- CONVERT slots merged in it that a DARK slot serves (R133, R235). -/
  slots : List Nat
  /-- CONTINUOUS frame (R150). -/
  cont : Bool
  /-- channels with quiet weighting (R127). -/
  quiet : BitVec 25
  /-- channels converted normally (R131). -/
  named : BitVec 25
  /-- channels skipped as busy (R116). -/
  late : BitVec 25
  /-- a condition of R94 held at the transit (R94). -/
  fly : Bool
  /-- CONV_FIR in force for the record (R127). -/
  fir : Bool
  /-- place in the modulator stream of its aperture's first bit (R125, R127). -/
  modAt : Option Nat
  /-- its aperture has ended (R127). -/
  apEnd : Bool
  /-- channels whose settling count was spent on it before modulator data was lost (R24). -/
  spent : BitVec 25
  /-- channels forced to SETTLING by a change during the aperture (R24, R136). -/
  settle : BitVec 25
  /-- last modulator bit arrived (R134). -/
  complete : Bool
  /-- written into history (R134). -/
  written : Bool
  /-- sample words of cells 1-24 and the shunt (R144). -/
  words : List (BitVec 32)
  /-- cell values before the IR correction, in uV (R179). -/
  uncorr : List Int
  /-- entries of the balance current log, 0x8000 for none; empty where the log no longer holds them (R248). -/
  blog : List (BitVec 16)
  /-- the shunt was enabled for it (R256). -/
  shuntOn : Bool
  /-- FETs that conducted in its support, known when it is written (R234, R269). -/
  conduct : BitVec 24
  /-- cells whose last leat comparison before the transit failed (R145). -/
  warn : BitVec 24
  /-- time of the transit, from which the support is reckoned (R233). -/
  firedAt : Nat
  /-- N in force for its aperture, 0 while PLL_M is unlocked (R127). -/
  mult : Nat
  /-- INC at its lead point (R127). -/
  inc : Nat
  /-- CONV_DEC in force for its aperture (R136). -/
  dec : Nat
  /-- sample settings in force for its aperture (R136). -/
  cal : Cal
  /-- restarts from SAFE_HOLD before it: its TSEQ counts from the last of them (R156). -/
  epoch : Nat
deriving DecidableEq, Repr

/-- The values of Rec at reset: the spec's, and those of the log entries INVENTORY.md names. -/
def Rec.reset : Rec where
  tseq := 0
  period := 0
  phase := 0
  slot := 0
  slots := []
  cont := false
  quiet := 0
  named := 0
  late := 0
  fly := false
  fir := false
  modAt := none
  apEnd := false
  spent := 0
  settle := 0
  complete := false
  written := false
  words := []
  uncorr := []
  blog := []
  shuntOn := false
  conduct := 0
  warn := 0
  firedAt := 0
  mult := 0
  inc := 0
  dec := 2
  cal := Cal.reset
  epoch := 0

/-- One flight-recorder capture (05_cell_conversion.md). -/
structure Capture where
  /-- 0 IDLE 1 ARMED 2 TRIGGERED 3 FROZEN (R152). -/
  state : Nat
  /-- PRE (R152). -/
  pre : Nat
  /-- POST (R152). -/
  post : Nat
  /-- TRIG code (R452). -/
  trig : Nat
  /-- EDGE (R452). -/
  edge : Bool
  /-- EVENT (R452). -/
  event : Nat
  /-- TSEQ of the trigger record (R153). -/
  trigTseq : Nat
  /-- FIRST_TSEQ of the span (R153). -/
  first : Nat
  /-- LAST_TSEQ of the span (R153). -/
  last : Nat
  /-- PRE_VALID (R153). -/
  preValid : Nat
  /-- TRUNCATED (R156). -/
  truncated : Bool
  /-- restart from SAFE_HOLD whose TSEQ its span counts in (R156). -/
  epoch : Nat
  /-- order of arming, to name the capture armed earliest (R453). -/
  order : Nat
deriving DecidableEq, Repr

/-- The values of Capture at reset: the spec's, and those of the log entries INVENTORY.md names. -/
def Capture.reset : Capture where
  state := 0
  pre := 0
  post := 0
  trig := 0
  edge := false
  event := 0
  trigTseq := 0
  first := 0
  last := 0
  preValid := 0
  truncated := false
  epoch := 0
  order := 0

/-- Conversion, decimators, sample assembler, history and captures (05_cell_conversion.md). -/
structure Conv where
  /-- next TSEQ (R135). -/
  tseq : Nat
  /-- settling counts, cells 1-24 then the shunt (R147). -/
  settle : List Nat
  /-- aperture in progress of each channel (1) or none (0) (R132). -/
  busy : List Nat
  /-- previous sample word of each channel (R146). -/
  prev : List (BitVec 32)
  /-- CONV_ENABLE in force (R136, R160). -/
  enable : BitVec 25
  /-- CONV_MODE in force (R136, R160). -/
  mode : Nat
  /-- CONV_DEC in force (R136, R160). -/
  dec : Nat
  /-- CONV_FIR in force (R136, R160). -/
  fir : Nat
  /-- APL_PERIODS in force (R136, R160). -/
  apl : Nat
  /-- sample settings in force (R136, R160). -/
  cal : Cal
  /-- a change of conversion items waits to take effect (R136). -/
  waiting : Bool
  /-- that change alters N and waits for the meridian (R136). -/
  atMeridian : Bool
  /-- CONV_STAT.APL_RANGE (R138, R160). -/
  aplRange : Bool
  /-- decimator buffer: modulator bits of the CK_MOD cycles received, newest first (R125, R128). -/
  mods : List (BitVec 25)
  /-- CK_MOD cycles received since reset (R125). -/
  modCount : Nat
  /-- CONTINUOUS: place in the modulator stream of the frame's first bit (R129). -/
  frameMod : Nat
  /-- CONTINUOUS: time of the centre of the frame in progress (R129). -/
  centreAt : Nat
  /-- CONTINUOUS: once the centre has passed, whether a condition of R94 held there and the cells whose last leat comparison had failed (R129, R145). -/
  centred : Option (Bool × BitVec 24)
  /-- CONTINUOUS: the frame grid is anchored (R129). -/
  anchored : Bool
  /-- CONTINUOUS: period and phase of the centre of the frame in progress (R129). -/
  frameAt : Option (Nat × BitVec 32)
  /-- CONTINUOUS: period times 2^32 plus phase at which frames of the present length began (R129). -/
  anchorAt : Nat
  /-- CONTINUOUS: frames that ended since then (R129). -/
  frameNo : Nat
  /-- lead points that acted and whose transits are to come (R114, R116). -/
  apStart : List Lead
  /-- records fired and not yet visible, in TSEQ order (R135). -/
  flight : List Rec
  /-- visible records, oldest first (R149, R151). -/
  live : List Rec
  /-- restarts from SAFE_HOLD so far (R156). -/
  epoch : Nat
  /-- a record has become visible since ACTIVE was entered (R450). -/
  visSince : Bool
  /-- cells disabled for a diagnosis interval (R176). -/
  disabledDiag : BitVec 24
  /-- TSEQ sent in the previous sweep (R159). -/
  lastSwept : Option Nat
  /-- captures 0-3 (R152). -/
  caps : List Capture
  /-- captures armed so far (R453). -/
  armCount : Nat
  /-- front-die temperature last converted: VALUE of its result, 12.4 code (R143, R169). -/
  tempFront : Nat
deriving DecidableEq, Repr

/-- The values of Conv at reset: the spec's, and those of the log entries INVENTORY.md names. -/
def Conv.reset : Conv where
  tseq := 0
  settle := List.replicate 25 0
  busy := List.replicate 25 0
  prev := List.replicate 25 0x80000000
  enable := 0x1FFFFFF
  mode := 0
  dec := 2
  fir := 0
  apl := 0
  cal := Cal.reset
  waiting := false
  atMeridian := false
  aplRange := false
  mods := []
  modCount := 0
  frameMod := 0
  centreAt := 0
  centred := none
  anchored := false
  frameAt := none
  anchorAt := 0
  frameNo := 0
  apStart := []
  flight := []
  live := []
  epoch := 0
  visSince := false
  disabledDiag := 0
  lastSwept := none
  caps := List.replicate 4 Capture.reset
  armCount := 0
  tempFront := 38163

/-- Last-value record of one sequencer entry (R173, R455) (06_aux_path_and_leat.md). -/
structure AuxEntry where
  /-- filed result in AUX_RESULT form (R455). -/
  result : BitVec 32
  /-- PERIOD_CNT when it was filed (R455). -/
  period : Nat
deriving DecidableEq, Repr

/-- The values of AuxEntry at reset: the spec's, and those of the log entries INVENTORY.md names. -/
def AuxEntry.reset : AuxEntry where
  result := 0
  period := 0

/-- Work the SAR is doing (06_aux_path_and_leat.md R166). -/
inductive SarUser where
  | idle | loop | transit | leat | diag
deriving DecidableEq, Repr

/-- User of the test DAC (06_aux_path_and_leat.md R174). -/
inductive DacUser where
  | unused | leat | diag | selftest
deriving DecidableEq, Repr

/-- SAR, sequencer, AUX_RESULT, leat cross-check, input diagnosis (06_aux_path_and_leat.md). -/
structure Aux where
  /-- sequencer table (R164, R169). -/
  table : List (BitVec 32)
  /-- table that takes effect after the conversions in progress (R168). -/
  nextTable : Option (List (BitVec 32))
  /-- loop entry in progress (R165). -/
  pos : Nat
  /-- sum of the codes of the loop entry (R165). -/
  sum : Nat
  /-- conversions of the loop entry done (R165). -/
  count : Nat
  /-- DELAY of the loop entry runs (R165). -/
  delaying : Bool
  /-- conversion in progress (R162). -/
  user : SarUser
  /-- AUX transit entry being converted (R167). -/
  txEntry : Option Nat
  /-- its sum (R167). -/
  txSum : Nat
  /-- its conversions done (R167). -/
  txCount : Nat
  /-- AUX transit entries that start when the earlier ones end, in order (R166, R167). -/
  txNext : List Nat
  /-- time at which the conversion in progress began (R162). -/
  convAt : Nat
  /-- entries whose next result carries LATE (R116, R171). -/
  lateEntries : List Nat
  /-- AUX_RESULT (R171). -/
  result : BitVec 32
  /-- last-value table (R173). -/
  last : List (Nat × AuxEntry)
  /-- OVR_CNT (R185). -/
  ovrCnt : Nat
  /-- LEAT_SLIP (R185). -/
  leatSlip : Nat
  /-- test DAC code (R174). -/
  dacCode : Nat
  /-- user of the test DAC (R174). -/
  dacUser : DacUser
  /-- the DAC has settled since its last change (R174). -/
  dacSettled : Bool
  /-- a leat slot is pending (R178). -/
  slotPending : Bool
  /-- class of the next slot (R178). -/
  slotPriority : Bool
  /-- cell of the slot in progress (none: no work) (R178). -/
  slotOf : Option Nat
  /-- the slot in progress verifies a divider (R181). -/
  slotVerify : Bool
  /-- next cell of the round-robin (R178). -/
  rrNext : Nat
  /-- next cell of the priority round-robin (R178). -/
  prNext : Nat
  /-- cells whose comparisons pause for a verification, with V_P in uV, in order (R180, R181). -/
  toVerify : List (Nat × Rat)
  /-- cell whose leat is to be verified (R181). -/
  verify : Option Nat
  /-- V_P of that cell (R181). -/
  verifyVp : Rat
  /-- divider switched to the DAC (R181). -/
  verifyOn : Bool
  /-- cells in confirmation (R180). -/
  confirm : BitVec 24
  /-- last comparison of the cell failed (CHECK_WARN) (R145, R180). -/
  warn : BitVec 24
  /-- LEAT_EXCLUDED (R181, R185). -/
  excluded : BitVec 24
  /-- latest leat reading, sum of four codes (R183). -/
  leatLast : List Nat
  /-- sum and number of leat readings since the previous sample (R183). -/
  leatSince : List (Nat × Nat)
  /-- TEMP_CORE last converted (R162). -/
  tempCore : Nat
  /-- latest VSTK result, 12.4 code (R289). -/
  vstkCode : Nat
  /-- an input diagnosis run is in progress (R177). -/
  running : Bool
  /-- AX inputs that a table entry named when the run started (R177). -/
  axAtStart : BitVec 16
  /-- target of the run: 0-24 OPEN_C, 25-48 OPEN_SB, 49-72 PATH, 73-88 AX_PATH (R175, R177). -/
  target : Nat
  /-- test DAC codes of the target's check that have settled (R175). -/
  diagStep : Nat
  /-- the 100 kOhm resistor of the check is bypassed (R175). -/
  bypass : Bool
  /-- 1 s has passed without a gap for the pending check (R176). -/
  noGap : Bool
  /-- the pull or check of the target is in progress (R175). -/
  pulling : Bool
  /-- OW_RECOVER_US of the target runs (R176). -/
  recovering : Bool
  /-- a check waits for a gap (R176). -/
  gapWait : Bool
  /-- WIRE_OPEN_C (R185). -/
  openC : BitVec 25
  /-- WIRE_OPEN_SB (R185). -/
  openSb : BitVec 24
  /-- PATH_FAIL (R185). -/
  pathFail : BitVec 24
  /-- AX_PATH_FAIL (R185). -/
  axPathFail : BitVec 16
deriving DecidableEq, Repr

/-- The values of Aux at reset: the spec's, and those of the log entries INVENTORY.md names. -/
def Aux.reset : Aux where
  table := resetAuxTable
  nextTable := none
  pos := 0
  sum := 0
  count := 0
  delaying := false
  user := .idle
  txEntry := none
  txSum := 0
  txCount := 0
  txNext := []
  convAt := 0
  lateEntries := []
  result := 0
  last := []
  ovrCnt := 0
  leatSlip := 0
  dacCode := 0
  dacUser := .unused
  dacSettled := false
  slotPending := false
  slotPriority := false
  slotOf := none
  slotVerify := false
  rrNext := 1
  prNext := 1
  toVerify := []
  verify := none
  verifyVp := 0
  verifyOn := false
  confirm := 0
  warn := 0
  excluded := 0
  leatLast := List.replicate 24 0
  leatSince := List.replicate 24 (0, 0)
  tempCore := 38163
  vstkCode := 0
  running := false
  axAtStart := 0
  target := 0
  diagStep := 0
  bypass := false
  noGap := false
  pulling := false
  recovering := false
  gapWait := false
  openC := 0
  openSb := 0
  pathFail := 0
  axPathFail := 0

/-- The 64 window comparators and their front-die settings (07_comparators_and_trip.md). -/
structure Cmp where
  /-- raw output of comparator k (R189). -/
  raw : BitVec 64
  /-- effective level of comparator k (R191, R215). -/
  level : BitVec 64
  /-- armed (R188). -/
  armed : BitVec 64
  /-- CMP_UNDECIDED (R198, R215). -/
  undecided : BitVec 24
  /-- INIT_IN_BAND of comparators 0-47 (R199, R215). -/
  inband : BitVec 48
  /-- rise flags (CMP_OV_RISE, CMP_UV_RISE, AX_LEAVE) (R194, R215). -/
  rise : BitVec 64
  /-- fall flags (CMP_OV_FALL, CMP_UV_FALL, AX_RETURN) (R194, R215). -/
  fall : BitVec 64
  /-- AX_ABOVE (R215). -/
  axAbove : BitVec 16
  /-- AX_BELOW (R215). -/
  axBelow : BitVec 16
  /-- thresholds in force at the front die: OV, UV in 10 mV; AX LOW, HIGH (R192, R216). -/
  th : List (Nat × Nat)
  /-- hysteresis codes in force: OV, UV, AX (R192, R216). -/
  hys : List Nat
  /-- deglitch codes in force: OV, UV, AX (R192, R216). -/
  dgl : List Nat
  /-- period and phase at which the output of comparator k last changed (R195). -/
  rawAt : List (Nat × Nat × Nat)
  /-- comparator and direction (2k + dir) with the time of its last edge record (R196). -/
  recAt : List (Nat × Nat)
  /-- comparator under swap or tie check (R203). -/
  check : Option Nat
  /-- step of its check: 0 swap, then the tie levels: 1 and 2, for an AX window 1 to 4 (R501). -/
  checkStep : Nat
  /-- a reading of the check in progress failed (R201, R202). -/
  checkBad : Bool
deriving DecidableEq, Repr

/-- The values of Cmp at reset: the spec's, and those of the log entries INVENTORY.md names. -/
def Cmp.reset : Cmp where
  raw := 0
  level := 0
  armed := 0
  undecided := 0
  inband := 0
  rise := 0
  fall := 0
  axAbove := 0
  axBelow := 0
  th := cmpResetTh
  hys := [2, 2, 1]
  dgl := [4, 4, 16]
  rawAt := []
  recAt := []
  check := none
  checkStep := 0
  checkBad := false

/-- TRIPN, trip inserter and TRIP_STAT (07_comparators_and_trip.md). -/
structure Trip where
  /-- TRIPN asserted (LOCAL_TRIP) (R204, R215). -/
  tripn : Bool
  /-- LOCAL_LATCH (R215). -/
  localLatch : Bool
  /-- RX_LATCH (R215). -/
  rxLatch : Bool
  /-- HEAD_ECHO of a member (R215). -/
  headEcho : Bool
  /-- PENDING (R215). -/
  pending : Bool
  /-- TS_VALID (R215). -/
  tsValid : Bool
  /-- RX_PORT (R215). -/
  rxPort : BitVec 2
  /-- time of the TRIP that set RX_PORT (R215). -/
  rxAt : Nat
  /-- INSERT_CNT (R215). -/
  insertCnt : Nat
  /-- ports that the last own TRIP was driven onto (R205, R206). -/
  outPorts : BitVec 2
  /-- ports that the TRIP in progress is forwarded onto (R205, R208). -/
  fwdPorts : BitVec 2
  /-- TRIP_TS_PHASE (R215). -/
  tsPhase : BitVec 32
  /-- TRIP_TS_PERIOD (R215). -/
  tsPeriod : Nat
  /-- a TRIP waits for its port to be idle (R207). -/
  deferred : Bool
  /-- a received TRIP is being forwarded (R208). -/
  forwarding : Bool
  /-- time the forwarding began (R208). -/
  fwdAt : Nat
  /-- trip field of the last header received (R210). -/
  headField : BitVec 2
  /-- classes whose rise drives WAKE now (R197). -/
  wakeClass : BitVec 3
deriving DecidableEq, Repr

/-- The values of Trip at reset: the spec's, and those of the log entries INVENTORY.md names. -/
def Trip.reset : Trip where
  tripn := false
  localLatch := false
  rxLatch := false
  headEcho := false
  pending := false
  tsValid := false
  rxPort := 0
  rxAt := 0
  insertCnt := 0
  outPorts := 0
  fwdPorts := 0
  tsPhase := 0
  tsPeriod := 0
  deferred := false
  forwarding := false
  fwdAt := 0
  headField := 0
  wakeClass := 0

/-- A cell's balancing plan (R229) (08_balancing.md). -/
structure Plan where
  /-- V_STOP (R229). -/
  vStop : Nat
  /-- Q_T (R229). -/
  qT : Nat
  /-- LIMIT_S (R229). -/
  limit : Nat
  /-- consecutive qualifying samples (R229). -/
  run : Nat
deriving DecidableEq, Repr

/-- The values of Plan at reset: the spec's, and those of the log entries INVENTORY.md names. -/
def Plan.reset : Plan where
  vStop := 0
  qT := 0
  limit := 0
  run := 0

/-- Passive balancing (08_balancing.md). -/
structure Bal where
  /-- duty set for each cell (R221, R444). -/
  duty : List Nat
  /-- effective duty of the balance period in progress (R223, R226). -/
  dutyNow : List Nat
  /-- sense intervals kept for the supports of records to come: time of the end, readings, FETs that conducted, newest first (R219, R233). -/
  sensed : List (Nat × List Nat × BitVec 24)
  /-- owner of each FET: 0 none, 0x38 BAL_SET or BAL_PLAN, 0x40 EIS_PLAN (R228, R245). -/
  owner : List Nat
  /-- running plans (R229). -/
  plans : List (Option Plan)
  /-- E_n, 0.1 mA (R220). -/
  est : List (Option Nat)
  /-- last delivered sense reading, 0.1 mA (R219). -/
  sense : List Nat
  /-- FET on throughout the sense interval so far (R220). -/
  onAll : BitVec 24
  /-- FET off throughout the sense interval so far (R237). -/
  offAll : BitVec 24
  /-- consecutive open intervals (R237). -/
  openRun : List Nat
  /-- consecutive short intervals (R237). -/
  shortRun : List Nat
  /-- BAL_FAULT_OPEN (R250). -/
  faultOpen : BitVec 24
  /-- BAL_FAULT_SHORT (R250). -/
  faultShort : BitVec 24
  /-- BAL_FAULT_OC (R250). -/
  faultOc : BitVec 24
  /-- BAL_DONE (R250). -/
  done : BitVec 24
  /-- BAL_HELD (R250). -/
  held : BitVec 24
  /-- BAL_Q_Cn, in units of 0.1 mA times one sense interval (R250). -/
  q : List Nat
  /-- a plan of the cell has started, so BAL_Q accumulates (R229). -/
  qOn : BitVec 24
  /-- BAL_CAP_STEPS (R250). -/
  capSteps : Nat
  /-- BP, balance periods since reset (R225). -/
  bp : Nat
  /-- step in progress (R221). -/
  step : Nat
  /-- timing in force is PHASE (R221). -/
  phaseTiming : Bool
  /-- FETs held by the cap in the step in progress (R225). -/
  capHeld : BitVec 24
  /-- PHASE timing waits to be anchored at a meridian (R221). -/
  anchorDue : Bool
  /-- BAL_START in force (R223). -/
  startNow : Nat
  /-- BAL_STAGGER in force (R223). -/
  staggerNow : Nat
  /-- PL_FALLBACK (R251). -/
  fallback : Bool
  /-- TEMP_STALE (R251). -/
  tempStale : Bool
  /-- EXC_HELD (R251). -/
  excHeld : Bool
  /-- DERATE (R251). -/
  derate : Nat
  /-- TIMEOUT (R251). -/
  timeout : Bool
  /-- BAL_TIMEOUT timer running (R231). -/
  timerOn : Bool
  /-- FETs held by dark windows (R235). -/
  dark : BitVec 24
  /-- excitation schedule puts the FET on (R247). -/
  exciteOn : BitVec 24
deriving DecidableEq, Repr

/-- The values of Bal at reset: the spec's, and those of the log entries INVENTORY.md names. -/
def Bal.reset : Bal where
  duty := List.replicate 24 0
  dutyNow := List.replicate 24 0
  sensed := []
  owner := List.replicate 24 0
  plans := List.replicate 24 none
  est := List.replicate 24 none
  sense := List.replicate 24 0
  onAll := 0
  offAll := 0xFFFFFF
  openRun := List.replicate 24 0
  shortRun := List.replicate 24 0
  faultOpen := 0
  faultShort := 0
  faultOc := 0
  done := 0
  held := 0
  q := List.replicate 24 0
  qOn := 0
  capSteps := 0
  bp := 0
  step := 0
  phaseTiming := false
  capHeld := 0
  anchorDue := false
  startNow := 0
  staggerNow := 10
  fallback := false
  tempStale := true
  excHeld := false
  derate := 0
  timeout := false
  timerOn := false
  dark := 0
  exciteOn := 0

/-- One active bank driver (08_balancing.md). -/
structure Bank where
  /-- set command (R240, R252). -/
  cmd : Int
  /-- applied command, in microampere (R241). -/
  applied : Int
  /-- ON (R252). -/
  on : Bool
  /-- LIMIT (R252). -/
  limit : Bool
  /-- FAULT_ERR (R252). -/
  faultErr : Bool
  /-- FAULT_SENSE (R252). -/
  faultSense : Bool
  /-- INTERLOCK (R252). -/
  interlock : Bool
  /-- I_MEAS (R252). -/
  iMeas : Int
  /-- consecutive readings out of range (R239). -/
  badRun : Nat
  /-- consecutive deviating means (R243). -/
  devRun : Nat
  /-- 0 none, 0x3A ACTIVE_SET, 0x40 EIS_PLAN (R240, R245). -/
  owner : Nat
  /-- excitation running (R246). -/
  excite : Bool
  /-- period times 2^32 plus phase at which it started (R245). -/
  excAt : Nat
  /-- sense readings kept for the supports of records to come: time, 0.1 mA, newest first (R239, R248). -/
  seen : List (Nat × Int)
  /-- sum of the applied commands of the present ms, uA (R243). -/
  appSum : Int
  /-- PWM periods of the present ms (R243). -/
  appCnt : Nat
  /-- excitation ran in the present ms (R243). -/
  refMean : Bool
deriving DecidableEq, Repr

/-- The values of Bank at reset: the spec's, and those of the log entries INVENTORY.md names. -/
def Bank.reset : Bank where
  cmd := 0
  applied := 0
  on := false
  limit := false
  faultErr := false
  faultSense := false
  interlock := false
  iMeas := 0
  badRun := 0
  devRun := 0
  owner := 0
  excite := false
  excAt := 0
  seen := []
  appSum := 0
  appCnt := 0
  refMean := false

/-- State of the impedance plan (09_impedance.md R282). -/
inductive EisState where
  | idle | armed | running | suspended
deriving DecidableEq, Repr

/-- An impedance plan block (R258) (09_impedance.md). -/
structure EisPlan where
  /-- SOURCE (R258). -/
  source : Nat
  /-- CELL_MASK (R258). -/
  cells : BitVec 24
  /-- WIN_PERIODS (R258). -/
  win : Nat
  /-- OFS_A to OFS_D (R258). -/
  ofs : List Nat
  /-- FET_MASK (R258). -/
  fets : BitVec 24
  /-- BANK_MASK (R258). -/
  banks : BitVec 4
  /-- RATIO_k, PHASE_k and AMP_k (R258). -/
  tones : List (Nat × Nat × Nat)
  /-- the plan block itself (R261). -/
  block : List (BitVec 32)
deriving DecidableEq, Repr

/-- The values of EisPlan at reset: the spec's, and those of the log entries INVENTORY.md names. -/
def EisPlan.reset : EisPlan where
  source := 0
  cells := 0
  win := 0
  ofs := []
  fets := 0
  banks := 0
  tones := []
  block := []

/-- An impedance window (R266) (09_impedance.md). -/
structure Win where
  /-- PERIOD_CNT at the meridian that began it (R272). -/
  start : Nat
  /-- time at which it began (R272). -/
  beganAt : Nat
  /-- its duration, once it has ended (R272). -/
  dur : Nat
  /-- TSEQ of the last record that lies in it, once it has ended (R266). -/
  last : Option Nat
  /-- that record is visible (R266). -/
  closed : Bool
  /-- its visible records (R266). -/
  recs : List Rec
  /-- a bank of the plan failed to excite steadily (R274). -/
  distBank : Bool
  /-- FETs of the plan that failed to excite steadily (R274). -/
  distFet : BitVec 24
  /-- tones muted in it (R274). -/
  muted : BitVec 8
  /-- stream and TSEQ of records whose lock-in job was refused or lost (R268, R269). -/
  excl : List (Nat × Nat)
  /-- streams with a refused job (R269). -/
  qfull : BitVec 64
  /-- measured cells whose WINCLOSE has not been created (R298). -/
  cells : BitVec 24
  /-- SH_RES in force (R283). -/
  shRes : Nat
  /-- SH_POLARITY in force (R283). -/
  shPol : Nat
  /-- EIS_ACT_MODFRAC in force (R283). -/
  modFrac : Nat
  /-- the plan it belongs to (R261). -/
  plan : Option EisPlan
  /-- generation of that plan (R261, R293). -/
  gen : Nat
  /-- EIS_COH_MIN at its close (R283). -/
  cohMin : Nat
  /-- EIS_SNR_MIN at its close (R283). -/
  snrMin : Nat
  /-- EIS_USED_MIN at its close (R283). -/
  usedMin : Nat
deriving DecidableEq, Repr

/-- The values of Win at reset: the spec's, and those of the log entries INVENTORY.md names. -/
def Win.reset : Win where
  start := 0
  beganAt := 0
  dur := 0
  last := none
  closed := false
  recs := []
  distBank := false
  distFet := 0
  muted := 0
  excl := []
  qfull := 0
  cells := 0
  shRes := 0
  shPol := 0
  modFrac := 250000
  plan := none
  gen := 0
  cohMin := 230
  snrMin := 40
  usedMin := 230

/-- In-service impedance (09_impedance.md). -/
structure Eis where
  /-- plan state (R282, R284). -/
  state : EisState
  /-- plan in force (R258). -/
  plan : Option EisPlan
  /-- plan that takes effect at the next meridian (R261). -/
  next : Option (Option EisPlan)
  /-- BANK_RUN (R284). -/
  banksOn : BitVec 4
  /-- banks whose excitation has started since the plan was armed (R264, R282). -/
  banksSeen : BitVec 4
  /-- FETs whose excitation has started (R264). -/
  fetsOn : BitVec 24
  /-- period times 2^32 plus phase at which each FET's excitation started (R245, R247). -/
  fetsAt : List Nat
  /-- MUTED (R284). -/
  muted : BitVec 8
  /-- FET_HELD (R284). -/
  fetHeld : Bool
  /-- WIN_CNT (R284). -/
  winCnt : Nat
  /-- earliest meridian of the first window (R266). -/
  firstAt : Option Nat
  /-- the open window (R266). -/
  win : Option Win
  /-- windows ended whose results are not yet written (R266, R298). -/
  closing : List Win
  /-- result table, keyed 8 * (cell - 1) + index (R276). -/
  results : List (Nat × List (BitVec 32))
  /-- EIS_COUNTS.QFULL_CNT (R283). -/
  qfullCnt : Nat
  /-- EIS_COUNTS.STRM_DROP (R283). -/
  strmDrop : Nat
  /-- temperature tables 0 and 1 (R277). -/
  temp : List (List (BitVec 32))
  /-- generation of the plan (R293). -/
  gen : Nat
deriving DecidableEq, Repr

/-- The values of Eis at reset: the spec's, and those of the log entries INVENTORY.md names. -/
def Eis.reset : Eis where
  state := .idle
  plan := none
  next := none
  banksOn := 0
  banksSeen := 0
  fetsOn := 0
  fetsAt := List.replicate 24 0
  muted := 0
  fetHeld := false
  winCnt := 0
  firstAt := none
  win := none
  closing := []
  results := []
  qfullCnt := 0
  strmDrop := 0
  temp := [[], []]
  gen := 0

/-- Engine states, codes 0-5 (10_engines_and_flumes.md R287). -/
inductive EngState where
  | absent | loading | active | draining | out | fenced
deriving DecidableEq, Repr

/-- A job descriptor (R291) (10_engines_and_flumes.md). -/
structure Desc where
  /-- ID (R291). -/
  id : Nat
  /-- KERNEL (R291). -/
  kernel : Nat
  /-- CLASS (R291). -/
  cls : Nat
  /-- ROLE (R291). -/
  role : Nat
  /-- RETRY (R291). -/
  retry : Bool
  /-- CHAN (R291). -/
  chan : Nat
  /-- GEN (R291). -/
  gen : Nat
  /-- WIN_TSEQ (R291). -/
  win : Nat
  /-- WIN_LEN (R291). -/
  len : Nat
  /-- PARTNER_ENG (R291). -/
  partner : Option Nat
  /-- TWIN_ID (R291). -/
  twin : Nat
  /-- ARG (R291). -/
  arg : Nat
  /-- SRC: 0 history, 1 balance current log, 2 SRAM partial sums, 3 none (R291). -/
  src : Nat
  /-- TGT_FLUME; 0x1F: SRAM at TGT_ADDR (R291). -/
  tgtFlume : Nat
  /-- TGT_ADDR (R291). -/
  tgtAddr : Nat
  /-- ISSUE: bits [15:0] of a 1 us counter at its creation (R291). -/
  issue : Nat
  /-- first period of the window that its partial sums belong to (R266, R298). -/
  start : Nat
  /-- stream of the plan: a cell, or one of its distinct reference currents (R256, R281). -/
  stream : Nat
  /-- nominal or declared cost of the job (R289, R298). -/
  cost : Nat
  /-- dispatches it was passed over in (R299). -/
  passed : Nat
  /-- engines that ran the twins of an arbiter (R306). -/
  ran : List Nat
  /-- twin buffer half written by this descriptor (R305). -/
  half : Option (List Nat)
deriving DecidableEq, Repr

/-- The values of Desc at reset: the spec's, and those of the log entries INVENTORY.md names. -/
def Desc.reset : Desc where
  id := 0
  kernel := 0
  cls := 0
  role := 0
  retry := false
  chan := 0
  gen := 0
  win := 0
  len := 0
  partner := none
  twin := 0
  arg := 0
  src := 0
  tgtFlume := 31
  tgtAddr := 0
  issue := 0
  start := 0
  stream := 0
  cost := 0
  passed := 0
  ran := []
  half := none

/-- One Vangette engine (10_engines_and_flumes.md). -/
structure Engine where
  /-- engine state (R287). -/
  state : EngState
  /-- local flume: descriptor IDs in service order (R294, R300). -/
  flume : List Nat
  /-- descriptor of the running job (R292). -/
  running : Option Nat
  /-- JOBS (R317). -/
  jobs : Nat
  /-- STEALS (R317). -/
  steals : Nat
  /-- running time since the last clear (R317). -/
  busy : Nat
  /-- time at which the running job started (R317). -/
  startAt : Nat
  /-- time from which its running time is still to be counted (R317). -/
  countAt : Nat
  /-- TRAPS (R317). -/
  traps : Nat
  /-- OVERRUNS (R317). -/
  overruns : Nat
  /-- TWIN_FAULTS (R317). -/
  twinFaults : Nat
  /-- custom kernels the engine holds (R314). -/
  kernels : BitVec 4
  /-- custom kernel words in the code area of its local RAM, behind the ROM kernels (R286, R314). -/
  code : List (BitVec 32)
  /-- result words of its latest job in the data area of its local RAM (R286, R292). -/
  data : List (BitVec 32)
  /-- real part of the multiply-accumulate accumulator (R286). -/
  accRe : BitVec 96
  /-- imaginary part of the multiply-accumulate accumulator (R286). -/
  accIm : BitVec 96
deriving DecidableEq, Repr

/-- The values of Engine at reset: the spec's, and those of the log entries INVENTORY.md names. -/
def Engine.reset : Engine where
  state := .loading
  flume := []
  running := none
  jobs := 0
  steals := 0
  busy := 0
  startAt := 0
  countAt := 0
  traps := 0
  overruns := 0
  twinFaults := 0
  kernels := 0
  code := []
  data := []
  accRe := 0
  accIm := 0

/-- Statistics of one job class (10_engines_and_flumes.md). -/
structure ClassCnt where
  /-- CREATED (R317). -/
  created : Nat
  /-- DISCARDED (R317). -/
  discarded : Nat
  /-- REFUSED (R317). -/
  refused : Nat
  /-- WAIT_MAX (R317). -/
  waitMax : Nat
deriving DecidableEq, Repr

/-- The values of ClassCnt at reset: the spec's, and those of the log entries INVENTORY.md names. -/
def ClassCnt.reset : ClassCnt where
  created := 0
  discarded := 0
  refused := 0
  waitMax := 0

/-- One custom kernel slot (10_engines_and_flumes.md). -/
structure Kernel where
  /-- a kernel is installed (R312). -/
  loaded : Bool
  /-- image length announced by BEGIN (R312). -/
  staging : Option Nat
  /-- staged image words by offset (R312). -/
  staged : List (Nat × BitVec 32)
  /-- installed image (R313). -/
  image : List (BitVec 32)
  /-- generation (R293). -/
  gen : Nat
  /-- generator running (R314). -/
  genOn : Bool
  /-- consecutive overruns (R315). -/
  overRun : Nat
  /-- visible records since its last job (R314). -/
  blockCnt : Nat
  /-- jobs created in the present second (R314). -/
  rateCnt : Nat
  /-- start of that second (R314). -/
  rateAt : Nat
  /-- UNLOAD waits for running jobs (R316). -/
  unloading : Bool
deriving DecidableEq, Repr

/-- The values of Kernel at reset: the spec's, and those of the log entries INVENTORY.md names. -/
def Kernel.reset : Kernel where
  loaded := false
  staging := none
  staged := []
  image := []
  gen := 0
  genOn := false
  overRun := 0
  blockCnt := 0
  rateCnt := 0
  rateAt := 0
  unloading := false

/-- Engines, flumes, pool and generators (10_engines_and_flumes.md). -/
structure Eng where
  /-- engines 0-15 (R286, R287). -/
  engines : List Engine
  /-- descriptors in use (R295). -/
  pool : List Desc
  /-- class flumes (R294). -/
  classes : List (List Nat)
  /-- class statistics (R317). -/
  counts : List ClassCnt
  /-- POOL_FREE_MIN (R317). -/
  freeMin : Nat
  /-- SAFE_REFUSED (R317). -/
  safeRefused : Nat
  /-- DESC_CRC_CNT (R317). -/
  descCrc : Nat
  /-- UNRESOLVED (R317). -/
  unresolved : Nat
  /-- EV88 condition entered (R307). -/
  quorum : Bool
  /-- time of the last clear (R317). -/
  clearedAt : Nat
  /-- visible records since the last SAFE_AUDIT pair (R298). -/
  auditCnt : Nat
  /-- visible records since the last STATS job (R298). -/
  statsCnt : Nat
  /-- visible records since the last BAL_ACCUM job (R298). -/
  balCnt : Nat
  /-- latest STATS result: TSEQ of its first record, four words per channel (R450). -/
  statsRes : Option (Nat × List (List (BitVec 32)))
  /-- custom kernel slots (R312). -/
  kernels : List Kernel
  /-- kernel copies waiting: engine and slot (R294, R314). -/
  copies : List (Nat × Nat)
  /-- fault messages (R294, R495). -/
  msgs : List (BitVec 32)
  /-- HIST_PACK descriptors (R310, R451). -/
  packWait : List Nat
  /-- capture transfers (R294). -/
  capXfer : List Nat
  /-- tunnelled frames that hold a descriptor (R294, R295). -/
  linkHeld : Nat
  /-- kernel copies that hold a descriptor (R294, R295). -/
  copyHeld : Nat
  /-- checks that the latest audit with a failure named: check * 256 + channel, 0 the cell sum (R289). -/
  auditNamed : List Nat
deriving DecidableEq, Repr

/-- The values of Eng at reset: the spec's, and those of the log entries INVENTORY.md names. -/
def Eng.reset : Eng where
  engines := List.replicate 16 Engine.reset
  pool := []
  classes := List.replicate 8 []
  counts := List.replicate 8 ClassCnt.reset
  freeMin := 2048
  safeRefused := 0
  descCrc := 0
  unresolved := 0
  quorum := false
  clearedAt := 0
  auditCnt := 0
  statsCnt := 0
  balCnt := 0
  statsRes := none
  kernels := List.replicate 4 Kernel.reset
  copies := []
  msgs := []
  packWait := []
  capXfer := []
  linkHeld := 0
  copyHeld := 0
  auditNamed := []

/-- One direction of the die-to-die bus (01_architecture.md). -/
structure Lane where
  /-- SEQ of the next beat sent (R17). -/
  txSeq : Nat
  /-- replay buffer (R21). -/
  replay : List (BitVec 72)
  /-- beats not acknowledged (R21). -/
  unacked : Nat
  /-- SEQ the receiver expects (R22). -/
  rxSeq : Nat
  /-- receiver discards until the expected SEQ (R22). -/
  discarding : Bool
  /-- consecutive failures of the expected SEQ (R23). -/
  fails : Nat
  /-- NAK to be sent, with the expected SEQ (R22). -/
  nak : Option Nat
  /-- beats of the replay buffer still to be sent again after a NAK (R22). -/
  resend : List (BitVec 72)
  /-- TYPE and CONTENT still to be sent again after a retrain (R25). -/
  queue : List (Nat × BitVec 52)
  /-- bus interface register of the receiver: the last beat received, with CRC, TYPE, SEQ, ACK and CONTENT (R17). -/
  rxReg : BitVec 72
deriving DecidableEq, Repr

/-- The values of Lane at reset: the spec's, and those of the log entries INVENTORY.md names. -/
def Lane.reset : Lane where
  txSeq := 0
  replay := []
  unacked := 0
  rxSeq := 0
  discarding := false
  fails := 0
  nak := none
  resend := []
  queue := []
  rxReg := 0

/-- Die-to-die bus (01_architecture.md). -/
structure D2d where
  /-- front die to core die (R17). -/
  up : Lane
  /-- core die to front die (R17). -/
  down : Lane
  /-- retrain in progress (R23). -/
  retrain : Bool
  /-- hold buffer of the front die (R25). -/
  hold : List Held
  /-- core-die receive buffer: beats that wait for the end of an operating-point transition (R20). -/
  rxBuf : List Held
  /-- comparator edges latched for want of room, with period and phase of the output's change (R25, R195). -/
  latched : List (Nat × Bool × Nat × BitVec 32)
  /-- SAR waits for room (R25). -/
  sarWait : Bool
  /-- ISENSE beats dropped in the interval (four FETs each) (R25). -/
  senseDrop : BitVec 6
  /-- register writes and reads issued before a retrain (R25). -/
  issued : List (Nat × BitVec 52)
  /-- latest content delivered of each beat type (R17). -/
  delivered : List (Nat × BitVec 52)
deriving DecidableEq, Repr

/-- The values of D2d at reset: the spec's, and those of the log entries INVENTORY.md names. -/
def D2d.reset : D2d where
  up := Lane.reset
  down := Lane.reset
  retrain := false
  hold := []
  rxBuf := []
  latched := []
  sarWait := false
  senseDrop := 0
  issued := []
  delivered := []

/-- Link protocol engine (11_burza_link.md). -/
structure Link where
  /-- PORT_A_EN (R354). -/
  enA : Bool
  /-- PORT_B_EN (R354). -/
  enB : Bool
  /-- LOCK_A (R354). -/
  lockA : Bool
  /-- LOCK_B (R354). -/
  lockB : Bool
  /-- LOS_A (R354). -/
  losA : Bool
  /-- LOS_B (R354). -/
  losB : Bool
  /-- ALM_VALID (R354). -/
  almValid : Bool
  /-- UNSWEPT (R354). -/
  unswept : Bool
  /-- EN_REFUSED (R354). -/
  enRefused : Bool
  /-- CRC_CNT (R354). -/
  crcCnt : Nat
  /-- VIOL_CNT (R354). -/
  violCnt : Nat
  /-- RETRY_CNT (R354). -/
  retryCnt : Nat
  /-- last-header register (R327). -/
  lastHeader : BitVec 32
  /-- last reply kept for retries: SEQ, TYPE, words (R338). -/
  kept : Option (Nat × Nat × List (BitVec 32))
  /-- SEQ of the last broadcast accepted (R340). -/
  ackKept : Option Nat
  /-- words written into the reply region of the last frame (R337). -/
  reply : List (BitVec 32)
  /-- own ACK pair written as 0b10 in the last broadcast (R340). -/
  ackPair : Bool
  /-- last sweep slot written: payload, then ALIVE and its CRC-24 (R345). -/
  slotOut : List (BitVec 32)
  /-- ALIVE (R345). -/
  alive : Nat
  /-- almanac bits assembled (R353). -/
  almBits : List Bool
  /-- time of the first SYNC edge of the almanac (R353). -/
  almAt : Nat
  /-- RING of the adopted almanac (R353). -/
  ringIdRx : Nat
deriving DecidableEq, Repr

/-- The values of Link at reset: the spec's, and those of the log entries INVENTORY.md names. -/
def Link.reset : Link where
  enA := true
  enB := true
  lockA := false
  lockB := false
  losA := false
  losB := false
  almValid := false
  unswept := false
  enRefused := false
  crcCnt := 0
  violCnt := 0
  retryCnt := 0
  lastHeader := 0
  kept := none
  ackKept := none
  reply := []
  ackPair := false
  slotOut := []
  alive := 0
  almBits := []
  almAt := 0
  ringIdRx := 0

/-- The frame the head has in flight, or waits to send again (11_burza_link.md). -/
structure Flight where
  /-- TYPE (R327). -/
  typ : Nat
  /-- SEQ (R327). -/
  seq : Nat
  /-- ADDR (R327). -/
  addr : Nat
  /-- RTY (R339). -/
  rty : Nat
  /-- payload words (R336). -/
  body : List (BitVec 32)
  /-- purpose: 0 sweep part, 1 ring frame, 2 CMD fragment, 3 POLL, 4 remote access, 5 TIMING, 6 delay write (R348). -/
  kind : Nat
  /-- port of a turned frame or of one arm only, none: as the ring stands (R363). -/
  via : Option Port
  /-- SEQ and CODE of the message a CMD fragment belongs to (R410). -/
  tag : Nat
  /-- first slot of a sweep part (R343). -/
  first : Nat
  /-- slots of a sweep part (R343). -/
  slots : Nat
  /-- ports on which the frame is still to return (R349). -/
  out : BitVec 2
  /-- valid reply: ADDR, LSTAT, words after REPLY (R339). -/
  got : Option (Nat × Nat × List (BitVec 32))
  /-- addresses whose pair reads 0b10 in its returns (R340). -/
  pairs : BitVec 64
  /-- ports on which INJECT inverted its CRC-24 (R497). -/
  bad : BitVec 2
deriving DecidableEq, Repr

/-- The values of Flight at reset: the spec's, and those of the log entries INVENTORY.md names. -/
def Flight.reset : Flight where
  typ := 0
  seq := 0
  addr := 0
  rty := 0
  body := []
  kind := 0
  via := none
  tag := 0
  first := 0
  slots := 0
  out := 0
  got := none
  pairs := 0
  bad := 0

/-- One RING_MAP entry (12_ring_membership.md). -/
structure MapEntry where
  /-- PRESENT (R392). -/
  present : Bool
  /-- RESERVED (R392). -/
  reserved : Bool
  /-- ARM (R392). -/
  arm : Bool
  /-- FOLD (R392). -/
  fold : Bool
  /-- POS (R392). -/
  pos : Nat
  /-- D_A last written (R392). -/
  dA : Nat
  /-- VAL_A last written (R392). -/
  vA : Bool
  /-- D_B last written (R392). -/
  dB : Nat
  /-- VAL_B last written (R392). -/
  vB : Bool
  /-- consecutive censuses without its pair (R375). -/
  missed : Nat
  /-- joined while the ring was wrapped (R386). -/
  joined : Bool
deriving DecidableEq, Repr

/-- The values of MapEntry at reset: the spec's, and those of the log entries INVENTORY.md names. -/
def MapEntry.reset : MapEntry where
  present := false
  reserved := false
  arm := false
  fold := false
  pos := 0
  dA := 0
  vA := false
  dB := 0
  vB := false
  missed := 0
  joined := false

/-- Ring modes, codes 0-6 (12_ring_membership.md R359). -/
inductive RingMode where
  | gated | normal | arm | reversed | fold | unattached | await
deriving DecidableEq, Repr

/-- RING_STAT.STATE, codes 0-5 (12_ring_membership.md R392). -/
inductive RingState where
  | idle | enumerating | closed | wrapped | failed | conflict
deriving DecidableEq, Repr

/-- Ring membership (12_ring_membership.md). -/
structure Ring where
  /-- ring address (R392). -/
  addr : Nat
  /-- headgate open (R392). -/
  gate : Bool
  /-- ring mode (R392). -/
  mode : RingMode
  /-- FOLD_B (R392). -/
  foldB : Bool
  /-- FAR_LOCK (R392). -/
  farLock : Bool
  /-- FAR_PROBE (R392). -/
  farProbe : Bool
  /-- RING_EPOCH (R392). -/
  epoch : Nat
  /-- VAL_A (R392). -/
  valA : Bool
  /-- D_A (R392). -/
  dA : Nat
  /-- VAL_B (R392). -/
  valB : Bool
  /-- D_B (R392). -/
  dB : Nat
  /-- PASS_ID (R370). -/
  passId : Nat
  /-- head-side port of a GATED or UNATTACHED device (R359). -/
  headPort : Option Port
  /-- SEQ of the ENUM claimed in the last 1 ms (R370). -/
  claimed : Option Nat
  /-- ARM_STATE last adopted (R367). -/
  armState : Bool
  /-- a return pass is awaited on the far port (R360). -/
  returning : Bool
  /-- a turned frame waits for its return (R364). -/
  turning : Bool
  /-- an outbound pass is held by the fold (R349). -/
  foldPass : Bool
  /-- the pass that the fold holds: header, timing block and payload as received (R349). -/
  passBuf : List (BitVec 32)
  /-- PROBE_FAR waits for the return pass (R368). -/
  probing : Bool
  /-- break mark being sent (R378). -/
  marking : Bool
  /-- loss of signal on port A not yet decided (R378). -/
  reversePend : Bool
  /-- JOINED of the last UNWRAP (R386). -/
  unwrapJoined : Bool
  /-- ports on which a beacon is being sent (R362). -/
  beacons : BitVec 2
  /-- RING_MAP, index = address (R392). -/
  map : List MapEntry
  /-- RING_MAP.SEL (R392). -/
  sel : Nat
  /-- D_RING (R366). -/
  dRing : Nat
  /-- D_RING valid (R377). -/
  dRingV : Bool
  /-- RING_STAT.STATE (R392). -/
  stat : RingState
  /-- FOLD_B_ADDR (R392). -/
  foldBAddr : Nat
  /-- FOLD_A_ADDR (R392). -/
  foldAAddr : Nat
  /-- ATTEMPTS (R392). -/
  attempts : Nat
  /-- consecutive disturbed attempts (R374). -/
  disturbedRun : Nat
  /-- the attempt in progress is disturbed (R374). -/
  disturbed : Bool
  /-- 0 idle, 1 FORGET wait, 2 claiming, 3 delays, 4 quiet wait, 5 delay writes (R370-R373). -/
  enumStep : Nat
  /-- pass of the attempt, 1 or 2 (R370). -/
  enumPass : Nat
  /-- ARM of the pass: port A (R370). -/
  enumArm : Bool
  /-- NEXT_ADDR to offer (R370). -/
  enumNext : Nat
  /-- members claimed on the B arm in this pass (R372). -/
  enumB : Nat
  /-- members claimed on the A arm in this pass (R372). -/
  enumA : Nat
  /-- the pass found the ring closed (R372). -/
  enumClosed : Bool
  /-- measured delays of this pass by address (1: D_RING) (R372). -/
  delays : List (Nat × Nat)
  /-- result of the first pass (R373). -/
  firstPass : Option (Nat × Nat × Bool × List (Nat × Nat))
  /-- round trips of the delay measurement in progress (R365). -/
  measures : List Nat
  /-- device being measured (R365). -/
  measAddr : Nat
  /-- member re-measured at the next census (R377). -/
  remeasure : Nat
  /-- addresses whose RING_DELAY is still to be written (R373). -/
  toWrite : List Nat
  /-- restoration: 0 none, 1 PROBE, 2 FAR_STAT A, 3 FAR_STAT B, 4 EXTEND, 5 PREP, 6 UNWRAP, 7 TIMING (R384-R386). -/
  restore : Nat
  /-- flags FAR_LOCK (1), FAR_PROBE (2) of the A fold (R384). -/
  farA : Nat
  /-- flags of the B fold (R384). -/
  farB : Nat
  /-- head's 2 ms of silence (R388). -/
  silent : Bool
  /-- consecutive passes without return on the A and B arm (R383). -/
  lostPasses : List Nat
  /-- devices still to be measured after this one (R365). -/
  measQ : List Nat
  /-- measurement for: 0 none, 1 enumeration, 2 census, 3 joining, 4 restoration (R365). -/
  measFor : Nat
  /-- the arm being extended is the A arm (R385). -/
  extA : Bool
  /-- after the return pass: 1 enters AWAIT, 2 enters NORMAL (R386). -/
  afterPass : Nat
deriving DecidableEq, Repr

/-- The values of Ring at reset: the spec's, and those of the log entries INVENTORY.md names. -/
def Ring.reset : Ring where
  addr := 0
  gate := false
  mode := .gated
  foldB := false
  farLock := false
  farProbe := false
  epoch := 0
  valA := false
  dA := 0
  valB := false
  dB := 0
  passId := 0
  headPort := none
  claimed := none
  armState := false
  returning := false
  turning := false
  foldPass := false
  passBuf := []
  probing := false
  marking := false
  reversePend := false
  unwrapJoined := false
  beacons := 0
  map := List.replicate 63 MapEntry.reset
  sel := 0
  dRing := 0
  dRingV := false
  stat := .idle
  foldBAddr := 0
  foldAAddr := 0
  attempts := 0
  disturbedRun := 0
  disturbed := false
  enumStep := 0
  enumPass := 0
  enumArm := false
  enumNext := 2
  enumB := 0
  enumA := 0
  enumClosed := false
  delays := []
  firstPass := none
  measures := []
  measAddr := 0
  remeasure := 2
  toWrite := []
  restore := 0
  farA := 0
  farB := 0
  silent := true
  lostPasses := [0, 0]
  measQ := []
  measFor := 0
  extA := false
  afterPass := 0

/-- The head's frame origination and sweeps (11_burza_link.md). -/
structure Head where
  /-- SEQ of the next frame (R327). -/
  seq : Nat
  /-- frames that have left and not yet returned, oldest first (R339). -/
  flights : List Flight
  /-- frames whose retry is due, oldest first (R339). -/
  retry : List Flight
  /-- a sweep part is due (R342). -/
  sweepDue : Bool
  /-- sweep number of the next sweep (R343). -/
  sweepNo : Nat
  /-- first slot and slots of the parts not yet started (R342). -/
  sweepParts : List (Nat × Nat)
  /-- parts of the sweep in progress not yet returned or failed (R422). -/
  partsOut : Nat
  /-- LAST_PART of the sweep in progress (R343). -/
  lastPart : Nat
  /-- no frame has started for 400 us (R348). -/
  timingDue : Bool
  /-- ring frames waiting (R348). -/
  ringFrames : List Flight
  /-- tunnelled frames waiting, in arrival order (R348). -/
  tunnel : List Flight
  /-- almanac being sent, bit 127 first (R352). -/
  almWord : List Bool
  /-- transmit header register and payload of the frame last started (R327). -/
  txFrame : List (BitVec 32)
  /-- link drivers idled by CONFLICT (R388). -/
  idle : Bool
  /-- time at which the last sweep fell due (R348). -/
  sweepAt : Nat
deriving DecidableEq, Repr

/-- The values of Head at reset: the spec's, and those of the log entries INVENTORY.md names. -/
def Head.reset : Head where
  seq := 0
  flights := []
  retry := []
  sweepDue := false
  sweepNo := 0
  sweepParts := []
  partsOut := 0
  lastPart := 0
  timingDue := false
  ringFrames := []
  tunnel := []
  almWord := []
  txFrame := []
  idle := false
  sweepAt := 0

/-- A remote register access (R398) (13_host_port_and_mailboxes.md). -/
structure Remote where
  /-- DEV (R398). -/
  dev : Nat
  /-- ADDR (R398). -/
  addr : Nat
  /-- WRITE (R398). -/
  write : Bool
  /-- DATA (R398). -/
  value : BitVec 32
deriving DecidableEq, Repr

/-- The values of Remote at reset: the spec's, and those of the log entries INVENTORY.md names. -/
def Remote.reset : Remote where
  dev := 0
  addr := 0
  write := false
  value := 0

/-- A mailbox response with the address it came from (13_host_port_and_mailboxes.md). -/
structure Resp where
  /-- SRC (R408). -/
  src : Nat
  /-- words, trailer included (R405). -/
  words : List (BitVec 32)
deriving DecidableEq, Repr

/-- The values of Resp at reset: the spec's, and those of the log entries INVENTORY.md names. -/
def Resp.reset : Resp where
  src := 0
  words := []

/-- One entry of the response cache (R413) (13_host_port_and_mailboxes.md). -/
structure Cached where
  /-- SEQ (R413). -/
  seq : Nat
  /-- CODE (R413). -/
  code : Nat
  /-- the response (R413). -/
  words : List (BitVec 32)
deriving DecidableEq, Repr

/-- The values of Cached at reset: the spec's, and those of the log entries INVENTORY.md names. -/
def Cached.reset : Cached where
  seq := 0
  code := 0
  words := []

/-- A command outstanding at a target (R410) (13_host_port_and_mailboxes.md). -/
structure Outst where
  /-- address, or 63 (R410). -/
  target : Nat
  /-- SEQ (R410). -/
  seq : Nat
  /-- CODE (R410). -/
  code : Nat
  /-- QUIET (R414). -/
  quiet : Bool
  /-- LENGTH (R409). -/
  len : Nat
  /-- words not yet accepted by the target (R410). -/
  words : List (BitVec 32)
  /-- index of the next fragment (R410). -/
  fragNo : Nat
  /-- response words fetched so far; for target 63 the message (R412). -/
  polls : List (BitVec 32)
  /-- addresses that have accepted every fragment of a broadcast (R340, R431). -/
  acks : BitVec 64
deriving DecidableEq, Repr

/-- The values of Outst at reset: the spec's, and those of the log entries INVENTORY.md names. -/
def Outst.reset : Outst where
  target := 0
  seq := 0
  code := 0
  quiet := false
  len := 0
  words := []
  fragNo := 0
  polls := []
  acks := 0

/-- One sweep buffer (13_host_port_and_mailboxes.md). -/
structure SweepBuf where
  /-- SWEEP_NO (R423). -/
  no : Nat
  /-- FMT (R423). -/
  full : Bool
  /-- entries by address, word 0 first (R423). -/
  entries : List (Nat × List (BitVec 32))
deriving DecidableEq, Repr

/-- The values of SweepBuf at reset: the spec's, and those of the log entries INVENTORY.md names. -/
def SweepBuf.reset : SweepBuf where
  no := 0
  full := false
  entries := []

/-- SPI port, mailboxes, event and stream records, sweep buffers (13_host_port_and_mailboxes.md). -/
structure HostIf where
  /-- SSTAT of the next response (R396). -/
  sstat : Nat
  /-- ADDR of the next response (R396). -/
  rAddr : Nat
  /-- DATA of the next response (R396). -/
  rData : BitVec 32
  /-- SDO word of the last transaction (R396). -/
  sdo : BitVec 64
  /-- last BURST: each group of 8 words or fewer, then its CRC-8 (R400). -/
  burst : List (BitVec 32)
  /-- the previous transaction was a NOP (R397). -/
  lastNop : Bool
  /-- remote access pending (R398). -/
  remote : Option Remote
  /-- remote result not yet reported: status, ADDR, DATA (R397). -/
  remoteRes : Option (Nat × Nat × BitVec 32)
  /-- IRQ_EN (R402). -/
  irqEn : BitVec 9
  /-- EVF0-EVF3 (R404). -/
  evf : BitVec 128
  /-- EVE0-EVE3 (R404). -/
  eve : BitVec 128
  /-- MBX_CMD_CTRL.TARGET (R408). -/
  target : Nat
  /-- words composed (R408). -/
  composed : List (BitVec 32)
  /-- OVF (R408). -/
  ovf : Bool
  /-- words submitted and not yet relayed (R409). -/
  submitted : Nat
  /-- commands outstanding (R410). -/
  outst : List Outst
  /-- response mailbox, current response first (R408). -/
  rsps : List Resp
  /-- words of the current response already read (R408). -/
  rspPos : Nat
  /-- event mailbox words (R418). -/
  evt : List (BitVec 32)
  /-- words left of each event record (R419). -/
  evtRecs : List Nat
  /-- RSEQ of the next event record (R418). -/
  evtRseq : Nat
  /-- stream mailbox words (R418). -/
  strm : List (BitVec 32)
  /-- words left of each stream record (R419). -/
  strmRecs : List Nat
  /-- RSEQ of the next stream record (R418). -/
  strmRseq : Nat
  /-- EVT_DROP (R421). -/
  evtDrop : Nat
  /-- SPI_CRC (R421). -/
  spiCrc : Nat
  /-- MSG_CRC (R421). -/
  msgCrc : Nat
  /-- SEQ_GAPS (R421). -/
  seqGaps : Nat
  /-- front buffer (R422). -/
  front : SweepBuf
  /-- back buffer (R422). -/
  back : Option SweepBuf
  /-- buffer being filled (R422). -/
  fill : SweepBuf
  /-- NEW (R423). -/
  swNew : Bool
  /-- HOLD (R423). -/
  swHold : Bool
  /-- REPLACED (R423). -/
  swRepl : Nat
deriving DecidableEq, Repr

/-- The values of HostIf at reset: the spec's, and those of the log entries INVENTORY.md names. -/
def HostIf.reset : HostIf where
  sstat := 8
  rAddr := 0
  rData := 0
  sdo := 0
  burst := []
  lastNop := false
  remote := none
  remoteRes := none
  irqEn := 0
  evf := 0
  eve := 0
  target := 1
  composed := []
  ovf := false
  submitted := 0
  outst := []
  rsps := []
  rspPos := 0
  evt := []
  evtRecs := []
  evtRseq := 0
  strm := []
  strmRecs := []
  strmRseq := 0
  evtDrop := 0
  spiCrc := 0
  msgCrc := 0
  seqGaps := 0
  front := SweepBuf.reset
  back := none
  fill := SweepBuf.reset
  swNew := false
  swHold := false
  swRepl := 0

/-- A command whose execution lasts over several events (14_aeddo_command_reference.md). -/
structure Busy where
  /-- CODE (R426). -/
  code : Nat
  /-- SEQ (R426). -/
  seq : Nat
  /-- QUIET (R405). -/
  quiet : Bool
  /-- broadcast (R431). -/
  bcast : Bool
  /-- SEQ_GAP (R414). -/
  gap : Bool
  /-- state code, kernel slot or generation (R426). -/
  arg : Nat
  /-- LENGTH of its message (R405, R409). -/
  len : Nat
  /-- duplicates that arrived while executing (QUIET bit of each) (R413). -/
  copies : List (Bool)
deriving DecidableEq, Repr

/-- The values of Busy at reset: the spec's, and those of the log entries INVENTORY.md names. -/
def Busy.reset : Busy where
  code := 0
  seq := 0
  quiet := false
  bcast := false
  gap := false
  arg := 0
  len := 0
  copies := []

/-- Housekeeper and command execution (13_host_port_and_mailboxes.md). -/
structure Cmd where
  /-- HK_READY (R402). -/
  hkReady : Bool
  /-- HK_RESTARTED (R402). -/
  hkRestarted : Bool
  /-- HK_RESTARTS (R402). -/
  hkRestarts : Nat
  /-- complete messages waiting (broadcast flag, words) (R426). -/
  waiting : List (Bool × List (BitVec 32))
  /-- member: words of the message being reassembled (R410). -/
  partMsg : List (BitVec 32)
  /-- MSG_SEQ of that message (R410). -/
  partSeq : Option Nat
  /-- fragment index expected (R410). -/
  partNext : Nat
  /-- SEQ of the last POLL that took a response fragment (R412). -/
  pollSeq : Option Nat
  /-- FRAG word and data given to that POLL (R412). -/
  pollGave : List (BitVec 32)
  /-- command in execution over several events (R426). -/
  busy : Option Busy
  /-- response cache, newest first (R413). -/
  cache : List Cached
  /-- SEQ expected next (R414). -/
  expSeq : Option Nat
  /-- member: responses waiting for POLL (R412). -/
  out : List Resp
  /-- words of the first response already sent (R412). -/
  outPos : Nat
deriving DecidableEq, Repr

/-- The values of Cmd at reset: the spec's, and those of the log entries INVENTORY.md names. -/
def Cmd.reset : Cmd where
  hkReady := false
  hkRestarted := false
  hkRestarts := 0
  waiting := []
  partMsg := []
  partSeq := none
  partNext := 0
  pollSeq := none
  pollGave := []
  busy := none
  cache := []
  expSeq := none
  out := []
  outPos := 0

/-- Escalation of one source (15_faults_and_sluices.md). -/
structure Esc where
  /-- 0 IDLE 1 COUNTING 2 SEVERE (R482). -/
  state : Nat
  /-- events in the current window, or occurrences of an info source (R482). -/
  count : Nat
  /-- LOST (R484). -/
  lost : Nat
  /-- unit named by the severe occurrence (R483). -/
  unit : Nat
  /-- REACTION in force put there by this source (R468). -/
  inForce : Nat
  /-- unit code of that reaction (R468). -/
  forceUnit : Nat
  /-- journal entry of the reaction still to be written: item, old, new, reaction (R483). -/
  journal : Option (Nat × BitVec 32 × BitVec 32 × Nat)
  /-- the minimum pulse of the handling has not ended (R483). -/
  pulse : Bool
deriving DecidableEq, Repr

/-- The values of Esc at reset: the spec's, and those of the log entries INVENTORY.md names. -/
def Esc.reset : Esc where
  state := 0
  count := 0
  lost := 0
  unit := 0xFFFF
  inForce := 0
  forceUnit := 0xFFFF
  journal := none
  pulse := false

/-- Events, escalation, fences and FAULTN (15_faults_and_sluices.md). -/
structure Faults where
  /-- escalation counters (R482). -/
  esc : List Esc
  /-- FENCED_CH (R499). -/
  fencedCh : BitVec 25
  /-- FENCED_ENG (R499). -/
  fencedEng : BitVec 16
  /-- FENCED_PB ports A, B (R499). -/
  fencedPort : BitVec 2
  /-- FENCED_PB banks A-D (R499). -/
  fencedBank : BitVec 4
  /-- SAFE_SRC source (R499). -/
  safeSrc : Nat
  /-- times of the SAFE_STATE restarts of the last 10 s (R488). -/
  safeAt : List Nat
  /-- SAFE_SRC register before the reaction (R519). -/
  safePrev : Nat
  /-- a SAFE_STATE reaction waits for its journal entry and message (R483). -/
  safeReact : Bool
  /-- MSG_DROP (R499). -/
  msgDrop : Nat
  /-- STRETCH_10US (R492). -/
  stretch10us : Nat
  /-- LATCH (R492). -/
  latch : Bool
  /-- FORCE (R492). -/
  force : Bool
  /-- AUTO (R492). -/
  auto : Bool
  /-- STARTUP (R492). -/
  startup : Bool
  /-- STRETCH: stretcher running (R492). -/
  stretch : Bool
  /-- head in CONFLICT (R388). -/
  conflict : Bool
  /-- a critical start-up check failed (R494). -/
  critical : Bool
  /-- armed injection: TARGET, BITS, port or direction, COUNT left, address (R497). -/
  inject : List (Nat × Nat × Nat × Nat × Nat)
  /-- SRAM words with 1 or 2 inverted check bits (R480, R497). -/
  sramBad : List (Nat × Nat)
  /-- OTP words with 1 or 2 inverted check bits at their next read (R497). -/
  otpBad : List (Nat × Nat)
deriving DecidableEq, Repr

/-- The values of Faults at reset: the spec's, and those of the log entries INVENTORY.md names. -/
def Faults.reset : Faults where
  esc := List.replicate 128 Esc.reset
  fencedCh := 0
  fencedEng := 0
  fencedPort := 0
  fencedBank := 0
  safeSrc := 255
  safeAt := []
  safePrev := 255
  safeReact := false
  msgDrop := 0
  stretch10us := 5
  latch := true
  force := false
  auto := false
  startup := true
  stretch := false
  conflict := false
  critical := false
  inject := []
  sramBad := []
  otpBad := []

/-- Results of one self-test kind (16_periodic_self_test.md). -/
structure Kind where
  /-- LAST (R471, R513). -/
  last : Nat
  /-- UNIT of the last slice (R471, R513). -/
  unit : Nat
  /-- FAILS (R513). -/
  fails : Nat
  /-- INCOMPLETE (R513). -/
  incomplete : Nat
  /-- position of the next unit of the cycle (R504). -/
  next : Nat
  /-- engines tested in this cycle (R505). -/
  tested : List Nat
deriving DecidableEq, Repr

/-- The values of Kind at reset: the spec's, and those of the log entries INVENTORY.md names. -/
def Kind.reset : Kind where
  last := 0
  unit := 0
  fails := 0
  incomplete := 0
  next := 0
  tested := []

/-- Self-test controller (16_periodic_self_test.md). -/
structure Bist where
  /-- kinds SRAM, engine, converter path, comparator, link loopback (R500). -/
  kinds : List Kind
  /-- DEFERRED (R513). -/
  deferred : Nat
  /-- duration of the last full cycle in ms (R513). -/
  lastCycle : Nat
  /-- active time at which the cycle began (R507). -/
  cycleAt : Nat
  /-- next kind of the rotation (R504). -/
  rot : Nat
  /-- slice in progress: kind and unit position (R504). -/
  slice : Option (Nat × Nat)
  /-- slice that waits for the test DAC: kind, unit, latest moment (R508). -/
  waiting : Option (Nat × Nat × Nat)
  /-- SRAM block whose content the spare buffer holds (R502). -/
  spare : Option Nat
  /-- engine withdrawn for self-test (R505). -/
  withdrawn : Option Nat
  /-- failed engine held OUT until its handling ends (R505). -/
  failHold : Option Nat
  /-- time at which the cycle's clock stopped (R508). -/
  pausedAt : Nat
deriving DecidableEq, Repr

/-- The values of Bist at reset: the spec's, and those of the log entries INVENTORY.md names. -/
def Bist.reset : Bist where
  kinds := List.replicate 5 Kind.reset
  deferred := 0
  lastCycle := 0
  cycleAt := 0
  rot := 0
  slice := none
  waiting := none
  spare := none
  withdrawn := none
  failHold := none
  pausedAt := 0

/-- A journal entry (R516) before its index and check are known (17_journal_otp_security.md). -/
structure Entry where
  /-- timestamp (R516). -/
  time : Nat
  /-- UNSYNCED (R516). -/
  unsynced : Bool
  /-- ORIGIN (R516). -/
  origin : Nat
  /-- ITEM (R516). -/
  item : Nat
  /-- OLD (R516). -/
  old : BitVec 32
  /-- NEW (R516). -/
  new : BitVec 32
  /-- CTX_A (R516). -/
  ctxA : Nat
  /-- CTX_B (R516). -/
  ctxB : Nat
deriving DecidableEq, Repr

/-- The values of Entry at reset: the spec's, and those of the log entries INVENTORY.md names. -/
def Entry.reset : Entry where
  time := 0
  unsynced := true
  origin := 0
  item := 0
  old := 0
  new := 0
  ctxA := 0
  ctxB := 0

/-- Change journal and time (17_journal_otp_security.md). -/
structure Journal where
  /-- entries kept, oldest first, as words 0-5 (R514). -/
  entries : List (List (BitVec 32))
  /-- NEXT (R514). -/
  next : Nat
  /-- wrap count (R514). -/
  wraps : Nat
  /-- the writer's copy of the last entry (R521). -/
  prev : List (BitVec 32)
  /-- entries committed and not yet written (R294, R518). -/
  q27 : List Entry
  /-- time at which the count below was set (R523). -/
  timeAt : Nat
  /-- count at that moment (R523). -/
  timeMs : Nat
  /-- time counts from the almanac epoch (R523). -/
  synced : Bool
  /-- CK_PHASE cycles per ms of the time once synced, 24.8 fixed point (R351, R352). -/
  rate : Nat
deriving DecidableEq, Repr

/-- The values of Journal at reset: the spec's, and those of the log entries INVENTORY.md names. -/
def Journal.reset : Journal where
  entries := []
  next := 0
  wraps := 0
  prev := [0, 0, 0, 0, 0, 0]
  q27 := []
  timeAt := 0
  timeMs := 0
  synced := false
  rate := 98304000

/-- OTP content (17_journal_otp_security.md). -/
structure Otp where
  /-- generation blocks (R525). -/
  gens : List (List (BitVec 32))
  /-- VALID_g (R525). -/
  valid : List (BitVec 64)
  /-- RETIRED_g (R525). -/
  retired : List (BitVec 64)
  /-- generation loaded (R434, R530). -/
  used : Option Nat
  /-- UID from trim (R434). -/
  uid : BitVec 64
  /-- vendor key hash (R525). -/
  vendorHash : Option (List (BitVec 32))
  /-- customer key hash (R525). -/
  custHash : Option (List (BitVec 32))
  /-- device secret (R525). -/
  secret : Option (List (BitVec 32))
  /-- readback failure marker of the hash (R525). -/
  custFail : Bool
  /-- readback failure marker of the secret (R525). -/
  secretFail : Bool
  /-- CUST_HASH_0-7 (R533). -/
  stageHash : List (BitVec 32)
  /-- SECRET_0-7 (R533). -/
  stageSecret : List (BitVec 32)
  /-- generation being programmed and its block (R532). -/
  burning : Option (Nat × List (BitVec 32))
  /-- g_trim in ppm (R143). -/
  gTrim : List Int
  /-- o_trim in LSB (R143). -/
  oTrim : List Int
  /-- tc in ppm per K (R143). -/
  tc : List Int
  /-- deviation of the LFO from 32.768 kHz at 25 C that trim holds (R72). -/
  lfoPpm : Int
  /-- its slope over the die temperature (R72). -/
  lfoTc : Int
  /-- leat gain trim in ppm (R163). -/
  leatGain : List Int
  /-- leat offset trim in uV (R163). -/
  leatOfs : List Int
  /-- OTP words with an uncorrectable error (R527). -/
  bad : List Nat
deriving DecidableEq, Repr

/-- The values of Otp at reset: the spec's, and those of the log entries INVENTORY.md names. -/
def Otp.reset : Otp where
  gens := List.replicate 4 (List.replicate 64 0)
  valid := [0, 0, 0, 0]
  retired := [0, 0, 0, 0]
  used := none
  uid := 0
  vendorHash := some (List.replicate 8 0)
  custHash := none
  secret := none
  custFail := false
  secretFail := false
  stageHash := List.replicate 8 0
  stageSecret := List.replicate 8 0
  burning := none
  gTrim := List.replicate 25 0
  oTrim := List.replicate 25 0
  tc := List.replicate 25 0
  lfoPpm := 0
  lfoTc := 0
  leatGain := List.replicate 24 0
  leatOfs := List.replicate 24 0
  bad := []

/-- Service session (17_journal_otp_security.md). -/
structure Session where
  /-- OPEN (R533). -/
  isOpen : Bool
  /-- TESTER_ID (R533). -/
  tester : Nat
  /-- time of the accepted ANSWER (R536). -/
  openAt : Nat
  /-- live nonce (R534). -/
  nonce : Option (List (BitVec 32))
  /-- TESTER_ID of the CHALLENGE (R473). -/
  asked : Nat
  /-- consecutive failed ANSWERs (R533). -/
  failRun : Nat
  /-- failed ANSWERs since the journal was lost (R533). -/
  fails : Nat
  /-- time of the last failure (R535). -/
  failAt : Nat
  /-- cause of a session end still to be journalled (R536). -/
  ended : Nat
deriving DecidableEq, Repr

/-- The values of Session at reset: the spec's, and those of the log entries INVENTORY.md names. -/
def Session.reset : Session where
  isOpen := false
  tester := 0
  openAt := 0
  nonce := none
  asked := 0
  failRun := 0
  fails := 0
  failAt := 0
  ended := 0

/-- Every piece of state the spec gives the block. -/
structure Dev where
  /-- the part (DESIGN CHOICE TL2440, log 1). -/
  part : Part
  /-- CK_PHASE cycles counted by the model's tick (the model's own, log 2). -/
  now : Nat
  /-- counter of the free values drawn (the model's own, log 5). -/
  free : Nat
  /-- supply and power state. -/
  power : Power
  /-- clocks and gating. -/
  clk : Clocks
  /-- pins. -/
  pins : Pins
  /-- timebase and ephemeris. -/
  tb : Timebase
  /-- conversion, history and captures. -/
  conv : Conv
  /-- auxiliary converter and leat. -/
  aux : Aux
  /-- comparators. -/
  cmp : Cmp
  /-- trip path. -/
  trip : Trip
  /-- passive balancing. -/
  bal : Bal
  /-- active bank drivers A-D. -/
  banks : List Bank
  /-- impedance. -/
  eis : Eis
  /-- engines and flumes. -/
  eng : Eng
  /-- die-to-die bus. -/
  d2d : D2d
  /-- link. -/
  link : Link
  /-- ring membership. -/
  ring : Ring
  /-- head's frames. -/
  head : Head
  /-- host port. -/
  host : HostIf
  /-- command execution. -/
  cmd : Cmd
  /-- faults. -/
  fault : Faults
  /-- self-test. -/
  bist : Bist
  /-- journal and time. -/
  jrn : Journal
  /-- OTP. -/
  otp : Otp
  /-- service session. -/
  sess : Session
  /-- configuration items that differ from their reset values, by rising ID. -/
  cfg : List (Nat × Int)
deriving DecidableEq, Repr

/-- The block right after reset: the core die of a TL2440 strapped as head has just left reset on the boot clock (R70 step 7). -/
def Dev.reset : Dev where
  part := .tl2440
  now := 0
  free := 0
  power := Power.reset
  clk := Clocks.reset
  pins := Pins.reset
  tb := Timebase.reset
  conv := Conv.reset
  aux := Aux.reset
  cmp := Cmp.reset
  trip := Trip.reset
  bal := Bal.reset
  banks := List.replicate 4 Bank.reset
  eis := Eis.reset
  eng := Eng.reset
  d2d := D2d.reset
  link := Link.reset
  ring := Ring.reset
  head := Head.reset
  host := HostIf.reset
  cmd := Cmd.reset
  fault := Faults.reset
  bist := Bist.reset
  jrn := Journal.reset
  otp := Otp.reset
  sess := Session.reset
  cfg := []

/-- The block and the queue of commands that wait, first in first out. -/
structure State extends Dev where
  /-- commands waiting, first in first out. -/
  pending : List Instr
deriving DecidableEq, Repr

/-- The block right after reset, no command waiting (log 3 says which moment that is). -/
def State.reset : State := { toDev := Dev.reset, pending := [] }

end Sys2Proof.Machine
end

