-- ==== Sys2Proof/Machine/Items.lean ====
section
/-! DEFINITION. The configuration item catalogue (14_aeddo_command_reference.md R442 and the item tables of the
chapters), the variants' units (00_scope.md R4), and the item list of the state. -/

namespace Sys2Proof.Machine

/-- Cell channels of a part (R4). -/
def Part.cells : Part → Nat
  | .tl1612 => 16
  | _ => 24

/-- Engines of a part (R4). -/
def Part.engines : Part → Nat
  | .tl2440 => 16
  | .tl2424 => 8
  | .tl1612 => 4

/-- Active bank drivers are present (R4). -/
def Part.hasBanks (p : Part) : Bool := p == .tl2440

/-- Impedance frequencies per cell (R4); 0 = impedance absent. -/
def Part.freqs : Part → Nat
  | .tl2440 => 8
  | .tl2424 => 4
  | .tl1612 => 0

/-- SRAM in MiB (R4). -/
def Part.sramMib : Part → Nat
  | .tl2440 => 4
  | .tl2424 => 2
  | .tl1612 => 1

/-- Descriptor pool (R4). -/
def Part.pool : Part → Nat
  | .tl2440 => 2048
  | .tl2424 => 1024
  | .tl1612 => 512

/-- Mask of the present cells. -/
def Part.cellMask (p : Part) : Nat := 2 ^ p.cells - 1

/-- CAP0 (R6). -/
def Part.cap0 : Part → Word
  | .tl2440 => 0x08F41018
  | .tl2424 => 0x04020818
  | .tl1612 => 0x00010410

/-- CAP1 (R6). -/
def Part.cap1 : Part → Word
  | .tl2440 => 0x11FFFFFF
  | .tl2424 => 0x09FFFFFF
  | .tl1612 => 0x0500FFFF

/-- What values an item takes. `rng true lo hi` is 0 or lo to hi. -/
inductive ItemKind where
  | rng (zero : Bool) (lo hi : Int)
  | win16 | win12 | esc | unit | unitff | gpio | ro
deriving DecidableEq, Repr

/-- A row of the catalogue: what it takes, its reset value (one that differs between items or parts is given by
itemReset), head-only, session-only, and act: held by its own block and not in the item list. -/
structure Item where
  kind : ItemKind
  reset : Int
  head : Bool
  session : Bool
  act : Bool
deriving DecidableEq, Repr

/-- Rows of the item catalogue (14_aeddo_command_reference.md R442), part 0. -/
def itemRows0 : List (Nat × Nat × Item) :=
  [(0x0101, 1, ⟨.rng false 0 33554431, 0, false, false, false⟩),
   (0x0102, 1, ⟨.rng false 0 1, 0, false, false, false⟩),
   (0x0103, 1, ⟨.rng false 0 4, 2, false, false, false⟩),
   (0x0104, 1, ⟨.rng false 0 1, 0, false, false, false⟩),
   (0x0105, 1, ⟨.rng false 0 255, 0, false, false, false⟩),
   (0x0106, 1, ⟨.rng false 0 1, 0, false, false, false⟩),
   (0x0107, 1, ⟨.rng false 0 1, 1, false, false, false⟩),
   (0x0111, 24, ⟨.rng false (-2000) 2000, 0, false, false, false⟩),
   (0x0129, 1, ⟨.rng false (-2000) 2000, 0, false, false, false⟩),
   (0x0131, 24, ⟨.rng false (-5000) 5000, 0, false, false, false⟩),
   (0x0149, 1, ⟨.rng false (-5000) 5000, 0, false, false, false⟩),
   (0x0150, 1, ⟨.ro, 0, false, false, false⟩),
   (0x0201, 1, ⟨.rng false 0 16777215, 0, false, false, false⟩),
   (0x0202, 1, ⟨.rng false 20 400, 40, false, false, false⟩),
   (0x0203, 1, ⟨.rng false 5 50, 5, false, false, false⟩),
   (0x0204, 1, ⟨.rng false 2000 20000, 2000, false, false, false⟩),
   (0x0205, 1, ⟨.rng false 100 5000, 1000, false, false, false⟩),
   (0x0206, 1, ⟨.rng false 100 5000, 500, false, false, false⟩),
   (0x0207, 1, ⟨.rng false 100 2000, 500, false, false, false⟩),
   (0x0208, 1, ⟨.rng false 10 1000, 100, false, false, false⟩),
   (0x0209, 1, ⟨.rng false 0 3600, 0, false, false, false⟩),
   (0x020A, 1, ⟨.rng false 0 1, 0, false, false, true⟩),
   (0x0211, 7, ⟨.win16, 0, false, false, false⟩),
   (0x0230, 1, ⟨.ro, 0, false, false, false⟩)]

/-- Rows of the item catalogue (14_aeddo_command_reference.md R442), part 1. -/
def itemRows1 : List (Nat × Nat × Item) :=
  [(0x0231, 1, ⟨.ro, 0, false, false, false⟩),
   (0x0232, 1, ⟨.ro, 0, false, false, false⟩),
   (0x0233, 1, ⟨.ro, 0, false, false, false⟩),
   (0x0234, 1, ⟨.ro, 0, false, false, false⟩),
   (0x0235, 1, ⟨.ro, 0, false, false, false⟩),
   (0x02F0, 1, ⟨.ro, 0, false, false, false⟩),
   (0x0301, 1, ⟨.rng false 0 16777215, 0, false, false, false⟩),
   (0x0302, 1, ⟨.rng false 0 16777215, 0, false, false, false⟩),
   (0x0303, 1, ⟨.rng false 0 4, 2, false, false, false⟩),
   (0x0304, 1, ⟨.rng false 0 4, 2, false, false, false⟩),
   (0x0305, 1, ⟨.rng false 0 16, 4, false, false, false⟩),
   (0x0306, 1, ⟨.rng false 0 16, 4, false, false, false⟩),
   (0x0307, 1, ⟨.rng false 0 65535, 0, false, false, false⟩),
   (0x0308, 1, ⟨.rng false 0 4, 1, false, false, false⟩),
   (0x0309, 1, ⟨.rng false 0 16, 16, false, false, false⟩),
   (0x030A, 1, ⟨.rng false 0 7, 0, false, false, false⟩),
   (0x030B, 1, ⟨.rng false 0 1, 0, false, false, false⟩),
   (0x0311, 24, ⟨.rng false 200 550, 550, false, false, false⟩),
   (0x0331, 24, ⟨.rng false 50 400, 50, false, false, false⟩),
   (0x0351, 16, ⟨.win12, 268369920, false, false, false⟩),
   (0x0401, 1, ⟨.rng false 0 1, 0, false, false, false⟩),
   (0x0402, 1, ⟨.rng false 1 1024, 1, false, false, false⟩),
   (0x0403, 1, ⟨.rng false 0 255, 0, false, false, false⟩),
   (0x0404, 1, ⟨.rng false 0 255, 10, false, false, false⟩)]

/-- Rows of the item catalogue (14_aeddo_command_reference.md R442), part 2. -/
def itemRows2 : List (Nat × Nat × Item) :=
  [(0x0405, 1, ⟨.rng false 50 7200, 2400, false, false, false⟩),
   (0x0406, 1, ⟨.rng false 10 300, 200, false, false, false⟩),
   (0x0407, 1, ⟨.rng false 0 36000, 100, false, false, false⟩),
   (0x0408, 1, ⟨.rng false 5 100, 20, false, false, false⟩),
   (0x0410, 25, ⟨.rng false 0 2000, 0, false, false, false⟩),
   (0x0430, 1, ⟨.rng false 100 1000, 500, false, false, false⟩),
   (0x0431, 1, ⟨.rng false 1 300, 30, false, false, false⟩),
   (0x0432, 1, ⟨.rng false 50 1000, 200, false, false, false⟩),
   (0x0433, 1, ⟨.rng true 200 550, 0, false, false, false⟩),
   (0x0434, 1, ⟨.rng true 50 400, 0, false, false, false⟩),
   (0x0440, 1, ⟨.ro, 0, false, false, false⟩),
   (0x0441, 1, ⟨.ro, 0, false, false, false⟩),
   (0x0442, 1, ⟨.ro, 0, false, false, false⟩),
   (0x0443, 1, ⟨.ro, 0, false, false, false⟩),
   (0x0444, 1, ⟨.ro, 0, false, false, false⟩),
   (0x0445, 1, ⟨.ro, 0, false, false, false⟩),
   (0x0446, 1, ⟨.ro, 2048, false, false, false⟩),
   (0x0447, 1, ⟨.ro, 0, false, false, false⟩),
   (0x0451, 24, ⟨.ro, 0, false, false, false⟩),
   (0x0471, 4, ⟨.ro, 0, false, false, false⟩),
   (0x0481, 24, ⟨.ro, 0, false, false, false⟩),
   (0x04A1, 4, ⟨.ro, 0, false, false, false⟩),
   (0x0501, 1, ⟨.rng false 0 255, 230, false, false, false⟩),
   (0x0502, 1, ⟨.rng false 0 255, 40, false, false, false⟩)]

/-- Rows of the item catalogue (14_aeddo_command_reference.md R442), part 3. -/
def itemRows3 : List (Nat × Nat × Item) :=
  [(0x0503, 1, ⟨.rng false 0 255, 230, false, false, false⟩),
   (0x0504, 1, ⟨.rng true 10 100000, 0, false, false, false⟩),
   (0x0505, 1, ⟨.rng false 0 1, 0, false, false, false⟩),
   (0x0506, 1, ⟨.rng false 0 1000000, 250000, false, false, false⟩),
   (0x0507, 1, ⟨.rng false 0 8, 8, false, false, false⟩),
   (0x0508, 1, ⟨.rng false 0 16777215, 0, false, false, false⟩),
   (0x0509, 1, ⟨.rng false 0 1, 0, false, false, false⟩),
   (0x0520, 1, ⟨.ro, 0, false, false, false⟩),
   (0x0521, 1, ⟨.ro, 0, false, false, false⟩),
   (0x0522, 1, ⟨.ro, 0, false, false, false⟩),
   (0x05F0, 3, ⟨.ro, 0, false, false, false⟩),
   (0x0601, 1, ⟨.rng false 0 2, 0, true, false, false⟩),
   (0x0602, 1, ⟨.rng false 1000 5000000, 1000000, false, false, false⟩),
   (0x0603, 1, ⟨.rng false 1 32, 1, true, false, false⟩),
   (0x0604, 1, ⟨.rng false 0 1, 0, true, false, false⟩),
   (0x0605, 1, ⟨.rng false 0 4294967295, 0, true, false, false⟩),
   (0x0606, 1, ⟨.rng false 0 255, 0, true, false, false⟩),
   (0x0607, 1, ⟨.rng false 4 10, 6, false, false, false⟩),
   (0x0608, 1, ⟨.rng false 0 1, 0, true, false, false⟩),
   (0x0609, 1, ⟨.rng false 1 32, 1, true, false, false⟩),
   (0x06F0, 4, ⟨.ro, 0, false, false, false⟩),
   (0x0701, 1, ⟨.rng false 0 1, 0, true, false, false⟩),
   (0x0702, 1, ⟨.rng false 0 1, 0, true, false, false⟩),
   (0x0703, 1, ⟨.rng false 100 100000, 1000, true, false, false⟩)]

/-- Rows of the item catalogue (14_aeddo_command_reference.md R442), part 4. -/
def itemRows4 : List (Nat × Nat × Item) :=
  [(0x0704, 1, ⟨.rng false 1 61, 61, true, false, false⟩),
   (0x0705, 1, ⟨.rng false 0 4294967295, 0, true, false, false⟩),
   (0x0706, 1, ⟨.rng false 0 65535, 0, true, false, false⟩),
   (0x0707, 1, ⟨.rng false (-1000) 1000, 0, true, false, false⟩),
   (0x0708, 1, ⟨.rng false 0 3, 0, true, false, false⟩),
   (0x0710, 1, ⟨.rng false 0 1, 1, true, false, false⟩),
   (0x0711, 1, ⟨.rng false 1 255, 8, true, false, false⟩),
   (0x0800, 128, ⟨.esc, 0, false, false, false⟩),
   (0x0880, 1, ⟨.unit, 0, false, false, true⟩),
   (0x0881, 1, ⟨.ro, 0, false, false, false⟩),
   (0x0882, 1, ⟨.ro, 0, false, false, false⟩),
   (0x0883, 1, ⟨.ro, 0, false, false, false⟩),
   (0x0884, 1, ⟨.ro, 255, false, false, false⟩),
   (0x0885, 1, ⟨.unitff, 65535, false, false, false⟩),
   (0x0886, 1, ⟨.ro, 0, false, false, false⟩),
   (0x0887, 1, ⟨.ro, 0, false, false, false⟩),
   (0x0901, 1, ⟨.rng false 10 200, 50, false, false, false⟩),
   (0x0902, 1, ⟨.rng false 0 31, 31, false, false, false⟩),
   (0x0903, 1, ⟨.rng false 0 2000, 600, false, false, false⟩),
   (0x0A01, 1, ⟨.rng false 1 600, 10, false, false, false⟩),
   (0x0A02, 1, ⟨.rng true 200 550, 0, false, false, false⟩),
   (0x0A03, 1, ⟨.rng true 50 400, 0, false, false, false⟩),
   (0x0A04, 1, ⟨.rng false 0 65535, 0, false, false, false⟩),
   (0x0A05, 1, ⟨.rng false 0 86400, 0, false, false, false⟩)]

/-- Rows of the item catalogue (14_aeddo_command_reference.md R442), part 5. -/
def itemRows5 : List (Nat × Nat × Item) :=
  [(0x0A06, 1, ⟨.rng true 16000 32000, 0, false, false, false⟩),
   (0x0A07, 1, ⟨.rng false 0 1, 0, false, false, false⟩),
   (0x0A08, 1, ⟨.rng false 1 7, 7, false, false, false⟩),
   (0x0A09, 1, ⟨.rng false 1 100, 1, false, false, false⟩),
   (0x0A11, 4, ⟨.gpio, 0, false, false, true⟩),
   (0x0A15, 1, ⟨.rng true 3 4, 0, false, false, false⟩),
   (0x0B01, 1, ⟨.ro, 0, false, false, false⟩),
   (0x0B02, 1, ⟨.ro, 0, false, false, false⟩),
   (0x0B03, 1, ⟨.rng false 60 7200, 1800, false, true, false⟩),
   (0x0B04, 1, ⟨.ro, 0, false, false, false⟩),
   (0x0B11, 8, ⟨.rng false 0 4294967295, 0, false, true, true⟩),
   (0x0B19, 1, ⟨.rng false 0 4294967295, 0, false, true, true⟩),
   (0x0B21, 8, ⟨.rng false 0 4294967295, 0, false, false, true⟩),
   (0x0B29, 1, ⟨.rng false 0 4294967295, 0, false, false, true⟩),
   (0x0BE0, 4, ⟨.ro, 0, false, false, false⟩),
   (0x0BF0, 3, ⟨.ro, 0, false, false, false⟩),
   (0x0BF3, 5, ⟨.ro, 0, false, false, false⟩)]

/-- The item catalogue (R442). -/
def itemRows : List (Nat × Nat × Item) :=
  itemRows0 ++ itemRows1 ++ itemRows2 ++ itemRows3 ++ itemRows4 ++ itemRows5

/-- Event sources by runs: first, last, info, permitted reactions, reset COUNT, WINDOW_MS and REACTION
(15_faults_and_sluices.md R479, table "Event catalogue"). -/
def escRows : List (Nat × Nat × Bool × List Nat × Nat × Nat × Nat) :=
  [(0, 47, false, [0, 4, 5], 1, 1000, 0), (48, 63, false, [0, 5], 1, 1000, 0),
   (64, 65, false, [0, 3, 5], 16, 100, 0), (66, 66, false, [0], 1, 1000, 0), (67, 67, false, [0], 4, 1000, 0),
   (68, 68, false, [0], 4, 100, 0), (69, 72, true, [0], 0, 0, 0), (73, 73, false, [0], 1, 1000, 0),
   (74, 74, true, [0], 0, 0, 0), (75, 76, false, [0], 1, 1000, 0), (77, 77, true, [0], 0, 0, 0),
   (78, 79, false, [0], 1, 1000, 0), (80, 80, false, [0, 2, 5], 2, 1000, 2), (81, 81, false, [0, 5], 4, 1000, 0),
   (82, 82, false, [0, 2, 5], 2, 1000, 2), (83, 83, false, [0, 2], 4, 1000, 2), (84, 84, false, [0], 8, 1000, 0),
   (85, 85, false, [0, 5], 8, 1000, 0), (86, 86, true, [0], 0, 0, 0), (87, 88, false, [0, 5], 1, 1000, 0),
   (89, 89, false, [0, 1, 5], 3, 1000, 1), (90, 90, false, [0], 255, 1000, 0), (91, 91, false, [0, 5], 1, 1000, 0),
   (92, 92, false, [0], 1, 60000, 0), (93, 93, false, [0, 5], 1, 1000, 0), (94, 94, false, [0, 5], 255, 1000, 0),
   (95, 95, false, [0, 5], 3, 1000, 0), (96, 96, true, [0], 0, 0, 0), (97, 100, false, [0], 1, 1000, 0),
   (101, 101, false, [0, 5], 1, 1000, 0), (102, 102, true, [0], 0, 0, 0), (103, 103, false, [0], 1, 1000, 0),
   (104, 108, false, [0, 5], 1, 1000, 0), (109, 109, false, [0], 1, 1000, 0), (110, 110, false, [0, 5], 1, 1000, 0),
   (111, 114, true, [0], 0, 0, 0), (115, 115, false, [0, 1], 255, 1000, 0), (116, 116, true, [0], 0, 0, 0),
   (117, 117, false, [0, 1, 4, 5], 3, 100, 1), (118, 118, false, [0], 1, 1000, 0),
   (119, 119, false, [0, 1, 4, 5], 1, 1000, 0), (120, 120, false, [0, 5], 4, 1000, 0),
   (121, 121, false, [0, 1, 4, 5], 1, 1000, 4), (122, 122, false, [0, 4, 5], 2, 1000, 4),
   (123, 123, true, [0], 0, 0, 0), (124, 124, false, [0, 5], 3, 60000, 0), (125, 125, false, [0], 255, 1000, 0),
   (126, 126, false, [0, 1, 2, 3, 4, 5], 1, 1000, 1), (127, 127, false, [0, 5], 1, 1000, 0)]

/-- The catalogue row of source k. -/
def escRow (k : Nat) : Option (Bool × List Nat × Nat × Nat × Nat) :=
  (escRows.find? (fun r => r.1 ≤ k && k ≤ r.2.1)).map (fun r => r.2.2)

/-- Source k is counted but never becomes severe (R479). -/
def isInfo (k : Nat) : Bool := ((escRow k).map (fun r => r.1)).getD true

/-- The reactions permitted for source k (R479). -/
def permitted (k : Nat) : List Nat := ((escRow k).map (fun r => r.2.1)).getD [0]

/-- Reset value of FAULT_ESC_k (R445, R479). -/
def escReset (k : Nat) : Int :=
  match escRow k with
  | some (false, _, c, w, r) => (w * 2 ^ 16 + c * 2 ^ 8 + r : Nat)
  | _ => 0

/-- Source k belongs to a unit this part lacks (R474). -/
def srcAbsent (p : Part) (k : Nat) : Bool :=
  (p == .tl1612 && ((16 ≤ k && k ≤ 23) || (40 ≤ k && k ≤ 47) || k == 123)) || (!p.hasBanks && k == 122)

/-- The catalogue row of an item, none for an unknown ID. -/
def itemOf (id : Nat) : Option Item :=
  (itemRows.find? (fun r => r.1 ≤ id && id < r.1 + r.2.1)).map (fun r => r.2.2)

/-- The item belongs to a unit this part lacks (R474). -/
def itemAbsent (p : Part) (id : Nat) : Bool :=
  (!p.hasBanks && ((0x0430 ≤ id && id ≤ 0x0434) || (0x0471 ≤ id && id ≤ 0x0474) ||
    (0x04A1 ≤ id && id ≤ 0x04A4) || id == 0x0A15)) ||
  (p == .tl1612 && ((0x0500 ≤ id && id < 0x0600) ||
    [0x0110, 0x0130, 0x0310, 0x0330, 0x0410, 0x0450, 0x0480].any (fun b => b + 17 ≤ id && id ≤ b + 24))) ||
  (0x0800 ≤ id && id ≤ 0x087F && srcAbsent p (id - 0x0800))

/-- The reset SAR windows (06_aux_path_and_leat.md R185, table "Reset SAR windows"). -/
def sarWinReset (w : Nat) : Nat :=
  let lh := nth [(3932, 62041), (50244, 58982), (54067, 55159), (48660, 49644)] (w - 1) (0, 65535)
  lh.2 * 2 ^ 16 + lh.1

/-- Reset value of an item. -/
def itemReset (p : Part) (id : Nat) : Int :=
  if id == 0x0101 then (2 ^ 24 + p.cellMask : Nat)
  else if id == 0x0201 || id == 0x0301 || id == 0x0302 then (p.cellMask : Nat)
  else if 0x0211 ≤ id && id ≤ 0x0217 then (sarWinReset (id - 0x0210) : Nat)
  else if 0x0800 ≤ id && id ≤ 0x087F then escReset (id - 0x0800)
  else ((itemOf id).map (fun i => i.reset)).getD 0

/-- Entry of the item list. -/
def cfgGet (p : Part) (l : List (Nat × Int)) (id : Nat) : Int := (akey l id).getD (itemReset p id)

/-- Insertion of an entry into a list with rising IDs. -/
def cfgIns (id : Nat) (v : Int) : List (Nat × Int) → List (Nat × Int)
  | [] => [(id, v)]
  | e :: t => if id < e.1 then (id, v) :: e :: t else if id = e.1 then (id, v) :: t else e :: cfgIns id v t

/-- Writing an item: a value equal to the reset value takes the entry out. -/
def cfgPut (p : Part) (l : List (Nat × Int)) (id : Nat) (v : Int) : List (Nat × Int) :=
  if v = itemReset p id then l.filter (fun e => e.1 != id) else cfgIns id v l

/-- The canonical form of the item list: IDs strictly rising, no entry equal to its reset value. -/
def cfgWf (p : Part) (l : List (Nat × Int)) : Bool :=
  decide ((l.map (fun e => e.1)).Pairwise (· < ·)) && l.all (fun e => decide (e.2 ≠ itemReset p e.1))

/-- A read-write item as it stands. -/
def item (d : Dev) (id : Nat) : Int := cfgGet d.part d.cfg id

/-- An item without sign as it stands. -/
def itemN (d : Dev) (id : Nat) : Nat := (item d id).toNat

/-- The device with an item written. -/
def setItem (d : Dev) (id : Nat) (v : Int) : Dev := { d with cfg := cfgPut d.part d.cfg id v }

/-- The value an item takes from a 32-bit word: signed where its range reaches below 0 (R439). -/
def itemValue (id : Nat) (w : Word) : Int :=
  match itemOf id with
  | some ⟨.rng _ lo _, _, _, _, _⟩ => if lo < 0 then w.toInt else w.toNat
  | _ => w.toNat

/-- An item's value as a 32-bit word. -/
def itemWord (v : Int) : Word := BitVec.ofInt 32 v

/-- A unit code names a kind and a unit of that kind (R499). -/
def unitOk (v : Nat) : Bool :=
  let k := v / 256
  let u := v % 256
  (k == 1 && 1 ≤ u && u ≤ 25) || (k == 2 && u ≤ 15) || (k == 3 && u ≤ 1) || (k == 4 && 1 ≤ u && u ≤ 4)

/-- The value lies in the item's range (R439, and R445 with R479 for FAULT_ESC_k). -/
def inRange (id : Nat) (v : Int) : Bool :=
  match itemOf id with
  | none => false
  | some i =>
    match i.kind with
    | .rng z lo hi => (z && v == 0) || (decide (lo ≤ v) && decide (v ≤ hi))
    | .win16 => decide ((v.toNat % 2 ^ 16) ≤ v.toNat / 2 ^ 16)
    | .win12 => v.toNat / 2 ^ 28 == 0 && (v.toNat / 2 ^ 12) % 16 == 0 &&
        decide (v.toNat % 2 ^ 12 ≤ (v.toNat / 2 ^ 16) % 2 ^ 12)
    | .esc =>
      let k := id - 0x0800
      let r := v.toNat % 16
      if isInfo k then (v.toNat / 16) % 16 == 0 && r == 0
      else (v.toNat / 16) % 16 == 0 && (permitted k).contains r && decide (1 ≤ (v.toNat / 256) % 256) &&
        decide (1 ≤ v.toNat / 2 ^ 16) && decide (v.toNat / 2 ^ 16 ≤ 60000)
    | .unit => unitOk v.toNat
    | .unitff => v == 65535 || unitOk v.toNat
    | .gpio => v.toNat % 4 != 3 && (v.toNat / 2 ^ 13) == 0 && (v.toNat / 32) % 8 == 0 && (v.toNat / 4) % 4 == 0
    | .ro => false

end Sys2Proof.Machine
end

