-- ==== Sys2Proof/Config.lean ====
section
/-! DEFINITION. Free values: what the spec leaves open and the block nevertheless produces. None has a body,
so no proof can rest on what it is. -/

namespace Sys2Proof.Config

/-- The n-th word of the device's random source (17_journal_otp_security.md R534); log 5. -/
opaque freeWord : Nat → BitVec 32

/-- The n-th measurement of HFO against CK_PHASE in ppm (04_phase_timebase.md R108); log 11. -/
opaque hfoRatio : Nat → Int

/-- Which neighbour a value between two codes takes where the spec states no rounding: true for the upper one, given
the value in units of the code (05_cell_conversion.md R143); log 25. -/
opaque roundUp : Rat → Bool

/-- The 64-bit SRAM word that holds an object: kind 0 the history sample of channel k mod 32 in record position k / 32,
kind 1 a third of a journal entry, kind 2 a quarter of a descriptor; the spec gives no map (log 41). -/
opaque sramWord : Nat → Nat → Nat

/-- The SRAM byte address of the result of a job, by kernel and channel; the spec gives no map (10_engines_and_flumes.md R291,
log 41). -/
opaque jobTarget : Nat → Nat → BitVec 22

/-- The error of a function that the block computes, by the function's number and arguments (R246, R270, R271, R279: the spec
states no precision); it enters within bounds (Trig.lean, log 26). -/
opaque calcError : Nat → Rat → Rat → Rat

/-- The value in nV that the weighted share of 1 bits of a modulator stands for (05_cell_conversion.md R127, R143): the spec
gives no full scale. Arguments: channel from 0, SH_RANGE, share (log 87). -/
opaque modNv : Nat → Nat → Rat → Int

end Sys2Proof.Config
end

