-- ==== Sys2Proof/Machine/Trig.lean ====
section
/-! DEFINITION. Sine, arctangent, logarithm and square root as the block computes them (08_balancing.md R246,
09_impedance.md R270, R271, R279): in units of 2^-64, with a free error of at most 2^-20 of the result's unit, since the
spec states no precision (log 26). -/

namespace Sys2Proof.Machine

/-- A rational in units of 2^-64. -/
def fx (q : Rat) : Int := (q * 2 ^ 64).floor

/-- A number of units of 2^-64 as a rational. -/
def fxRat (x : Int) : Rat := (x : Rat) / 2 ^ 64

/-- A product in units of 2^-64. -/
def fxMul (a b : Int) : Int := a * b / 2 ^ 64

/-- The circle constant in units of 2^-64. -/
def fxPi : Int := fx (3141592653589793238462643383279 / 1000000000000000000000000000000)

/-- n terms of the alternating series whose next term follows t of order k (the series of sine and cosine). -/
def circularSeries (x2 : Int) : Nat → Nat → Int → Int
  | 0, _, _ => 0
  | n + 1, k, t => t + circularSeries x2 n (k + 2) (-(fxMul t x2) / ((k + 1) * (k + 2)))

/-- n terms of the sum of s^j p / (2 j + 1), p multiplied by x2 at each term, from order k on. -/
def oddSeries (s x2 : Int) : Nat → Nat → Int → Int
  | 0, _, _ => 0
  | n + 1, k, p => p / k + oddSeries s x2 n (k + 2) (s * fxMul p x2)

/-- Square root of a number of units of 2^-64. -/
def fxSqrt (x : Int) : Int := (Nat.sqrt (x.toNat * 2 ^ 64) : Nat)

/-- Half of an arctangent's argument: the tangent of half the angle whose tangent is z. -/
def halfTan (z : Int) : Int := z * 2 ^ 64 / (2 ^ 64 + fxSqrt (2 ^ 64 + fxMul z z))

/-- Arctangent of -1 to 1. -/
def fxAtan (z : Int) : Int :=
  let h := halfTan (halfTan z)
  4 * oddSeries (-1) (fxMul h h) 24 1 h

/-- A free error of function f at its arguments. -/
def slack (f : Nat) (a b : Rat) : Rat := max (-1 / 2 ^ 20) (min (1 / 2 ^ 20) (Config.calcError f a b))

/-- An angle in turns brought to -1/2 to 1/2, in units of 2^-64 rad. -/
def turnRad (q : Rat) : Int := fxMul (2 * fxPi) (fx (q - rround q))

/-- cos of q turns (R270). -/
def cosTurn (q : Rat) : Rat :=
  let x := turnRad q
  fxRat (circularSeries (fxMul x x) 20 0 (2 ^ 64)) + slack 0 q 0

/-- sin of q turns (R246, R270). -/
def sinTurn (q : Rat) : Rat :=
  let x := turnRad q
  fxRat (circularSeries (fxMul x x) 20 1 x) + slack 1 q 0

/-- atan2 (y, x) in 0.01 degrees (R279); at the origin its value is free. -/
def atan2 (y x : Rat) : Rat :=
  if x = 0 ∧ y = 0 then Config.calcError 2 0 0
  else
    let steep := decide (x * x < y * y)
    let base := if steep then fxAtan (fx (x / y)) else fxAtan (fx (y / x))
    let half := if y < 0 then -(fxPi / 2) else fxPi / 2
    let r := if steep then half - base else if x < 0 then base + 2 * half else base
    18000 * (r : Rat) / (fxPi : Rat) + slack 2 y x

/-- Natural logarithm of q above 0: q = m * 2^k, and ln m by the series of the inverse hyperbolic tangent. -/
def logNat (q : Rat) : Rat :=
  let ln := fun (m : Rat) => let u := fx ((m - 1) / (m + 1)); fxRat (2 * oddSeries 1 (fxMul u u) 40 1 u)
  let k : Int := (Nat.log2 q.num.toNat : Int) - Nat.log2 q.den
  (k : Rat) * ln 2 + ln (q / (if 0 ≤ k then (2 : Rat) ^ k.toNat else 1 / (2 : Rat) ^ (-k).toNat))

/-- 10 log10 of q above 0 (R271). -/
def decibel (q : Rat) : Rat := 10 * logNat q / logNat 10 + slack 3 q 0

/-- Square root of q (R271, R289). -/
def root (q : Rat) : Rat := fxRat (fxSqrt (fx q)) + slack 4 q 0

end Sys2Proof.Machine
end

