-- ==== Sys2Proof/Machine/Ops.lean ====
section
/-! DEFINITION. Operations that the families share: power-state tests, time, journal entries, fault messages,
GPIO claims and status codes. -/

namespace Sys2Proof.Machine

/-- The latched role is head (R36). -/
def isHead (d : Dev) : Bool := d.power.role

/-- STANDBY, ACTIVE-M or ACTIVE-H (R58). -/
def awake (d : Dev) : Bool :=
  match d.power.pstate with
  | .standby | .activeM | .activeH => !d.power.coreReset
  | _ => false

/-- ACTIVE-M or ACTIVE-H (R58), while the gates of the conversion path are open (R85). -/
def active (d : Dev) : Bool :=
  match d.power.pstate with
  | .activeM | .activeH => !d.power.coreReset && d.power.leaving.isNone
  | _ => false

/-- The core die runs: it is out of reset, in start-up from step 7 on or awake (R70). -/
def coreRuns (d : Dev) : Bool :=
  match d.power.pstate with
  | .standby | .activeM | .activeH => !d.power.coreReset
  | .starting => decide (7 ≤ d.power.stepNo) && !d.power.coreReset
  | _ => false

/-- Code of a power state (R435). -/
def pstateCode (d : Dev) : Nat :=
  match d.power.pstate with
  | .off => 0
  | .ship => 1
  | .sleep => 2
  | .starting => 3
  | .standby => 3
  | .activeM => 4
  | .activeH => 5

/-- Code of a start cause (R69). -/
def causeCode : Cause → Nat
  | .por => 0x00
  | .wakePin => 0x01
  | .toneA => 0x02
  | .toneB => 0x03
  | .sleepCheck => 0x04
  | .sleepTimer => 0x05
  | .softReset => 0x06
  | .hfoFail => 0x10
  | .lfoFail => 0x11
  | .xoFail => 0x12
  | .pllPUnlock => 0x13
  | .safeWire => 0x14
  | .v5Brownout => 0x15
  | .vdBrownout => 0x16
  | .tjShutdown => 0x17

/-- CK_CORE at an operating point in Hz (R78). -/
def coreHz : OpPoint → Nat
  | .opL => 25000000
  | .opM => 100000000
  | .opH => 200000000

/-- Cell n, from 1, is present (R4). -/
def cellPresent (d : Dev) (n : Nat) : Bool := decide (1 ≤ n) && decide (n ≤ d.part.cells)

/-- Channel c, from 0, is present: cells 1 to 24 and the shunt as channel 24. -/
def chanPresent (d : Dev) (c : Nat) : Bool := decide (c < d.part.cells) || c == 24

/-- Bits [31:0] of the phase: the whole part of the 32.16 accumulator (R91). -/
def phaseNow (d : Dev) : Nat := (d.tb.acc / 2 ^ 16) % 2 ^ 32

/-! ## Time and the journal -/

/-- The device's time in ms (R523): at the almanac's RATE once synced, at the nominal one before (R352, R353). -/
def timeMs (d : Dev) : Nat :=
  d.jrn.timeMs + (d.now - d.jrn.timeAt) * 256 / (if d.jrn.synced then max 1 d.jrn.rate else 98304000)

/-- Journal origins (R516). -/
def oHOST : Nat := 0
/-- Journal origin SERVICE. -/
def oSERVICE : Nat := 1
/-- Journal origin HEAD_RELAY. -/
def oRELAY : Nat := 2
/-- Journal origin FIRMWARE. -/
def oFIRMWARE : Nat := 3
/-- Journal origin FAULT_REACTION. -/
def oREACTION : Nat := 4
/-- Journal origin OTP_LOAD. -/
def oOTP : Nat := 5
/-- Journal origin BIST. -/
def oBIST : Nat := 6

/-- Origin and context of a change (R516, table "Entry context"). -/
structure Ctx where
  origin : Nat
  a : Nat
  b : Nat
deriving DecidableEq, Repr

/-- The context of a change that a command makes (R429, R536). -/
def cmdCtx (d : Dev) (code seq : Nat) : Ctx :=
  if d.sess.isOpen then ⟨oSERVICE, code, d.sess.tester⟩ else ⟨oHOST, code, seq⟩

/-- The context of a direct register write (R429). -/
def srcCtx : Source → Ctx
  | .spi => ⟨oHOST, 0, 0⟩
  | .frame q => ⟨oRELAY, 0, q⟩

/-- The context of a firmware change (R516, table "Firmware reasons"). -/
def fwCtx (reason : Nat) : Ctx := ⟨oFIRMWARE, reason, 0⟩

/-- One entry committed: it waits for the writer in Q27 (R294, R518). -/
def jput (c : Ctx) (it : Nat) (old new : Word) (d : Dev) : Dev :=
  { d with jrn.q27 := d.jrn.q27 ++ [{ time := timeMs d % 2 ^ 40, unsynced := !d.jrn.synced, origin := c.origin, item := it,
                                      old := old, new := new, ctxA := c.a, ctxB := c.b }] }

/-- A change of a value under an item: an entry only where the value changes (R517). -/
def jchange (c : Ctx) (it : Nat) (old new : Word) (d : Dev) : Dev :=
  if old = new then d else jput c it old new d

/-- An item written and journalled (R439). -/
def putItem (c : Ctx) (id : Nat) (v : Int) (d : Dev) : Dev :=
  if item d id = v then d else setItem (jput c id (itemWord (item d id)) (itemWord v) d) id v

/-! ## Fault messages -/

/-- FREE: descriptors of the pool that neither a job nor a granted transfer holds (R295). -/
def freeCount (d : Dev) : Nat :=
  d.part.pool - (d.eng.pool.length + min 16 d.jrn.q27.length + d.eng.msgs.length + d.host.evtRecs.length +
    d.host.strmRecs.length + d.eng.linkHeld + d.eng.capXfer.length + d.eng.copyHeld)

/-- The weir W (R295). -/
def weir (d : Dev) : Nat := d.part.pool / 8

/-- A coded fault message into Q28 (R495); the newest is dropped when 32 wait or no descriptor is free (R294 to R296). -/
def qmsg (src kind addr : Nat) (d : Dev) : Dev :=
  if d.eng.msgs.length < 32 && 0 < freeCount d then
    { d with eng.msgs := d.eng.msgs ++ [Word.of (src * 2 ^ 24 + kind * 2 ^ 16 + addr % 2 ^ 16)] }
  else { d with fault.msgDrop := satInc 255 d.fault.msgDrop }

/-- The message word (R495). -/
def msgWord (src kind addr : Nat) : Word := Word.of (src * 2 ^ 24 + kind * 2 ^ 16 + addr % 2 ^ 16)

/-! ## Status -/

/-- The answer of a check (R432, R407): code, owner kind and owner. -/
structure Status where
  code : Nat
  kind : Nat
  owner : Nat
deriving DecidableEq, Repr

/-- A status without owner. -/
def st (c : Nat) : Status := ⟨c, 0, 0⟩
/-- OK. -/
def stOK : Status := st 0x00
/-- BUSY. -/
def stBUSY : Status := st 0x01
/-- ERR_LENGTH. -/
def stLENGTH : Status := st 0x02
/-- ERR_UNKNOWN_CMD. -/
def stUNKNOWN : Status := st 0x03
/-- ERR_ABSENT. -/
def stABSENT : Status := st 0x04
/-- ERR_CONFLICT, naming an owner. -/
def stCONFLICT (kind owner : Nat) : Status := ⟨0x05, kind, owner⟩
/-- ERR_RANGE. -/
def stRANGE : Status := st 0x06
/-- ERR_STATE. -/
def stSTATE : Status := st 0x07
/-- ERR_AUTH. -/
def stAUTH : Status := st 0x08
/-- ERR_CHECK. -/
def stCHECK : Status := st 0x09
/-- ERR_SLOTS. -/
def stSLOTS : Status := st 0x0A
/-- ERR_QFULL. -/
def stQFULL : Status := st 0x0B
/-- DUPLICATE. -/
def stDUP : Nat := 0x0C
/-- ERR_OTP_FULL. -/
def stOTPFULL : Status := st 0x0D
/-- ERR_FENCED. -/
def stFENCED : Status := st 0x0E

/-- The first check that fails gives the answer (R427). -/
def firstFail : List (Bool × Status) → Option Status
  | [] => none
  | c :: t => if c.1 then some c.2 else firstFail t

/-! ## GPIO claims -/

/-- The pin, from 1, offers the function (R47). -/
def gpioOffers (fn pin : Nat) : Bool :=
  if fn == 3 || fn == 4 then pin == 1 || pin == 2
  else if fn == 5 || fn == 6 then pin == 3 || pin == 4
  else decide (1 ≤ pin) && decide (pin ≤ 4)

/-- Function that holds a pin (R47). -/
def gpioHolder (d : Dev) (pin : Nat) : Nat := nth d.pins.gpioOwner (pin - 1) 0

/-- The check of a claim (R48), none where it succeeds. -/
def gpioCheck (d : Dev) (fn pin : Nat) : Option Status :=
  if fn == 6 && !d.part.hasBanks then some stABSENT
  else if !gpioOffers fn pin then some stRANGE
  else if gpioHolder d pin != 0 && gpioHolder d pin != fn then some (stCONFLICT 2 (gpioHolder d pin))
  else none

/-- A pin given to a function (R48). -/
def gpioClaim (fn pin : Nat) (d : Dev) : Dev := { d with pins.gpioOwner := d.pins.gpioOwner.set (pin - 1) fn }

/-- A claim of the function on the pin ends: the pin is an input again (R49, R46). -/
def gpioRelease (fn pin : Nat) (d : Dev) : Dev :=
  if gpioHolder d pin == fn then
    { d with pins.gpioOwner := d.pins.gpioOwner.set (pin - 1) 0
             pins.gpioLevel := mset d.pins.gpioLevel (pin - 1) false
             pins.gpioOut := mset d.pins.gpioOut (pin - 1) false
             tb.markPulse := if fn == 4 then mset d.tb.markPulse (pin - 1) false else d.tb.markPulse }
  else d

/-- Every claim of a function ends. -/
def gpioReleaseFn (fn : Nat) (d : Dev) : Dev := [1, 2, 3, 4].foldl (fun d p => gpioRelease fn p d) d

/-- A level on a pin that a function holds. -/
def gpioDrive (fn pin : Nat) (lv : Bool) (d : Dev) : Dev :=
  if gpioHolder d pin == fn then { d with pins.gpioLevel := mset d.pins.gpioLevel (pin - 1) lv } else d

/-! ## Engines and results that several chapters use -/

/-- Engine e as it stands. -/
def eng (d : Dev) (e : Nat) : Engine := nth d.eng.engines e Engine.reset

/-- An engine changed. -/
def modEng (e : Nat) (f : Engine → Engine) (d : Dev) : Dev := { d with eng.engines := d.eng.engines.modify e f }

/-- Bank b, from 0, as it stands. -/
def bank (d : Dev) (b : Nat) : Bank := nth d.banks b Bank.reset

/-- A bank driver changed. -/
def modBank (b : Nat) (f : Bank → Bank) (d : Dev) : Dev := { d with banks := d.banks.modify b f }

/-- Bank of cell n, both from 1 (R11). -/
def bankOf (n : Nat) : Nat := (n - 1) / 6 + 1

/-- Cell n, from 1, is fenced by its channel (R499). -/
def chFenced (d : Dev) (n : Nat) : Bool := mbit d.fault.fencedCh (n - 1)

/-- Bank b, from 1, is fenced. -/
def bankFenced (d : Dev) (b : Nat) : Bool := mbit d.fault.fencedBank (b - 1)

/-- A port is fenced. -/
def portFenced (d : Dev) (p : Port) : Bool := mbit d.fault.fencedPort p.num

/-- A port is enabled in LINK_CTRL (R354). -/
def portEnabled (d : Dev) : Port → Bool
  | .A => d.link.enA
  | .B => d.link.enB

/-- A port works: enabled and not fenced (R45, R487). -/
def portUp (d : Dev) (p : Port) : Bool := portEnabled d p && !portFenced d p

/-- FENCED_PB (R499). -/
def fencedPB (d : Dev) : Word := Word.of (d.fault.fencedPort.toNat + d.fault.fencedBank.toNat * 16)

/-- Any fence is in force (R490). -/
def anyFence (d : Dev) : Bool :=
  d.fault.fencedCh != 0 || d.fault.fencedEng != 0 || d.fault.fencedPort != 0 || d.fault.fencedBank != 0

/-- A fold over indices: f applied for each element in order. -/
def forEach {α : Type} (l : List α) (f : α → Dev → Dev) (d : Dev) : Dev := l.foldl (fun d x => f x d) d

/-- f applied where a condition holds. -/
def whenDo (b : Bool) (f : Dev → Dev) (d : Dev) : Dev := if b then f d else d

end Sys2Proof.Machine
end

