-- ==== Sys2Proof/Machine/Flags.lean ====
section
/-! DEFINITION. Event flags and records, escalation counters, FAULTN and ALERTN
(15_faults_and_sluices.md R477 to R492, 13_host_port_and_mailboxes.md R403, R404, R418 to R420). -/

namespace Sys2Proof.Machine

/-! ## Records -/

/-- The header of a mailbox record (R418). -/
def recHeader (kind len source rseq : Nat) : Word :=
  Word.of (kind * 2 ^ 28 + len * 2 ^ 24 + source * 2 ^ 16 + rseq)

/-- The PERIOD and PHASE_HI words of a record at this moment (R195, R420). -/
def stampWords (d : Dev) (low : Nat) : List Word :=
  [Word.of d.tb.period, Word.of (phaseNow d / 256 * 256 + low)]

/-- A record into the event mailbox: dropped and counted where 64 are held or FREE has reached the weir (R294, R295, R419,
R420). -/
def evtRecord (kind source : Nat) (body : List Word) (d : Dev) : Dev :=
  let d1 := { d with host.evtRseq := (d.host.evtRseq + 1) % 2 ^ 16 }
  if d.host.evtRecs.length < 64 && weir d < freeCount d then
    { d1 with host.evt := d.host.evt ++ recHeader kind body.length source d.host.evtRseq :: body
              host.evtRecs := d.host.evtRecs ++ [body.length + 1] }
  else { d1 with host.evtDrop := satInc 255 d.host.evtDrop }

/-- The flag and the event record of an occurrence (R477, R404); a source of an absent unit raises nothing (R9). -/
def noteEvent (k : Nat) (d : Dev) : Dev :=
  if srcAbsent d.part k then d
  else
    let d1 := { d with host.evf := mset d.host.evf k true }
    if mbit d.host.eve k then evtRecord 2 k (stampWords d 0) d1 else d1

/-! ## FAULTN -/

/-- LIVE: safe state, TRIPN or CONFLICT holds FAULTN low (R492). -/
def faultLive (d : Dev) : Bool := d.power.safeForced || d.trip.tripn || d.fault.conflict

/-- The device drives FAULTN low now (R491); outside normal operation as R38 gives. -/
def faultnLow (d : Dev) : Bool :=
  match d.power.pstate with
  | .off => false
  | .ship => true
  | .sleep => d.power.sleepViol
  | .starting => true
  | _ => faultLive d || d.power.sleepViol || d.fault.startup || d.fault.stretch || (d.fault.latch && !d.fault.auto) ||
    d.fault.force

/-- FAULT_PIN_CTRL as it reads (R492): the pin reads high where the device does not drive it low (log 42). -/
def faultPinWord (d : Dev) : Word :=
  Word.of (b2n (!faultnLow d || d.pins.faultnReadHigh) * 2 ^ 31 + b2n (faultnLow d) * 2 ^ 30 + b2n d.fault.startup * 2 ^ 29 +
    b2n d.fault.stretch * 2 ^ 28 + b2n (faultLive d) * 2 ^ 27 + d.fault.stretch10us * 2 ^ 8 + b2n d.fault.latch * 4 +
    b2n d.fault.force * 2 + b2n d.fault.auto)

/-- A stretcher trigger: it runs from now and sets LATCH (R491). -/
def triggerStretch (d : Dev) : Dev :=
  { d with fault.stretch := true, fault.latch := true }

/-! ## Summary and pins -/

/-- EVENT_SUM (R402). -/
def eventSum (d : Dev) : Nat :=
  let m := d.host.evf &&& d.host.eve
  let w := fun i => b2n ((m.toNat / 2 ^ (32 * i)) % 2 ^ 32 != 0) * 2 ^ i
  w 0 + w 1 + w 2 + w 3 + b2n (isHead d && !d.host.rsps.isEmpty) * 16 + b2n (!d.host.evtRecs.isEmpty) * 32 +
    b2n (!d.host.strmRecs.isEmpty) * 64 + b2n (isHead d && d.host.swNew) * 128 +
    b2n (isHead d && d.host.remoteRes.isSome) * 256

/-- ALERTN is driven low (R403); outside normal operation it is high impedance (R38). -/
def alertNow (d : Dev) : Bool := isHead d && awake d && (eventSum d &&& d.host.irqEn.toNat) != 0

/-- Level of GPIO p, from 1, for the function that holds it: FAULT_COPY copies FAULTN and AD_EN is high while a
bank driver is on, both low in the safe state (R47, R50); GP_OUT drives OUT_LEVEL (R446); a pin is high impedance
outside normal operation and keeps its level in SAFE_HOLD (R38, R50, R51). -/
def gpioNow (d : Dev) (p : Nat) : Bool :=
  match gpioHolder d p with
  | 5 => awake d && !d.power.safeForced && !faultnLow d
  | 6 => awake d && !d.power.safeForced && d.banks.any (fun b => b.on)
  | 2 => if awake d then mbit d.pins.gpioOut (p - 1) else d.power.safeHold && mbit d.pins.gpioLevel (p - 1)
  | _ => mbit d.pins.gpioLevel (p - 1)

/-! ## Escalation -/

/-- The counter of source k. -/
def esc (d : Dev) (k : Nat) : Esc := nth d.fault.esc k Esc.reset

/-- A counter changed. -/
def modEsc (k : Nat) (f : Esc → Esc) (d : Dev) : Dev := { d with fault.esc := d.fault.esc.modify k f }

/-- COUNT of FAULT_ESC_k (R445). -/
def escCount (d : Dev) (k : Nat) : Nat := (itemN d (0x0800 + k) / 256) % 256

/-- REACTION of FAULT_ESC_k (R445). -/
def escReaction (d : Dev) (k : Nat) : Nat := itemN d (0x0800 + k) % 16

/-- A reaction: carried out on the source's units, given the REACTION code, the source, the unit codes that the
occurrence names, and whether it was forced. -/
abbrev React := Nat → Nat → List Nat → Bool → Dev → Dev

/-- The source becomes severe (R483): stretcher, LATCH, then the configured reaction. -/
def becomeSevere (react : React) (k unit : Nat) (tg : List Nat) (forced : Bool) (d : Dev) : Dev :=
  let r := escReaction d k
  let d1 := modEsc k (fun e => { e with state := 2, count := escCount d k, unit := unit, pulse := true }) d
  let d2 := triggerStretch d1
  if r = 0 then d2 else react r k tg forced d2

/-- An occurrence of EVk (R477, R482, R484). In SAFE_HOLD escalation stops (R482). -/
def occurWith (react : React) (k unit : Nat) (tg : List Nat) (forced : Bool) (d : Dev) : Dev :=
  if srcAbsent d.part k then d
  else
    let d1 := noteEvent k d
    if isInfo k then modEsc k (fun e => { e with count := satInc 255 e.count }) d1
    else if d.power.coreReset then d1
    else if (esc d k).state = 2 then modEsc k (fun e => { e with lost := satInc 255 e.lost }) d1
    else if (esc d k).count + 1 ≥ escCount d k then becomeSevere react k unit tg forced d1
    else modEsc k (fun e => { e with state := 1, count := e.count + 1 }) d1

/-- Handling ends (R483): the counter returns to IDLE with a count of 0. -/
def endHandling (k : Nat) (d : Dev) : Dev :=
  modEsc k (fun e => { e with state := 0, count := 0, pulse := false, journal := none }) d

end Sys2Proof.Machine
end

