-- ==== Sys2Proof/Machine/Gates.lean ====
section
/-! DEFINITION. The gating tree and its controller (03_supply_power_clocks.md R81 to R84). -/

namespace Sys2Proof.Machine

/-- The parent of a gate (R81, tables "Gating levels" and "Pin-to-die assignment"). The spec does not say which domain a
decimator belongs to: COMPUTE (log 76). -/
def gateParent : Gate → Option Gate
  | .device => none
  | .front | .core => some .device
  | .compute | .memory | .link | .host | .time | .safety => some .core
  | .convert | .aux | .balance | .protect | .linkAfe => some .front
  | .engine _ | .decimator _ => some .compute
  | .sram => some .memory
  | .spiPort => some .host
  | .mac e => some (.engine e)
  | .fir n => some (.decimator n)

/-- The ancestors of a gate, from the top down (R81). -/
def gateAncestors (g : Gate) : List Gate :=
  let up := fun (x : Option Gate) => x.bind gateParent
  let a := gateParent g
  [up (up (up a)), up (up a), up a, a].filterMap id

/-- Every gate of the tree, from the bottom up. -/
def allGates : List Gate :=
  (List.range 16).map Gate.mac ++ (List.range 25).map Gate.fir ++ (List.range 16).map Gate.engine ++
    (List.range 25).map Gate.decimator ++ [.sram, .spiPort, .compute, .memory, .link, .host, .time, .safety, .convert, .aux,
      .balance, .protect, .linkAfe, .front, .core, .device]

/-- The gate belongs to a unit that is fused off (R83, R4). -/
def gateAbsent (d : Dev) : Gate → Bool
  | .engine e | .mac e => decide (d.part.engines ≤ e)
  | .decimator n | .fir n => !chanPresent d n
  | _ => false

/-- The gate is closed; that of an absent unit always is (R83). -/
def gateClosed (d : Dev) (g : Gate) : Bool := gateAbsent d g || d.clk.closedGates.contains g

/-- The gate is locked open: PROTECT, SAFETY, TIME, LINK, LINK_AFE and their ancestors (R83). -/
def gateLocked (d : Dev) : Gate → Bool
  | .protect | .safety | .time | .link | .linkAfe | .front | .core | .device => awake d
  | _ => false

/-- A child of the gate is open (R81). -/
def childOpen (d : Dev) (g : Gate) : Bool := allGates.any (fun c => gateParent c == some g && !gateClosed d c)

/-- The block behind a gate is in the middle of a bus access (R82): an engine that runs a job, a decimator that an aperture
or a record in flight uses, the SAR while it converts (log 36). -/
def gateBusy (d : Dev) : Gate → Bool
  | .mac e | .engine e => (eng d e).running.isSome
  | .fir n | .decimator n =>
    nth d.conv.busy n 0 != 0 || d.conv.flight.any (fun (r : Rec) => !r.complete && mbit r.named n)
  | .aux => d.aux.user != .idle
  | _ => false

/-- One gate opened. -/
def openOne (g : Gate) (d : Dev) : Dev := { d with clk.closedGates := d.clk.closedGates.filter (· != g) }

/-- One gate closed. -/
def closeOne (g : Gate) (d : Dev) : Dev :=
  if d.clk.closedGates.contains g then d else { d with clk.closedGates := d.clk.closedGates ++ [g] }

/-- A request to open a gate: its closed ancestors open first, from the top down (R81, R83). -/
def openGate (g : Gate) (d : Dev) : Dev × GateResult :=
  if gateAbsent d g then (d, .absent) else (forEach (gateAncestors g ++ [g]) openOne d, .done)

/-- A request to close a gate (R81 to R83); busy says that its block is awaited. -/
def closeGate (g : Gate) (d : Dev) : Dev × GateResult :=
  if gateClosed d g then (d, .done)
  else if gateLocked d g then (d, .locked)
  else if childOpen d g then (d, .childOpen)
  else if gateBusy d g then (d, .busy)
  else (closeOne g d, .done)

/-- Command status of a gate result (R84, table "Gate results"). -/
def gateStatus : GateResult → Status
  | .done => stOK
  | .childOpen | .locked => stSTATE
  | .busy => stBUSY
  | .absent => stABSENT

/-- Requests served one at a time in arrival order (R84), up to a close whose block is awaited (R82) or one that is
refused; a refused open request changes nothing and the next is served. -/
def serveGates : List (Bool × Gate) → Dev → Dev × GateResult
  | [], d => ({ d with clk.gateReqs := [], clk.waitGate := none }, .done)
  | (true, g) :: t, d => serveGates t (openGate g d).1
  | (false, g) :: t, d =>
    let r := closeGate g d
    match r.2 with
    | .done => serveGates t r.1
    | .busy => ({ d with clk.gateReqs := (false, g) :: t, clk.waitGate := some g }, .busy)
    | x => ({ d with clk.gateReqs := [], clk.waitGate := none }, x)

/-- An open request enters behind the requests that wait; with none waiting it is served at once (R84). -/
def askOpen (g : Gate) (d : Dev) : Dev :=
  if d.clk.gateReqs.isEmpty then (openGate g d).1 else { d with clk.gateReqs := d.clk.gateReqs ++ [(true, g)] }

/-- The sluice stops the clock of an engine whatever its block does (R82, R287). -/
def gateOffEngine (e : Nat) (d : Dev) : Dev := closeOne (.engine e) (closeOne (.mac e) d)

/-- The clock of an engine is asked for again (R81, R287). -/
def gateOnEngine (e : Nat) (d : Dev) : Dev := askOpen (.mac e) (askOpen (.engine e) d)

end Sys2Proof.Machine
end

