-- ==== Sys2Proof/Machine/Safe.lean ====
section
/-! DEFINITION. The safe state, entry to SAFE_HOLD and the SAFE_STATE reaction
(03_supply_power_clocks.md R86, R87; 15_faults_and_sluices.md R487, R488). -/

namespace Sys2Proof.Machine

/-- Every bank driver off at once, without a ramp (R244). -/
def banksOff (d : Dev) : Dev :=
  { d with banks := d.banks.map (fun b => { b with on := false, applied := 0, excite := false }) }

/-- The safe state (R86): every SB FET off, AD_G low, both link drivers idle; FAULTN, AD_EN and FAULT_COPY follow
from safeForced (settle, faultnLow). -/
def forceSafe (d : Dev) : Dev :=
  let d1 := banksOff d
  { d1 with power.safeForced := true, pins.sb := 0, pins.linkIdleA := true, pins.linkIdleB := true,
            pins.syncOut := false }

/-- Entry to SAFE_HOLD with a cause (R87): the core die is held in reset at its OP-L voltage and the cause is latched
in the always-on register. A hold already in force keeps its cause. It can be entered only where the core die
runs (R58), or from start-up. -/
def enterSafeHold (c : Cause) (d : Dev) : Dev :=
  if d.power.safeHold then d
  else
    match d.power.pstate with
    | .off | .ship | .sleep => d
    | _ =>
      let d1 := forceSafe d
      { d1 with power.safeHold := true, power.coreReset := true, power.cause := c,
                power.vdOk := d.power.vdOk && d.power.op == .opL, power.op := .opL, power.opPrev := .opL, power.opTarget := none,
                power.vdTargetMv := 800, power.goal := none, power.leaving := none, power.ramping := false,
                clk.pllP := false, clk.gateReqs := [], clk.waitGate := none
                aux.user := .idle, aux.txEntry := none, aux.txNext := [], aux.slotOf := none, aux.pulling := false
                aux.recovering := false, aux.dacUser := .unused, aux.dacSettled := false, cmp.check := none, cmp.checkStep := 0 }

/-- The SAFE_STATE reactions of the last 10 s (R488). -/
def recentSafe (d : Dev) : List Nat := d.fault.safeAt.filter (fun t => d.now < t + 3840000000)

/-- SAFE_SRC as it reads (R499). -/
def safeSrcNat (d : Dev) : Nat := d.fault.safeSrc + min 255 (recentSafe d).length * 256

/-- SAFE_STATE (R487, R488): SAFE_SRC takes the source, restarts within 10 s are counted, the third needs VSTK or WAKE,
and the device enters SAFE_HOLD with cause SAFE_WIRE. -/
def safeReaction (k : Nat) (d : Dev) : Dev :=
  let at' := recentSafe d ++ [d.now]
  let d1 := { d with fault.safePrev := safeSrcNat d, fault.safeSrc := k, fault.safeAt := at',
                     fault.safeReact := true,
                     power.tripThird := decide (3 ≤ at'.length), power.wakeSeen := false, power.safeWireC := true }
  let d2 := modEsc k (fun e => { e with inForce := 5 }) d1
  enterSafeHold .safeWire d2

/-- The reaction of a source that may only force the safe state. -/
def reactSafe : React := fun r k _ _ d => if r = 5 then safeReaction k d else d

/-- An occurrence of a source whose permitted reactions are NONE and SAFE_STATE at most (R479). -/
def raiseNS (k unit : Nat) (d : Dev) : Dev := occurWith reactSafe k unit [] false d

end Sys2Proof.Machine
end

