-- ==== Sys2Proof/Machine/SramOps.lean ====
section
/-! DEFINITION. SRAM words with inverted check bits (15_faults_and_sluices.md R480, R497). -/

namespace Sys2Proof.Machine

/-- An object's words written: their check bits are whole again (R480). -/
def sramWritten (kind : Nat) (keys : List Nat) (d : Dev) : Dev :=
  { d with fault.sramBad := d.fault.sramBad.filter (fun e => !keys.any (fun k => Config.sramWord kind k == e.1)) }

/-- A word read: one inverted bit is corrected, two are not (R480, R497). -/
def sramReadWord (w : Nat) (d : Dev) : Dev :=
  match akey d.fault.sramBad w with
  | some 1 => raiseNS 90 w { d with fault.sramBad := adel d.fault.sramBad w }
  | some _ => raiseNS 91 w d
  | none => d

/-- The word that holds an object of the kind reads as failed. -/
def sramFailed (d : Dev) (kind key : Nat) : Bool := akey d.fault.sramBad (Config.sramWord kind key) == some 2

/-- Objects read, word by word in order. -/
def sramRead (kind : Nat) (keys : List Nat) (d : Dev) : Dev :=
  if d.fault.sramBad.isEmpty then d else forEach (keys.map (Config.sramWord kind)) sramReadWord d

end Sys2Proof.Machine
end

