-- ==== Sys2Proof/Machine/EngineOps.lean ====
section
/-! DEFINITION. Descriptors, the pool and its weir, class and local flumes, abandonment and fencing of engines
(10_engines_and_flumes.md R291 to R309). -/

namespace Sys2Proof.Machine

/-- A descriptor in use. -/
def desc (d : Dev) (id : Nat) : Option Desc := d.eng.pool.find? (fun x => x.id == id)

/-- A descriptor changed. -/
def modDesc (id : Nat) (f : Desc → Desc) (d : Dev) : Dev :=
  { d with eng.pool := d.eng.pool.map (fun x => if x.id == id then f x else x) }

/-- POOL_FREE_MIN follows FREE (R317). -/
def noteFree (d : Dev) : Dev := { d with eng.freeMin := min d.eng.freeMin (freeCount d) }

/-- The lowest descriptor index not in use. -/
def freshId (d : Dev) : Nat :=
  ((List.range (d.eng.pool.length + 1)).find? (fun i => !(d.eng.pool.any (fun x => x.id == i)))).getD d.eng.pool.length

/-- Statistics of a class changed. -/
def modClass (c : Nat) (f : ClassCnt → ClassCnt) (d : Dev) : Dev := { d with eng.counts := d.eng.counts.modify c f }

/-- A job at the tail of its class flume. -/
def pushClass (c id : Nat) (d : Dev) : Dev := { d with eng.classes := d.eng.classes.modify c (fun l => l ++ [id]) }

/-- A job at the head of its class flume (R308). -/
def pushClassHead (c id : Nat) (d : Dev) : Dev := { d with eng.classes := d.eng.classes.modify c (fun l => id :: l) }

/-- Words 0 to 6 and word 7 [31:8] of a descriptor, word 0 highest: the 248 bits under its CRC (R291, R292). -/
def descBits (x : Desc) : Nat :=
  let words := [x.kernel * 2 ^ 24 + x.cls * 2 ^ 21 + x.role * 2 ^ 19 + b2n x.retry * 2 ^ 18 + x.id,
    x.chan * 2 ^ 26 + x.src * 2 ^ 24 + x.gen * 2 ^ 16, x.win, x.len * 2 ^ 16,
    x.partner.getD 0x1F * 2 ^ 16 + x.twin, x.tgtFlume * 2 ^ 27 + x.tgtAddr, x.arg]
  words.foldl (fun a w => a * 2 ^ 32 + w % 2 ^ 32) 0 * 2 ^ 24 + x.issue * 2 ^ 8

/-- A descriptor as SRAM holds it, with its CRC (R291, R292). -/
def descImage (x : Desc) : BitVec 256 := BitVec.ofNat 256 (descBits x * 2 ^ 8 + crc8 248 (descBits x))

/-- The CRC of a descriptor read from SRAM holds (R292). -/
def imageGood (b : BitVec 256) : Bool := crc8 248 (b.toNat >>> 8) == b.toNat % 2 ^ 8

/-- Bits [hi:lo] of word i of a descriptor read from SRAM, as lo and a width. -/
def imageField (b : BitVec 256) (i lo n : Nat) : Nat := (b.toNat >>> (32 * (7 - i) + lo)) % 2 ^ n

/-- The fields of a descriptor read from SRAM (R291); its place in the pool says which it is. -/
def descOfImage (b : BitVec 256) (x : Desc) : Desc :=
  let partner := imageField b 4 16 5
  { x with
    kernel := imageField b 0 24 8, cls := imageField b 0 21 3, role := imageField b 0 19 2, retry := imageField b 0 18 1 == 1
    chan := imageField b 1 26 6, src := imageField b 1 24 2, gen := imageField b 1 16 8, win := imageField b 2 0 32
    len := imageField b 3 16 16, partner := if partner = 0x1F then none else some partner, twin := imageField b 4 0 11
    tgtFlume := imageField b 5 27 5, tgtAddr := imageField b 5 0 22, arg := imageField b 6 0 32, issue := imageField b 7 16 16 }

/-- A job created without a check: descriptor, class flume, CREATED (R291, R298). Where its target lies in SRAM is not given
(log 41). -/
def placeJob (t : Desc) (d : Dev) : Dev × Nat :=
  let id := freshId d
  let x : Desc := { t with id := id, issue := d.now / 384 % 2 ^ 16, tgtAddr := (Config.jobTarget t.kernel t.chan).toNat }
  let d1 := sramWritten 2 ((List.range 4).map (fun i => 4 * id + i)) { d with eng.pool := d.eng.pool ++ [x] }
  (noteFree (modClass t.cls (fun c => { c with created := (c.created + 1) % 2 ^ 32 }) (pushClass t.cls id d1)), id)

/-- A refused job (R296): REFUSED and EV86, or SAFE_REFUSED and EV87 for a safety job. -/
def refuseJob (cls : Nat) (d : Dev) : Dev :=
  if cls = 0 then raiseNS 87 0xFFFF { d with eng.safeRefused := satInc 65535 d.eng.safeRefused }
  else raiseNS 86 cls (modClass cls (fun c => { c with refused := satInc 4095 c.refused }) d)

/-- A job is granted (R295). -/
def granted (d : Dev) (cls n : Nat) : Bool :=
  if cls = 0 then decide (15 + n < freeCount d) else decide (weir d < freeCount d)

/-- A job created, or refused at the bound (R295, R296). The second part is the descriptor, none where refused. -/
def createJob (t : Desc) (d : Dev) : Dev × Option Nat :=
  if granted d t.cls 1 then let r := placeJob t d; (r.1, some r.2) else (refuseJob t.cls d, none)

/-- A safety job created as twin A and twin B (R305), each naming the other. -/
def createTwins (t : Desc) (d : Dev) : Dev :=
  if granted d 0 2 then
    let a := placeJob { t with role := 1 } d
    let b := placeJob { t with role := 2, twin := a.2 } a.1
    modDesc a.2 (fun x => { x with twin := b.2 }) b.1
  else refuseJob 0 d

/-- A descriptor back to the pool, out of every flume (R297). -/
def freeDesc (id : Nat) (d : Dev) : Dev :=
  { d with eng.pool := d.eng.pool.filter (fun x => x.id != id)
           eng.classes := d.eng.classes.map (fun l => l.filter (· != id))
           eng.engines := d.eng.engines.map (fun e => { e with flume := e.flume.filter (· != id) })
           eng.packWait := d.eng.packWait.filter (· != id) }

/-- An engine is in service: ACTIVE or DRAINING (R287). -/
def inService (e : Engine) : Bool := e.state == .active || e.state == .draining

/-- Engines in service. -/
def serviceCount (d : Dev) : Nat := (d.eng.engines.filter inService).length

/-- EV88 once on entry to fewer than 2 engines in service (R307). -/
def noteQuorum (d : Dev) : Dev :=
  if serviceCount d < 2 then
    if d.eng.quorum then d else raiseNS 88 0xFFFF { d with eng.quorum := true }
  else { d with eng.quorum := false }

/-- Kernel slot s. -/
def kernelAt (d : Dev) (s : Nat) : Kernel := nth d.eng.kernels s Kernel.reset

/-- A kernel slot changed. -/
def modKernel (s : Nat) (f : Kernel → Kernel) (d : Dev) : Dev := { d with eng.kernels := d.eng.kernels.modify s f }

/-- A custom kernel's generator starts when every in-service engine holds it; 8 overruns have stopped it until it is
loaded again (R314, R315). -/
def startGens (d : Dev) : Dev :=
  forEach [0, 1, 2, 3] (fun s d =>
    let k := kernelAt d s
    if k.loaded && !k.unloading && !k.genOn && k.overRun < 8 &&
        d.eng.engines.all (fun e => !inService e || mbit e.kernels s) then modKernel s (fun k => { k with genOn := true }) d
    else d) d

/-- An engine takes another state; copies for an engine that is not in service are not needed (R287, R314). -/
def setEngState (e : Nat) (s : EngState) (d : Dev) : Dev :=
  let d1 := modEng e (fun x => { x with state := s }) d
  let d2 := if s == .active || s == .draining then d1
    else { d1 with eng.copies := d1.eng.copies.filter (fun c => c.1 != e) }
  noteQuorum (startGens d2)

/-- A DRAINING engine with nothing left is OUT (R287). -/
def drainOut (d : Dev) : Dev :=
  forEach (List.range 16) (fun e d =>
    let x := eng d e
    if x.state == .draining && x.flume.isEmpty && x.running.isNone then setEngState e .out d else d) d

/-- Code words that an engine holds of the kernels of a mask, slot by slot (R286, R311, R314). -/
def codeOf (d : Dev) (m : BitVec 4) : List Word :=
  (mlist m).flatMap (fun s => let im := (kernelAt d s).image; (im.drop 40).take (bf (nth im 1 0) 0 16))

/-- The custom kernels in an engine's code area (R286, R314). -/
def holdKernels (e : Nat) (m : BitVec 4) (d : Dev) : Dev := modEng e (fun y => { y with kernels := m, code := codeOf d m }) d

/-- EV81 with its count (R306, R317). -/
def unresolved (d : Dev) : Dev := raiseNS 81 0xFFFF { d with eng.unresolved := satInc 255 d.eng.unresolved }

/-- A descriptor runs on some engine. -/
def isRunning (d : Dev) (id : Nat) : Bool := d.eng.engines.any (fun e => e.running == some id)

/-- The other descriptors of a safety job: the twin, or both twins of an arbiter (R291, R305). -/
def partnersOf (d : Dev) (x : Desc) : List Nat :=
  if x.role = 0 then [] else if x.role = 3 then [x.twin] ++ (desc d x.twin).elim [] (fun y => [y.twin]) else [x.twin]

/-- A twin or arbiter lost: nothing is delivered and EV81 is raised; its partners are freed where they do not run, and
free themselves at their end otherwise (R306). -/
def dropTwin (x : Desc) (d : Dev) : Dev :=
  let others := partnersOf d x
  let d1 := if x.role = 0 then d else unresolved d
  freeDesc x.id (forEach others (fun id d => if isRunning d id then d else freeDesc id d) d1)

/-- A lost LOCKIN job: its records are excluded in its window (09_impedance.md R268, R269). -/
def loseRecords (x : Desc) (d : Dev) : Dev :=
  let mark := fun (w : Win) =>
    if x.kernel = 3 ∧ x.gen = d.eis.gen ∧ w.start = x.start then
      { w with excl := w.excl ++ (List.range x.len).map (fun i => (x.stream, (x.win + i) % 2 ^ 32)) } else w
  { d with eis.win := d.eis.win.map mark, eis.closing := d.eis.closing.map mark }

/-- The running job of an engine ends its run: running time counted (R317). -/
def stopRun (e : Nat) (d : Dev) : Dev :=
  modEng e (fun x => { x with running := none, busy := x.busy + (d.now - x.countAt) }) d

/-- A job abandoned by engine e (R308): the first time it returns to the head of its class flume with RETRY, the second
time it is discarded and counted. A custom job is discarded without retry where again is false (R315). -/
def abandonJob (e : Nat) (again : Bool) (d : Dev) : Dev :=
  match (eng d e).running with
  | none => d
  | some id =>
    let d1 := stopRun e d
    match desc d1 id with
    | none => d1
    | some x =>
      if !x.retry && again then pushClassHead x.cls id (modDesc id (fun y => { y with retry := true }) d1)
      else dropTwin x (loseRecords x (modClass x.cls (fun c => { c with discarded := satInc 255 c.discarded }) d1))

/-- FENCE_ENGINE (R309): the engine stops, its job is abandoned, its local flume is left to rescue. -/
def fenceEngine (e : Nat) (d : Dev) : Dev :=
  gateOffEngine e (setEngState e .fenced (abandonJob e true { d with
    fault.fencedEng := mset d.fault.fencedEng e true
    bist.withdrawn := if d.bist.withdrawn = some e then none else d.bist.withdrawn
    bist.failHold := if d.bist.failHold = some e then none else d.bist.failHold }))

/-- A fenced engine comes back: LOADING (R489, R287). -/
def unfenceEngine (e : Nat) (d : Dev) : Dev :=
  gateOnEngine e (setEngState e .loading { d with fault.fencedEng := mset d.fault.fencedEng e false })

/-- The generation that a kernel's jobs must carry (R293). -/
def currentGen (d : Dev) (kernel : Nat) : Nat :=
  if kernel = 3 || kernel = 4 then d.eis.gen
  else if 0x80 ≤ kernel && kernel ≤ 0x83 then (nth d.eng.kernels (kernel - 0x80) Kernel.reset).gen
  else 0

/-- Everything of the array that is cleared at SLEEP, SHIP, a device reset and SOFT_RESET (R310); engines load again. -/
def clearArray (d : Dev) : Dev :=
  { d with eng := { Eng.reset with
      engines := (List.range 16).map (fun e =>
        { Engine.reset with state := if e < d.part.engines then .loading else .absent })
      freeMin := d.part.pool
      clearedAt := d.now
      kernels := d.eng.kernels.map (fun k => { Kernel.reset with gen := (k.gen + 1) % 256 }) } }

end Sys2Proof.Machine
end

