-- ==== Sys2Proof/Machine/TbOps.lean ====
section
/-! DEFINITION. Phase arithmetic, the timebase states, the modulator clock's multiple and the marks of the ephemeris
(04_phase_timebase.md R91 to R119). -/

namespace Sys2Proof.Machine

/-- INC for a frequency in units of 10 mHz (R91), rounded to nearest: the spec does not say how (DESIGN CHOICE, log 82). -/
def incOf (f : Nat) : Nat := (rdiv ((f : Int) * 2 ^ 48) 38400000000).toNat

/-- N of plain mode for an increment: round (8 MHz / f_ext) (R110). -/
def plainMult (inc : Nat) : Nat := if inc = 0 then 0 else (rdiv (2 ^ 48 : Int) (48 * inc)).toNat

/-- Decimation ratio of a CONV_DEC code (R160). -/
def decR (c : Nat) : Nat := nth [250, 1000, 4000, 16000, 64000] c 64000

/-- N that the conversion settings in force and INC give (R110, R138). -/
def wantedMult (d : Dev) (inc : Nat) : Nat :=
  if d.conv.apl = 0 then plainMult inc else decR d.conv.dec / d.conv.apl

/-- N * f_ext lies in 4 to 10 MHz (R110). -/
def multInBand (n inc : Nat) : Bool := decide (4 * 2 ^ 48 ≤ n * inc * 384) && decide (n * inc * 384 ≤ 10 * 2 ^ 48)

/-- A phase rounded to the nearest CK_MOD edge, ties down, edge N - 1 in place of N (R115). -/
def roundPhase (n : Nat) (p : Word) : Word :=
  if n = 0 then p
  else
    let k := (2 * p.toNat * n + 2 ^ 32 - 1) / 2 ^ 33
    let k' := if k = n then n - 1 else k
    Word.of ((2 * k' * 2 ^ 32 + n - 1) / (2 * n))

/-- Half an aperture in phase units, for the frame of R CK_MOD cycles (R114); n = 0 stands for CK_PHASE / 48. -/
def halfAperture (n inc r : Nat) : Int :=
  if n = 0 then rdiv ((r : Int) * 48 * inc) (2 ^ 17) else rdiv ((r : Int) * 2 ^ 31) n

/-- N in force for the apertures: 0 while PLL_M is unlocked. -/
def apertureMult (d : Dev) : Nat := if d.tb.pllmLock then d.tb.mult else 0

/-- Lead point of a CONVERT, unwrapped phase relative to the transit's meridian, as it comes out now, and the lead
point of its DARK, 20 us of phase before it (R114). -/
def leadsNow (d : Dev) (s : Slot) : Int × Int :=
  let a := (s.phase.toNat : Int) - halfAperture (apertureMult d) d.tb.inc (decR d.conv.dec)
  (a, a - rdiv (7680 * (d.tb.inc : Int)) (2 ^ 16))

/-- The lead points of CONVERT slot i: as computed at the last meridian (R114), now where it had none then. -/
def leadPoints (d : Dev) (i : Nat) (s : Slot) : Int × Int := (nth d.tb.leads i none).getD (leadsNow d s)

/-- The period that holds the transit when a lead point at the unwrapped phase p acts now (R114). -/
def leadPeriod (d : Dev) (p : Int) : Nat := ((d.tb.period : Int) - p.fdiv (2 ^ 32)).toNat % 2 ^ 32

/-- A point of the unwrapped phase of period p lies before the meridian at which the slot's plan switched (R570). -/
def beforeSwitch (d : Dev) (s : Slot) (p : Nat) (x : Int) : Bool :=
  let a := sext 64 (((p : Int) * 2 ^ 32 + x - (nth d.tb.switchAt s.plan 0 : Int) * 2 ^ 32) % 2 ^ 64).toNat
  decide (-2 ^ 48 ≤ a) && decide (a < 0)

/-- The divisor test of R113. -/
def slotFires (s : Slot) (period : Nat) : Bool := s.en && period % s.div == s.offset

/-- Slot i of the ephemeris. -/
def slotAt (d : Dev) (i : Nat) : Option Slot := nth d.tb.slots i none

/-- The DARK slot that serves CONVERT slot i and is enabled (R113). -/
def servedDark (d : Dev) (i : Nat) : Bool :=
  d.tb.slots.any (fun (s : Option Slot) => match s with
    | some x => x.en && x.action == 3 && x.arg.toNat % 16 == i
    | none => false)

/-- A phase difference in 32.16 units taken in the shorter direction. -/
def shortWay (v : Int) : Int := sext 48 (v % 2 ^ 48).toNat

/-- Meridians from now until the unwrapped 32.16 position p. -/
def meridiansTo (p : Int) : Nat := (p.fdiv (2 ^ 48)).toNat

/-! ## States -/

/-- FLYWHEEL flag of R94 on this device. -/
def flyNow (d : Dev) : Bool :=
  d.tb.state == .acquire || d.tb.state == .flywheel ||
    (!isHead d && (d.tb.headState == 1 || d.tb.headState == 3)) || !d.tb.pllmLock

/-- The settling count that a trigger loads (R147). -/
def settleCount (d : Dev) : Nat := if d.conv.fir = 1 then 5 else 3

/-- Every channel's settling count loaded (R147). -/
def settleAll (d : Dev) : Dev := { d with conv.settle := List.replicate 25 (settleCount d) }

/-- One channel's settling count loaded. -/
def settleOne (c : Nat) (d : Dev) : Dev := { d with conv.settle := d.conv.settle.set c (settleCount d) }

/-- CONTINUOUS: the frame in progress forms no sample and the grid waits to be anchored (R129). -/
def reanchor (d : Dev) : Dev := { d with conv.anchored := false, conv.frameAt := none }

/-- PLL_M loses lock (R110): EV101, CK_MOD at 8 MHz, settling counts, the frame grid. -/
def pllmUnlocked (d : Dev) : Dev :=
  if d.tb.pllmLock then raiseNS 101 0xFFFF (reanchor (settleAll { d with tb.pllmLock := false })) else d

/-- N * f_ext judged against 4 to 10 MHz (R110, R138). -/
def judgeBand (d : Dev) : Dev :=
  if multInBand d.tb.mult d.tb.inc then d
  else pllmUnlocked { d with conv.aplRange := d.conv.aplRange || d.conv.apl != 0 }

/-- N computed anew in plain mode: it takes effect at the next meridian (R110). -/
def askMult (inc : Nat) (d : Dev) : Dev := if d.conv.apl = 0 then { d with tb.multNext := some (plainMult inc) } else d

/-- EV112 on the way into or out of LOCKED (R93). -/
def setTbState (s : TbState) (d : Dev) : Dev :=
  let d1 := { d with tb.state := s, tb.headState := if isHead d then
    (match s with | .free => 0 | .acquire => 1 | .locked => 2 | .flywheel => 3) else d.tb.headState }
  if (d.tb.state == .locked) != (s == .locked) then raiseNS 112 0xFFFF d1 else d1

/-- Entry to LOCKED (R93, R95, R110, R138). -/
def enterLocked (d : Dev) : Dev :=
  let d1 := setTbState .locked d
  judgeBand (askMult d1.tb.inc { d1 with tb.flyCounting := false, tb.flyCount := 0, tb.phaseLost := false, tb.rejRun := 0 })

/-- Entry to FLYWHEEL (R93, R95): the count of meridians starts. -/
def enterFlywheel (d : Dev) : Dev :=
  let d1 := setTbState .flywheel d
  { d1 with tb.flyCounting := true, tb.flyCount := if d.tb.flyCounting then d.tb.flyCount else 0, tb.rejRun := 0,
            tb.goodBlocks := 0 }

/-- Entry to ACQUIRE: an acquisition begins (R93, R98, R103). -/
def enterAcquire (d : Dev) : Dev :=
  let d1 := setTbState .acquire d
  { d1 with tb.accN := 0, tb.rejRun := 0, tb.goodFrom := none, tb.acqAt := d.tb.period, tb.wordsAt := [],
            tb.goodBlocks := 0 }

/-- References of an earlier source forgotten. -/
def forgetRefs (d : Dev) : Dev := { d with tb.refAt := none, tb.lastAcc := none }

/-- Entry to FREE (R93, R95, R104, R110): INC from TB_FREE_FREQ at once, the phase runs on. -/
def enterFree (d : Dev) : Dev :=
  let d1 := setTbState .free d
  let inc := incOf (itemN d 0x0602)
  judgeBand (askMult inc { d1 with
    tb.flyCounting := false, tb.flyCount := 0, tb.phaseLost := false, tb.inc := inc, tb.freqNext := false,
    tb.accN := 0, tb.rejRun := 0, tb.goodFrom := none, tb.wordsAt := [] })

/-- A write of TB_SOURCE on the head takes effect (R93). -/
def sourceChanged (old new : Nat) (d : Dev) : Dev :=
  if new = old then d
  else if new = 0 then (if d.tb.state == .free then d else enterFree (forgetRefs d))
  else enterAcquire (forgetRefs d)

/-- A rejected reference event (R99, R103): counted; the fourth in LOCKED enters FLYWHEEL. -/
def rejectRef (d : Dev) : Dev :=
  let d1 := { d with tb.refReject := satInc 255 d.tb.refReject, tb.rejRun := d.tb.rejRun + 1 }
  if d.tb.state == .locked && 4 ≤ d1.tb.rejRun then enterFlywheel d1 else d1

/-! ## Marks and late transits -/

/-- MARK bits of a slot pulse the GPIOs that TRANSIT_OUT holds (R118). -/
def pulseMarks (m : Nat) (d : Dev) : Dev :=
  [1, 2].foldl (fun d p =>
    if m.testBit (p - 1) && gpioHolder d p == 4 then
      { d with tb.markPulse := mset d.tb.markPulse (p - 1) true
               pins.gpioLevel := mset d.pins.gpioLevel (p - 1) true }
    else d) d

/-- A slot action skipped in whole or in part (R116). -/
def lateTransit (d : Dev) : Dev := raiseNS 113 0xFFFF { d with tb.lateCnt := satInc 65535 d.tb.lateCnt }

/-! ## N -/

/-- N set in force (R110, R115, R129, R147): CONVERT slots are rounded again, the settling counts load, the frame
grid is anchored again, apertures in progress complete with SETTLING. -/
def setMult (n : Nat) (d : Dev) : Dev :=
  let d1 := { d with
    tb.mult := n
    bal.anchorDue := true
    tb.slots := d.tb.slots.map (fun (s : Option Slot) => s.map (fun (x : Slot) =>
      if x.action = 1 then { x with phase := roundPhase n x.asked } else x))
    tb.loads := d.tb.loads.map (fun (l : PlanLoad) => { l with
      slots := l.slots.map (fun (e : Nat × Slot) =>
        (e.1, if e.2.action = 1 then { e.2 with phase := roundPhase n e.2.asked } else e.2)) }) }
  judgeBand (reanchor (settleAll { d1 with
    conv.flight := d1.conv.flight.map (fun (r : Rec) => if r.complete then r else { r with settle := r.settle ||| r.named }) }))

/-- N computed anew takes effect where it differs from the N in force (R110). -/
def takeMult (n : Nat) (d : Dev) : Dev := if n = d.tb.mult then d else setMult n d

end Sys2Proof.Machine
end

