-- ==== Sys2Proof/Machine/D2dOps.lean ====
section
/-! DEFINITION. The die-to-die bus: beats, lanes, acknowledgement and replay, the hold buffer and the core die's receive
buffer (01_architecture.md R17 to R25, 05_cell_conversion.md R125, R128). -/

namespace Sys2Proof.Machine

/-! ## Beats -/

/-- Bits [63:0] of a beat (R17). -/
def beatBody (b : BitVec 72) : Nat := b.toNat % 2 ^ 64

/-- CRC of a beat (R17). -/
def beatCrc (b : BitVec 72) : Nat := b.toNat >>> 64

/-- TYPE of a beat (R17). -/
def beatType (b : BitVec 72) : Nat := (b.toNat >>> 60) % 16

/-- SEQ of a beat (R17). -/
def beatSeq (b : BitVec 72) : Nat := (b.toNat >>> 56) % 16

/-- ACK of a beat (R17). -/
def beatAck (b : BitVec 72) : Nat := (b.toNat >>> 52) % 16

/-- CONTENT of a beat (R17). -/
def beatContent (b : BitVec 72) : BitVec 52 := BitVec.ofNat 52 b.toNat

/-- A beat with its CRC (R17, R18). -/
def mkBeat (typ seq ack : Nat) (content : BitVec 52) : BitVec 72 :=
  let body := typ * 2 ^ 60 + seq * 2 ^ 56 + ack * 2 ^ 52 + content.toNat
  BitVec.ofNat 72 (crc8 64 body * 2 ^ 64 + body)

/-- A beat passes its CRC (R18). -/
def beatGood (b : BitVec 72) : Bool := crc8 64 (beatBody b) == beatCrc b

/-- A TYPE that carries content or idles in a direction (R17, table "Beat types"). -/
def typeGoes (up : Bool) (typ : Nat) : Bool :=
  typ == 0 || (if up then decide (1 ≤ typ) && decide (typ ≤ 6) else decide (8 ≤ typ) && decide (typ ≤ 10))

/-! ## Lanes -/

/-- The lanes of a direction: up is front die to core die. -/
def lane (d : Dev) (up : Bool) : Lane := if up then d.d2d.up else d.d2d.down

/-- The lanes of a direction changed. -/
def modLane (up : Bool) (f : Lane → Lane) (d : Dev) : Dev :=
  if up then { d with d2d.up := f d.d2d.up } else { d with d2d.down := f d.d2d.down }

/-- Direction code of EV94 and EV95: 0 up, 1 down (R477, R495). -/
def dirCode (up : Bool) : Nat := if up then 0 else 1

/-- SEQ of the last beat that a lane's receiver took, which its die sends as ACK (R17). -/
def ackOf (l : Lane) : Nat := (l.rxSeq + 15) % 16

/-- The transmitter sends a new beat: it takes the next SEQ and enters the replay buffer (R21). -/
def laneSend (b : BitVec 72) (l : Lane) : Lane :=
  { l with txSeq := (l.txSeq + 1) % 16, unacked := l.unacked + 1
           replay := if l.replay.length < 16 then l.replay ++ [b] else l.replay.drop 1 ++ [b] }

/-- Upward content whose SEQ is among the n last sent, or that no beat carries, stays held (R25). -/
def stillHeld (l : Lane) (n : Nat) : Held → Bool
  | .raw seq _ _ => decide ((l.txSeq + 15 - seq) % 16 < n)
  | _ => true

/-- n beats of a direction are outstanding: what it sent before is received (R21, R22, R25). -/
def outstanding (up : Bool) (n : Nat) (d : Dev) : Dev :=
  let d1 := modLane up (fun l => { l with unacked := n }) d
  if up then { d1 with d2d.hold := d1.d2d.hold.filter (stillHeld d1.d2d.up n) } else d1

/-- An ACK of the opposite direction: what it covers is no longer outstanding (R21). -/
def laneAcked (up : Bool) (ack : Nat) (d : Dev) : Dev :=
  outstanding up (min (lane d up).unacked (((lane d up).txSeq + 15 - ack) % 16)) d

/-! ## The hold buffer -/

/-- Entries that held content takes: one a beat (R25). -/
def heldSize : Held → Nat
  | .leat _ _ codes => codes.length
  | .sense i => ((List.range 6).filter (fun g => decide (4 * g < i.readings.length) && !mbit i.drop g)).length
  | _ => 1

/-- Entries of the hold buffer in use (R25). -/
def holdSize (d : Dev) : Nat := (d.d2d.hold.map heldSize).sum + d.d2d.up.queue.length

/-- The hold buffer has no room (R25). -/
def holdFull (d : Dev) : Bool := decide (32 ≤ holdSize d)

/-- Content into the hold buffer (R25). -/
def holdPut (h : Held) (d : Dev) : Dev := { d with d2d.hold := d.d2d.hold ++ [h] }

/-! ## The core die's side -/

/-- The two CK_MOD cycles of a MOD beat reach the decimators (R17, R125); they keep the bits of 8 frames (R128). -/
def pushMod (content : BitVec 52) (d : Dev) : Dev :=
  let a := BitVec.ofNat 25 content.toNat
  let b := BitVec.ofNat 25 (content.toNat >>> 25)
  { d with conv.mods := (b :: a :: d.conv.mods).take (8 * decR d.conv.dec), conv.modCount := d.conv.modCount + 2 }

/-- Content reaches the receiving interface (R17): the decimators, or the holder of its TYPE. -/
def intake (typ : Nat) (content : BitVec 52) (d : Dev) : Dev :=
  if typ = 0 then d
  else if typ = 1 then pushMod content d
  else { d with d2d.delivered := aset d.d2d.delivered typ content }

/-- Upward content waits in the core die's receive buffer during an operating-point transition (R20); else it acts. -/
def arrive (h : Held) (act : Dev → Dev) (d : Dev) : Dev :=
  if d.power.opTarget.isSome then { d with d2d.rxBuf := d.d2d.rxBuf ++ [h] } else act d

/-- Upward content leaves for the core die: in a retrain it waits in the hold buffer (R25). -/
def viaBus (h : Held) (act : Dev → Dev) (d : Dev) : Dev := if d.d2d.retrain then holdPut h d else arrive h act d

end Sys2Proof.Machine
end

