-- ==== Sys2Proof/Machine/ConvOps.lean ====
section
/-! DEFINITION. Conversion settings, history, captures and the decimation weights
(05_cell_conversion.md R126 to R156). -/

namespace Sys2Proof.Machine

/-! ## Settings in force -/

/-- Channels that can be converted now. -/
def enabledNow (d : Dev) : BitVec 25 := d.conv.enable &&& ~~~ (BitVec.ofNat 25 d.conv.disabledDiag.toNat)

/-- The sample settings that the items ask for (R160). -/
def calAsked (d : Dev) : Cal :=
  { range := itemN d 0x0106, tcomp := itemN d 0x0107
    gain := (List.range 25).map (fun c => item d (0x0111 + c))
    ofs := (List.range 25).map (fun c => item d (0x0131 + c)) }

/-- The conversion items ask for other settings than those in force (R136). -/
def convDiffers (d : Dev) : Bool :=
  itemN d 0x0101 != d.conv.enable.toNat || itemN d 0x0102 != d.conv.mode || itemN d 0x0103 != d.conv.dec ||
    itemN d 0x0104 != d.conv.fir || itemN d 0x0105 != d.conv.apl || calAsked d != d.conv.cal

/-- The asked change alters N (R136). -/
def convAltersN (d : Dev) : Bool :=
  (itemN d 0x0103 != d.conv.dec || itemN d 0x0105 != d.conv.apl) && (itemN d 0x0105 != 0 || d.conv.apl != 0)

/-- An enabled CONVERT slot is in force. -/
def convertInForce (d : Dev) : Bool :=
  d.tb.slots.any (fun (s : Option Slot) => match s with
    | some x => x.en && x.action == 1
    | none => false)

/-- A channel freshly enabled: settling count loaded, no previous sample (R146, R147). -/
def enableChannel (c : Nat) (d : Dev) : Dev :=
  settleOne c { d with conv.prev := d.conv.prev.set c 0x80000000 }

/-- The conversion items taken into force with the settling counts they load (R136, R147). -/
def convTake (d : Dev) : Dev :=
  let en := BitVec.ofNat 25 (itemN d 0x0101)
  let fresh := en &&& ~~~ d.conv.enable
  let all := itemN d 0x0102 != d.conv.mode || itemN d 0x0103 != d.conv.dec || itemN d 0x0104 != d.conv.fir ||
    itemN d 0x0105 != d.conv.apl
  let sh := itemN d 0x0106 != d.conv.cal.range
  let newN := convAltersN d
  let modeNew := itemN d 0x0102 != d.conv.mode
  let d1 := { d with
    conv.enable := en, conv.mode := itemN d 0x0102, conv.dec := itemN d 0x0103, conv.fir := itemN d 0x0104,
    conv.apl := itemN d 0x0105, conv.cal := calAsked d, conv.waiting := false, conv.atMeridian := false }
  let d2 := whenDo all settleAll (forEach (mlist fresh) enableChannel d1)
  let d3 := whenDo sh (settleOne 24) d2
  let d4 := whenDo modeNew reanchor d3
  whenDo newN (fun d => setMult (wantedMult d d.tb.inc) d) d4

/-- A write of conversion items: it takes effect now, at a lead point or frame boundary, or at the meridian (R136). -/
def convChanged (d : Dev) : Dev :=
  if !convDiffers d then { d with conv.waiting := false, conv.atMeridian := false }
  else if convAltersN d then { d with conv.waiting := true, conv.atMeridian := true }
  else if !active d || (d.conv.mode = 0 && !convertInForce d) then convTake d
  else { d with conv.waiting := true, conv.atMeridian := false }

/-- A lead point or frame boundary lets a waiting change take effect (R136). -/
def convAtPoint (d : Dev) : Dev := if d.conv.waiting && !d.conv.atMeridian then convTake d else d

/-- Entry to ACTIVE-M or ACTIVE-H from STANDBY: every enabled channel counts as enabled (R147). -/
def convStart (d : Dev) : Dev :=
  let d1 := { d with conv.visSince := false, conv.busy := List.replicate 25 0, conv.apStart := []
                     bist.cycleAt := d.bist.cycleAt + (d.now - d.bist.pausedAt) }
  reanchor (forEach (mlist d.conv.enable) enableChannel d1)

/-- CK_PHASE cycles of one CK_MOD cycle (R110). -/
def modCycle (mult inc : Nat) : Rat := if mult = 0 ∨ inc = 0 then 48 else (2 ^ 48 : Rat) / (mult * inc)

/-- Period and phase, as one number, k half frames after the grid's start (R129). -/
def frameEdge (d : Dev) (k : Nat) : Nat :=
  (d.conv.anchorAt + (halfAperture (apertureMult d) d.tb.inc (k * decR d.conv.dec)).toNat) % 2 ^ 64

/-- Period and phase of the centre of the frame in progress (R129). -/
def frameCentre (d : Dev) : Nat × Word :=
  let h := frameEdge d (2 * d.conv.frameNo + 1)
  (h / 2 ^ 32, Word.of (h % 2 ^ 32))

/-- A CONTINUOUS frame begins now (R129): its centre lies half a frame on. -/
def beginFrame (d : Dev) : Dev :=
  { d with
    conv.frameAt := some (frameCentre d)
    conv.centred := none
    conv.frameMod := d.conv.modCount
    conv.centreAt := d.now + (((decR d.conv.dec : Rat) * modCycle (apertureMult d) d.tb.inc) / 2).ceil.toNat }

/-- The aperture of the channel ends. -/
def channelsFree (m : BitVec 25) (d : Dev) : Dev :=
  { d with conv.busy := (List.range 25).map (fun c => if mbit m c then 0 else nth d.conv.busy c 0) }

/-- Conversion stops on leaving ACTIVE: apertures, leads and records not complete form no sample (R126). -/
def convStop (d : Dev) : Dev :=
  { d with bist.pausedAt := d.now, conv.busy := List.replicate 25 0, conv.apStart := [], conv.anchored := false
           conv.frameAt := none, conv.flight := d.conv.flight.filter (fun (r : Rec) => r.complete)
           tb.darkNow := [], tb.owed := [], bal.dark := 0 }

/-! ## History -/

/-- a is later than b in the serial order of TSEQ (R135). -/
def serialLater (a b : Nat) : Bool :=
  let x := (a + 2 ^ 32 - b % 2 ^ 32) % 2 ^ 32
  decide (1 ≤ x) && decide (x < 2 ^ 31)

/-- t lies in first to last of the serial order. -/
def inSpan (first last t : Nat) : Bool := !serialLater first t && !serialLater t last

/-- History depth (R149). -/
def historyDepth : Part → Nat
  | .tl2440 => 32768
  | .tl2424 => 16384
  | .tl1612 => 8192

/-- A capture pins the record (R153). -/
def pins (c : Capture) (r : Rec) : Bool := c.state == 3 && c.epoch == r.epoch && inSpan c.first c.last r.tseq

/-- Some capture pins the record. -/
def pinned (d : Dev) (r : Rec) : Bool := d.conv.caps.any (fun (c : Capture) => pins c r)

/-- The oldest record that no capture pins is overwritten (R151). -/
def dropOldest (d : Dev) : List Rec → List Rec
  | [] => []
  | r :: t => if pinned d r then r :: dropOldest d t else t

/-- The balance current log keeps the last eighth of the history depth (R248). -/
def trimLog (n : Nat) (l : List Rec) : List Rec :=
  (l.take (l.length - n)).map (fun (r : Rec) => { r with blog := [] }) ++ l.drop (l.length - n)

/-- A record made visible: the oldest live one goes where the depth is reached (R151, R248). -/
def showRecord (r : Rec) (d : Dev) : Dev :=
  let kept := if historyDepth d.part ≤ d.conv.live.length then dropOldest d d.conv.live else d.conv.live
  { d with conv.live := trimLog (historyDepth d.part / 8) (kept ++ [r]), conv.visSince := true }

/-- The latest visible record of the present count of TSEQ. -/
def latestRec (d : Dev) : Option Rec := d.conv.live.reverse.find? (fun (r : Rec) => r.epoch == d.conv.epoch)

/-- The visible record of a TSEQ, the newest count first. -/
def recOf (d : Dev) (t : Nat) : Option Rec := d.conv.live.reverse.find? (fun (r : Rec) => r.tseq == t)

/-- Word c of a record. -/
def recWord (r : Rec) (c : Nat) : Word := nth r.words c 0x80000000

/-- Transit log words of a record (R150). -/
def logWords (r : Rec) : List Word :=
  [Word.of r.period, Word.of ((r.phase.toNat / 256) * 256 + r.slot * 16 + b2n r.cont * 8 + b2n (r.quiet != 0) * 4 +
    b2n (r.quiet != 0 && (r.named &&& ~~~ r.quiet) != 0) * 2)]

/-! ## Captures -/

/-- Capture c. -/
def capAt (d : Dev) (c : Nat) : Capture := nth d.conv.caps c Capture.reset

/-- A capture changed. -/
def modCap (c : Nat) (f : Capture → Capture) (d : Dev) : Dev := { d with conv.caps := d.conv.caps.modify c f }

/-- A capture FROZEN with its span, pinned as far as the records are still live (R153); EV114. -/
def freezeCap (c last : Nat) (trunc : Bool) (d : Dev) : Dev :=
  let x := capAt d c
  let first := (x.trigTseq + 2 ^ 32 + 1 - x.pre % 2 ^ 32) % 2 ^ 32
  let kept := d.conv.live.filter (fun (r : Rec) => r.epoch == d.conv.epoch && inSpan first last r.tseq)
  let before := kept.filter (fun (r : Rec) => !serialLater r.tseq x.trigTseq)
  let f := match kept with
    | r :: _ => r.tseq
    | [] => last
  raiseNS 114 0xFFFF (modCap c (fun y => { y with state := 3, first := f, last := last, preValid := before.length,
                                                  truncated := trunc, epoch := d.conv.epoch }) d)

/-- Captures whose POST record is visible freeze (R153). -/
def freezeDue (d : Dev) : Dev :=
  forEach [0, 1, 2, 3] (fun c d =>
    let x := capAt d c
    let last := (x.trigTseq + x.post) % 2 ^ 32
    if x.state = 2 && d.conv.live.any (fun (r : Rec) => r.epoch == d.conv.epoch && !serialLater last r.tseq)
    then freezeCap c last false d else d) d

/-- An ARMED capture triggered now (R153): its trigger record is the last visible record. With no visible record the
count stands one before TSEQ 0 of the next. -/
def triggerCap (c : Nat) (d : Dev) : Dev :=
  if (capAt d c).state ≠ 1 then d
  else
    let t := match latestRec d with
      | some r => r.tseq
      | none => (d.conv.tseq + 2 ^ 32 - 1) % 2 ^ 32
    freezeDue (modCap c (fun y => { y with state := 2, trigTseq := t }) d)

/-- The setting of event flag k triggers the captures armed on it (R152). -/
def triggerOnEvents (before after : BitVec 128) (d : Dev) : Dev :=
  let rose := after &&& ~~~ before
  if rose = 0 then d
  else forEach [0, 1, 2, 3] (fun c d =>
    let x := capAt d c
    if x.state = 1 && x.trig = 3 && mbit rose x.event then triggerCap c d else d) d

/-- A span ended by a restart from SAFE_HOLD: FROZEN and TRUNCATED (R156). -/
def truncateCap (c : Nat) (d : Dev) : Dev :=
  let x := capAt d c
  let last := match latestRec d with
    | some r => r.tseq
    | none => (d.conv.tseq + 2 ^ 32 - 1) % 2 ^ 32
  if x.state = 1 then freezeCap c last true (modCap c (fun y => { y with trigTseq := last }) d)
  else if x.state = 2 then freezeCap c last true d
  else d

/-! ## Decimation weights -/

/-- Binomial n choose 3. -/
def choose3 (n : Int) : Int := if n < 3 then 0 else n * (n - 1) * (n - 2) / 6

/-- Sum of the sinc3 weights of the first m of the 3R - 2 bits (R127). -/
def sincSum (r : Nat) (m : Int) : Int :=
  if m ≤ 0 then 0
  else if 3 * (r : Int) - 2 ≤ m then (r : Int) ^ 3
  else choose3 (m + 2) - 3 * choose3 (m - r + 2) + 3 * choose3 (m - 2 * r + 2)

/-- The same with the FIR stage, times 4, over 5R - 2 bits (R127). -/
def firSum (r : Nat) (m : Int) : Int := sincSum r m + 2 * sincSum r (m - r) + sincSum r (m - 2 * r)

/-- CK_MOD bits of the support (R127). -/
def supportBits (r : Nat) (fir : Bool) : Nat := if fir then 5 * r - 2 else 3 * r - 2

/-- The first bit of a record's support on channel c, from the aperture's first bit, and the support's length (R127). -/
def supportOf (r : Rec) (c : Nat) : Int × Nat :=
  let n := decR r.dec
  if mbit r.quiet c then (0, n) else if r.fir then (1 - 2 * (n : Int), 5 * n - 2) else (1 - (n : Int), 3 * n - 2)

/-- The weight of bit i of a support, all of them summing to 1 (R127). -/
def bitWeight (r : Rec) (c i : Nat) : Rat :=
  let n := decR r.dec
  if mbit r.quiet c then 1 / (n : Rat)
  else if r.fir then ((firSum n (i + 1) - firSum n i : Int) : Rat) / (4 * (n : Rat) ^ 3)
  else ((sincSum n (i + 1) - sincSum n i : Int) : Rat) / (n : Rat) ^ 3

/-- The modulator bits of channel c in a record's support, newest first; none where the decimator does not hold all of
them (R125, R128). -/
def supportBitsOf (d : Dev) (r : Rec) (c : Nat) : Option (List Bool) :=
  match r.modAt with
  | none => none
  | some a =>
    let x := supportOf r c
    let lo := (a : Int) + x.1
    let hi := lo + x.2
    if decide ((d.conv.modCount : Int) - d.conv.mods.length ≤ lo) && decide (0 ≤ lo) && decide (hi ≤ d.conv.modCount) then
      some (((d.conv.mods.drop (d.conv.modCount - hi.toNat)).take x.2).map (fun m => mbit m c))
    else none

/-- The weighted share of 1 bits of a support (R127); the weights are symmetric, so its order does not matter. -/
def weighBits (r : Rec) (c : Nat) (l : List Bool) : Rat :=
  (l.zipIdx.map (fun e => if e.1 then bitWeight r c e.2 else 0)).sum

/-- The longest run of identical bits (R142): the run so far, its bit, the longest. -/
def longestRun : List Bool → Nat → Bool → Nat → Nat
  | [], n, _, m => max m n
  | x :: t, n, b, m => if x == b then longestRun t (n + 1) b m else longestRun t 1 x (max m n)

/-- A modulator overload in a support: 64 consecutive identical bits (R142). -/
def overloaded (l : List Bool) : Bool := decide (64 ≤ longestRun l 0 false 0)

/-- Bits of a record's support that lie before time t (R233). -/
def bitsBefore (r : Rec) (t : Int) : Int :=
  let c := modCycle r.mult r.inc
  let start := (r.firedAt : Rat) - c * (supportBits (decR r.dec) r.fir : Rat) / 2
  (((t : Rat) - start) / c).floor

/-- Weight of the interval [a, b) within a record's support (R233). -/
def supportWeight (r : Rec) (a b : Int) : Int :=
  let f := if r.fir then firSum (decR r.dec) else sincSum (decR r.dec)
  f (bitsBefore r b) - f (bitsBefore r a)

end Sys2Proof.Machine
end

