-- ==== Sys2Proof/Machine/BalOps.lean ====
section
/-! DEFINITION. What holds a FET off, the current cap, derating and the bank drivers
(08_balancing.md R219 to R249). -/

namespace Sys2Proof.Machine

/-! ## Holds -/

/-- Cells that a diagnosis target disturbs (R175, R176): targets 0 to 24 OPEN_C, 25 to 48 OPEN_SB, 49 to 72 PATH. -/
def targetCells (d : Dev) (t : Nat) : List Nat :=
  let l := if t ≤ 24 then [t, t + 1] else if t ≤ 48 then [t - 24, t - 23] else if t ≤ 72 then [t - 48] else []
  l.filter (cellPresent d)

/-- Cells disturbed by the input diagnosis now (R176). -/
def disturbed (d : Dev) : List Nat :=
  if d.aux.pulling || d.aux.recovering then targetCells d d.aux.target else []

/-- FET n, from 1, is claimed by EIS_PLAN. -/
def fetExcited (d : Dev) (n : Nat) : Bool := nth d.bal.owner (n - 1) 0 == 0x40

/-- The cell's plan waits for samples that STANDBY does not form (R230). -/
def standbyHeld (d : Dev) (n : Nat) : Bool :=
  d.power.pstate == .standby && (match nth d.bal.plans (n - 1) none with
    | some p => p.vStop != 0
    | none => false)

/-- A hold that BAL_HELD shows: fence, UV level, dark window, diagnosis, STANDBY (R224, R235, R236). -/
def fetHeldShown (d : Dev) (n : Nat) : Bool :=
  chFenced d n || bankFenced d (bankOf n) || mbit d.cmp.level (23 + n) || (mbit d.bal.dark (n - 1) && !fetExcited d n) ||
    (disturbed d).contains n || standbyHeld d n

/-- Any hold of the table "FET hold conditions" but the cap (R224, R226). -/
def fetHeld (d : Dev) (n : Nat) : Bool :=
  d.power.safeForced || mbit d.bal.faultOc (n - 1) || fetHeldShown d n || (fetExcited d n && d.bal.excHeld)

/-- FET n's schedule puts it on in the step in progress (R223, R247). -/
def fetScheduled (d : Dev) (n : Nat) : Bool :=
  if fetExcited d n then mbit d.bal.exciteOn (n - 1)
  else
    let s := (d.bal.startNow + (n - 1) * d.bal.staggerNow) % 256
    decide ((d.bal.step + 256 - s) % 256 < nth d.bal.dutyNow (n - 1) 0)

/-- Cells of the part. -/
def cellList (d : Dev) : List Nat := (List.range d.part.cells).map (· + 1)

/-- FETs that conduct: scheduled, not held, admitted (R224, R225). -/
def fetsNow (d : Dev) : BitVec 24 :=
  if awake d then
    mof 24 (((cellList d).filter (fun n => fetScheduled d n && !fetHeld d n && !mbit d.bal.capHeld (n - 1))).map (· - 1))
  else 0

/-- E_n in units of 0.1 mA (R220). -/
def estOf (d : Dev) (n : Nat) : Nat := (nth d.bal.est (n - 1) none).getD (itemN d 0x0406 * 10)

/-- The order of admission: excitation first, then from cell 1 + (BP mod 24) round (R225). -/
def admitOrder (d : Dev) : List Nat :=
  let all := (cellList d).filter (fun n => fetScheduled d n && !fetHeld d n)
  let exc := all.filter (fun n => fetExcited d n)
  let rot := (List.range 24).map (fun i => (d.bal.bp + i) % 24 + 1)
  exc ++ rot.filter (fun n => all.contains n && !fetExcited d n)

/-- Admission in order: the FETs held by the cap (R225). -/
def capRefused (d : Dev) : Nat → List Nat → List Nat
  | _, [] => []
  | sum, n :: t =>
    if sum + estOf d n ≤ itemN d 0x0405 * 10 then capRefused d (sum + estOf d n) t
    else n :: capRefused d sum t

/-- The start of a step: the cap is judged afresh (R225). -/
def startStep (k : Nat) (d : Dev) : Dev :=
  let d1 := { d with bal.step := k % 256, bal.capHeld := 0 }
  let r := capRefused d1 0 (admitOrder d1)
  { d1 with bal.capHeld := mof 24 (r.map (· - 1)), bal.capSteps := satAdd (2 ^ 32 - 1) d.bal.capSteps r.length }

/-! ## Timing and derating -/

/-- PHASE timing cannot be used (R222). -/
def phaseBarred (d : Dev) : Bool :=
  let p := itemN d 0x0402
  let t := 2 ^ 48 * p
  !d.tb.pllmLock || d.power.pstate == .standby || t < 96000 * d.tb.inc || 38400000 * d.tb.inc < t

/-- PL_FALLBACK follows the conditions of R222 as they arise; it clears when PHASE timing resumes. -/
def noteFallback (d : Dev) : Dev :=
  if itemN d 0x0401 = 1 then (if phaseBarred d then { d with bal.fallback := true } else d)
  else { d with bal.fallback := false }

/-- The front-die temperature in 1/12800 C, for a code of 0.125 K (R162): T = c / 8 - 273.15 C. -/
def frontTemp (d : Dev) : Int := 100 * (d.conv.tempFront : Int) - 3496320

/-- The derate factor in 1/256000 of the range 115 to 135 C, 256000 for 1 (R226, R227). -/
def derateNum (d : Dev) : Nat :=
  if d.bal.tempStale then 0
  else
    let t := frontTemp d
    if t ≤ 1472000 then 256000 else if 1728000 ≤ t then 0 else (1728000 - t).toNat

/-- A balance period begins (R221, R223, R225, R226). -/
def balBoundary (d : Dev) : Dev :=
  let f := derateNum d
  let usable := itemN d 0x0401 = 1 && !phaseBarred d
  let phase := usable && (d.bal.phaseTiming || !d.bal.anchorDue)
  startStep 0 { d with
    bal.bp := d.bal.bp + 1
    bal.startNow := itemN d 0x0403
    bal.staggerNow := itemN d 0x0404
    bal.dutyNow := d.bal.duty.map (fun x => x * f / 256000)
    bal.derate := 256 * f / 256000
    bal.excHeld := decide (f < 256000)
    bal.phaseTiming := phase
    bal.fallback := itemN d 0x0401 = 1 && !phase && (d.bal.fallback || phaseBarred d) }

/-- A meridian at which PHASE timing is anchored begins a balance period (R221). -/
def balAtMeridian (d : Dev) : Dev :=
  if d.bal.anchorDue && itemN d 0x0401 == 1 && !phaseBarred d && d.tb.period % itemN d 0x0402 == 0 then
    balBoundary { d with bal.anchorDue := false, bal.phaseTiming := true }
  else d

/-- A TEMP_FRONT result of the sequencer (R143, R227). -/
def tempArrived (v : Nat) (d : Dev) : Dev :=
  { d with conv.tempFront := v, bal.tempStale := false }

/-! ## Claims and duties -/

/-- The duty of a cell, its plan ended and its claim released (R228, R229). -/
def clearCell (n : Nat) (d : Dev) : Dev :=
  { d with bal.duty := d.bal.duty.set (n - 1) 0, bal.plans := d.bal.plans.set (n - 1) none,
           bal.owner := if nth d.bal.owner (n - 1) 0 = 0x38 then d.bal.owner.set (n - 1) 0 else d.bal.owner }

/-- A duty given to a cell: above 0 it claims the FET (R228). -/
def giveDuty (n v : Nat) (d : Dev) : Dev :=
  if v = 0 then clearCell n d
  else { d with bal.duty := d.bal.duty.set (n - 1) v, bal.plans := d.bal.plans.set (n - 1) none,
                bal.owner := d.bal.owner.set (n - 1) 0x38 }

/-- A plan ends: duty 0, claim released, BAL_DONE, journal entry with origin FIRMWARE (R229). -/
def endPlan (n reason : Nat) (d : Dev) : Dev :=
  let old := nth d.bal.duty (n - 1) 0
  let d1 := clearCell n { d with bal.done := mset d.bal.done (n - 1) true }
  jchange (fwCtx reason) (0x0480 + n) (Word.of old) 0 d1

/-! ## Bank drivers -/

/-- The AD_EN claim of an ACTIVE_SET that leaves every driver off ends (R458). -/
def releaseAdEn (d : Dev) : Dev := if d.banks.any (fun (b : Bank) => b.on) then d else gpioReleaseFn 6 d

/-- A driver turned off at once; excitation on it has stopped and disturbs the window (R239, R243, R249, R282). -/
def bankStop (b : Nat) (d : Dev) : Dev :=
  let ex := (bank d b).excite
  let d1 := modBank b (fun x => { x with on := false, applied := 0, excite := false }) d
  if ex then { d1 with
      eis.banksOn := mset d1.eis.banksOn b false
      eis.win := d1.eis.win.map (fun (w : Win) => { w with distBank := true }) } else d1

/-- A driver held off by its bank's fence (R244, R249, R282): it keeps its command and ramps up again from 0; excitation
ends. -/
def bankFence (b : Nat) (d : Dev) : Dev :=
  if (bank d b).excite then bankStop b d else modBank b (fun x => { x with applied := 0 }) d

/-- AD_G of bank b, from 0, carries its PWM word (R238, R242, R249, R86). -/
def bankDrives (d : Dev) (b : Nat) : Bool :=
  (bank d b).on && !(bank d b).interlock && !bankFenced d (b + 1) && !d.power.safeForced

/-- High time of AD_G at a command in uA, in HFO cycles of a period of 2400 (R238). -/
def pwmHigh (ua : Int) : Nat := (1200 + rround (32 * (ua : Rat) / 100000)).toNat

/-- Some cell of bank b, from 0, has a high effective OV or UV level (R242). -/
def bankLevels (d : Dev) (b : Nat) : Bool :=
  (List.range 6).any (fun i => mbit d.cmp.level (6 * b + i) || mbit d.cmp.level (24 + 6 * b + i))

/-- The comparator interlock follows the levels (R242): the applied command starts again from 0, excitation ends. -/
def followInterlock (d : Dev) : Dev :=
  if d.part.hasBanks then
    forEach [0, 1, 2, 3] (fun b d =>
      let now := bankLevels d b
      if now && !(bank d b).interlock then
        let ex := (bank d b).excite
        let d1 := modBank b (fun x => { x with interlock := true, applied := 0, excite := false }) d
        if ex then { d1 with eis.banksOn := mset d1.eis.banksOn b false,
                             eis.win := d1.eis.win.map (fun (w : Win) => { w with distBank := true }) } else d1
      else if !now && (bank d b).interlock then modBank b (fun x => { x with interlock := false }) d
      else d) d
  else d

/-! ## Weighted means -/

/-- Weighted mean over a record's support of the values of intervals given by their ends and length, in 1/1 of the
value's unit; none where no interval overlaps (R233). -/
def weightedMean (r : Rec) (len : Nat) (l : List (Nat × Int)) : Option Rat :=
  let ws := l.map (fun e => (supportWeight r ((e.1 : Int) - len) e.1, e.2))
  let w := (ws.map (fun e => e.1)).sum
  if w = 0 then none else some (((ws.map (fun e => e.1 * e.2)).sum : Int) / (w : Rat))

/-- Mean current of FET n, 0 for 0 and above the highest cell, in 0.1 mA (R233). -/
def meanFet (d : Dev) (r : Rec) (n : Nat) : Rat :=
  if cellPresent d n then
    (weightedMean r 12000 (d.bal.sensed.map (fun e => (e.1, ((nth e.2.1 (n - 1) 0 : Nat) : Int))))).getD 0
  else 0

/-- FET n conducted in some interval of the support (R234). -/
def conducted (d : Dev) (r : Rec) (n : Nat) : Bool :=
  cellPresent d n && d.bal.sensed.any (fun e =>
    mbit e.2.2 (n - 1) && supportWeight r ((e.1 : Int) - 12000) e.1 != 0)

/-- IR correction of cell n in nV: TAPRES in 0.1 mOhm times 0.1 mA is 10 nV (R233). -/
def irCorrection (d : Dev) (r : Rec) (n : Nat) : Rat :=
  let i := meanFet d r
  10 * ((itemN d (0x0410 + n) : Rat) * (i n - i (n + 1)) + (itemN d (0x0410 + n - 1) : Rat) * (i n - i (n - 1)))

/-- Mean current of bank b, from 0, over a record's support in 0.1 mA; none where the driver did not run (R248). -/
def meanBank (d : Dev) (r : Rec) (b : Nat) : Option Rat := weightedMean r 9600 (bank d b).seen

end Sys2Proof.Machine
end

