-- ==== Sys2Proof/Machine/EisOps.lean ====
section
/-! DEFINITION. The impedance plan's states, claims and windows (09_impedance.md R258 to R282). -/

namespace Sys2Proof.Machine

/-- A tone is muted: its frequency exceeds 2 kHz (R246, R247). -/
def toneMuted (d : Dev) (ratio : Nat) : Bool := decide (2000 * 2 ^ 64 < ratio * d.tb.inc * 384000000)

/-- Tones that the plan excites: all of an ACTIVE plan, the first of a BALANCE plan (R263). -/
def driveTones (p : EisPlan) : List (Nat × Nat × Nat) := if p.source = 3 then p.tones.take 1 else p.tones

/-- Tones of the plan that are muted now (R246, R247, R284). -/
def mutedTones (d : Dev) (p : EisPlan) : BitVec 8 :=
  mof 8 ((List.range (driveTones p).length).filter (fun k => toneMuted d (nth p.tones k (0, 0, 0)).1))

/-- Tones muted at this moment are noted (R246). -/
def noteMuted (d : Dev) : Dev :=
  match d.eis.plan with
  | some p => { d with eis.muted := mutedTones d p }
  | none => d

/-- A window that begins now, with the items it takes into force (R266, R283). -/
def newWindow (d : Dev) : Win :=
  { Win.reset with start := d.tb.period, beganAt := d.now, shRes := itemN d 0x0504, shPol := itemN d 0x0505,
                   modFrac := itemN d 0x0506, plan := d.eis.plan, gen := d.eis.gen }

/-- The open window is abandoned (R282). -/
def dropWindow (d : Dev) : Dev := { d with eis.win := none, eis.firstAt := none }

/-- Excitation of every unit of the plan ends. -/
def stopExcitation (d : Dev) : Dev :=
  { d with
    banks := d.banks.map (fun (b : Bank) => if b.excite then { b with excite := false, on := false, applied := 0 } else b)
    eis.banksOn := 0, eis.banksSeen := 0, eis.fetsOn := 0, eis.muted := 0, bal.exciteOn := 0 }

/-- The plan measures against the shunt (R256). -/
def usesShunt (d : Dev) (p : EisPlan) : Bool := p.source != 3 || mbit d.conv.enable 24

/-- The plan becomes SUSPENDED: window abandoned, EV123 (R282). -/
def suspendPlan (d : Dev) : Dev :=
  if d.eis.plan.isSome && d.eis.state != .suspended then
    raiseNS 123 0xFFFF (stopExcitation (dropWindow { d with eis.state := .suspended }))
  else d

/-- The plan starts, or starts again: INVERTER and ANY run with their start point at this moment's next meridian or the
present one, ACTIVE and BALANCE are ARMED (R263, R282). -/
def startPlan (p : EisPlan) (at' : Nat) (d : Dev) : Dev :=
  if p.source = 1 || p.source = 4 then { d with eis.state := .running, eis.firstAt := some at', eis.win := none }
  else { d with eis.state := .armed, eis.firstAt := none, eis.win := none }

/-- A SUSPENDED plan resumes on return to ACTIVE or at the end of the shunt's fence (R282). -/
def resumePlan (d : Dev) : Dev :=
  match d.eis.plan with
  | some p =>
    if d.eis.state == .suspended && active d && !(usesShunt d p && mbit d.fault.fencedCh 24) then
      startPlan p ((d.tb.period + 1) % 2 ^ 32) d
    else d
  | none => d

/-- Claims of the plan released (R261). -/
def releaseEis (d : Dev) : Dev :=
  let d1 := stopExcitation d
  { d1 with
    bal.owner := d1.bal.owner.map (fun o => if o = 0x40 then 0 else o)
    banks := d1.banks.map (fun (b : Bank) => if b.owner = 0x40 then { b with owner := 0, on := false, applied := 0 } else b) }

/-- Claims of a plan taken (R245, R263): ACTIVE its drivers, BALANCE its FETs. -/
def claimEis (p : EisPlan) (d : Dev) : Dev :=
  if p.source = 2 then
    { d with banks := (List.range 4).map (fun b =>
        if mbit p.banks b then { bank d b with owner := 0x40 } else bank d b) }
  else if p.source = 3 then
    { d with bal.owner := (List.range 24).map (fun i => if mbit p.fets i then 0x40 else nth d.bal.owner i 0) }
  else d

/-- A closed window some of whose close jobs run: its results are still delivered (R261). -/
def stillClosing (d : Dev) (w : Win) : Bool :=
  w.closed && d.eng.engines.any (fun (e : Engine) => (e.running.bind (desc d)).elim false (fun x =>
    x.kernel == 4 && x.gen == w.gen && x.start == w.start))

/-- A plan, or none, takes effect at a meridian (R261): windows not closed are abandoned, claims exchanged. Outside ACTIVE it
is SUSPENDED (R282). -/
def takePlan (np : Option EisPlan) (d : Dev) : Dev :=
  let d1 := releaseEis (dropWindow { d with
    eis.closing := (d.eis.closing.filter (stillClosing d)).map (fun (w : Win) => { w with cells := 0 })
    eis.gen := (d.eis.gen + 1) % 256, eis.winCnt := 0 })
  match np with
  | none => { d1 with eis.plan := none, eis.state := .idle, eis.next := none }
  | some p =>
    let d2 := claimEis p { d1 with eis.plan := some p, eis.next := none }
    if active d then startPlan p d.tb.period d2 else raiseNS 123 0xFFFF { d2 with eis.state := .suspended }

/-- The plan and all that belongs to it lost (R282). -/
def loseEis (d : Dev) : Dev :=
  let d1 := takePlan none d
  { d1 with eis := { Eis.reset with gen := d1.eis.gen } }

/-- The last record fired so far. -/
def lastFired (d : Dev) : Option Nat := d.conv.flight.reverse.head?.map (fun (r : Rec) => r.tseq)

/-- The window in progress ends at this meridian: it closes when the last record that lies in it is visible, and at
once where none is outstanding (R266). -/
def endWindow (w : Win) (d : Dev) : Dev :=
  let frame := match d.conv.frameAt with
    | some f => d.conv.mode = 1 && f.1 != d.tb.period
    | none => false
  let l := if frame then some d.conv.tseq else lastFired d
  { d with eis.closing := d.eis.closing ++ [{ w with dur := d.now - w.beganAt, last := l, closed := l.isNone }] }

/-- PERIOD_CNT p has reached a, in serial arithmetic; a renumbering may pass it (R101, R117). -/
def reached (p a : Nat) : Bool := decide ((p + 2 ^ 32 - a % 2 ^ 32) % 2 ^ 32 < 2 ^ 31)

/-- Windows at a meridian (R266). -/
def windowsAtMeridian (d : Dev) : Dev :=
  match d.eis.plan with
  | none => d
  | some p =>
    if d.eis.state != .running then d
    else
      match d.eis.win with
      | some w =>
        if reached d.tb.period (w.start + p.win) then
          let d1 := endWindow w d
          { d1 with eis.win := some (newWindow d1) }
        else d
      | none =>
        match d.eis.firstAt with
        | some a => if reached d.tb.period a then { d with eis.win := some (newWindow d) } else d
        | none => d

/-- The lowest RATIO code of a plan. -/
def minRatio (p : EisPlan) : Nat := (p.tones.map (fun t => t.1)).foldl min (2 ^ 32)

/-- Every unit of the plan has started, the last at the phase: RUNNING, the first window after one cycle of the lowest tone
(R264, R266). -/
def noteStarted (phase : Word) (d : Dev) : Dev :=
  match d.eis.plan with
  | none => d
  | some p =>
    let all := if p.source = 2 then p.banks &&& ~~~ d.eis.banksSeen == 0 else p.fets &&& ~~~ d.eis.fetsOn == 0
    if d.eis.state == .armed && all then
      -- the first meridian at least k periods after the start: k + 1 meridians on, or k where the start is a meridian
      let k := cdiv 65536 (minRatio p) + b2n (phase != 0)
      { d with eis.state := .running, eis.firstAt := some ((d.tb.period + k) % 2 ^ 32) }
    else d

/-- Entry index of the balance current log for each unit of the plan: banks, then FETs (R248). -/
def logUnits (p : EisPlan) : List (Bool × Nat) :=
  (mlist p.banks).map (fun b => (true, b)) ++ (mlist p.fets).map (fun i => (false, i + 1))

end Sys2Proof.Machine
end

