-- ==== Sys2Proof/Machine/BistOps.lean ====
section
/-! DEFINITION. The end of a self-test slice (16_periodic_self_test.md R502, R503, R509 to R513). Units: SRAM block or
0xFFFF, engine, 2 (channel - 1) + point, comparator, port. -/

namespace Sys2Proof.Machine

/-- Source of a slice's message (R511). -/
def sliceSource : Nat → Nat
  | 0 => 0x01
  | 1 => 0x05
  | 2 => 0x07
  | 3 => 0x08
  | _ => 0x0B

/-- Address of a slice's message (R511). -/
def sliceAddr (kind unit : Nat) : Nat := if kind = 2 then unit / 2 + 1 else unit

/-- UNIT as BIST_READ gives it (R513). -/
def sliceUnit (kind unit : Nat) : Nat :=
  if kind = 0 then (if unit = 0xFFFF then 0xFFFFFF else unit * 512)
  else if kind = 2 then unit / 2 + 1 + 256 * (unit % 2)
  else unit

/-- A self-test kind changed. -/
def modKind (k : Nat) (f : Kind → Kind) (d : Dev) : Dev := { d with bist.kinds := d.bist.kinds.modify k f }

/-- Self-test kind k. -/
def kindAt (d : Dev) (k : Nat) : Kind := nth d.bist.kinds k Kind.reset

/-- The unit under test goes back: an engine loads unless it is held after a FAIL, a comparator takes its held level,
the test DAC is free (R203, R287, R505, R510); the spare buffer's restore, a few us at most, is complete (R502, R503). -/
def returnUnit (kind unit : Nat) (failed : Bool) (d : Dev) : Dev :=
  let d1 := { d with bist.slice := none, bist.spare := none, aux.dacUser := if d.aux.dacUser == .selftest then .unused else d.aux.dacUser
                     aux.dacSettled := d.aux.dacSettled && d.aux.dacUser != .selftest }
  if kind = 1 then
    if failed then { d1 with bist.withdrawn := none, bist.failHold := some unit }
    else if (eng d unit).state == .fenced then { d1 with bist.withdrawn := none }
    else setEngState unit .loading { d1 with bist.withdrawn := none }
  else if kind = 3 then { d1 with cmp.check := none, cmp.checkStep := 0 }
  else d1

/-- A slice cut short without evidence: INCOMPLETE (R509, R510); an SRAM block keeps its restore to complete (R503). -/
def cutSlice (d : Dev) : Dev :=
  match d.bist.slice with
  | none => d
  | some s =>
    let d1 := modKind s.1 (fun k => { k with last := 3, unit := sliceUnit s.1 s.2, incomplete := satInc 65535 k.incomplete }) d
    returnUnit s.1 s.2 false (qmsg (sliceSource s.1) 0x06 (sliceAddr s.1 s.2) d1)

/-- A slice of one unit cut short. -/
def cutUnit (kind : Nat) (p : Nat → Bool) (d : Dev) : Dev :=
  match d.bist.slice with
  | some s => if s.1 = kind && p s.2 then cutSlice d else d
  | none => d

end Sys2Proof.Machine
end

