-- ==== Sys2Proof/Machine/SarOps.lean ====
section
/-! DEFINITION. The SAR's work, the leat slot, the users of the test DAC and the placing of input diagnosis checks
(06_aux_path_and_leat.md R164 to R183). -/

namespace Sys2Proof.Machine

/-! ## The table -/

/-- Entry e of the sequencer table. -/
def auxEntry (d : Dev) (e : Nat) : Word := nth d.aux.table e 0

/-- Source code of an entry (R164). -/
def entrySrc (w : Word) : Nat := bf w 25 7

/-- Conversions of a table entry. -/
def entryReps (w : Word) : Nat := bf w 21 4 + 1

/-- CK_PHASE cycles of one conversion of an entry (R162). -/
def convCycles (w : Word) : Nat := if bit w 12 then 19200 else 384

/-- The first loop entry from position p on, round the table (R165); none where the loop is idle. -/
def loopFrom (d : Dev) (p : Nat) : Option Nat :=
  let n := d.aux.table.length
  ((List.range n).map (fun i => (p + i) % n)).find? (fun i => !bit (auxEntry d i) 11)

/-- A loaded table takes effect: the loop restarts at entry 0, its DELAY abandoned, nothing filed yet (R168, R455). An
unread result of the old table stays VALID and is filed under its entry number (DESIGN CHOICE, log 89). -/
def takeTable (d : Dev) : Dev :=
  match d.aux.nextTable with
  | none => d
  | some t => { d with aux.table := t, aux.nextTable := none, aux.pos := 0, aux.sum := 0, aux.count := 0,
                       aux.delaying := false, aux.last := [], aux.lateEntries := [] }

/-! ## AUX transits to come -/

/-- CK_PHASE cycles until slot s acts next at INC (R113). -/
def cyclesTo (d : Dev) (s : Slot) : Nat :=
  let k := (s.offset + s.div - d.tb.period % s.div) % s.div
  let ahead : Int := (s.phase.toNat * 2 ^ 16 : Int) - d.tb.acc + k * 2 ^ 48
  cdiv (if ahead ≤ 0 then ahead + s.div * 2 ^ 48 else ahead).toNat (max 1 d.tb.inc)

/-- Work of so many cycles started now would end after the next AUX transit (R166). -/
def heldBack (d : Dev) (cycles : Nat) : Bool :=
  d.tb.slots.any (fun (s : Option Slot) => match s with
    | some x => x.en && x.action == 2 && decide (cyclesTo d x < cycles)
    | none => false)

/-! ## The leat slot -/

/-- The next of the listed cells from position p on, round the cells (R178). -/
def nextCell (d : Dev) (p : Nat) (ok : Nat → Bool) : Option Nat :=
  let n := d.part.cells
  ((List.range n).map (fun i => (p - 1 + i) % n + 1)).find? ok

/-- Comparisons of the cell pause until its leat has been verified (R180). -/
def leatPaused (d : Dev) (n : Nat) : Bool := d.aux.verify == some n || d.aux.toVerify.any (fun x => x.1 == n)

/-- Cells that share the priority slots: in confirmation or fenced (R178). -/
def prioCell (d : Dev) (n : Nat) : Bool := !mbit d.aux.excluded (n - 1) && (chFenced d n || mbit d.aux.confirm (n - 1))

/-- Cells of the round-robin slots (R178). -/
def robinCell (d : Dev) (n : Nat) : Bool :=
  (itemN d 0x0201).testBit (n - 1) && mbit d.conv.enable (n - 1) && !chFenced d n && !mbit d.aux.excluded (n - 1)

/-- A leat slot starts: its class, then its cell (R178, R181). The classes alternate over the slots that start; a slot that
is dropped changes no turn (DESIGN CHOICE, log 88). A slot without work is over at once. -/
def startSlot (d : Dev) : Dev :=
  let d0 := { d with aux.slotPending := false, aux.slotPriority := !d.aux.slotPriority, aux.convAt := d.now }
  let robin := match nextCell d d.aux.rrNext (robinCell d) with
    | some n => { d0 with aux.user := .leat, aux.slotOf := some n, aux.slotVerify := false, aux.rrNext := n % d.part.cells + 1 }
    | none => { d0 with aux.user := .idle }
  if d.aux.slotPriority then
    match d.aux.verify, d.aux.verifyOn, nextCell d d.aux.prNext (prioCell d) with
    | some n, true, _ => { d0 with aux.user := .leat, aux.slotOf := some n, aux.slotVerify := true }
    | _, _, some n =>
      { d0 with aux.user := .leat, aux.slotOf := some n, aux.slotVerify := false, aux.prNext := n % d.part.cells + 1 }
    | _, _, none => robin
  else robin

/-! ## The SAR -/

/-- The loop's next conversion, where it has one, is not waiting and may start now (R165, R166). -/
def loopWork (d : Dev) : Dev :=
  if d.aux.delaying then { d with aux.user := .idle }
  else match loopFrom d d.aux.pos with
    | some e =>
      if heldBack d (convCycles (auxEntry d e)) then { d with aux.user := .idle }
      else { d with aux.user := .loop, aux.pos := e, aux.convAt := d.now }
    | none => { d with aux.user := .idle }

/-- The SAR takes work at a conversion boundary: transit entry, leat slot, loop (R166), the last two only where they end
before the next AUX transit; none while its data has no room (01_architecture.md R25) and where the sequencer stops
(R169). -/
def sarWork (d : Dev) : Dev :=
  if !awake d || d.d2d.sarWait then { d with aux.user := .idle }
  else if d.aux.txEntry.isSome then { d with aux.user := .transit, aux.convAt := d.now }
  else
    let d1 := if d.aux.count = 0 then takeTable d else d
    if d1.aux.slotPending && active d1 && !heldBack d1 1536 then
      let d2 := startSlot d1
      if d2.aux.user == .leat then d2 else loopWork d2
    else loopWork d1

/-- The SAR takes work if it has none. -/
def sarKick (d : Dev) : Dev := if d.aux.user == .idle then sarWork d else d

/-- Cycles until the conversions of the transit entries under way have ended (R116, R166). -/
def transitRest (d : Dev) : Nat :=
  match d.aux.txEntry with
  | none => 0
  | some x =>
    let w := auxEntry d x
    (entryReps w - d.aux.txCount) * convCycles w - (d.now - d.aux.convAt) +
      (d.aux.txNext.map (fun e => entryReps (auxEntry d e) * convCycles (auxEntry d e))).sum

/-- The SAR is busy for a transit entry: it waits for room, or an earlier entry will not end within 2 us
(R116, R166, 01_architecture.md R25). -/
def sarBusy (d : Dev) : Bool := d.d2d.sarWait || decide (768 < transitRest d)

/-- An AUX transit (R116, R166, R167): it starts at the phase, or as soon as the earlier entries end, or is skipped. -/
def auxTransit (e : Nat) (d : Dev) : Dev :=
  if sarBusy d then
    lateTransit { d with aux.lateEntries := if d.aux.lateEntries.contains e then d.aux.lateEntries
                                            else d.aux.lateEntries ++ [e] }
  else if d.aux.txEntry.isSome then { d with aux.txNext := d.aux.txNext ++ [e] }
  else { d with aux.txEntry := some e, aux.txSum := 0, aux.txCount := 0, aux.user := .transit, aux.convAt := d.now
                aux.slotPending := d.aux.slotPending || d.aux.user == .leat, aux.slotOf := none, aux.slotVerify := false }

/-- The sequencer starts with its reset table (R169). -/
def auxStart (d : Dev) : Dev :=
  sarWork { d with aux.table := resetAuxTable, aux.nextTable := none, aux.pos := 0, aux.sum := 0, aux.count := 0,
                   aux.delaying := false, aux.user := .idle, aux.txEntry := none, aux.txNext := [], aux.last := [],
                   aux.lateEntries := [] }

/-! ## The test DAC -/

/-- The first verification waiting starts where the test DAC is free (R174, R181). -/
def startVerify (d : Dev) : Dev :=
  match d.aux.toVerify, d.aux.verify, d.aux.dacUser with
  | x :: t, none, .unused =>
    { d with aux.toVerify := t, aux.verify := some x.1, aux.verifyVp := x.2, aux.verifyOn := false, aux.dacUser := .leat,
             aux.dacCode := (clampInt 0 1023 (rround (x.2 * 186 / 1000000))).toNat, aux.dacSettled := false }
  | _, _, _ => d

/-- The test DAC is given back; who waits for it takes it at the command's end (R174, serveDac). -/
def dacFree (d : Dev) : Dev := { d with aux.dacUser := .unused, aux.dacSettled := false, aux.bypass := false }

/-! ## Placing a diagnosis check -/

/-- Targets that cells have enabled, or that a table entry named when the run started and names no more (R175 to R177);
0 to 24 OPEN_C, 25 to 48 OPEN_SB, 49 to 72 PATH, 73 to 88 AX_PATH. -/
def diagEligible (d : Dev) (t : Nat) : Bool :=
  if t ≤ 24 then decide (t ≤ d.part.cells) && (targetCells d t).any (fun n => mbit d.conv.enable (n - 1))
  else if t ≤ 48 then cellPresent d (t - 24) && mbit d.conv.enable (t - 25)
  else if t ≤ 72 then cellPresent d (t - 48) && mbit d.conv.enable (t - 49)
  else mbit d.aux.axAtStart (t - 73) && !d.aux.table.any (fun w => entrySrc w == t - 73)

/-- Cycles until the support of slot s's next transit begins (R113, R127); none while it has begun. -/
def supportIn (d : Dev) (s : Slot) : Option Nat :=
  let half := modCycle (apertureMult d) d.tb.inc * supportBits (decR d.conv.dec) (d.conv.fir == 1) / 2
  if (cyclesTo d s : Rat) < half then none else some ((cyclesTo d s : Rat) - half).floor.toNat

/-- Cycles that a check with its recovery disturbs its cells (R175, R176): the pull; for PATH two settlings of the DAC and
three conversions of 748 CK_MOD cycles with their direct readings (DEDUCED, log 90). -/
def checkCycles (d : Dev) : Nat :=
  384 * itemN d 0x0206 +
    (if d.aux.target < 49 then 384 * itemN d 0x0205
     else 384 * 33 + (2244 * modCycle (apertureMult d) d.tb.inc).ceil.toNat)

/-- No modulator bit of a sample of a disturbed cell falls within the interval of a check starting now, whether its slot is
in force or waits for its START (R176). -/
def gapNow (d : Dev) (cells : List Nat) : Bool :=
  let hit := fun (m : BitVec 25) => cells.any (fun n => mbit m (n - 1) && mbit d.conv.enable (n - 1))
  let clear := fun (x : Slot) => !(x.en && x.action == 1 && hit x.arg) || (match supportIn d x with
    | some c => decide (checkCycles d ≤ c)
    | none => false)
  !active d ||
    (d.conv.mode == 0 &&
      !(d.conv.flight.any (fun (r : Rec) => !r.complete && hit r.named)) &&
      !(d.conv.apStart.any (fun (l : Lead) => hit l.started)) &&
      d.tb.slots.all (fun (s : Option Slot) => s.elim true clear) &&
      d.tb.loads.all (fun (l : PlanLoad) => l.slots.all (fun e => clear e.2)))

/-- The pending check begins (R175): PATH and AX_PATH take the test DAC at their first code. -/
def beginCheck (d : Dev) : Dev :=
  let dac := decide (49 ≤ d.aux.target)
  { d with aux.pulling := true, aux.gapWait := false, aux.noGap := false, aux.diagStep := 0, aux.bypass := false
           aux.dacUser := if dac then .diag else d.aux.dacUser
           aux.dacCode := if dac then (if d.aux.target ≤ 72 then 186 else 93) else d.aux.dacCode
           aux.dacSettled := if dac then false else d.aux.dacSettled }

/-- The pending check can take the test DAC, or needs none (R174). -/
def diagDac (d : Dev) : Bool := decide (d.aux.target < 49) || d.aux.dacUser == .unused

/-- The disturbed cells disabled for the interval (R176). -/
def diagDisable (d : Dev) : Dev :=
  { d with conv.disabledDiag := mof 24 ((targetCells d d.aux.target).map (· - 1)) }

/-- The run goes on with the next target from t on, or ends (R177). -/
def diagNext (t : Nat) (d : Dev) : Dev :=
  match (List.range 89).find? (fun i => decide (t ≤ i) && diagEligible d i) with
  | some i => { d with aux.target := i, aux.gapWait := true, aux.noGap := false }
  | none => { d with aux.running := false, aux.gapWait := false, aux.noGap := false, aux.target := 0 }

/-- A check that waits, and an AX_PATH check under way, give up where their target is one no more (R176, R177). -/
def dropStale (d : Dev) : Dev :=
  if !d.aux.running || d.aux.recovering || diagEligible d d.aux.target then d
  else if d.aux.gapWait then diagNext (d.aux.target + 1) d
  else if d.aux.pulling && decide (73 ≤ d.aux.target) then
    diagNext (d.aux.target + 1) (whenDo (d.aux.dacUser == .diag) dacFree { d with aux.pulling := false })
  else d

/-- The pending check begins where its mode lets it (R176). -/
def tryCheck (d : Dev) : Dev :=
  if !(d.aux.running && d.aux.gapWait && diagDac d) then d
  else if 73 ≤ d.aux.target || gapNow d (targetCells d d.aux.target) then beginCheck d
  else if d.conv.mode = 1 || d.aux.noGap then beginCheck (diagDisable d)
  else d

/-- Who waits for the test DAC, or for a gap, is served in the order of precedence (R174, R176). -/
def serveDac (d : Dev) : Dev := if awake d then tryCheck (dropStale (startVerify d)) else d

/-- An input diagnosis run starts (R177). -/
def diagRun (d : Dev) : Dev :=
  if d.aux.running then d
  else diagNext 0 { d with aux.running := true
                           aux.axAtStart := mof 16 ((d.aux.table.map entrySrc).filter (· < 16)) }

end Sys2Proof.Machine
end

