-- ==== Sys2Proof/Machine/PortOps.lean ====
section
/-! DEFINITION. Loss of signal on a port, the fall-back of the clock reference, and what follows for the ring
(11_burza_link.md R323, R334, 03_supply_power_clocks.md R75, 04_phase_timebase.md R107, R108,
12_ring_membership.md R359, R374, R378, R379). -/

namespace Sys2Proof.Machine

/-- The head-side port of a device (R359). -/
def headSide (d : Dev) : Option Port :=
  match d.ring.mode with
  | .gated => d.ring.headPort
  | .normal | .arm => some .A
  | .reversed => some .B
  | .fold => some (if d.ring.foldB then .B else .A)
  | .unattached | .await => none

/-- The port is expected to receive (R359); a disabled or fenced port never is (R45, R487). -/
def expectedRx (d : Dev) (p : Port) : Bool :=
  portUp d p &&
    (if isHead d then (p == .A && d.ring.stat == .closed) || d.head.flights.any (fun (f : Flight) => mbit f.out p.num)
     else match d.ring.mode with
      | .normal => p == .A
      | .arm => p == .A && !d.ring.returning
      | .reversed => p == .B && !d.ring.returning
      | .fold => headSide d == some p && !d.ring.turning
      | _ => false)

/-- LOCK and LOS of a port. -/
def setLock (p : Port) (v : Bool) (d : Dev) : Dev :=
  match p with
  | .A => { d with link.lockA := v }
  | .B => { d with link.lockB := v }

/-- LOS of a port set. -/
def setLos (p : Port) (d : Dev) : Dev :=
  match p with
  | .A => { d with link.losA := true }
  | .B => { d with link.losB := true }

/-- LOCK of a port. -/
def lockOf (d : Dev) : Port → Bool
  | .A => d.link.lockA
  | .B => d.link.lockB

/-- The PLL_P reference of a member falls back to LOCAL_REF (R75): EV102; INC is scaled by the ratio of HFO to
CK_PHASE that was measured while LOCKED (R108). -/
def refFallback (d : Dev) : Dev :=
  if d.clk.pllRef == .rck then
    let r := if itemN d 0x0A07 = 1 && d.clk.xo == .stable then RefSel.xo else .hfo
    let d1 := { d with clk.pllRef := r }
    let d2 := if d.tb.state == .locked || d.tb.flyCounting then
        { d1 with tb.inc := (rdiv ((d.tb.inc : Int) * (1000000 + Config.hfoRatio d.free)) 1000000).toNat
                  free := d.free + 1 } else d1
    raiseNS 102 0xFFFF d2
  else d

/-- A frame of the head's goes back to where it waited: a part of the sweep, a tunnelled frame; ring frames are given up. -/
def requeue (f : Flight) (d : Dev) : Dev :=
  if f.kind = 0 then { d with head.sweepParts := (f.first, f.slots) :: d.head.sweepParts }
  else if f.kind = 2 || f.kind = 3 || f.kind = 4 then { d with head.tunnel := { f with rty := 0, out := 0 } :: d.head.tunnel }
  else d

/-- The head gives up the frames in flight, their retries and every ring frame. -/
def dropFrames (d : Dev) : Dev :=
  let d1 := (d.head.retry ++ d.head.flights).foldr requeue d
  { d1 with
    head.flights := [], head.retry := [], head.ringFrames := []
    ring.measQ := [], ring.measures := [], ring.measFor := 0, ring.toWrite := [] }

/-- The head meets a break of its ring (R379): the frame in flight abandoned, WRAPPED, EV73, both folds still to be set;
mark says that port A lost its signal, so that a break mark is awaited there. -/
def breakRing (mark : Bool) (d : Dev) : Dev :=
  let d1 := dropFrames d
  raiseNS 73 0xFFFF { d1 with
    ring.stat := .wrapped, ring.marking := mark, ring.reversePend := mark, ring.restore := 0, ring.foldAAddr := 0
    ring.foldBAddr := 0, ring.lostPasses := [0, 0]
    ring.map := d1.ring.map.map (fun (e : MapEntry) => { e with fold := false }) }

/-- A break at port A of a closed ring. -/
def headBreak (d : Dev) : Dev := breakRing true d

/-- Loss of signal on port p (R323): nothing where the port is not expected to receive (R359, R45). -/
def losOn (p : Port) (d : Dev) : Dev :=
  if !expectedRx d p then d
  else
    let closedA := isHead d && p == .A && d.ring.stat == .closed
    let enum := isHead d && d.ring.stat == .enumerating
    let d1 := raiseNS 66 p.num (setLos p (setLock p false d))
    let d2 := cutUnit 4 (fun u => u == p.num) d1
    if isHead d2 then
      if closedA then headBreak d2
      else if enum then { d2 with ring.disturbed := true }
      else d2
    else
      let d3 := refFallback d2
      let d4 := if d3.tb.state == .locked then enterFlywheel d3 else d3
      match d4.ring.mode with
      | .normal => { d4 with ring.marking := true, ring.reversePend := true }
      | .arm | .reversed | .fold =>
        { d4 with ring.mode := .unattached, ring.headPort := none, ring.returning := false, ring.turning := false }
      | _ => d4

end Sys2Proof.Machine
end

