-- ==== Sys2Proof/Machine/React.lean ====
section
/-! DEFINITION. Fences, their reactions and their release, and the occurrence of an event with every reaction
(15_faults_and_sluices.md R481 to R490, R496, R573). Unit codes are kind * 256 + unit: 1 channel, 2 engine, 3 port,
4 bank. -/

namespace Sys2Proof.Machine

/-- Item of the fence mask that a unit code belongs to (R499). -/
def fenceItem (u : Nat) : Nat := if u / 256 = 1 then 0x0881 else if u / 256 = 2 then 0x0882 else 0x0883

/-- The fence mask word that a unit code belongs to (R499). -/
def fenceWord (d : Dev) (u : Nat) : Word :=
  if u / 256 = 1 then Word.of d.fault.fencedCh.toNat
  else if u / 256 = 2 then Word.of d.fault.fencedEng.toNat
  else fencedPB d

/-- Message source of a unit code (R573). -/
def unitSource (u : Nat) : Nat := nth [0, 0x07, 0x05, 0x0B, 0x0A] (u / 256) 0x0C

/-- The unit of the code is fenced. -/
def isFenced (d : Dev) (u : Nat) : Bool :=
  let n := u % 256
  match u / 256 with
  | 1 => mbit d.fault.fencedCh (n - 1)
  | 2 => mbit d.fault.fencedEng n
  | 3 => mbit d.fault.fencedPort n
  | 4 => mbit d.fault.fencedBank (n - 1)
  | _ => false

/-- The unit of the code is absent on this part (R4). -/
def unitAbsent (d : Dev) (u : Nat) : Bool :=
  let n := u % 256
  match u / 256 with
  | 1 => !(cellPresent d n || n == 25)
  | 2 => decide (d.part.engines ≤ n)
  | 3 => false
  | 4 => decide (d.part.cells < 6 * (n - 1) + 1)
  | _ => true

/-- The fence is not carried out (R487): fewer than 2 engines would be in service; the other port is fenced. -/
def fenceRefused (d : Dev) (u : Nat) : Bool :=
  let n := u % 256
  match u / 256 with
  | 2 => decide (((List.range 16).filter (fun e => e != n && inService (eng d e))).length < 2)
  | 3 => mbit d.fault.fencedPort (1 - n)
  | _ => false

/-- The unit fenced (R487). -/
def fenceUnit (u : Nat) (d : Dev) : Dev :=
  let n := u % 256
  match u / 256 with
  | 1 =>
    let d1 := { d with fault.fencedCh := mset d.fault.fencedCh (n - 1) true }
    let d2 := cutUnit 2 (fun x => x / 2 + 1 == n) d1
    if n = 25 then
      match d2.eis.plan with
      | some p => if usesShunt d2 p then suspendPlan d2 else d2
      | none => d2
    else d2
  | 2 => cutUnit 1 (fun x => x == n) (fenceEngine n d)
  | 3 =>
    let p : Port := if n = 0 then .A else .B
    let d1 := losOn p d
    setLock p false { d1 with fault.fencedPort := mset d1.fault.fencedPort n true }
  | 4 =>
    let d1 := bankFence (n - 1) { d with fault.fencedBank := mset d.fault.fencedBank (n - 1) true }
    cutUnit 3 (fun k => k < 48 && k % 24 / 6 + 1 == n) d1
  | _ => d

/-- The fence of a unit ends (R489): the channel settles, the engine loads, the port is enabled, the bank's FETs go
on with their schedule; an impedance plan suspended for the shunt resumes. -/
def releaseUnit (u : Nat) (d : Dev) : Dev :=
  let n := u % 256
  match u / 256 with
  | 1 =>
    let d1 := settleOne (n - 1) { d with fault.fencedCh := mset d.fault.fencedCh (n - 1) false }
    if n = 25 then resumePlan d1 else d1
  | 2 => unfenceEngine n d
  | 3 => { d with fault.fencedPort := mset d.fault.fencedPort n false }
  | 4 => { d with fault.fencedBank := mset d.fault.fencedBank (n - 1) false }
  | _ => d

/-- Units that a fence reaction acts on (R481, R496): of the fence's own kind, the cells' banks for FENCE_BANK; EV126
takes the unit that failed, whatever the code. -/
def reactUnits (r k : Nat) (tg : List Nat) (forced : Bool) : List Nat :=
  let l := tg.filter unitOk
  if k = 126 then l
  else if r = 4 && !forced then
    ((l.filter (fun u => u / 256 = 1 && u % 256 ≤ 24)).map (fun u => 0x400 + bankOf (u % 256))).dedup ++
      l.filter (fun u => u / 256 = 4)
  else l.filter (fun u => u / 256 = r)

/-- One unit of a reaction: fenced with its FENCED message, or REFUSED (R485, R487, R573). -/
def reactOne (u : Nat) (d : Dev) : Dev :=
  if isFenced d u then qmsg (unitSource u) 0x02 (u % 256) d
  else if fenceRefused d u then qmsg (unitSource u) 0x03 (u % 256) d
  else qmsg (unitSource u) 0x02 (u % 256) (fenceUnit u d)

/-- The configured reaction (R483, R487). -/
def reactFull : React := fun r k tg forced d =>
  if r = 5 then safeReaction k d
  else
    let us := (reactUnits r k tg forced).filter (fun u => !unitAbsent d u)
    match us with
    | [] => endHandling k (qmsg 0x0C 0x03 k d)
    | u :: _ =>
      let old := fenceWord d u
      let d1 := forEach us reactOne d
      let new := fenceWord d1 u
      if us.any (fun x => isFenced d1 x) then
        modEsc k (fun e => { e with inForce := r, forceUnit := u,
                                    journal := if old = new then none else some (fenceItem u, old, new, r) }) d1
      else endHandling k d1

/-- An occurrence of EVk that names units by their codes (R477). -/
def raiseOn (k unit : Nat) (tg : List Nat) (d : Dev) : Dev := occurWith reactFull k unit tg false d

/-- An occurrence that names no unit to fence. -/
def raise (k : Nat) (d : Dev) : Dev := raiseOn k 0xFFFF [] d

/-- An occurrence on a channel, 1 to 24 and 25 for the shunt. -/
def raiseCh (k n : Nat) (d : Dev) : Dev := raiseOn k (0x100 + n) [0x100 + n] d

/-- An occurrence on an engine. -/
def raiseEng (k e : Nat) (d : Dev) : Dev := raiseOn k (0x200 + e) [0x200 + e] d

/-- An occurrence on a port. -/
def raisePort (k : Nat) (p : Port) (d : Dev) : Dev := raiseOn k (0x300 + p.num) [0x300 + p.num] d

/-- An occurrence on a bank, from 1. -/
def raiseBank (k b : Nat) (d : Dev) : Dev := raiseOn k (0x400 + b) [0x400 + b] d

/-- A forced occurrence: the unit is FORCE_UNIT (R496). -/
def raiseForced (k : Nat) (d : Dev) : Dev :=
  let u := itemN d 0x0885
  occurWith reactFull k u [u] true d

/-- EV126 for a unit that failed its self-test or check (R481): comparators stand for the bank of their cell. -/
def raiseBist (kind unit : Nat) (d : Dev) : Dev :=
  let tg := match kind with
    | 1 => [0x200 + unit]
    | 2 => [0x100 + unit / 2 + 1]
    | 3 => if unit < 48 then [0x400 + unit % 24 / 6 + 1] else []
    | 4 => [0x300 + unit]
    | _ => []
  raiseOn 126 (sliceUnit kind unit) tg d

end Sys2Proof.Machine
end

