-- ==== Sys2Proof/Machine/CmpOps.lean ====
section
/-! DEFINITION. Comparator levels, edges, arming and the trip path
(07_comparators_and_trip.md R188 to R212, R572; 15_faults_and_sluices.md R491). -/

namespace Sys2Proof.Machine

/-- The core die restarts from SAFE_HOLD: the front die has stayed powered (R88, R572). -/
def restarting (d : Dev) : Bool :=
  d.power.pstate == .starting && decide (7 ≤ d.power.stepNo) && decide (0x10 ≤ causeCode d.power.cause)

/-- The comparators are powered (R188), through a restart from SAFE_HOLD too (R572). -/
def cmpPowered (d : Dev) : Bool := awake d || d.power.safeHold || restarting d

/-- Comparator k is armed by the items and the power state (R188, R572): 0 to 23 OV, 24 to 47 UV, 48 to 63 AX. -/
def armedNow (d : Dev) (k : Nat) : Bool :=
  let cell := fun (n : Nat) (it : Nat) => cellPresent d n && (itemN d 0x0101).testBit (n - 1) && (itemN d it).testBit (n - 1)
  cmpPowered d && (if k < 24 then cell (k + 1) 0x0301 else if k < 48 then cell (k - 23) 0x0302
                   else decide (k < 64) && (itemN d 0x0307).testBit (k - 48))

/-! ## The trip path -/

/-- Trip ports (R205): B in the normal direction, the port toward the head on a folded arm, which is A in ARM and B in
REVERSED mode; both behind a closed headgate (R361); a fenced port gives way to the other (R487). The head's is B, and a
member that is UNATTACHED or in AWAIT takes both: the spec names none there (DESIGN CHOICE, log 91). -/
def tripPorts (d : Dev) : List Port :=
  let base : List Port := if isHead d then [.B]
    else if !d.ring.gate then [.A, .B]
    else match d.ring.mode with
      | .normal => [.B]
      | .arm => [.A]
      | .reversed => [.B]
      | .fold => [if d.ring.foldB then .B else .A]
      | _ => [.A, .B]
  (base.map (fun p => if portFenced d p then p.other else p)).dedup.filter (portUp d)

/-- A list of ports as a mask, bit 0 A. -/
def portMask (l : List Port) : BitVec 2 := mof 2 (l.map Port.num)

/-- The trip port is receiving on a folded arm, so insertion waits (R207). -/
def tripBusy (d : Dev) : Bool :=
  !isHead d && (match d.ring.mode with
    | .arm | .reversed | .fold => !d.ring.returning && !d.ring.turning && (tripPorts d).any (fun p => lockOf d p && expectedRx d p)
    | _ => false)

/-- A TRIP symbol leaves by the trip ports (R206). One trip driven onto two ports counts once (DESIGN CHOICE, log 92). -/
def driveTrip (d : Dev) : Dev :=
  if (tripPorts d).isEmpty then { d with trip.deferred := false }
  else { d with trip.outPorts := portMask (tripPorts d), trip.insertCnt := satInc 255 d.trip.insertCnt, trip.deferred := false }

/-- A TRIP inserted (R206); nothing in SAFE_HOLD (R207) and within 4 bit times of one being forwarded, which counts as
sent (R208). -/
def insertTrip (d : Dev) : Dev :=
  if d.power.safeForced then d
  else if d.trip.forwarding && d.now < d.trip.fwdAt + 48 then d
  else if tripBusy d then { d with trip.deferred := true }
  else driveTrip d

/-- PENDING of a member (R210). -/
def notePending (d : Dev) : Dev :=
  { d with trip.pending := !isHead d && d.trip.tripn && !d.trip.headEcho }

/-- TRIPN follows the armed OV and UV levels (R204): on assertion FAULTN is stretched, a TRIP inserted, the trip
timestamp captured (R206, R212, R491). -/
def followTrip (d : Dev) : Dev :=
  let t := (List.range 48).any (fun k => mbit d.cmp.level k && mbit d.cmp.armed k)
  if t && !d.trip.tripn then
    let d1 := triggerStretch { d with trip.tripn := true, trip.localLatch := true }
    let a := (d.tb.acc + 2 ^ 48 - (2 * d.tb.inc) % 2 ^ 48) % 2 ^ 48
    let under := decide (d.tb.acc < 2 * d.tb.inc)
    let d2 := if d.trip.tsValid then d1
      else { d1 with trip.tsValid := true, trip.tsPhase := Word.of (a / 2 ^ 16)
                     trip.tsPeriod := if under then (d.tb.period + 2 ^ 32 - 1) % 2 ^ 32 else d.tb.period }
    notePending (insertTrip d2)
  else if !t && d.trip.tripn then notePending { d with trip.tripn := false, trip.deferred := false }
  else notePending d

/-- AX above and below its window follow the level (R215): the side is that of the latest result. -/
def axSide (k : Nat) (above : Bool) (d : Dev) : Dev :=
  let n := k - 48
  let hi := mbit d.cmp.level k
  { d with cmp.axAbove := mset d.cmp.axAbove n (hi && above), cmp.axBelow := mset d.cmp.axBelow n (hi && !above) }

/-- An edge record (R195), at most one per direction in 16 us (R196). -/
def edgeRecord (k : Nat) (rise forced : Bool) (period : Nat) (phase : Word) (d : Dev) : Dev :=
  let key := 2 * k + b2n rise
  let recent := match akey d.cmp.recAt key with
    | some t => decide (d.now < t + 6144)
    | none => false
  if recent then d
  else evtRecord 1 k [Word.of period, Word.of (phase.toNat / 256 * 256 + k * 4 + b2n rise * 2 + b2n forced)]
    { d with cmp.recAt := aset d.cmp.recAt key d.now }

/-- Class of comparator k: 0 OV, 1 UV, 2 AX. -/
def cmpClass (k : Nat) : Nat := if k < 24 then 0 else if k < 48 then 1 else 2

/-- Units that an occurrence of EVk names: the channel of the cell (R481). -/
def cmpUnits (k : Nat) : List Nat := if k < 48 then [0x100 + k % 24 + 1] else []

/-- An effective edge as the core die learns of it (R194, R195): record, and event of a rise. While the core die is in
reset there is neither. -/
def edgeToCore (k : Nat) (hi forced : Bool) (period : Nat) (phase : Word) (d : Dev) : Dev :=
  if d.power.coreReset then d
  else
    let d1 := edgeRecord k hi forced period phase d
    if hi then raiseOn k ((cmpUnits k).headD k) (cmpUnits k) d1 else d1

/-- A comparator's edge on its way to the core die (R25, R195): with no room it stays latched, in a retrain it waits in the
hold buffer, each with the period and phase of the output's change. -/
def sendEdge (k : Nat) (hi forced : Bool) (period : Nat) (phase : Word) (d : Dev) : Dev :=
  if forced then edgeToCore k hi true period phase d
  else if holdFull d then { d with d2d.latched := d.d2d.latched ++ [(k, hi, period, phase)] }
  else viaBus (.edge k hi period phase) (edgeToCore k hi false period phase) d

/-- An effective edge of comparator k (R194, R197, R204): flags, WAKE, what the core die learns, the trip path. -/
def setLevel (k : Nat) (hi forced : Bool) (period : Nat) (phase : Word) (d : Dev) : Dev :=
  if mbit d.cmp.level k = hi then d
  else
    let d1 := { d with
      cmp.level := mset d.cmp.level k hi
      cmp.rise := if hi then mset d.cmp.rise k true else d.cmp.rise
      cmp.fall := if hi then d.cmp.fall else mset d.cmp.fall k true
      cmp.inband := if hi && k < 48 then mset d.cmp.inband k false else d.cmp.inband }
    let w := hi && (itemN d 0x030A).testBit (cmpClass k)
    let d2 := if w then { d1 with power.wakeOut := true, trip.wakeClass := mset d1.trip.wakeClass (cmpClass k) true } else d1
    let d3 := sendEdge k hi forced period phase d2
    if k < 48 then followTrip d3 else d3

/-- Comparator k is isolated for a check (R203, R501): only while the test DAC stands settled at a level. -/
def isolated (d : Dev) (k : Nat) : Bool := d.cmp.check == some k && d.aux.dacSettled

/-- The latest result filed of AX input n, from 0 (R173). -/
def axLatest (d : Dev) (n : Nat) : Option Nat :=
  (d.aux.last.reverse.find? (fun e => entrySrc (auxEntry d e.1) == n)).map (fun e => bf e.2.result 16 16)

/-- Which side of its window AX input k - 48 left (R215): that of its latest result; where none says so the side is
free (log 29). -/
def noteAxSide (k : Nat) (d : Dev) : Dev :=
  if k < 48 then d
  else
    let w := nth d.cmp.th k (0, 4095)
    match axLatest d (k - 48) with
    | some v =>
      if 16 * w.2 < v then axSide k true d
      else if v < 16 * w.1 then axSide k false d
      else axSide k (bit (Config.freeWord d.free) 0) { d with free := d.free + 1 }
    | none => axSide k (bit (Config.freeWord d.free) 0) { d with free := d.free + 1 }

/-- The output of comparator k becomes effective (R191, R194): its time is that of the output's change. -/
def makeEffective (k : Nat) (d : Dev) : Dev :=
  let hi := mbit d.cmp.raw k
  if !cmpPowered d || !mbit d.cmp.armed k || isolated d k || mbit d.cmp.level k == hi then d
  else
    let t := (akey d.cmp.rawAt k).getD (d.tb.period, phaseNow d)
    noteAxSide k (setLevel k hi false t.1 (Word.of t.2) d)

/-- An output without a deglitch is effective at once (R191). -/
def effectiveNow (k : Nat) (d : Dev) : Dev := if nth d.cmp.dgl (cmpClass k) 0 = 0 then makeEffective k d else d

/-- Arming follows the items and the power state (R188, R198): a comparator that ceases to be armed falls silently; a
cell comparator newly armed is low and UNDECIDED, and follows its output at once. -/
def rearm (d : Dev) : Dev :=
  let new := mof 64 ((List.range 64).filter (armedNow d))
  let gone := d.cmp.armed &&& ~~~ new
  let fresh := new &&& ~~~ d.cmp.armed
  let freshCells := mof 24 ((List.range 24).filter (fun i => mbit fresh i || mbit fresh (24 + i)))
  let keep := mof 24 ((List.range 24).filter (fun i => mbit new i || mbit new (24 + i)))
  let lost : BitVec 16 := mof 16 ((List.range 16).filter (fun i => mbit gone (48 + i)))
  forEach (mlist fresh) effectiveNow (followTrip { d with
    cmp.armed := new
    cmp.level := d.cmp.level &&& ~~~ gone &&& ~~~ fresh
    cmp.inband := d.cmp.inband &&& ~~~ (mof 48 (((List.range 48).filter (fun k => mbit gone k || mbit fresh k))))
    cmp.undecided := (d.cmp.undecided ||| freshCells) &&& keep
    cmp.axAbove := d.cmp.axAbove &&& ~~~ lost
    cmp.axBelow := d.cmp.axBelow &&& ~~~ lost })

/-- Hysteresis of a code in units of 10 mV times 10 (R189). -/
def hysMv (c : Nat) : Int := nth [0, 10, 25, 50, 100] c 100

/-- Where a cell value in uV lies for comparator k < 48 with the settings in force (R199): 2 beyond the trip point,
0 beyond the release point, 1 inside the band. -/
def bandOf (d : Dev) (k : Nat) (v : Int) : Nat :=
  let th : Int := (nth d.cmp.th k (0, 0)).1 * 10000
  let h : Int := hysMv (nth d.cmp.hys (cmpClass k) 0) * 1000
  if k < 24 then (if th < v then 2 else if v < th - h then 0 else 1)
  else (if v < th then 2 else if th + h < v then 0 else 1)

/-- A converter decision (R199, R200): the comparator stands at the level from then on, and R189 applies to it. -/
def forceLevel (k : Nat) (hi : Bool) (r : Rec) (d : Dev) : Dev :=
  let d1 := setLevel k hi true r.period r.phase d
  { d1 with cmp.raw := mset d1.cmp.raw k hi }

/-- A visible sample of a cell decides its comparators, or resolves INIT_IN_BAND (R199, R200); while one of them is isolated
its level is held (R203). -/
def decideCell (r : Rec) (n : Nat) (d : Dev) : Dev :=
  let w := recWord r (n - 1)
  if w = 0x80000000 || bit w 7 || bit w 2 || isolated d (n - 1) || isolated d (23 + n) then d
  else
    let v := sext 24 (bf w 8 24)
    let first := mbit d.cmp.undecided (n - 1)
    let one' := fun (k : Nat) (d : Dev) =>
      if !mbit d.cmp.armed k then d
      else
        let b := bandOf d k v
        if first then
          let d1 := forceLevel k (b == 2) r d
          { d1 with cmp.inband := mset d1.cmp.inband k (b == 1) }
        else if mbit d.cmp.inband k then
          if b = 2 then forceLevel k true r d
          else if b = 0 then { d with cmp.inband := mset d.cmp.inband k false }
          else d
        else d
    let d1 := one' (23 + n) (one' (n - 1) d)
    { d1 with cmp.undecided := mset d1.cmp.undecided (n - 1) false }

/-- Deciding samples of a visible record (R199, R200). -/
def decideAll (r : Rec) (d : Dev) : Dev := forEach (cellList d) (decideCell r) d

/-! ## Checks -/

/-- Hysteresis in force of a comparator's class, in mV (R189). -/
def hysOf (d : Dev) (k : Nat) : Rat := (hysMv (nth d.cmp.hys (cmpClass k) 0) : Rat) / 10

/-- The level of step s of a tie check, in mV (R202): 20 mV beyond the trip point at odd steps, 20 mV beyond the release
point at even ones; steps 1 and 2 of an AX window test LOW, 3 and 4 HIGH, at VTREF = 3.000 V (R189). -/
def tieMv (d : Dev) (k s : Nat) : Rat :=
  let th := nth d.cmp.th k (0, 0)
  let beyond : Rat := if s % 2 = 1 then 20 else -(hysOf d k + 20)
  if k < 24 then 10 * (th.1 : Rat) + beyond
  else if k < 48 then 10 * (th.1 : Rat) - beyond
  else if s ≤ 2 then 3000 * (th.1 : Rat) / 4096 - beyond
  else 3000 * (th.2 : Rat) / 4096 + beyond

/-- The test DAC code of a step (R174, R202). -/
def tieCode (d : Dev) (k s : Nat) : Nat := (clampInt 0 1023 (rround (tieMv d k s * 186 / 1000))).toNat

/-- The last step of a comparator's check: two tie levels, four for an AX window (R202). -/
def lastStep (k : Nat) : Nat := if k < 48 then 2 else 4

/-- The level before a swap (R201): the output; of an AX window what its latest SAR result says, unless it lies in the
hysteresis strip. -/
def swapLevel (d : Dev) (k : Nat) : Bool :=
  match (if k < 48 then none else axLatest d (k - 48)) with
  | none => mbit d.cmp.raw k
  | some v =>
    let w := nth d.cmp.th k (0, 4095)
    let h : Rat := hysOf d k * 65536 / 3000
    if v < 16 * w.1 || 16 * w.2 < v then true
    else if (16 * w.1 : Rat) + h < v && (v : Rat) < 16 * w.2 - h then false
    else mbit d.cmp.raw k

/-- A reading of a check passes (R201, R202): inverse of the level after the swap, high beyond the trip point, low beyond the
release point. -/
def checkPasses (d : Dev) (k : Nat) (level : Bool) : Bool :=
  if d.cmp.checkStep = 0 then level != swapLevel d k else level == (d.cmp.checkStep % 2 == 1)

/-- A check goes on after a reading (R501): the first tie level is set before the swap, each later one while the comparator
is connected. -/
def checkOn (k : Nat) (d : Dev) : Dev :=
  let s := d.cmp.checkStep
  if s = 0 then { d with cmp.checkStep := 1 }
  else if lastStep k ≤ s then { d with cmp.check := none, cmp.checkStep := 0 }
  else { d with cmp.checkStep := s + 1, aux.dacCode := tieCode d k (s + 1), aux.dacSettled := false }

/-- The settings of comparator k as the items ask (R192). -/
def askedTh (d : Dev) (k : Nat) : Nat × Nat :=
  if k < 24 then (itemN d (0x0311 + k), 0)
  else if k < 48 then (itemN d (0x0331 + (k - 24)), 0)
  else let v := itemN d (0x0351 + (k - 48)); (v % 2 ^ 12, v / 2 ^ 16)

/-- The settings of comparator k, with its class's hysteresis and deglitch, taken at the front die (R192). -/
def applySetting (k : Nat) (d : Dev) : Dev :=
  let c := cmpClass k
  { d with
    cmp.th := d.cmp.th.set k (askedTh d k)
    cmp.hys := d.cmp.hys.set c (itemN d (nth [0x0303, 0x0304, 0x0308] c 0))
    cmp.dgl := d.cmp.dgl.set c (itemN d (nth [0x0305, 0x0306, 0x0309] c 0)) }

/-- All settings taken in one step (R572). -/
def applyAllSettings (d : Dev) : Dev := forEach (List.range 64) applySetting d

/-- The comparators and the trip registers as at a start from OFF, SHIP or SLEEP (R215, R572). -/
def resetCmp (d : Dev) : Dev := { d with cmp := Cmp.reset, trip := Trip.reset }

end Sys2Proof.Machine
end

