-- ==== Sys2Proof/Machine/RspOps.lean ====
section
/-! DEFINITION. Response messages, their delivery, the response cache and the ends of commands that last over several
events (13_host_port_and_mailboxes.md R405 to R414, 14_aeddo_command_reference.md R431, R443,
10_engines_and_flumes.md R296, R316). -/

namespace Sys2Proof.Machine

/-! ## Messages -/

/-- Own ring address; the head is 1 (R392). -/
def ownAddr (d : Dev) : Nat := if isHead d then 1 else d.ring.addr

/-- Words of a command message as it lies in a command mailbox (R405). -/
def msgWords (code : Nat) (m : Msg) : List Word :=
  Word.of (code * 2 ^ 24 + m.seq.toNat * 2 ^ 16 + b2n m.rsp * 2 ^ 15 + b2n m.head * 2 ^ 14 + b2n m.quiet * 2 ^ 13 +
    b2n m.gap * 2 ^ 12 + m.rsv.toNat * 2 ^ 10 + (m.body.length + 2) % 1024) :: m.body ++ [m.crc]

/-- A message with its CRC-32 (R405, R406). -/
def sealWords (l : List Word) : List Word := l ++ [crc32 l]

/-- Header of a response (R405). -/
def rspHeader (code seq : Nat) (gap head : Bool) (len : Nat) : Word :=
  Word.of (code * 2 ^ 24 + seq * 2 ^ 16 + 2 ^ 15 + b2n head * 2 ^ 14 + b2n gap * 2 ^ 12 + len)

/-- Status word of a response (R407). -/
def statusWord (addr orig : Nat) (s : Status) : Word :=
  Word.of (s.code * 2 ^ 24 + orig * 2 ^ 16 + s.kind * 2 ^ 14 + s.owner * 2 ^ 6 + addr % 64)

/-- A response message (R405, R407). -/
def rspWords (addr code seq : Nat) (gap head : Bool) (orig : Nat) (s : Status) (data : List Word) : List Word :=
  sealWords (rspHeader code seq gap head (data.length + 3) :: statusWord addr orig s :: data)

/-- A cached response answered again (R413): STATUS DUPLICATE, the original status in ORIG. -/
def dupWords (addr : Nat) (l : List Word) : List Word :=
  match l with
  | h :: s :: t => sealWords (h :: statusWord addr (bf s 24 8) (st stDUP) :: t.dropLast)
  | _ => l

/-! ## Delivery -/

/-- A list without its first element that meets p. -/
def dropFirst {α : Type} (p : α → Bool) : List α → List α
  | [] => []
  | a :: t => if p a then t else a :: dropFirst p t

/-- A command of the head's mailbox is no longer outstanding, its words are free (R409, R410). -/
def notOutstanding (target seq code len : Nat) (d : Dev) : Dev :=
  { d with host.outst := dropFirst (fun (o : Outst) => o.target == target && o.seq == seq && o.code == code) d.host.outst
           host.submitted := d.host.submitted - len }

/-- A response delivered: into the head's response mailbox, or into a member's queue for POLL; members send none to a
broadcast, and nobody one to a QUIET command answered OK (R405, R410, R412, R431). -/
def deliver (bcast silent : Bool) (code seq len : Nat) (ws : List Word) (d : Dev) : Dev :=
  if isHead d then
    let d1 := notOutstanding (if bcast then 63 else 1) seq code len d
    if silent then d1 else { d1 with host.rsps := d1.host.rsps ++ [⟨1, ws⟩] }
  else if bcast || silent then d
  else { d with cmd.out := d.cmd.out ++ [⟨d.ring.addr, ws⟩] }

/-- Data of a response with the ACCEPT words of a broadcast at the head (R431). -/
def withAccept (d : Dev) (bcast : Bool) (code seq : Nat) (data : List Word) : List Word :=
  if bcast && isHead d then
    let o := d.host.outst.find? (fun (o : Outst) => o.target == 63 && o.seq == seq && o.code == code)
    let a := ((o.elim 0 (fun x => x.acks)) ||| 2).toNat
    Word.of (a % 2 ^ 32) :: Word.of (a / 2 ^ 32) :: data
  else data

/-- A response that the head writes itself (R411): HEAD, the reason in ORIG; the command is no longer outstanding. -/
def headRsp (reason : Nat) (s : Status) (o : Outst) (d : Dev) : Dev :=
  let kept := fun (f : Flight) => !(f.kind == 2 && f.addr == o.target && f.tag == o.seq * 256 + o.code)
  { d with
    host.outst := dropFirst (fun (x : Outst) => x == o) d.host.outst
    host.submitted := d.host.submitted - (if o.target = 63 then o.len else o.words.length)
    head.tunnel := if o.words.isEmpty then d.head.tunnel else dropFirst (fun f => !kept f) d.head.tunnel
    host.rsps := d.host.rsps ++ [⟨1, rspWords 1 o.code o.seq false true reason s []⟩] }

/-- A pending remote access ends (R397, R398): its result, SSTAT bit 7 set, awaits a NOP. -/
def remoteDone (ok : Bool) (value : Word) (d : Dev) : Dev :=
  match d.host.remote with
  | some r =>
    { d with host.remote := none, host.remoteRes := some (if ok then 0x80 else 0x86, r.addr, if r.write then r.value else value)
             head.tunnel := d.head.tunnel.filter (fun (f : Flight) => f.kind != 4) }
  | none => d

/-- Commands that wait for the ring; one that only the head has still to execute does not. -/
def needsRing (o : Outst) : Bool := o.target != 1 && !(o.target == 63 && o.words.isEmpty)

/-- The ring carries no tunnelled frame any more (R369, R388, R411): H_RING_DOWN, S_LINK. -/
def ringDown (d : Dev) : Dev :=
  let d1 := forEach (d.host.outst.filter needsRing) (fun o d => headRsp 5 stBUSY o d) d
  remoteDone false 0 { d1 with head.tunnel := [] }

/-- A target is not PRESENT any more (R411, R398): H_NOT_PRESENT, S_LINK. -/
def targetGone (a : Nat) (d : Dev) : Dev :=
  let d1 := forEach (d.host.outst.filter (fun (o : Outst) => o.target == a)) (fun o d => headRsp 4 stSTATE o d) d
  let d2 := { d1 with head.tunnel := d1.head.tunnel.filter (fun (f : Flight) => !(f.kind == 3 && f.addr == a)) }
  match d2.host.remote with
  | some r => if r.dev = a then remoteDone false 0 d2 else d2
  | none => d2

/-- An executed or refused command answered and its response cached (R413, R414, R431). -/
def answer (code seq len : Nat) (quiet bcast gap : Bool) (s : Status) (data : List Word) (d : Dev) : Dev :=
  let ws := rspWords (ownAddr d) code seq gap false 0 s (withAccept d bcast code seq data)
  deliver bcast (quiet && s.code == 0) code seq len ws
    { d with cmd.cache := (⟨seq, code, ws⟩ :: d.cmd.cache).take 8 }

/-- The command that executes over several events is answered, and every copy of it with DUPLICATE (R413). -/
def finishBusy (s : Status) (data : List Word) (d : Dev) : Dev :=
  match d.cmd.busy with
  | none => d
  | some b =>
    let d1 := answer b.code b.seq b.len b.quiet b.bcast b.gap s data { d with cmd.busy := none }
    let ws := match d1.cmd.cache with
      | x :: _ => dupWords (ownAddr d1) x.words
      | [] => []
    forEach b.copies (fun _ d => deliver b.bcast false b.code b.seq b.len ws d) d1

/-- A command of the code is executing over several events. -/
def busyWith (d : Dev) (code : Nat) : Bool := match d.cmd.busy with
  | some b => b.code == code
  | none => false

/-- What a record item holds (R443). -/
def recordOf (l : List Word) : Word := if l.isEmpty then 0 else crc32 l

/-- A command that fails its CRC-32 (R413): neither executed nor cached. -/
def badCheck (code seq len : Nat) (bcast : Bool) (d : Dev) : Dev :=
  let d1 := raise 125 { d with host.msgCrc := satInc 255 d.host.msgCrc }
  deliver bcast false code seq len (rspWords (ownAddr d1) code seq false false 0 (st 0x09) (withAccept d1 bcast code seq [])) d1

/-- A command with RSP, HEAD or SEQ_GAP set (R413): answered ERR_RANGE. -/
def badFlags (code seq len : Nat) (bcast : Bool) (d : Dev) : Dev :=
  deliver bcast false code seq len (rspWords (ownAddr d) code seq false false 0 (st 0x06) (withAccept d bcast code seq [])) d

/-- A command counts its SEQ (R414): the next one is expected, a gap is counted and raises EV125. -/
def countSeq (seq : Nat) (gap : Bool) (d : Dev) : Dev :=
  let d1 := { d with cmd.expSeq := some ((seq + 1) % 256) }
  if gap then raise 125 { d1 with host.seqGaps := satInc 255 d1.host.seqGaps } else d1

/-- The SEQ of a command does not follow the previous one (R414). -/
def seqGap (d : Dev) (seq : Nat) : Bool :=
  match d.cmd.expSeq with
  | some e => e != seq
  | none => false

/-- The cached response to a SEQ and CODE (R413). -/
def cached (d : Dev) (seq code : Nat) : Option Cached := d.cmd.cache.find? (fun (x : Cached) => x.seq == seq && x.code == code)

/-- CODEs of the table "Command summary" (R433). -/
def knownCodes : List Nat :=
  [0x01, 0x02, 0x03, 0x04, 0x10, 0x11, 0x12, 0x20, 0x21, 0x22, 0x23, 0x24, 0x28, 0x29, 0x30, 0x38, 0x39, 0x3A, 0x40, 0x41,
   0x42, 0x48, 0x49, 0x50, 0x51, 0x52, 0x58, 0x59, 0x5A, 0x5C, 0x5D, 0x60, 0x61, 0x62]

/-- A complete message whose CODE is not in the table (R427): ERR_UNKNOWN_CMD. -/
def unknownCmd (bcast : Bool) (ws : List Word) (d : Dev) : Dev :=
  let h := nth ws 0 0
  let seq := bf h 16 8
  let code := bf h 24 8
  if crc32 ws.dropLast != nth ws (ws.length - 1) 0 then badCheck code seq ws.length bcast d
  else if bit h 15 || bit h 14 || bit h 12 then badFlags code seq ws.length bcast d
  else match cached d seq code with
    | some x => deliver bcast false code seq ws.length (dupWords (ownAddr d) x.words) d
    | none =>
      let gap := seqGap d seq
      answer code seq ws.length (bit h 13) bcast gap (st 0x03) [] (countSeq seq gap d)

/-- A message without a meaning that has come to the front of the command mailbox is answered. -/
def flushUnknown (d : Dev) : Dev :=
  match d.cmd.waiting with
  | (b, ws) :: t =>
    if awake d && d.cmd.hkReady && d.cmd.busy.isNone && !(knownCodes.contains (bf (nth ws 0 0) 24 8)) then
      unknownCmd b ws { d with cmd.waiting := t }
    else d
  | [] => d

/-! ## Commands that wait for the engines -/

/-- A job of the kernel runs on some engine. -/
def kernelRuns (d : Dev) (kernel : Nat) : Bool :=
  d.eng.engines.any (fun (e : Engine) => match e.running with
    | some id => ((desc d id).map (fun x => x.kernel == kernel)).getD false
    | none => false)

/-- An UNLOAD whose running jobs have ended frees its slot (R316). -/
def unloadEnds (d : Dev) : Dev :=
  match d.cmd.busy with
  | some b =>
    if b.code == 0x48 && !kernelRuns d (0x80 + b.arg) then
      let k := kernelAt d b.arg
      let d1 := modKernel b.arg (fun _ => { Kernel.reset with gen := k.gen }) d
      finishBusy stOK [] (jchange (cmdCtx d 0x48 b.seq) (0x0BE0 + b.arg) (recordOf k.image) 0 d1)
    else d
  | none => d

/-- A HISTORY_READ whose job has been discarded is answered ERR_QFULL, as one whose job is refused (R296, log 39). -/
def packLost (d : Dev) : Dev :=
  match d.cmd.busy with
  | some b => if b.code == 0x23 && (desc d b.arg).isNone then finishBusy stQFULL [] d else d
  | none => d

/-- Commands whose end the array's state decides (R296, R316), and messages without a meaning (R427). -/
def longEnds (d : Dev) : Dev := flushUnknown (packLost (unloadEnds d))

end Sys2Proof.Machine
end

