-- ==== Sys2Proof/Machine/SliceOps.lean ====
section
/-! DEFINITION. Self-test slices as they begin, wait for the test DAC, or are DEFERRED (16_periodic_self_test.md R500 to
R508, 06_aux_path_and_leat.md R174). -/

namespace Sys2Proof.Machine

/-- Need of a slice in us (R500). -/
def sliceNeed (d : Dev) (k u : Nat) : Rat :=
  let core : Rat := (coreHz d.power.op : Rat) / 1000000
  match k with
  | 0 => (if u = 0xFFFF then 2560 else 3072) / core
  | 1 => 4160 / core
  | 2 => 2 + 190 * modCycle (apertureMult d) d.tb.inc / 384
  | 3 => 50
  | _ => 10

/-- Cell of a converter or comparator unit, 0 for none (R176). -/
def unitCell (k u : Nat) : Nat := if k = 2 then (if u < 48 then u / 2 + 1 else 0) else if k = 3 && u < 48 then u % 24 + 1 else 0

/-- Input diagnosis is disturbing the unit (R176). -/
def unitDisturbed (d : Dev) (k u : Nat) : Bool :=
  (disturbed d).contains (unitCell k u) ||
    (k == 3 && decide (48 ≤ u) && d.aux.pulling && d.aux.target == 73 + (u - 48))

/-! ## Gaps between supports -/

/-- Half the length in CK_PHASE cycles of the support of a transit to come (R127). -/
def halfSupport (d : Dev) : Rat :=
  modCycle (apertureMult d) d.tb.inc * (supportBits (decR d.conv.dec) (d.conv.fir == 1) : Rat) / 2

/-- The supports of channel c that touch the next 1 ms, in cycles from now (R127, R508): of records in flight, and of the
transits of CONVERT slots held or waiting for their START. -/
def supportsSoon (d : Dev) (c : Nat) : List (Rat × Rat) :=
  let h := halfSupport d
  let turn := cdiv (2 ^ 48) (max 1 d.tb.inc)
  let ahead := fun (s : Slot) =>
    if s.en && s.action == 1 && mbit s.arg c then
      let step := max 1 (s.div * turn)
      (List.range (384000 / step + 2)).map (fun j => ((cyclesTo d s + j * step : Nat) : Rat))
    else []
  let coming := d.tb.slots.flatMap (fun (s : Option Slot) => s.elim [] ahead) ++
    d.tb.loads.flatMap (fun (l : PlanLoad) => l.slots.flatMap (fun e => ahead e.2))
  let flying := (d.conv.flight.filter (fun (r : Rec) => !r.complete && mbit r.named c)).map (fun (r : Rec) =>
    (r.firedAt : Rat) - d.now)
  (coming ++ flying).map (fun t => (t - h, t + h))

/-- An interval of so many us lies outside every modulator bit of a support of channel c within the next 1 ms (R508). -/
def freeInterval (d : Dev) (c : Nat) (us : Rat) : Bool :=
  let l := supportsSoon d c
  let len := 384 * us
  (0 :: l.map (fun x => x.2)).any (fun (x : Rat) =>
    decide (0 ≤ x) && decide (x + len ≤ 384000) && l.all (fun y => decide (y.2 ≤ x) || decide (x + len ≤ y.1)))

/-! ## Deferral -/

/-- The slice is DEFERRED whatever the test DAC does (R508). -/
def sliceBarred (d : Dev) (k u : Nat) : Bool :=
  d.power.opTarget.isSome || !d.power.vdOk || decide ((itemN d 0x0901 : Rat) < sliceNeed d k u) ||
    ((k == 2 || k == 3) && unitDisturbed d k u) ||
    (k == 2 && (d.conv.mode == 1 || !freeInterval d (u / 2) (sliceNeed d k u + 10)))

/-- The unit has had its slice, or keeps its place for the next cycle (R504, R508). -/
def spend (k u : Nat) (d : Dev) : Dev :=
  modKind k (fun x => { x with next := u + 1, tested := if k = 1 then x.tested ++ [u] else x.tested }) d

/-- A DEFERRED slice (R508, R511). -/
def deferSlice (k u : Nat) (d : Dev) : Dev :=
  qmsg (sliceSource k) 0x07 (sliceAddr k u)
    (spend k u (modKind k (fun x => { x with last := 4, unit := sliceUnit k u })
      { d with bist.deferred := satInc 65535 d.bist.deferred }))

/-! ## The beginning of a slice -/

/-- The swap check of a comparator runs (R201). -/
def swapRuns (d : Dev) (k : Nat) : Bool :=
  if 48 ≤ k then (axLatest d (k - 48)).isSome
  else
    let n := k % 24
    let ok := (d.conv.live.filter (fun (r : Rec) =>
      r.epoch == d.conv.epoch && recWord r n != 0x80000000 && !bit (recWord r n) 7)).getLast?
    let th : Int := (nth d.cmp.th k (0, 0)).1 * 10000
    match ok with
    | some r => let v := sext 24 (bf (recWord r n) 8 24)
                decide (20000 ≤ v - th) || decide (20000 ≤ th - v)
    | none => false

/-- A slice begins (R500 to R502): the save phase reads and rewrites an SRAM block, whose content the spare buffer holds from
then on; a converter path and a comparator take the test DAC, and the comparator's level is held (R203). -/
def beginSlice (k u : Nat) (d : Dev) : Dev :=
  let d1 := spend k u { d with bist.slice := some (k, u) }
  match k with
  | 0 =>
    let ws := (d.fault.sramBad.map (fun e => e.1)).filter (fun w => w / 512 == u)
    let d2 := forEach ws sramReadWord d1
    { d2 with
      fault.sramBad := d2.fault.sramBad.filter (fun e => e.1 / 512 != u)
      bist.spare := if u = 0xFFFF then none else some u }
  | 2 => { d1 with aux.dacUser := .selftest, aux.dacSettled := false, aux.dacCode := if u % 2 = 0 then 186 else 744 }
  | 3 => { d1 with aux.dacUser := .selftest, aux.dacSettled := false, aux.dacCode := tieCode d u 1
                   cmp.check := some u, cmp.checkBad := false
                   cmp.checkStep := if swapRuns d u then 0 else 1 }
  | _ => d1

/-- The last moment at which a slice of a slot that falls now may obtain the test DAC (R508). -/
def dacDeadline (d : Dev) (k u : Nat) : Nat := d.now + (384 * ((itemN d 0x0901 : Rat) - sliceNeed d k u)).floor.toNat

/-- A slot's slice (R508): DEFERRED; waiting for the test DAC; or begun. -/
def slotSlice (k u : Nat) (d : Dev) : Dev :=
  if sliceBarred d k u then deferSlice k u d
  else if (k == 2 || k == 3) && d.aux.dacUser != .unused then { d with bist.waiting := some (k, u, dacDeadline d k u) }
  else beginSlice k u d

/-- The slice that waits for the test DAC (R174, R508): it begins once the DAC is free, and is DEFERRED where the DAC comes too
late or another case of R508 has arisen. -/
def serveSlice (d : Dev) : Dev :=
  match d.bist.waiting with
  | none => d
  | some (k, u, by') =>
    let d1 := { d with bist.waiting := none }
    if by' < d.now || !active d || sliceBarred d k u then deferSlice k u d1
    else if d.aux.dacUser == .unused then beginSlice k u d1
    else d

end Sys2Proof.Machine
end

