-- ==== Sys2Proof/Machine/Run.lean ====
section
/-! DEFINITION. What follows from the state after every command: levels of pins, holds, captures triggered by event
flags; and the outcome of every meaning. -/

namespace Sys2Proof.Machine

/-- Captures armed on event flags that a command set, and on those that freezing them sets (R152, R153). -/
def afterEvents : Nat → BitVec 128 → Dev → Dev
  | 0, _, d => d
  | n + 1, before, d =>
    if d.host.evf &&& ~~~ before = 0 then d else afterEvents n d.host.evf (triggerOnEvents before d.host.evf d)

/-- FETs scheduled on and held by a condition that BAL_HELD shows (R224, R250). -/
def heldNow (d : Dev) : BitVec 24 :=
  if awake d then mof 24 (((cellList d).filter (fun n => fetScheduled d n && fetHeldShown d n)).map (· - 1)) else 0

/-- FETs of a running BALANCE plan that do not excite steadily (R274). -/
def unsteadyFets (d : Dev) : BitVec 24 :=
  match d.eis.plan with
  | some p =>
    if p.source = 3 then
      mof 24 (((cellList d).filter (fun n => mbit p.fets (n - 1) &&
        (!mbit d.eis.fetsOn (n - 1) || fetHeld d n || mbit d.bal.capHeld (n - 1)))).map (· - 1))
    else 0
  | none => 0

/-- Banks of an ACTIVE plan that have not started (R274). -/
def unsteadyBanks (d : Dev) : Bool :=
  match d.eis.plan with
  | some p => p.source == 2 && (p.banks &&& ~~~ d.eis.banksOn) != 0
  | none => false

/-- The open impedance window takes note of its units (R274). -/
def noteWindow (d : Dev) : Dev :=
  { d with eis := { d.eis with
      fetHeld := (unsteadyFets d &&& d.eis.fetsOn) != 0
      win := d.eis.win.map (fun (w : Win) => { w with distFet := w.distFet ||| unsteadyFets d
                                                      distBank := w.distBank || unsteadyBanks d
                                                      muted := w.muted ||| d.eis.muted }) } }

/-- The FETs conduct as their schedule, holds and the cap say (R223 to R225). -/
def settleFets (d : Dev) : Dev :=
  let sb := fetsNow d
  { d with pins := { d.pins with sb := sb }
           bal := { d.bal with held := heldNow d, onAll := d.bal.onAll &&& sb, offAll := d.bal.offAll &&& ~~~ sb } }

/-- The link driver of a port is idle (R45, R86, R388, R487). -/
def driverIdle (d : Dev) (p : Port) : Bool := !awake d || d.power.safeForced || !portUp d p || d.head.idle

/-- The head's RING_MAP holds an address above the swept range (R342). -/
def unsweptNow (d : Dev) : Bool :=
  isHead d && ((d.ring.map.drop (itemN d 0x0704 + 2)).any (fun (e : MapEntry) => e.present || e.reserved))

/-- The device drives GPIO p, from 1 (R38, R46, R47, R51): an output function holds it, in normal operation or SAFE_HOLD. -/
def gpioDriven (d : Dev) (p : Nat) : Bool :=
  (awake d || d.power.safeHold) && [2, 4, 5, 6].contains (gpioHolder d p)

/-- SYNC_OUT is high impedance in OFF, SHIP and SLEEP (R38). -/
def syncFloats (d : Dev) : Bool :=
  match d.power.pstate with
  | .off | .ship | .sleep => true
  | _ => false

/-- A TRIP is being forwarded: 4 bit times from its reception (R208). -/
def stillForwarding (d : Dev) : Bool := d.trip.forwarding && decide (d.now < d.trip.fwdAt + 48)

/-- A flume whose producer waits holds so many descriptors: those it holds of what it wants, and more while FREE lies above the
weir (R294, R295). -/
def grantedUpTo (want held room : Nat) : Nat := min want (held + room)

/-- Tunnelled frames and kernel copies that wait are granted descriptors in order (R294, R295). -/
def grantTransfers (d : Dev) : Dev :=
  let links := min 16 d.head.tunnel.length
  let copies := min 4 d.eng.copies.length
  let d0 := { d with eng := { d.eng with linkHeld := min links d.eng.linkHeld, copyHeld := min copies d.eng.copyHeld } }
  let d1 := { d0 with eng := { d0.eng with linkHeld := grantedUpTo links d0.eng.linkHeld (freeCount d0 - weir d0) } }
  { d1 with eng := { d1.eng with copyHeld := grantedUpTo copies d1.eng.copyHeld (freeCount d1 - weir d1) } }

/-- ALERTN, the GPIO functions, AD_G and the link drivers follow (R403, R47, R50, R242, R45), with what is high impedance
(R37, R38; a row of the SPI port is a whole transaction, so that SDO is released after it); POOL_FREE_MIN follows FREE (R317);
UNSWEPT (R342). -/
def settlePins (d : Dev) : Dev :=
  { d with
    link := { d.link with unswept := unsweptNow d }
    pins := { d.pins with
      alertLow := alertNow d
      linkIdleA := driverIdle d .A
      linkIdleB := driverIdle d .B
      faultnReadHigh := d.pins.faultnReadHigh && faultnLow d
      gpioLevel := mof 4 ((List.range 4).filter (fun i => gpioNow d (i + 1)))
      gpioHiZ := mof 4 ((List.range 4).filter (fun i => !gpioDriven d (i + 1)))
      syncHiZ := syncFloats d
      sdoHiZ := true
      linkHiZ := d.power.pstate == .off
      adG := mof 4 ((List.range 4).filter (bankDrives d))
      adGHigh := (List.range 4).map (fun b => if bankDrives d b then pwmHigh (bank d b).applied else 0) }
    trip := { d.trip with forwarding := stillForwarding d, fwdPorts := if stillForwarding d then d.trip.fwdPorts else 0 }
    eng := { d.eng with freeMin := min d.eng.freeMin (freeCount d) } }

/-- Everything that follows from the rest of the state. -/
def settle (d : Dev) : Dev := settlePins (noteWindow (settleFets (noteFallback (followInterlock (grantTransfers d)))))

/-- An entry to SAFE_HOLD arms the comparators that its items arm there (R188). -/
def armInHold (before d : Dev) : Dev := if d.power.safeHold && !before.power.safeHold then rearm d else d

/-- What ends or starts in the command's wake: captures on its event flags, commands that last, who waits for the test DAC. -/
def wake (before d : Dev) : Dev := serveSlice (serveDac (longEnds (afterEvents 4 before.host.evf (armInHold before d))))

/-- A command's effect on the block. -/
def effect (f : Dev → Dev) (d : Dev) : Dev := settle (wake d (f d))

/-- The outcome of every meaning: the block goes on with the effect of f; the queue stays. -/
def runDev (s : State) (f : Dev → Dev) : Host.Outcome State Fault Refusal := .next { s with toDev := effect f s.toDev }

end Sys2Proof.Machine
end

