-- ==== Sys2Proof/Machine/EngineGen.lean ====
section
/-! DEFINITION. Job generators and what the ROM kernels compute (10_engines_and_flumes.md R289, R298, R314,
09_impedance.md R255, R256, R266 to R279). -/

namespace Sys2Proof.Machine

/-! ## Windows and streams -/

/-- Reference stream of cell n: one of R281's distinct reference currents. -/
def refStream (p : EisPlan) (n : Nat) : Nat :=
  match p.source with
  | 1 => 32
  | 2 => if mbit p.banks (bankOf n - 1) then 32 + bankOf n else 32
  | _ => 32 + n

/-- Measured cells, from 1. -/
def planCells (p : EisPlan) : List Nat := (mlist p.cells).map (· + 1)

/-- CHAN of that reference in a descriptor (R256, R291): the balance log entry of a FET or bank that it draws on, else the
shunt. -/
def refChan (p : EisPlan) (n : Nat) : Nat :=
  let entry := fun (u : Bool × Nat) => ((logUnits p).idxOf? u).elim 25 (fun i => 32 + i)
  match p.source with
  | 1 => 25
  | 2 => entry (true, bankOf n - 1)
  | 3 => entry (false, n)
  | _ => if mbit p.fets (n - 1) then entry (false, n) else entry (true, bankOf n - 1)

/-- Streams of a plan, each with its CHAN: its cells and their distinct references (R281, R298). -/
def planStreams (p : EisPlan) : List (Nat × Nat) :=
  (planCells p).map (fun n => (n, n)) ++
    (((planCells p).map (refStream p)).dedup.filterMap (fun s =>
      ((planCells p).find? (fun n => refStream p n == s)).map (fun n => (s, refChan p n))))

/-- Frequencies of a plan. -/
def planFreqs (p : EisPlan) : Nat := p.tones.length

/-- ARG of the jobs of a plan: the set of its frequency indices, a bit each (R291, DEDUCED, log 96). -/
def freqSet (p : EisPlan) : Nat := 2 ^ planFreqs p - 1

/-- One LOCKIN job per stream over a block of records (R298); a refusal excludes the records (R269). -/
def lockinJobs (p : EisPlan) (w : Win) (blk : List Rec) (d : Dev) : Dev × Win :=
  match blk with
  | [] => (d, w)
  | r :: _ =>
    (planStreams p).foldl (fun acc e =>
      let st := e.1
      let t : Desc := { Desc.reset with
        kernel := 3, cls := 2, chan := e.2, src := if 32 ≤ e.2 then 1 else 0, stream := st, gen := d.eis.gen, win := r.tseq
        len := blk.length, arg := freqSet p, start := w.start, cost := 200 * blk.length * planFreqs p }
      let (d1, id) := createJob t acc.1
      match id with
      | some _ => (d1, acc.2)
      | none => ({ d1 with eis.qfullCnt := satInc 65535 d1.eis.qfullCnt },
          { acc.2 with excl := acc.2.excl ++ blk.map (fun (x : Rec) => (st, x.tseq)), qfull := acc.2.qfull ||| one 64 st }))
      (d, w)

/-- The records of the present block of a window (R298). -/
def openBlock (w : Win) : List Rec := w.recs.drop (w.recs.length / 128 * 128)

/-- A lock-in descriptor of the window for one of the streams is still in use. -/
def lockinOpen (d : Dev) (w : Win) (ss : List Nat) : Bool :=
  d.eng.pool.any (fun (x : Desc) => x.kernel == 3 && x.gen == d.eis.gen && x.start == w.start && ss.contains x.stream)

/-- WINCLOSE jobs of a closed window for the cells whose LOCKIN jobs have completed (R298); a refused one counts (R296). -/
def closeJobs (p : EisPlan) (w : Win) (d : Dev) : Dev × Win :=
  if !w.closed then (d, w)
  else
    (planCells p).foldl (fun acc n =>
      if mbit acc.2.cells (n - 1) && !lockinOpen acc.1 acc.2 [n, refStream p n] then
        let t : Desc := { Desc.reset with
          kernel := 4, cls := 2, chan := n, src := 2, gen := d.eis.gen, win := (w.recs.head?.map (fun (r : Rec) => r.tseq)).getD 0
          len := w.recs.length % 2 ^ 16, arg := freqSet p, start := w.start, cost := 25000 * planFreqs p }
        let (d1, id) := createJob t acc.1
        (if id.isSome then d1 else { d1 with eis.qfullCnt := satInc 65535 d1.eis.qfullCnt },
          { acc.2 with cells := mset acc.2.cells (n - 1) false })
      else acc) (d, w)

/-- Every ended window looks for WINCLOSE jobs to create; one with nothing left to do goes (R298). -/
def serveWindows (d : Dev) : Dev :=
  match d.eis.plan with
  | none => d
  | some p =>
    let r := d.eis.closing.foldl (fun (acc : Dev × List Win) w =>
      let (d1, w1) := closeJobs p w acc.1
      let busy := w1.cells != 0 || !w1.closed ||
        d1.eng.pool.any (fun (x : Desc) => x.kernel == 4 && x.gen == w1.gen && x.start == w1.start)
      (d1, if busy then acc.2 ++ [w1] else acc.2)) (d, [])
    { r.1 with eis.closing := r.2 }

/-- A window whose last record is visible closes: the last block's jobs, WIN_CNT (R266, R298). -/
def closeWindow (p : EisPlan) (w : Win) (d : Dev) : Dev × Win :=
  let (d1, w1) := lockinJobs p w (openBlock w) d
  ({ d1 with eis.winCnt := (d1.eis.winCnt + 1) % 65536 }, { w1 with
    closed := true, cells := p.cells, cohMin := itemN d 0x0501, snrMin := itemN d 0x0502, usedMin := itemN d 0x0503 })

/-- Windows that ended with no record outstanding close at once (R266). -/
def closeEmpty (d : Dev) : Dev :=
  match d.eis.plan with
  | none => d
  | some p =>
    let r := d.eis.closing.foldl (fun (acc : Dev × List Win) w =>
      if w.closed && w.cells == (0 : BitVec 24) && w.last.isNone then
        let (d1, w1) := closeWindow p { w with last := some 0 } acc.1
        (d1, acc.2 ++ [w1])
      else (acc.1, acc.2 ++ [w])) (d, [])
    serveWindows { r.1 with eis.closing := r.2 }

/-- A visible record joins the window that holds its instant and may close it (R266, R298). -/
def eisRecord (r : Rec) (d : Dev) : Dev :=
  match d.eis.plan with
  | none => d
  | some p =>
    let inWin := fun (w : Win) => decide ((r.period + 2 ^ 32 - w.start) % 2 ^ 32 < p.win)
    let add := fun (d : Dev) (w : Win) =>
      let w1 := { w with recs := w.recs ++ [r] }
      if w1.recs.length % 128 = 0 then lockinJobs p w1 (w1.recs.drop (w1.recs.length - 128)) d else (d, w1)
    let c := d.eis.closing.foldl (fun (acc : Dev × List Win) w =>
      if w.closed then (acc.1, acc.2 ++ [w])
      else
        let (d1, w1) := if inWin w then add acc.1 w else (acc.1, w)
        let done := match w1.last with
          | some t => !serialLater t r.tseq
          | none => true
        if done then
          let (d2, w2) := closeWindow p w1 d1
          (d2, acc.2 ++ [w2])
        else (d1, acc.2 ++ [w1])) (d, [])
    let d1 := { c.1 with eis.closing := c.2 }
    let d2 := match d1.eis.win with
      | some w => if inWin w then
          let (e, w1) := add d1 w
          { e with eis.win := some w1 } else d1
      | none => d1
    serveWindows d2

/-! ## The lock-in computation -/

/-- The decoded shunt voltage of a sample word in nV (R141). -/
def shuntNv (w : Word) : Int := sext 24 (bf w 8 24) * (if bit w 6 then 20 else 10)

/-- A sample word that R268 uses: a value without SETTLING, LATE, CLIP or SUBST. -/
def cleanSample (w : Word) : Bool := w != 0x80000000 && !bit w 7 && !bit w 2 && !bit w 5 && !bit w 4

/-- Entry of the balance current log of a unit in mA: a bank's is signed, a FET's unsigned; none where it reads 0x8000
(R248). -/
def logEntry (p : EisPlan) (r : Rec) (u : Bool × Nat) : Option Rat :=
  match (logUnits p).idxOf? u with
  | some i =>
    let v := nth r.blog i 0x8000
    if v = 0x8000 then none else some ((if u.1 then (v.toInt : Rat) else (v.toNat : Rat)) / 10)
  | none => none

/-- Entry of a unit as the reference takes it: an idle unit of an ANY plan counts as 0 (R268). -/
def refEntry (p : EisPlan) (r : Rec) (u : Bool × Nat) : Option Rat :=
  match logEntry p r u with
  | some v => some v
  | none => if p.source = 4 then some 0 else none

/-- Sum of optional values, none where one is missing. -/
def sumOpt : List (Option Rat) → Option Rat
  | [] => some 0
  | none :: _ => none
  | some v :: t => (sumOpt t).map (fun x => v + x)

/-- The source draws on the shunt in this record (R256): BALANCE where the shunt was enabled for it. -/
def shuntUsed (p : EisPlan) (r : Rec) : Bool := p.source != 3 || r.shuntOn

/-- Reference current of cell n for a record in mA, none where something it draws on is not usable (R256, R268). -/
def refCurrent (p : EisPlan) (w : Win) (r : Rec) (n : Nat) : Option Rat :=
  let sw := recWord r 24
  let ish : Option Rat := if !shuntUsed p r then some 0
    else if cleanSample sw && w.shRes != 0 then
      -- nV over 0.1 uOhm is 10 mA
      some ((if w.shPol = 0 then 1 else -1) * 10 * (shuntNv sw : Rat) / (w.shRes : Rat))
    else none
  let banks := (mlist p.banks).map (fun b => (true, b))
  let beta : Rat := (w.modFrac : Rat) / 1000000
  let sumB := sumOpt (banks.map (refEntry p r))
  let own := if mbit p.banks (bankOf n - 1) then refEntry p r (true, bankOf n - 1) else some 0
  let fet := if mbit p.fets (n - 1) then refEntry p r (false, n) else some 0
  match p.source, ish, sumB, own, fet with
  | 1, some i, _, _, _ => some i
  | 2, some i, some sb, some o, _ => some (i + o - beta * sb)
  | 3, some i, _, _, some f => some (i - f)
  | 4, some i, some sb, some o, some f => some (i + o - beta * sb - f)
  | _, _, _, _, _ => none

/-- Instant of a record, its PERIOD and PHASE_HI, in periods since the window began (R266, R270). -/
def recPhi (w : Win) (r : Rec) : Rat :=
  (((r.period + 2 ^ 32 - w.start) % 2 ^ 32 : Nat) : Rat) + (r.phase.toNat / 256 : Nat) / (2 ^ 24 : Rat)

/-- One weighted point: phase in periods, value. -/
abbrev Point := Rat × Rat

/-- The lock-in sum at a ratio (periods) over the points: real and imaginary part of each of the 8 segments (R270). -/
def lockIn (ratio : Rat) (wp : Nat) (l : List Point) : List (Rat × Rat) :=
  let u := fun (x : Point) => x.1 / wp
  let hann := fun (x : Point) => 1 / 2 - cosTurn (u x) / 2
  let n1 : Rat := l.length
  let su := (l.map u).sum
  let suu := (l.map (fun x => u x * u x)).sum
  let sx := (l.map (fun x => x.2)).sum
  let sux := (l.map (fun x => u x * x.2)).sum
  let den := n1 * suu - su * su
  let b := if den = 0 then 0 else (n1 * sux - su * sx) / den
  let a := if n1 = 0 then 0 else (sx - b * su) / n1
  (List.range 8).map (fun g =>
    let seg := l.filter (fun x => (8 * u x).floor == (g : Int))
    let res := fun (x : Point) => hann x * (x.2 - a - b * u x)
    ((seg.map (fun x => res x * cosTurn (ratio * x.1))).sum,
     -(seg.map (fun x => res x * sinTurn (ratio * x.1))).sum))

/-- Sum of complex values. -/
def csum (l : List (Rat × Rat)) : Rat × Rat := ((l.map (fun x => x.1)).sum, (l.map (fun x => x.2)).sum)

/-- Squared magnitude. -/
def cnorm (x : Rat × Rat) : Rat := x.1 * x.1 + x.2 * x.2

/-- Saturation into a signed 32-bit word. -/
def sat32 (v : Int) : Word := BitVec.ofInt 32 (clampInt (-2147483647) 2147483647 v)

/-- The records used for cell n with voltage and current (R268). -/
def usedPoints (p : EisPlan) (w : Win) (n : Nat) : List (Rec × Rat × Rat) :=
  w.recs.filterMap (fun (r : Rec) =>
    let x := recWord r (n - 1)
    if cleanSample x && !w.excl.contains (n, r.tseq) && !w.excl.contains (refStream p n, r.tseq) then
      (refCurrent p w r n).map (fun i => (r, ((sext 24 (bf x 8 24) : Int) : Rat), i))
    else none)

/-- Records of the window that name the cell, and the shunt where the source requires it (R272). -/
def namedRecs (p : EisPlan) (w : Win) (n : Nat) : List Rec :=
  w.recs.filter (fun (r : Rec) => (mbit r.named (n - 1) || mbit r.late (n - 1)) &&
    (!shuntUsed p r || mbit r.named 24 || mbit r.late 24))

/-- T_INT (R272): the window's duration in units of 10 ms, rounded. -/
def winTint (w : Win) : Nat := (rdiv (w.dur : Int) 3840000).toNat % 65536

/-- The window's own frequency at a RATIO code in Hz (R275); 0 where T_INT is 0. -/
def winFreq (p : EisPlan) (w : Win) (ratio : Nat) : Rat :=
  if winTint w = 0 then 0 else (ratio : Rat) / 65536 * p.win / ((winTint w : Rat) / 100)

/-- f_rec of the cell over the window (R259, R275): the reciprocal of the longest interval between successive records that
name it, in Hz; the window's duration gives the length of a period. -/
def winRate (p : EisPlan) (w : Win) (rs : List Rec) : Rat :=
  let t := rs.map (recPhi w)
  let g := ((t.zip t.tail).map (fun e => e.2 - e.1)).foldl max 0
  if g = 0 ∨ w.dur = 0 then 0 else (p.win : Rat) / g * 384000000 / w.dur

/-- Interpolation between the points of a temperature table (R279): estimate in 0.01 C and whether it was clamped. -/
def interpolate (pts : List (Int × Int)) (th : Int) : Int × Bool :=
  let asc := match pts with
    | a :: b :: _ => decide (a.1 < b.1)
    | _ => true
  let l := if asc then pts else pts.reverse
  match l.head?, l.getLast? with
  | some a, some z =>
    if th < a.1 then (a.2, true)
    else if z.1 < th then (z.2, true)
    else
      match (l.zip l.tail).find? (fun e => e.1.1 ≤ th && th ≤ e.2.1) with
      | some e => (rround ((e.1.2 : Rat) + ((th - e.1.1 : Int) : Rat) / ((e.2.1 - e.1.1 : Int) : Rat) *
          ((e.2.2 - e.1.2 : Int) : Rat)), false)
      | none => (a.2, true)
  | _, _ => (0, true)

/-- Points of a loaded temperature table: words 3 to 18 (R277). -/
def tablePoints (t : List Word) : List (Int × Int) := (t.drop 2).map (fun w => (sext 16 (bf w 16 16), sext 16 (bf w 0 16)))

/-- A cell's units that R274 lets disturb the results at index k. -/
def disturbedAt (p : EisPlan) (w : Win) (n k : Nat) : Bool :=
  (p.source == 2 && (w.distBank || mbit w.muted k)) || (p.source == 3 && (mbit w.distFet (n - 1) || mbit w.muted k))

/-- The result record of a window, cell and index (R270 to R279). -/
def resultWords (d : Dev) (p : EisPlan) (w : Win) (n k : Nat) : List Word :=
  let ratio := (nth p.tones k (0, 0, 0)).1
  let rr : Rat := (ratio : Rat) / 65536
  let us := usedPoints p w n
  let vs := us.map (fun x => (recPhi w x.1, x.2.1))
  let is := us.map (fun x => (recPhi w x.1, x.2.2))
  let vg := lockIn rr p.win vs
  let ig := lockIn rr p.win is
  let v := csum vg
  let i := csum ig
  let ni := cnorm i
  let zre := if ni = 0 then 0 else rround (1000 * (v.1 * i.1 + v.2 * i.2) / ni)
  let zim := if ni = 0 then 0 else rround (1000 * (v.2 * i.1 - v.1 * i.2) / ni)
  let cross := csum ((vg.zip ig).map (fun x => (x.1.1 * x.2.1 + x.1.2 * x.2.2, x.1.2 * x.2.1 - x.1.1 * x.2.2)))
  let dv := (vg.map cnorm).sum
  let di := (ig.map cnorm).sum
  let coh := if dv * di = 0 then 0 else (rround (255 * cnorm cross / (dv * di))).toNat
  let probe := fun (l : List Point) => (cnorm (csum (lockIn (rr + 3 / p.win) p.win l)) +
    cnorm (csum (lockIn (rr - 3 / p.win) p.win l))) / 2
  let db := fun (s : Rat) (nz : Rat) => if nz = 0 then (if s = 0 then 0 else 255) else
    (clampInt 0 255 (rround (2 * decibel (s / nz)))).toNat
  let snr := min (db (cnorm v) (probe vs)) (db ni (probe is))
  let sw := (vs.map (fun x => 1 / 2 - cosTurn (x.1 / p.win) / 2)).sum
  let iamp := if sw = 0 then 0 else (rround (2 * root ni / sw / 10)).toNat
  let rs := namedRecs p w n
  let named := rs.length
  let usedN := if named = 0 then 0 else min 255 (rround (255 * (us.length : Rat) / named)).toNat
  let any := !us.isEmpty
  let fw := winFreq p w ratio
  let frec := winRate p w rs
  let lowCoh := decide (coh < w.cohMin)
  let lowSnr := decide (snr < w.snrMin)
  let gapped := decide (usedN < w.usedMin) || !any
  let dist := disturbedAt p w n k
  let oob := decide (fw < 1 / 20) || decide (4000 < fw) || decide (frec * 2 / 5 < fw)
  let qual := !lowCoh && !lowSnr && !gapped && !dist && !oob
  let cellW := fun (r : Rec) => recWord r (n - 1)
  let seen := fun (i : Nat) => w.recs.any (fun (r : Rec) => (cellW r != 0x80000000 && bit (cellW r) i) ||
    (shuntUsed p r && recWord r 24 != 0x80000000 && bit (recWord r 24) i))
  let fly := us.any (fun x => bit (cellW x.1) 3)
  let warn := us.any (fun x => bit (cellW x.1) 0)
  let balIn := !(p.source = 3 || (p.source = 4 && mbit p.fets (n - 1))) && us.any (fun x => mbit x.1.conduct (n - 1))
  let tsel := if mbit (BitVec.ofNat 24 (itemN d 0x0508)) (n - 1) then 1 else 0
  let tab := nth d.eis.temp tsel []
  let cand := decide (itemN d 0x0507 = k) && qual && !tab.isEmpty
  let fcal : Rat := ((nth tab 1 0).toNat : Rat) / 1000
  let off := decide (fcal / 50 < fw - fcal) || decide (fcal / 50 < fcal - fw)
  let est := interpolate (tablePoints tab) (rround (atan2 (zim : Rat) (zre : Rat)))
  let temp : Nat := if cand && !off then ufield 16 est.1 else 0x8000
  let flags := b2n qual * 32768 + b2n lowCoh * 16384 + b2n lowSnr * 8192 + b2n gapped * 4096 + b2n dist * 2048 +
    b2n oob * 1024 + b2n (seen 5) * 512 + b2n (seen 4) * 256 + b2n fly * 128 + b2n warn * 64 + b2n balIn * 32 +
    b2n (us.any (fun x => !shuntUsed p x.1)) * 16 + b2n (cand && !off && est.2) * 8 + b2n (decide (itemN d 0x0507 = k) && temp == 0x8000) * 4 +
    b2n (mbit w.qfull n || mbit w.qfull (refStream p n)) * 2
  [Word.of w.start,
   Word.of (n * 2 ^ 27 + k * 2 ^ 24 + usedN * 2 ^ 16 + winTint w),
   if any then sat32 zre else 0,
   if any then sat32 zim else 0,
   Word.of ((if any then min 65535 iamp else 0) * 2 ^ 16 + (if any then snr else 0) * 256 + (if any then coh else 0)),
   Word.of (temp * 2 ^ 16 + flags)]

/-- A stream mailbox record (R276, R418): dropped and counted where 64 are held. -/
def strmRecord (src : Nat) (body : List Word) (d : Dev) : Dev :=
  let d1 := { d with host.strmRseq := (d.host.strmRseq + 1) % 2 ^ 16 }
  if d.host.strmRecs.length < 64 && weir d < freeCount d then
    { d1 with host.strm := d.host.strm ++ recHeader 3 body.length src d.host.strmRseq :: body
              host.strmRecs := d.host.strmRecs ++ [body.length + 1] }
  else { d1 with eis.strmDrop := satInc 65535 d.eis.strmDrop }

/-- One result into the table and, with EIS_STREAM, the stream mailbox (R276); through a housekeeper restart into the table
alone (R282). -/
def putResult (n k : Nat) (ws : List Word) (d : Dev) : Dev :=
  let d1 := { d with eis.results := aset d.eis.results (8 * (n - 1) + k) ws }
  if itemN d 0x0509 = 1 && d.cmd.hkReady then strmRecord 0xFF ws d1 else d1

/-- A completed WINCLOSE job of a generation: the cell's results of its window (R261, R267, R276). -/
def closeCell (n start gen : Nat) (d : Dev) : Dev :=
  match d.eis.closing.find? (fun (w : Win) => w.start == start && w.gen == gen) with
  | some w =>
    match w.plan with
    | some p => forEach (List.range (planFreqs p)) (fun k d => putResult n k (resultWords d p w n k) d) d
    | none => d
  | none => d

/-! ## STATS and SAFE_AUDIT -/

/-- Enabled channels of a mask that exist. -/
def enabledChans (d : Dev) : List Nat := (List.range 25).filter (fun c => mbit d.conv.enable c && chanPresent d c)

/-- The records of a job's input that are still held. -/
def jobRecs (d : Dev) (x : Desc) : List Rec :=
  d.conv.live.filter (fun (r : Rec) => r.epoch == d.conv.epoch && decide ((r.tseq + 2 ^ 32 - x.win) % 2 ^ 32 < x.len))

/-- STATS of one channel over records: minimum, maximum, mean and RMS deviation from the mean of the clean samples, none
without one. Mean and deviation are rounded to the nearest (R289, R450). -/
def chanStats (rs : List Rec) (c : Nat) : List Word :=
  let l := (rs.map (fun (r : Rec) => recWord r c)).filter cleanSample
  let v := l.map (fun w => sext 24 (bf w 8 24) * (if c = 24 && bit w 6 then 2 else 1))
  match v with
  | [] => []
  | a :: t =>
    let n : Rat := v.length
    let mean : Rat := ((v.sum : Int) : Rat) / n
    let dev : Rat := (v.map (fun x => ((x : Rat) - mean) * ((x : Rat) - mean))).sum / n
    [itemWord (t.foldl min a), itemWord (t.foldl max a), itemWord (rround mean), itemWord (rround (root dev))]

/-- What one SAFE_AUDIT twin finds (R289): check * 256 + channel, 0 for the cell sum. -/
def auditRecord (d : Dev) (r : Rec) : List Nat :=
  let due := r.named ||| r.late
  let chans := (List.range 25).filter (fun c => mbit due c)
  let lim := fun (c : Nat) (w : Word) =>
    if c < 24 then let v := sext 24 (bf w 8 24); decide (-1200000 ≤ v) && decide (v ≤ 5800000)
    else let v := shuntNv w; let m := if r.cal.range = 1 then 30000000 else 120000000
         decide (-m ≤ v) && decide (v ≤ m)
  let prev := fun (c : Nat) => (d.conv.live.filter (fun (x : Rec) =>
    x.epoch == r.epoch && serialLater r.tseq x.tseq && recWord x c != 0x80000000)).getLast?.map (fun x => recWord x c)
  let perChan := chans.flatMap (fun c =>
    let w := recWord r c
    let exempt := mbit d.fault.fencedCh c && (c == 24 || mbit d.aux.excluded c)
    (if w = 0x80000000 && !exempt then [0x100 + c + 1] else []) ++
    (if w != 0x80000000 && !lim c w && !bit w 5 then [0x200 + c + 1] else []) ++
    (if w != 0x80000000 && bit w 4 && !mbit d.fault.fencedCh c then [0x300 + c + 1] else []) ++
    (if w != 0x80000000 && c < 24 && bit w 6 && mbit r.quiet c then [0x400 + c + 1] else []) ++
    (if w != 0x80000000 && bit w 2 then
      match prev c with
      | some q => if bf q 8 24 = bf w 8 24 && (q &&& 0x71) = (w &&& 0x71) then [] else [0x500 + c + 1]
      | none => [] else []) ++
    (if w != 0x80000000 && bit w 1 then [0x600 + c + 1] else []))
  let cells := (List.range d.part.cells).map (fun c => recWord r c)
  let whole := cells.all (fun w => w != 0x80000000)
  let sum : Int := (cells.map (fun w => sext 24 (bf w 8 24))).sum
  -- VSTK in uV: VALUE / 16 codes of 150 V / 4096
  let vs : Int := rdiv ((d.aux.vstkCode : Int) * 150000000) 65536
  let tol := vs / 50 + 1000000
  perChan ++ (if whole && d.aux.vstkCode != 0 && (tol < sum - vs || tol < vs - sum) then [0x700] else [])

/-- What a SAFE_AUDIT twin writes into its half (R289, R305). -/
def auditJob (d : Dev) (x : Desc) : List Nat := (jobRecs d x).flatMap (auditRecord d)

/-- A delivered audit raises EV89 for every failed check and names the channel and the check (R289). -/
def deliverAudit (l : List Nat) (d : Dev) : Dev :=
  let d1 := if l.isEmpty then d else { d with eng.auditNamed := l }
  forEach l (fun v d => if v % 256 = 0 then raise 89 d else raiseCh 89 (v % 256) d) d1

/-! ## Stop conditions of BAL_PLAN -/

/-- Cells whose plan runs. -/
def plannedCells (d : Dev) : List Nat := (cellList d).filter (fun n => (nth d.bal.plans (n - 1) none).isSome)

/-- BAL_ACCUM over its records: 4 consecutive clean samples at or below V_STOP end the plan (R229). -/
def balAccum (x : Desc) (d : Dev) : Dev :=
  forEach (jobRecs d x) (fun r d =>
    forEach (plannedCells d) (fun n d =>
      match nth d.bal.plans (n - 1) none with
      | none => d
      | some p =>
        let w := recWord r (n - 1)
        if w = 0x80000000 || p.vStop = 0 then d
        else
          let low := cleanSample w && decide (sext 24 (bf w 8 24) ≤ (p.vStop : Int) * 1000)
          let run := if low then p.run + 1 else 0
          if 4 ≤ run then endPlan n 3 d
          else { d with bal.plans := d.bal.plans.set (n - 1) (some { p with run := run }) }) d) d

/-! ## Generators -/

/-- Class, cost, records per job, rate and argument of an installed kernel image (R311). -/
def kernelInfo (k : Kernel) : Nat × Nat × Nat × Nat × Nat :=
  (bf (nth k.image 1 0) 24 8, (nth k.image 2 0).toNat, bf (nth k.image 3 0) 24 8, bf (nth k.image 3 0) 0 24,
   (nth k.image 4 0).toNat)

/-- The generator of custom kernel s at a visible record (R314). -/
def customGen (s : Nat) (r : Rec) (d : Dev) : Dev :=
  let k := kernelAt d s
  let i := kernelInfo k
  if !k.genOn then d
  else if k.blockCnt + 1 < i.2.2.1 then modKernel s (fun k => { k with blockCnt := k.blockCnt + 1 }) d
  else
    let fresh := decide (384000000 ≤ d.now - k.rateAt)
    let cnt := if fresh then 0 else k.rateCnt
    let d1 := modKernel s (fun k => { k with blockCnt := 0, rateAt := if fresh then d.now else k.rateAt }) d
    if i.2.2.2.1 ≤ cnt then
      modClass i.1 (fun c => { c with refused := satInc 4095 c.refused }) (modKernel s (fun k => { k with rateCnt := cnt }) d1)
    else
      let first := (r.tseq + 2 ^ 32 + 1 - i.2.2.1) % 2 ^ 32
      let t : Desc := { Desc.reset with kernel := 0x80 + s, cls := i.1, gen := k.gen, win := first, len := i.2.2.1,
                                        arg := i.2.2.2.2, cost := i.2.1 }
      (createJob t (modKernel s (fun k => { k with rateCnt := cnt + 1 }) d1)).1

/-- Every generator at a visible record (R298, R314). -/
def generators (r : Rec) (d : Dev) : Dev :=
  let chans := enabledChans d
  let run := active d && !chans.isEmpty
  let first := fun n => (r.tseq + 2 ^ 32 + 1 - n) % 2 ^ 32
  let a := if !run then d
    else if d.eng.auditCnt + 1 < 32 then { d with eng.auditCnt := d.eng.auditCnt + 1 }
    else
      let e := { d with eng.auditCnt := 0 }
      if serviceCount e < 2 then noteQuorum e
      else createTwins { Desc.reset with kernel := 1, cls := 0, win := first 32, len := 32, arg := d.conv.enable.toNat, cost := 48000 } e
  let b := if !run then a
    else if a.eng.statsCnt + 1 < 64 then { a with eng.statsCnt := a.eng.statsCnt + 1 }
    else (createJob { Desc.reset with
        kernel := 2, cls := 1, win := first 64, len := 64, arg := d.conv.enable.toNat, cost := 186 * 64 * chans.length }
      { a with eng.statsCnt := 0 }).1
  let cells := plannedCells b
  let c := if cells.isEmpty then { b with eng.balCnt := 0 }
    else if b.eng.balCnt + 1 < 32 then { b with eng.balCnt := b.eng.balCnt + 1 }
    else (createJob { Desc.reset with
        kernel := 5, cls := 3, win := first 32, len := 32, arg := (mof 24 (cells.map (· - 1))).toNat, cost := 40 * 32 * cells.length }
      { b with eng.balCnt := 0 }).1
  forEach [0, 1, 2, 3] (fun s d => customGen s r d) c

end Sys2Proof.Machine
end

