-- ==== Sys2Proof/Machine/Timebase.lean ====
section
/-! DEFINITION. The meridian, reference events, PLL_M and the transits of the ephemeris
(04_phase_timebase.md R91 to R119, 05_cell_conversion.md R132, R133). -/

namespace Sys2Proof.Machine

/-! ## The meridian -/

/-- The slots of a loaded plan replace its earlier slots (R117); its SWITCH is this meridian (R448). -/
def installPlan (l : PlanLoad) (d : Dev) : Dev :=
  -- transits of the earlier slots whose dark lead point acted are served in full (R570)
  let due := d.tb.darkNow.filterMap (fun (e : Nat × Bool × BitVec 25) =>
    (slotAt d e.1).bind (fun (x : Slot) => if x.plan = l.plan && !e.2.1 then some (e.1, x) else none))
  let cleared := d.tb.slots.map (fun (s : Option Slot) => match s with
    | some x => if x.plan = l.plan then none else some x
    | none => none)
  let d1 := { d with
    tb.slots := l.slots.foldl (fun t e => t.set e.1 (some e.2)) cleared
    tb.switchAt := d.tb.switchAt.set l.plan d.tb.period
    tb.owed := d.tb.owed ++ due }
  -- TRANSIT_OUT ends on the pins that no slot marks any more (R49, R118)
  [1, 2].foldl (fun d p =>
    if d.tb.slots.any (fun (s : Option Slot) => match s with
        | some x => x.mark.testBit (p - 1)
        | none => false) ||
       d.tb.loads.any (fun (y : PlanLoad) => y.plan != l.plan && y.slots.any (fun e => e.2.mark.testBit (p - 1)))
    then d else gpioRelease 4 p d) d1

/-- Plans whose START the meridian has reached switch (R117). -/
def switchPlans (d : Dev) : Dev :=
  let due := d.tb.loads.filter (fun (l : PlanLoad) => l.start = 0 || (d.tb.period + 2 ^ 32 - l.start) % 2 ^ 32 < 2 ^ 31)
  let d1 := forEach due (fun l d => installPlan l { d with tb.loads := d.tb.loads.filter (fun (x : PlanLoad) => x != l) }) d
  if due.isEmpty then d1
  else if d1.conv.waiting && !d1.conv.atMeridian && d1.conv.mode = 0 && !convertInForce d1 then convTake d1 else d1

/-- PERIOD_CNT at a meridian: it counts, takes the head's value (member), or is renumbered modulo the SYNC_DIV of the
LOCKED declaration (R91, R101). -/
def countPeriod (d : Dev) : Dev :=
  let p := match d.tb.stepTo with
    | some v => v % 2 ^ 32
    | none => (d.tb.period + 1) % 2 ^ 32
  match d.tb.renumAt with
  | none => { d with tb.period := p, tb.stepTo := none }
  | some n =>
    if n ≤ 1 then
      let m := max 1 d.tb.renumMod
      { d with tb.period := (p + (m - p % m) % m) % 2 ^ 32, tb.stepTo := none, tb.renumAt := none }
    else { d with tb.period := p, tb.stepTo := none, tb.renumAt := some (n - 1) }

/-- The frequency and N that wait for the meridian (R104, R110, R136). -/
def meridianSettings (d : Dev) : Dev :=
  let d1 := if d.tb.freqNext && d.tb.state == .free then
      { d with tb.inc := incOf (itemN d 0x0602), tb.freqNext := false } else { d with tb.freqNext := false }
  let d2 := match d1.tb.multNext with
    | some n => let e := { d1 with tb.multNext := none }; if e.conv.apl = 0 then takeMult n e else e
    | none => d1
  judgeBand (if d2.conv.waiting && d2.conv.atMeridian then convTake d2 else d2)

/-- CONTINUOUS frames are anchored at a meridian with PERIOD_CNT mod M = 0 (R129). -/
def anchorFrames (d : Dev) : Dev :=
  let m := if d.conv.apl = 0 then 1 else d.conv.apl
  if d.conv.mode = 1 && active d && !d.conv.anchored && d.tb.period % m = 0 then
    let e := convAtPoint d
    if e.conv.mode = 1 then
      beginFrame { e with conv.anchored := true, conv.anchorAt := e.tb.period * 2 ^ 32, conv.frameNo := 0 }
    else e
  else d

/-- The time master raises SYNC_OUT (R119). -/
def syncOut (d : Dev) : Dev :=
  if isHead d && awake d && itemN d 0x0608 = 1 && d.tb.period % itemN d 0x0609 = 0 then
    { d with pins.syncOut := true, tb.syncPulse := true }
  else d

/-- The lead points of every CONVERT slot computed anew (R114). -/
def setLeads (d : Dev) : Dev :=
  { d with tb.leads := d.tb.slots.map (fun (s : Option Slot) => s.bind (fun (x : Slot) =>
      if x.action = 1 then some (leadsNow d x) else none)) }

/-- The meridian (R91): what waits for it acts, in the order of the count, the settings, the plans, the lead points. -/
def doMeridian (d : Dev) : Dev :=
  let d1 := meridianSettings (countPeriod d)
  let d2 := if d1.tb.flyCounting then { d1 with tb.flyCount := min 1000 (d1.tb.flyCount + 1) } else d1
  let d3 := switchPlans d2
  let d4 := match d3.eis.next with
    | some np => takePlan np d3
    | none => d3
  setLeads (syncOut (balAtMeridian (anchorFrames (closeEmpty (windowsAtMeridian d4)))))

/-! ## The accumulator -/

/-- The correction that k cycles add (R92): at most 1/64 of INC a cycle, until it is used up. -/
def slewIn (k : Nat) (d : Dev) : Int :=
  let m : Int := (k * (d.tb.inc / 64) : Nat)
  clampInt (-m) m d.tb.corr

/-- The accumulator, unwrapped, k CK_PHASE cycles from now (R91, R92). -/
def accAfter (k : Nat) (d : Dev) : Nat := ((d.tb.acc : Int) + (k * d.tb.inc : Nat) + slewIn k d).toNat

/-- Period and phase of the CK_MOD edge at the centre of a CONTINUOUS frame, k cycles from now (R129): the edge of the
grid while PLL_M is locked, where the accumulator stands otherwise. f is the edge's place on the grid. -/
def centreStamp (k : Nat) (f : Nat × Word) (d : Dev) : Nat × Word :=
  let here := d.tb.period * 2 ^ 32 + accAfter k d / 2 ^ 16
  let x := if d.tb.pllmLock then (((here : Int) + sext 32 (((f.2.toNat : Int) - here) % 2 ^ 32).toNat) % 2 ^ 64).toNat else here
  (x / 2 ^ 32 % 2 ^ 32, Word.of (x % 2 ^ 32))

/-- The CONTINUOUS frame in progress passes its centre within k cycles: its timestamp, and what its sample's flags take
from that instant (R129, R145). -/
def passCentre (k : Nat) (d : Dev) : Dev :=
  match d.conv.frameAt with
  | some f =>
    if d.conv.centred.isNone && decide (d.conv.centreAt ≤ d.now + k) then
      { d with conv.frameAt := some (centreStamp (d.conv.centreAt - d.now) f d), conv.centred := some (flyNow d, d.aux.warn) }
    else d
  | none => d

/-- k CK_PHASE cycles pass (R91, R92), the last of them perhaps the wrap. -/
def passCycles (k : Nat) (d : Dev) : Dev :=
  let c := slewIn k d
  let e := passCentre k d
  { e with
    now := d.now + k
    tb.acc := accAfter k d % 2 ^ 48
    tb.corr := d.tb.corr - c
    tb.slewing := d.tb.slewing && d.tb.corr != c }

/-- CK_PHASE cycles until the accumulator wraps: the fewest for which the sum reaches 2^48 (R91, R92). -/
def cyclesToWrap (d : Dev) : Nat :=
  let m := d.tb.inc / 64
  let rest : Nat := 2 ^ 48 - d.tb.acc
  let whole := cdiv ((2 ^ 48 : Int) - d.tb.acc - d.tb.corr).toNat d.tb.inc
  if 0 ≤ d.tb.corr then max whole (cdiv rest (d.tb.inc + m)) else min whole (cdiv rest (d.tb.inc - m))

/-- MERIDIAN (R91, R92): the accumulator runs to its wrap and keeps what lies beyond it; it never steps. -/
def execMeridian (s : State) : Host.Outcome State Fault Refusal :=
  runDev s (fun d => if awake d && d.tb.inc != 0 then doMeridian (passCycles (cyclesToWrap d) d) else d)

/-- SYNC_OUT_PULSE_END (R119). -/
def execSyncOutPulseEnd (s : State) : Host.Outcome State Fault Refusal :=
  runDev s (fun d => if d.tb.syncPulse then { d with pins.syncOut := false, tb.syncPulse := false } else d)

/-! ## References -/

/-- One accepted edge of the loop (R571): proportional and integral terms. e is in units of 2^-32 period. -/
def loopStep (e : Int) (t : Nat) (d : Dev) : Dev :=
  let s := itemN d 0x0607
  { d with tb.corr := rdiv (-e * 2 ^ 16) (2 ^ s)
           tb.inc := ((d.tb.inc : Int) + rdiv (-e * 2 ^ 16) (2 ^ (2 * s) * t)).toNat }

/-- A phase error within 0.1 % of a period (R100). -/
def smallError (e : Int) : Bool := decide (-0x00418937 ≤ e) && decide (e ≤ 0x00418937)

/-- The measured interval of n periods in t cycles lies within 0.1 % of the accumulator's period (R100). -/
def smallPeriod (n t inc : Nat) : Bool :=
  let x : Int := (t * inc : Nat)
  let y : Int := n * 2 ^ 48
  decide (1000 * (x - y) ≤ y) && decide (1000 * (y - x) ≤ y)

/-- LOCKED declared on a head with SYNC_DIV n (R100, R101): the renumbering meridian is the one that begins the period
of the next edge, n periods after the nominal place of this one. -/
def lockHead (n : Nat) (c e : Int) (d : Dev) : Dev :=
  let d1 := enterLocked d
  if n ≤ 1 then d1
  else
    let k := (c - e).fdiv (2 ^ 32) + n
    { d1 with tb.renumAt := some (max 1 (min n k.toNat)), tb.renumMod := n }

/-- An accepted edge (R98, R100, R571): e its phase error, c its captured phase, unwrapped, t the cycles since the
reference edge of R99. An edge accepted while the first error is still being slewed out leaves INC and the correction as
they are (log 86). -/
def acceptEdge (n : Nat) (c e : Int) (t : Option Nat) (d : Dev) : Dev :=
  let d1 := { d with tb.rejRun := 0, tb.refAt := some d.now, tb.lastAcc := some d.now, tb.accN := d.tb.accN + 1 }
  if d.tb.state == .flywheel then { enterAcquire d1 with tb.accN := 1 }
  else
    match t with
    | none => d1
    | some t =>
      if d.tb.accN = 0 && d.tb.state == .acquire then d1
      else if d.tb.accN = 1 && d.tb.state == .acquire then
        -- the first accepted interval sets INC afresh and the error is slewed out in full
        { d1 with tb.inc := (rdiv ((n : Int) * 2 ^ 48) t).toNat, tb.corr := shortWay (-e * 2 ^ 16)
                  tb.slewing := e != 0
                  tb.goodFrom := some d.tb.period }
      else
        let good := smallError e && smallPeriod n t d.tb.inc
        let d2 := if d.tb.slewing then d1 else loopStep e (d.now - d.tb.lastAcc.getD 0) d1
        let d3 := if good then d2 else { d2 with tb.goodFrom := some d.tb.period }
        match d3.tb.goodFrom with
        | some g =>
          if d3.tb.state == .acquire && decide (64 ≤ (d.tb.period + 2 ^ 32 - g) % 2 ^ 32) then lockHead n c e d3 else d3
        | none => d3

/-- SYNC_IN_EDGE (R97 to R100): the selected edge on a head with TB_SOURCE = SYNC_IN. -/
def execSyncInEdge (rising : Bool) (s : State) : Host.Outcome State Fault Refusal :=
  runDev s (fun d =>
    if !isHead d || !awake d || itemN d 0x0601 != 1 || rising != (itemN d 0x0604 == 0) then d
    else
      let n := itemN d 0x0603
      let c := ((d.tb.acc : Int) - (2 + itemN d 0x0606) * d.tb.inc).fdiv (2 ^ 16)
      let e := sext 32 ((c - itemN d 0x0605) % 2 ^ 32).toNat
      let t := d.tb.refAt.map (fun r => d.now - r)
      let short := match t with
        | some t => decide (t < 7680 * n)
        | none => false
      let long := match t with
        | some t => decide (38400000 * n < t)
        | none => false
      if long then rejectRef { d with tb.refAt := some d.now }
      else if short then rejectRef d
      else if d.tb.state == .locked && (e < -2 ^ 29 || 2 ^ 29 < e) then rejectRef d
      else acceptEdge n c e t d)

/-- TB_PW_PHASE_WRITE (R102, R103): a phase word on a head with TB_SOURCE = PHASE_WORD. -/
def phaseWord (v : Word) (d : Dev) : Dev :=
  if !isHead d || itemN d 0x0601 != 2 then d
  else
    let f := d.tb.pwFreq.toNat
    let e := sext 32 ((((phaseNow d : Int) - v.toNat) % 2 ^ 32).toNat)
    if f < 1000 || 5000000 < f then rejectRef d
    else if d.tb.state == .locked && (e < -2 ^ 29 || 2 ^ 29 < e) then rejectRef d
    else
      let d1 := if d.tb.state == .flywheel then enterAcquire d else d
      let near := d1.tb.wordsAt.filter (fun p => (d.tb.period + 2 ^ 32 - p) % 2 ^ 32 < 64)
      let bad := if smallError e then d1.tb.goodFrom else some d.tb.period
      let d2 := { d1 with
        tb.rejRun := 0, tb.lastAcc := some d.now, tb.refAt := some d.now, tb.accN := d1.tb.accN + 1,
        tb.inc := incOf f, tb.corr := shortWay (-e * 2 ^ 16), tb.wordsAt := near ++ [d.tb.period], tb.goodFrom := bad }
      let clean := match bad with
        | some g => decide (64 ≤ (d.tb.period + 2 ^ 32 - g) % 2 ^ 32)
        | none => true
      if d2.tb.state == .acquire && decide (64 ≤ (d.tb.period + 2 ^ 32 - d2.tb.acqAt) % 2 ^ 32) &&
          decide (2 ≤ d2.tb.wordsAt.length) && clean then enterLocked d2
      else judgeBand d2

/-- TB_PW_PHASE_WRITE (R102). -/
def execTbPwPhaseWrite (v : Word) (s : State) : Host.Outcome State Fault Refusal := runDev s (phaseWord v)

/-- TB_REF_TIMEOUT (R99, R103): no event accepted for 2N or 64 periods while LOCKED. -/
def execTbRefTimeout (s : State) : Host.Outcome State Fault Refusal :=
  runDev s (fun d => if isHead d && d.tb.state == .locked then enterFlywheel d else d)

/-- PHASE_LOST (R95): the count of meridians has reached 1000; EV110 once. -/
def execPhaseLost (s : State) : Host.Outcome State Fault Refusal :=
  runDev s (fun d =>
    if d.tb.flyCounting && d.tb.flyCount = 1000 && !d.tb.phaseLost then raise 110 { d with tb.phaseLost := true } else d)

/-- MEMBER_TB_TIMEOUT (R107): 2 ms without a timing block while LOCKED. -/
def execMemberTbTimeout (s : State) : Host.Outcome State Fault Refusal :=
  runDev s (fun d => if !isHead d && d.tb.state == .locked then enterFlywheel d else { d with tb.goodBlocks := 0 })

/-- PLL_M_LOCK (R110, R129, R147): only while N * f_ext lies in 4 to 10 MHz. -/
def execPllMLock (s : State) : Host.Outcome State Fault Refusal :=
  runDev s (fun d =>
    if d.tb.pllmLock || !multInBand d.tb.mult d.tb.inc then d
    else reanchor (settleAll { d with tb.pllmLock := true, conv.aplRange := false }))

/-- PLL_M_UNLOCK (R110). -/
def execPllMUnlock (s : State) : Host.Outcome State Fault Refusal := runDev s pllmUnlocked

/-! ## Lead points and transits -/

/-- FETs that the open dark windows hold: those of cells n - 1, n and n + 1 for every cell n of the slots (R235). -/
def darkFets (d : Dev) : BitVec 24 :=
  let m : BitVec 25 := d.tb.darkNow.foldl (fun m e => m ||| e.2.2) 0
  let hit := fun i => (i < 24 && mbit m i)
  mof 24 (((cellList d).filter (fun n => hit (n - 1) || hit n || (2 ≤ n && hit (n - 2)))).map (· - 1))

/-- An entry of a list changed where it is the first that the test finds. -/
def modFirst {α : Type} (p : α → Bool) (f : α → Option α) : List α → List α
  | [] => []
  | x :: t => if p x then (f x).toList ++ t else x :: modFirst p f t

/-- The oldest dark window of each CONVERT slot closes (R114, R235). -/
def closeDark (slots : List Nat) (d : Dev) : Dev :=
  let d1 := forEach slots (fun i d =>
    { d with tb.darkNow := modFirst (fun (e : Nat × Bool × BitVec 25) => e.1 == i && e.2.1) (fun _ => none) d.tb.darkNow }) d
  { d1 with bal.dark := darkFets d1 }

/-- The lead point of a CONVERT acts (R114, R116, R132): apertures start on its named, enabled channels that are free;
busy are those whose apertures had not ended before this cycle. -/
def startApertures (i : Nat) (x : Slot) (quiet : Bool) (held : BitVec 25) (d : Dev) : Dev :=
  let want := x.arg &&& enabledNow d
  let l : Lead := ⟨i, d.conv.modCount, x.phase, x.mark, want &&& ~~~ held, want &&& held, quiet, apertureMult d, d.tb.inc,
    d.conv.dec, d.conv.fir == 1, d.conv.cal⟩
  { d with
    conv.busy := (List.range 25).map (fun c => if mbit (want &&& ~~~ held) c then 1 else nth d.conv.busy c 0)
    conv.apStart := d.conv.apStart ++ [l]
    tb.darkNow := if quiet then
        modFirst (fun (e : Nat × Bool × BitVec 25) => e.1 == i && !e.2.1) (fun e => some (e.1, true, e.2.2)) d.tb.darkNow
      else d.tb.darkNow }

/-- The lead point of CONVERT slot i (R113, R114, R570): a transit of the old plan whose dark lead point acted is served
first; one of a new plan whose dark lead point lay before the switch is not served. -/
def leadSlot (held : BitVec 25) (i : Nat) (d : Dev) : Dev :=
  match d.tb.owed.find? (fun (e : Nat × Slot) => e.1 == i) with
  | some e =>
    startApertures i e.2 true held { d with tb.owed := modFirst (fun (y : Nat × Slot) => y.1 == i) (fun _ => none) d.tb.owed }
  | none =>
    match slotAt d i with
    | none => d
    | some x =>
      let a := leadPoints d i x
      let p := leadPeriod d a.1
      let quiet := servedDark d i
      if x.action != 1 || !slotFires x p || beforeSwitch d x p a.1 || (quiet && beforeSwitch d x p a.2) then d
      else startApertures i x quiet held d

/-- CONVERT_LEAD_POINT (R114, R136): slots acting in one cycle, ascending. -/
def execConvertLeadPoint (slots : List Nat) (s : State) : Host.Outcome State Fault Refusal :=
  runDev s (fun d =>
    if active d && d.conv.mode = 0 && (isHead d || d.tb.loaded) then
      let e := convAtPoint d
      forEach slots (leadSlot (mof 25 ((List.range 25).filter (fun c => nth e.conv.busy c 0 != 0)))) e
    else d)

/-- DARK_LEAD_POINT (R114, R118, R235, R570): the dark window opens where both slots are enabled. -/
def execDarkLeadPoint (slot : Nat) (s : State) : Host.Outcome State Fault Refusal :=
  runDev s (fun d =>
    match slotAt d slot with
    | none => d
    | some x =>
      let i := x.arg.toNat % 16
      match slotAt d i with
      | none => d
      | some c =>
        let a := (leadPoints d i c).2
        let p := leadPeriod d a
        if x.action = 3 && x.en && c.action = 1 && slotFires c p && !beforeSwitch d c p a && active d &&
            d.conv.mode = 0 && (isHead d || d.tb.loaded) then
          let d1 := { d with tb.darkNow := d.tb.darkNow ++ [(i, false, c.arg)] }
          pulseMarks x.mark { d1 with bal.dark := darkFets d1 }
        else d)

/-- The CONVERT slots of one transit make one record (R116, R133, R135); a channel is quiet where a merged slot that names
it is served by a DARK slot (R127). -/
def convertRecord (ls : List Lead) (d : Dev) : Dev :=
  match ls with
  | [] => d
  | l :: _ =>
    let started := ls.foldl (fun m x => m ||| x.started) (0 : BitVec 25)
    let late := (ls.foldl (fun m x => m ||| x.busy) (0 : BitVec 25)) &&& ~~~ started
    let quiet := ls.foldl (fun m x => if x.quiet then m ||| x.started else m) (0 : BitVec 25)
    let r : Rec := { Rec.reset with
      tseq := d.conv.tseq, period := d.tb.period, phase := l.phase, slot := l.slot
      slots := (ls.filter (fun x => x.quiet)).map (fun x => x.slot)
      quiet := quiet, named := started, late := late, fly := flyNow d, fir := l.fir, complete := started == 0
      modAt := some l.modAt, firedAt := d.now, warn := d.aux.warn, mult := l.mult, inc := l.inc, dec := l.dec, cal := l.cal
      epoch := d.conv.epoch, shuntOn := mbit d.conv.enable 24 }
    let d1 := { d with
      conv.tseq := (d.conv.tseq + 1) % 2 ^ 32
      conv.flight := d.conv.flight ++ [r]
      conv.apStart := ls.foldl (fun t y => modFirst (fun (x : Lead) => x == y) (fun _ => none) t) d.conv.apStart }
    if late = 0 then d1 else lateTransit d1

/-- A CAPTURE transit (R116, R153). -/
def captureTransit (c : Nat) (d : Dev) : Dev :=
  let x := capAt d c
  if x.state = 1 && x.trig = 0 then triggerCap c d
  else if x.state = 2 || x.state = 3 then lateTransit d
  else d

/-- An EXCITE transit (R116, R264): claimed units that do not run start; a running one is busy. A SUSPENDED plan starts none
(R282). -/
def exciteTransit (phase : Word) (arg : BitVec 25) (d : Dev) : Dev :=
  match d.eis.plan with
  | none => d
  | some p =>
    let now := d.tb.period * 2 ^ 32 + phaseNow d
    if d.eis.state == .suspended then d
    else if mbit arg 24 then
      let named := (mlist arg).filter (fun i => i < 24 && p.source == 3 && nth d.bal.owner i 0 == 0x40)
      let busy := named.filter (fun i => mbit d.eis.fetsOn i)
      let new := named.filter (fun i => !mbit d.eis.fetsOn i)
      let on := match p.tones with
        | t :: _ => decide (t.2.1 < 32768) && !toneMuted d t.1
        | [] => false
      let d1 := noteMuted { d with
        eis.fetsOn := d.eis.fetsOn ||| mof 24 new
        eis.fetsAt := new.foldl (fun l i => l.set i now) d.eis.fetsAt
        bal.exciteOn := if on then d.bal.exciteOn ||| mof 24 new else d.bal.exciteOn }
      noteStarted phase (if busy.isEmpty then d1 else lateTransit d1)
    else
      let named := (List.range 4).filter (fun b => mbit arg b && p.source == 2 && (bank d b).owner == 0x40)
      let busy := named.filter (fun b => mbit d.eis.banksOn b)
      let new := named.filter (fun b => !mbit d.eis.banksSeen b && !bankFenced d (b + 1) && !(bank d b).interlock)
      let d1 := forEach new (modBank · (fun x => { x with on := true, excite := true, excAt := now })) d
      let d2 := noteMuted { d1 with
        eis.banksOn := d1.eis.banksOn ||| mof 4 new, eis.banksSeen := d1.eis.banksSeen ||| mof 4 new }
      noteStarted phase (if busy.isEmpty then d2 else lateTransit d2)

/-- A slot other than CONVERT and DARK acts at its phase (R112). -/
def actSlot (i : Nat) (d : Dev) : Dev :=
  match slotAt d i with
  | none => d
  | some x =>
    if !slotFires x d.tb.period then d
    else match x.action with
      | 2 => pulseMarks x.mark (auxTransit (x.arg.toNat % 64) d)
      | 4 => pulseMarks x.mark (captureTransit (x.arg.toNat % 4) d)
      | 5 => pulseMarks x.mark (exciteTransit x.phase x.arg d)
      | _ => d

/-- TRANSIT (R113, R116, R133, R570): the slots acting in one cycle, ascending; a CONVERT is served where its lead
point acted. -/
def execTransit (slots : List Nat) (s : State) : Host.Outcome State Fault Refusal :=
  runDev s (fun d =>
    if !awake d || !(isHead d || d.tb.loaded) then d
    else
      let ls := slots.filterMap (fun i => d.conv.apStart.find? (fun (l : Lead) => l.slot == i))
      let d1 := convertRecord ls d
      forEach slots actSlot (forEach ls (fun l d => pulseMarks l.mark d) d1))

/-- TRANSIT_MARK_END (R118). -/
def execTransitMarkEnd (gpio : Nat) (s : State) : Host.Outcome State Fault Refusal :=
  runDev s (fun d =>
    if mbit d.tb.markPulse (gpio - 1) && gpioHolder d gpio == 4 then
      { d with tb.markPulse := mset d.tb.markPulse (gpio - 1) false
               pins.gpioLevel := mset d.pins.gpioLevel (gpio - 1) false }
    else d)

/-! ## The clock -/

/-- One CK_PHASE cycle (R91, R92): INC and at most 1/64 of it of correction are added; the wrap is the meridian. -/
def tickPhase (d : Dev) : Dev :=
  if accAfter 1 d < 2 ^ 48 then passCycles 1 d else doMeridian (passCycles 1 d)

end Sys2Proof.Machine
end

