-- ==== Sys2Proof/Machine/AuxOps.lean ====
section
/-! DEFINITION. Readings, sequencer results and leat comparisons (06_aux_path_and_leat.md R162, R163, R165, R170 to R172,
R179, R180). -/

namespace Sys2Proof.Machine

/-! ## Readings -/

/-- A value in units of the code takes a whole code: itself where it is one, else one of its neighbours (log 25). -/
def toCode (q : Rat) : Int := if q.den = 1 then q.num else q.floor + (if Config.roundUp q then 1 else 0)

/-- A mean SAR code of the leat of cell n as its trimmed voltage in uV (R162, R163; the trim acts as R143's, log 27). -/
def leatUv (d : Dev) (n : Nat) (c : Rat) : Rat :=
  (c * 7500000 / 4096 - 1500000) * (1 + (nth d.otp.leatGain (n - 1) 0 : Rat) / 1000000) + nth d.otp.leatOfs (n - 1) 0

/-- A mean SAR code of TEST_DAC in uV (R162). -/
def dacUv (c : Rat) : Rat := c * 6000000 / 4096

/-- Absolute value. -/
def rabs (q : Rat) : Rat := if q < 0 then -q else q

/-- The tolerance of a leat comparison at V_P, in uV (R179). -/
def leatTol (d : Dev) (vp : Rat) : Rat := 1000 * itemN d 0x0203 + itemN d 0x0204 * rabs vp / 1000000

/-! ## Sequencer results -/

/-- Mean code in 12.4 fixed point, halves rounded up (R165). -/
def meanCode (sum cnt : Nat) : Nat := (32 * sum + cnt) / (2 * cnt)

/-- A table entry's result written into AUX_RESULT (R170 to R172); the block's own users of a source take its value. -/
def auxWrite (e sum cnt : Nat) (transit : Bool) (d : Dev) : Dev :=
  let w := auxEntry d e
  let v := meanCode sum cnt
  let win := bf w 8 3
  let lim := itemN d (0x0210 + win)
  let out := win != 0 && (decide (v < lim % 2 ^ 16) || decide (lim / 2 ^ 16 < v))
  let ovr := bit d.aux.result 9
  let late := d.aux.lateEntries.contains e
  let r := Word.of (v * 2 ^ 16 + e * 2 ^ 10 + 512 + b2n ovr * 256 + b2n late * 128 + b2n out * 64 + b2n transit * 32 +
    b2n (bit w 12) * 16)
  let d1 := { d with aux.result := r, aux.lateEntries := d.aux.lateEntries.filter (· != e) }
  let d2 := if ovr then raiseNS 116 0xFFFF { d1 with aux.ovrCnt := satInc 65535 d1.aux.ovrCnt } else d1
  let d3 := if out then raiseNS 120 e d2 else d2
  match entrySrc w with
  | 0x2B => tempArrived v d3
  | 0x2C => { d3 with aux.tempCore := v }
  | 0x28 => { d3 with aux.vstkCode := v }
  | _ => d3

/-! ## Leat comparison -/

/-- The samples a comparison takes its reference from (R179): word and uncorrected value. -/
def leatRefs (d : Dev) (n : Nat) : List (Word × Int) :=
  let start := d.now - 1536
  let all := d.conv.live.filter (fun (r : Rec) => r.epoch == d.conv.epoch && recWord r (n - 1) != 0x80000000)
  let near := all.filter (fun (r : Rec) => decide (r.firedAt ≤ start) && decide (start < r.firedAt + 1920000))
  let use := match near, all.getLast? with
    | [], some r => if start ≤ r.firedAt + 7680000 then [r] else []
    | l, _ => l
  use.map (fun r => (recWord r (n - 1), nth r.uncorr (n - 1) 0))

/-- V_P, none where the comparison is skipped (R179). -/
def leatRef (d : Dev) (n : Nat) : Option Rat :=
  let l := leatRefs d n
  let vals := l.map (fun x => sext 24 (bf x.1 8 24))
  match vals with
  | [] => none
  | a :: t =>
    if l.any (fun x => bit x.1 7 || bit x.1 5 || bit x.1 2 || bit x.1 4) || decide (10000 < t.foldl max a - t.foldl min a) ||
        (disturbed d).contains n then none
    else some (((l.map (fun x => x.2)).sum : Int) / (l.length : Rat))

/-- A leat comparison of cell n at the reading vl in uV (R179, R180). -/
def leatCompare (n : Nat) (vl : Rat) (d : Dev) : Dev :=
  match leatRef d n with
  | none => d
  | some vp =>
    if rabs (vl - vp) ≤ leatTol d vp then
      { d with aux.warn := mset d.aux.warn (n - 1) false, aux.confirm := mset d.aux.confirm (n - 1) false }
    else
      let first := !mbit d.aux.warn (n - 1)
      let d1 := { d with aux.warn := mset d.aux.warn (n - 1) true, aux.confirm := mset d.aux.confirm (n - 1) true
                         aux.toVerify := if first then d.aux.toVerify ++ [(n, vp)] else d.aux.toVerify }
      raiseCh 117 n d1

end Sys2Proof.Machine
end

