-- ==== Sys2Proof/Machine/Conv.lean ====
section
/-! DEFINITION. Sample formation, frames, visibility of records and captures on GPIO edges
(05_cell_conversion.md R127 to R153, 06_aux_path_and_leat.md R163, R183, 08_balancing.md R233, R242, R248). -/

namespace Sys2Proof.Machine

/-! ## Sample values -/

/-- The gain of a channel in ppm (R143): channel 24 is the shunt. -/
def chanGain (d : Dev) (k : Cal) (c : Nat) : Rat :=
  (nth d.otp.gTrim c 0 : Rat) + nth k.gain c 0 +
    (if k.tcomp = 1 then (nth d.otp.tc c 0 : Rat) * ((frontTemp d - 320000 : Int) : Rat) / 12800 else 0)

/-- LSB of a channel in nV (R140). -/
def lsbNv (c : Nat) : Nat := if c = 24 then 10 else 1000

/-- Trimmed value in nV (R143). -/
def trimmedNv (d : Dev) (k : Cal) (c : Nat) (raw : Int) : Rat :=
  (raw : Rat) * (1 + chanGain d k c / 1000000) +
    ((nth d.otp.oTrim c 0 + nth k.ofs c 0 : Int) : Rat) * lsbNv c

/-- Measured limits of a channel in nV (R140). -/
def limits (k : Cal) (c : Nat) : Rat × Rat :=
  if c < 24 then (-1200000000, 5800000000)
  else if k.range = 1 then (-30000000, 30000000) else (-120000000, 120000000)

/-- A saturated value (R140, R142): the nearest measured limit. -/
def saturate (lim : Rat × Rat) (v : Rat) : Rat := if v + v < lim.1 + lim.2 then lim.1 else lim.2

/-- A sample word: value and flags (R144). -/
def sampleWord (v : Int) (flags : Nat) : Word := Word.of (ufield 24 v * 256 + flags)

/-- Flags of R145 that hold for the record on channel c: FLYWHEEL and CHECK_WARN. -/
def recFlags (r : Rec) (c : Nat) : Nat := b2n r.fly * 8 + b2n (c < 24 && mbit r.warn c)

/-- SETTLING on a sample formed normally or in substitution (R147); a sample whose count was judged at a loss of modulator
data carries what it was then (R24). -/
def settlingNow (d : Dev) (r : Rec) (c : Nat) : Bool :=
  mbit r.settle c || (!mbit r.spent c && nth d.conv.settle c 0 != 0)

/-- The settling count after such a sample (R147, R24). -/
def stepSettle (r : Rec) (c : Nat) (d : Dev) : Dev :=
  if mbit r.spent c then d else { d with conv.settle := d.conv.settle.modify c (fun n => n - 1) }

/-- A sample kept as the channel's previous one (R146) and put into the record. -/
def putSample (c : Nat) (w : Word) (x : Dev × Rec) : Dev × Rec :=
  ({ x.1 with conv.prev := x.1.conv.prev.set c w, aux.leatSince := x.1.aux.leatSince.set c (0, 0) }, { x.2 with words := x.2.words.set c w })

/-- A LATE sample (R146). It is no sample of the channel's leat: the mean of R183 runs on over it (DESIGN CHOICE, log 83). -/
def lateSample (c : Nat) (x : Dev × Rec) : Dev × Rec :=
  let p := nth x.1.conv.prev c 0x80000000
  let w : Word := if p = 0x80000000 then Word.of (0x84 + b2n x.2.fly * 8)
    else (p &&& 0xFFFFFF71) ||| Word.of (4 + b2n x.2.fly * 8)
  (x.1, { x.2 with words := x.2.words.set c w })

/-- A sample of a fenced cell, from its leat (R182, R183): none where the leat is excluded. -/
def substSample (c : Nat) (x : Dev × Rec) : Dev × Rec :=
  let d := x.1
  if mbit d.aux.excluded c then x
  else
    let s := nth d.aux.leatSince c (0, 0)
    let mean : Rat := if s.2 = 0 then (nth d.aux.leatLast c 0 : Rat) / 4 else (s.1 : Rat) / (4 * s.2)
    let v := toCode (leatUv d (c + 1) mean)
    let clip := decide (mean = 0) || decide (4095 ≤ mean)
    let w := sampleWord v (b2n (settlingNow d x.2 c) * 128 + b2n clip * 32 + 16 + recFlags x.2 c)
    putSample c w (stepSettle x.2 c d, { x.2 with uncorr := x.2.uncorr.set c v })

/-- A sample formed from the modulator (R143). -/
def normalSample (c : Nat) (raw : Int) (ovl : Bool) (x : Dev × Rec) : Dev × Rec :=
  let d := x.1
  let r := x.2
  let v0 := trimmedNv d r.cal c raw
  let near := conducted d r (c + 1) || conducted d r c || conducted d r (c + 2)
  let comp := decide (c < 24) && !mbit r.quiet c && near
  let v1 := if comp then v0 + irCorrection d r (c + 1) else v0
  let lim := limits r.cal c
  let clip := ovl || decide (v1 < lim.1) || decide (lim.2 < v1)
  let v2 := if clip then saturate lim v1 else v1
  let wide := c == 24 && (decide (83886070 < v2) || decide (v2 < -83886070))
  let v := if wide then rround (v2 / 20) else toCode (v2 / lsbNv c)
  let w := sampleWord v (b2n (settlingNow d r c) * 128 + b2n (comp || wide) * 64 + b2n clip * 32 + recFlags r c)
  putSample c w (stepSettle r c d, { r with uncorr := r.uncorr.set c (toCode (v0 / 1000)) })

/-- A fenced channel has no sample: the shunt, and a cell whose leat is excluded (R182, R183, R499). -/
def noSample (d : Dev) (c : Nat) : Bool := mbit d.fault.fencedCh c && (c == 24 || mbit d.aux.excluded c)

/-- The value before trim, in nV, and the overload of channel c (R127, R142, R143): from the modulator bits of the
support where the decimator holds them; else as the command gives them (log 87). -/
def weighed (raw : List Int) (ovl : BitVec 25) (c : Nat) (d : Dev) (r : Rec) : Int × Bool :=
  match supportBitsOf d r c with
  | some l => (Config.modNv c r.cal.range (weighBits r c l), overloaded l)
  | none => (nth raw c 0, mbit ovl c)

/-- The sample of channel c in a record (R131, R143, R146, R182, R183). -/
def formSample (raw : List Int) (ovl : BitVec 25) (c : Nat) (x : Dev × Rec) : Dev × Rec :=
  if noSample x.1 c then x
  else if mbit x.2.late c then lateSample c x
  else if !mbit x.2.named c then x
  else if mbit x.1.fault.fencedCh c then substSample c x
  else
    let v := weighed raw ovl c x.1 x.2
    normalSample c v.1 v.2 x

/-- An entry of the balance current log (R248): 0x8000 where its unit did not run in the support. A bank's mean is signed
and stays off 0x8000 (log 94). -/
def logOf (d : Dev) (r : Rec) (u : Bool × Nat) : BitVec 16 :=
  if u.1 then (meanBank d r u.2).elim 0x8000 (fun q => BitVec.ofInt 16 (clampInt (-32767) 32767 (rround q)))
  else if conducted d r u.2 || mbit d.eis.fetsOn (u.2 - 1) then BitVec.ofNat 16 (rround (meanFet d r u.2)).toNat
  else 0x8000

/-- A record formed: words, log entries, FETs that conducted in its support (R143, R233, R248). -/
def formRecord (raw : List Int) (ovl : BitVec 25) (r : Rec) (d : Dev) : Dev × Rec :=
  let r0 := { r with words := List.replicate 25 0x80000000, uncorr := List.replicate 25 0, written := true
                     conduct := mof 24 (((cellList d).filter (fun n => conducted d r n)).map (· - 1))
                     blog := match d.eis.plan with
                       | some p => (logUnits p).map (logOf d r)
                       | none => [] }
  (List.range 25).foldl (fun x c => formSample raw ovl c x) (d, r0)

/-! ## Apertures and frames -/

/-- APERTURE_END (R127, R132, R235): the channels of the transit are free, its dark windows close. -/
def execApertureEnd (tseq : Nat) (s : State) : Host.Outcome State Fault Refusal :=
  runDev s (fun d =>
    match d.conv.flight.find? (fun (r : Rec) => r.tseq == tseq) with
    | some r =>
      if r.apEnd then d
      else closeDark r.slots (channelsFree r.named { d with
        conv.flight := d.conv.flight.map (fun (y : Rec) => if y.tseq = tseq then { y with apEnd := true } else y) })
    | none => d)

/-- FRAME_END (R129, R136, R145): the CONTINUOUS frame makes its record, with the flags of its centre; a waiting change
takes effect; the next begins. -/
def execFrameEnd (s : State) : Host.Outcome State Fault Refusal :=
  runDev s (fun d =>
    match d.conv.frameAt with
    | none => d
    | some f =>
      if !active d || d.conv.mode != 1 then d
      else
        let en := enabledNow d
        let c := d.conv.centred.getD (flyNow d, d.aux.warn)
        let r : Rec := { Rec.reset with
          tseq := d.conv.tseq, period := f.1, phase := f.2, cont := true, named := en, fly := c.1, warn := c.2
          fir := d.conv.fir == 1, firedAt := d.conv.centreAt, mult := apertureMult d, inc := d.tb.inc
          modAt := some d.conv.frameMod, apEnd := true, shuntOn := mbit d.conv.enable 24
          dec := d.conv.dec, cal := d.conv.cal, epoch := d.conv.epoch, complete := en == 0 }
        let d1 := { d with conv.tseq := (d.conv.tseq + 1) % 2 ^ 32, conv.flight := d.conv.flight ++ [r],
                           conv.frameNo := d.conv.frameNo + 1 }
        let d2 := if d1.conv.waiting && !d1.conv.atMeridian then
            -- frames of a new length count from here
            convTake { d1 with conv.anchorAt := frameEdge d1 (2 * d1.conv.frameNo), conv.frameNo := 0 } else d1
        if d2.conv.anchored then beginFrame d2 else d2)

/-- RECORD_COMPLETE (R134). -/
def execRecordComplete (tseq : Nat) (s : State) : Host.Outcome State Fault Refusal :=
  runDev s (fun d =>
    { d with
      conv.flight := d.conv.flight.map (fun (r : Rec) => if r.tseq = tseq then { r with complete := true } else r) })

/-- RECORD_WRITE (R134, R143, R151): the assembler writes the next record in TSEQ order, once it is complete. -/
def execRecordWrite (raw : List Int) (ovl : BitVec 25) (s : State) : Host.Outcome State Fault Refusal :=
  runDev s (fun d =>
    match d.conv.flight.find? (fun (r : Rec) => !r.written) with
    | none => d
    | some r =>
      if !r.complete then d
      else
        let y := formRecord raw ovl r d
        let x := (sramWritten 0 ((List.range 25).map (fun c => r.tseq % historyDepth d.part * 32 + c)) y.1, y.2)
        { x.1 with conv.flight := x.1.conv.flight.map (fun (y : Rec) => if y.tseq = r.tseq then x.2 else y) })

/-! ## Visibility -/

/-- A limit of an active driver met by a visible sample (R242): the set command becomes 0, the driver turns off. -/
def limitHit (b : Nat) (d : Dev) : Dev :=
  let old := (bank d b).cmd
  let d1 := bankStop b (modBank b (fun x => { x with cmd := 0, limit := true }) d)
  jchange (fwCtx 5) (0x04A1 + b) (itemWord old) 0 d1

/-- A sample of R242: free of SETTLING, LATE and CLIP. -/
def limitSample (w : Word) : Bool := w != 0x80000000 && !bit w 7 && !bit w 2 && !bit w 5

/-- ACT_V_HI and ACT_V_LO judged on bank b, from 0 (R242); an item at 0 sets no limit. -/
def judgeLimits (r : Rec) (b : Nat) (d : Dev) : Dev :=
  let x := bank d b
  let vs := ((List.range 6).map (fun i => recWord r (6 * b + i))).filter limitSample
  let vals := vs.map (fun w => sext 24 (bf w 8 24))
  let hi := itemN d 0x0433
  let lo := itemN d 0x0434
  let up := 0 < x.cmd && hi != 0 && vals.any (fun v => decide ((hi : Int) * 10000 ≤ v))
  let dn := x.cmd < 0 && lo != 0 && vals.any (fun v => decide (v ≤ (lo : Int) * 10000))
  if x.on && !x.excite && (up || dn) then limitHit b d else d

/-- Events of the samples of a record that carry CLIP: one occurrence of EV115 each. -/
def clipEvents (r : Rec) (d : Dev) : Dev :=
  forEach ((List.range 25).filter (fun c => recWord r c != 0x80000000 && bit (recWord r c) 5)) (fun c d => raiseCh 115 (c + 1) d) d

/-- RECORD_VISIBLE (R135): the oldest record in flight, once written, is visible to every consumer. -/
def execRecordVisible (s : State) : Host.Outcome State Fault Refusal :=
  runDev s (fun d =>
    match d.conv.flight with
    | [] => d
    | r :: rest =>
      if !r.written then d
      else
        let d1 := showRecord r { d with conv.flight := rest }
        let d2 := freezeDue (decideAll r (clipEvents r d1))
        let d3 := if d2.part.hasBanks then forEach [0, 1, 2, 3] (judgeLimits r) d2 else d2
        eisRecord r (generators r d3))

/-- CAPTURE_GPIO_EDGE (R152): the selected edge on a pin that CAPTURE_IN holds. -/
def execCaptureGpioEdge (gpio : Nat) (rising : Bool) (s : State) : Host.Outcome State Fault Refusal :=
  runDev s (fun d =>
    if gpioHolder d gpio != 3 || gpio = 0 then d
    else
      let d1 := { d with pins.gpioLevel := mset d.pins.gpioLevel (gpio - 1) rising }
      forEach [0, 1, 2, 3] (fun c d =>
        let x := capAt d c
        if x.state = 1 && x.trig = gpio && x.edge = !rising then triggerCap c d else d) d1)

end Sys2Proof.Machine
end

