-- ==== Sys2Proof/Machine/AuxPath.lean ====
section
/-! DEFINITION. The commands of the auxiliary sequencer, the leat, the test DAC and the input diagnosis
(06_aux_path_and_leat.md R162 to R183). -/

namespace Sys2Proof.Machine

/-! ## Sequencer -/

/-- The SAR waits where its data finds no room in the hold buffer (01_architecture.md R25). -/
def sarRoom (d : Dev) : Dev := { d with d2d.sarWait := d.d2d.sarWait || (d.d2d.retrain && holdFull d) }

/-- A conversion's data as the core die takes it: the result it completes, if it does (R172). -/
def sarTaken (res : Option (Nat × Nat × Nat × Bool)) (d : Dev) : Dev :=
  match res with
  | some r => auxWrite r.1 r.2.1 r.2.2.1 r.2.2.2 d
  | none => d

/-- A conversion's data on their way to the core die (01_architecture.md R20, R25). -/
def sarData (src code : Nat) (res : Option (Nat × Nat × Nat × Bool)) (d : Dev) : Dev :=
  sarRoom (viaBus (.sar src code res) (sarTaken res) d)

/-- A conversion of the loop entry (R165): after the last one its result, then the DELAY. -/
def loopConv (code : Nat) (d : Dev) : Dev :=
  let e := d.aux.pos
  let w := auxEntry d e
  let sum := d.aux.sum + code
  if d.aux.count + 1 < entryReps w then
    sarWork (sarData (entrySrc w) code none { d with aux.sum := sum, aux.count := d.aux.count + 1 })
  else
    let d1 := sarData (entrySrc w) code (some (e, sum, entryReps w, false)) { d with aux.sum := 0, aux.count := 0 }
    if bf w 13 8 = 0 then sarWork { d1 with aux.pos := e + 1 }
    else sarWork { d1 with aux.delaying := true }

/-- A conversion of an AUX transit entry (R167): after the last one its result, then the entry that waits. -/
def transitConv (e code : Nat) (d : Dev) : Dev :=
  let w := auxEntry d e
  let sum := d.aux.txSum + code
  if d.aux.txCount + 1 < entryReps w then
    sarWork (sarData (entrySrc w) code none { d with aux.txSum := sum, aux.txCount := d.aux.txCount + 1 })
  else
    let d1 := sarData (entrySrc w) code (some (e, sum, entryReps w, true)) d
    sarWork { d1 with aux.txEntry := d1.aux.txNext.head?, aux.txNext := d1.aux.txNext.drop 1, aux.txSum := 0, aux.txCount := 0 }

/-- SAR_CONVERSION_DONE (R162, R166, R169): a conversion of the loop or of a transit entry; those of a leat slot end with
LEAT_SLOT_DONE. -/
def execSarConversionDone (code : BitVec 12) (s : State) : Host.Outcome State Fault Refusal :=
  runDev s (fun d =>
    if !awake d then d
    else match d.aux.user, d.aux.txEntry with
      | .loop, _ => loopConv code.toNat d
      | .transit, some e => transitConv e code.toNat d
      | _, _ => d)

/-- AUX_DELAY_END (R165): the loop moves on to the next entry. -/
def execAuxDelayEnd (s : State) : Host.Outcome State Fault Refusal :=
  runDev s (fun d =>
    if awake d && d.aux.delaying then sarKick { d with aux.delaying := false, aux.pos := d.aux.pos + 1 } else d)

/-- AUX_RESULT_FILE (R173): read by the housekeeper; nothing is read while it restarts. -/
def execAuxResultFile (s : State) : Host.Outcome State Fault Refusal :=
  runDev s (fun d =>
    if bit d.aux.result 9 && d.cmd.hkReady then
      { d with aux.last := aset d.aux.last (bf d.aux.result 10 6) ⟨d.aux.result, d.tb.period⟩
               aux.result := d.aux.result &&& 0xFFFFFDFF }
    else d)

/-! ## Leat -/

/-- LEAT_SLOT_DUE (R178). -/
def execLeatSlotDue (s : State) : Host.Outcome State Fault Refusal :=
  runDev s (fun d =>
    if !active d then d
    else if d.aux.slotPending then { d with aux.leatSlip := satInc 65535 d.aux.leatSlip }
    else sarKick { d with aux.slotPending := true })

/-- A verification judged (R181): two conversions through the divider, two of TEST_DAC directly. -/
def leatVerified (n : Nat) (codes : List Nat) (d : Dev) : Dev :=
  let a := leatUv d n (((nth codes 0 0 + nth codes 1 0 : Nat) : Rat) / 2)
  let b := dacUv (((nth codes 2 0 + nth codes 3 0 : Nat) : Rat) / 2)
  let d1 := { d with aux.verify := none, aux.verifyOn := false }
  let d2 := if rabs (a - b) ≤ leatTol d d.aux.verifyVp then d1
    else raiseNS 118 (0x100 + n) { d1 with aux.excluded := mset d1.aux.excluded (n - 1) true
                                           aux.confirm := mset d1.aux.confirm (n - 1) false }
  dacFree d2

/-- A leat reading of cell n (R180, R183): no comparison while the cell is fenced or awaits its verification. -/
def leatReading (n sum : Nat) (d : Dev) : Dev :=
  let s := nth d.aux.leatSince (n - 1) (0, 0)
  let d1 := { d with aux.leatLast := d.aux.leatLast.set (n - 1) sum
                     aux.leatSince := d.aux.leatSince.set (n - 1) (s.1 + sum, s.2 + 1) }
  if chFenced d n || leatPaused d n then d1 else leatCompare n (leatUv d n ((sum : Rat) / 4)) d1

/-- The four conversions of a leat slot as the core die takes them (R180, R181, R183). -/
def leatSlotData (n : Nat) (verify : Bool) (codes : List Nat) (d : Dev) : Dev :=
  if verify then leatVerified n codes d else leatReading n codes.sum d

/-- LEAT_SLOT_DONE (R180, R181, R183); in a retrain the conversions wait in the hold buffer (01_architecture.md R25). -/
def execLeatSlotDone (codes : List (BitVec 12)) (s : State) : Host.Outcome State Fault Refusal :=
  runDev s (fun d =>
    match d.aux.user, d.aux.slotOf with
    | .leat, some n =>
      if !awake d then d
      else
        let c := (codes.take 4).map BitVec.toNat
        sarWork (sarRoom (viaBus (.leat n d.aux.slotVerify c) (leatSlotData n d.aux.slotVerify c)
          { d with aux.slotOf := none, aux.slotVerify := false }))
    | _, _ => d)

/-- LEAT_VERIFY_SWITCH (R181): the divider is switched to the settled DAC. -/
def execLeatVerifySwitch (s : State) : Host.Outcome State Fault Refusal :=
  runDev s (fun d =>
    if awake d && d.aux.verify.isSome && d.aux.dacUser == .leat then { d with aux.verifyOn := true, aux.dacSettled := true } else d)

/-- TEST_DAC_SETTLED (R174, R175): a PATH or AX_PATH check goes on from its first code to its second, then bypasses its
resistor at the second. -/
def execTestDacSettled (s : State) : Host.Outcome State Fault Refusal :=
  runDev s (fun d =>
    if !awake d || d.aux.dacUser == .unused then d
    else if d.aux.dacUser == .diag && d.aux.diagStep == 0 then
      { d with aux.diagStep := 1, aux.dacCode := if d.aux.target ≤ 72 then 744 else 465, aux.dacSettled := false }
    else if d.aux.dacUser == .diag then { d with aux.diagStep := 2, aux.bypass := true, aux.dacSettled := true }
    else { d with aux.dacSettled := true })

/-! ## Input diagnosis -/

/-- WIRE_CHECK_PERIOD (R177): 0 makes no periodic run. -/
def execWireCheckPeriod (s : State) : Host.Outcome State Fault Refusal :=
  runDev s (fun d => if awake d && itemN d 0x0209 != 0 then diagRun d else d)

/-- PATH and AX_PATH judged (R175): the reading at each of two codes and the direct TEST_DAC readings, then the upper code
bypassed, in uV. Gain and offset are those of the line through the two points (log 28). -/
def pathFails (d : Dev) (l : List Int) : Bool :=
  let c1 := nth l 0 0
  let r1 := nth l 1 0
  let c2 := nth l 2 0
  let r2 := nth l 3 0
  let by' := nth l 4 0
  let g : Rat := if r2 = r1 then 1 else ((c2 - c1 : Int) : Rat) / ((r2 - r1 : Int) : Rat)
  let o : Rat := c1 - g * r1
  decide (1 / 200 < rabs (g - 1)) || decide (10000 < rabs o) || decide ((itemN d 0x0208 : Int) * 100 < by' - c2)

/-- The check of the target fails on its readings (R175): OPEN_C takes the sums of four codes of the leats of cells n and
n + 1 before and at the end of the pull, OPEN_SB V(SBn) - V(Cn-1) in uV and the leat sum of cell n. -/
def diagFails (d : Dev) (l : List Int) : Bool :=
  let t := d.aux.target
  let v := fun (n i : Nat) => leatUv d n ((nth l i 0 : Rat) / 4)
  if t ≤ 24 then
    let moved := fun (n i : Nat) => cellPresent d n && decide (1000 * (itemN d 0x0207 : Rat) < rabs (v n (i + 2) - v n i))
    moved t 0 || moved (t + 1) 1
  else if t ≤ 48 then decide ((nth l 0 0 : Rat) < v (t - 24) 1 / 2)
  else pathFails d l

/-- The target's bit set or cleared (R177). -/
def diagBit (t : Nat) (f : Bool) (d : Dev) : Dev :=
  if t ≤ 24 then { d with aux.openC := mset d.aux.openC t f }
  else if t ≤ 48 then { d with aux.openSb := mset d.aux.openSb (t - 25) f }
  else if t ≤ 72 then { d with aux.pathFail := mset d.aux.pathFail (t - 49) f }
  else { d with aux.axPathFail := mset d.aux.axPathFail (t - 73) f }

/-- DIAG_PULL_END (R175, R177): a PATH or AX_PATH check ends once both codes and the bypass have been read. -/
def execDiagPullEnd (readings : List Int) (s : State) : Host.Outcome State Fault Refusal :=
  runDev s (fun d =>
    if !awake d || !d.aux.pulling || (49 ≤ d.aux.target && d.aux.diagStep < 2) then d
    else
      let t := d.aux.target
      let f := diagFails d readings
      let d1 := diagBit t f { d with aux.pulling := false, aux.recovering := true }
      let d2 := if f then raiseOn 119 t ((targetCells d1 t).map (0x100 + ·)) d1 else d1
      if d2.aux.dacUser == .diag then dacFree d2 else d2)

/-- DIAG_RECOVER_END (R176, R177): the disturbed channels are released and settle where they were disabled. -/
def execDiagRecoverEnd (s : State) : Host.Outcome State Fault Refusal :=
  runDev s (fun d =>
    if !awake d || !d.aux.recovering then d
    else
      let back := (mlist d.conv.disabledDiag).filter (fun c => mbit d.conv.enable c)
      let d1 := forEach back enableChannel { d with aux.recovering := false, conv.disabledDiag := 0 }
      diagNext (d.aux.target + 1) d1)

/-- DIAG_NO_GAP_TIMEOUT (R176): the disturbed cells are disabled and the check runs, once the test DAC is free where it
needs it. -/
def execDiagNoGapTimeout (s : State) : Host.Outcome State Fault Refusal :=
  runDev s (fun d =>
    if awake d && d.aux.running && d.aux.gapWait && d.conv.mode == 0 && d.aux.target ≤ 72 then { d with aux.noGap := true }
    else d)

end Sys2Proof.Machine
end

