-- ==== Sys2Proof/Machine/Cmp.lean ====
section
/-! DEFINITION. The commands of the comparators and the trip path (07_comparators_and_trip.md R189 to R209). -/

namespace Sys2Proof.Machine

/-- CMP_OUTPUT_CHANGE (R189, R191): without a deglitch the level is effective at once. -/
def execCmpOutputChange (k : Fin 64) (level : Bool) (s : State) : Host.Outcome State Fault Refusal :=
  runDev s (fun d =>
    if !cmpPowered d || mbit d.cmp.raw k == level then d
    else
      let d1 := { d with cmp.raw := mset d.cmp.raw k level
                         cmp.rawAt := aset d.cmp.rawAt k (d.tb.period, phaseNow d) }
      effectiveNow k d1)

/-- CMP_DEGLITCH_EXPIRY (R191). -/
def execCmpDeglitchExpiry (k : Fin 64) (s : State) : Host.Outcome State Fault Refusal := runDev s (makeEffective k)

/-- TRIP_INSERT_DEFERRED (R207). -/
def execTripInsertDeferred (s : State) : Host.Outcome State Fault Refusal :=
  runDev s (fun d =>
    if d.trip.deferred && !d.power.safeForced then driveTrip d else d)

/-- The bit of RX_PORT that names a port (R215). -/
def rxBit : Port → BitVec 2
  | .A => 1
  | .B => 2

/-- Ports by which a TRIP received on p is forwarded (R208, R361): the other port behind a closed headgate, else the trip
ports. -/
def fwdTo (p : Port) (d : Dev) : List Port :=
  if !isHead d && !d.ring.gate then (if portUp d p.other then [p.other] else []) else tripPorts d

/-- TRIP_RX (R208, R209, R334): latched and forwarded; on the head, and on a member with TRIP_RX_FAULTN, FAULTN is
stretched. -/
def execTripRx (p : Port) (s : State) : Host.Outcome State Fault Refusal :=
  runDev s (fun d =>
    if !cmpPowered d then d
    else
      let both := decide (d.now ≤ d.trip.rxAt + 12)
      let d1 := { d with
        trip.rxLatch := true
        trip.rxPort := if !d.trip.rxLatch then rxBit p else if both then d.trip.rxPort ||| rxBit p else d.trip.rxPort
        trip.rxAt := if d.trip.rxLatch then d.trip.rxAt else d.now }
      let d2 := if d.power.safeForced || (fwdTo p d).isEmpty then d1
        else { d1 with trip.forwarding := true, trip.fwdAt := d.now, trip.fwdPorts := portMask (fwdTo p d) }
      if isHead d || itemN d 0x030B = 1 then triggerStretch d2 else d2)

/-- CMP_SETTING_APPLY (R192, R572): the settings of the items, except while the restart's configuration is not yet
written. -/
def execCmpSettingApply (k : Fin 64) (s : State) : Host.Outcome State Fault Refusal :=
  runDev s (fun d => if awake d then applySetting k d else d)

/-- CMP_CHECK_READ (R201 to R203, R501): taken while the comparator is isolated at a settled level; it is reconnected after
the first and after the last tie level, and a trip that arose takes effect through the deglitch. -/
def execCmpCheckRead (k : Fin 64) (level : Bool) (s : State) : Host.Outcome State Fault Refusal :=
  runDev s (fun d =>
    if !isolated d k then d
    else effectiveNow k (checkOn k { d with cmp.checkBad := d.cmp.checkBad || !checkPasses d k level }))

end Sys2Proof.Machine
end

