-- ==== Sys2Proof/Machine/Balancing.lean ====
section
/-! DEFINITION. The timed commands of passive and active balancing (08_balancing.md R219 to R248). -/

namespace Sys2Proof.Machine

/-! ## Passive balancing -/

/-- BAL_PERIOD_BOUNDARY (R221, R223, R226). -/
def execBalPeriodBoundary (s : State) : Host.Outcome State Fault Refusal :=
  runDev s (fun d => if awake d then balBoundary d else d)

/-- BAL_STEP (R225): the next step of the balance period; step 0 begins with the period. -/
def execBalStep (s : State) : Host.Outcome State Fault Refusal :=
  runDev s (fun d => if awake d && d.bal.step < 255 then startStep (d.bal.step + 1) d else d)

/-- Beats of an interval that find room among the entries free, group by group (R25): the groups dropped. -/
def droppedBeats (groups room : Nat) : BitVec 6 := mof 6 ((List.range groups).filter (fun g => decide (room ≤ g)))

/-- Cells that a dropped beat's FETs touch (R25, R147), channels from 0. -/
def droppedCells (d : Dev) (g : Nat) : List Nat :=
  (List.range 24).filter (fun c => cellPresent d (c + 1) && decide (4 * g ≤ c + 1) && decide (c ≤ 4 * g + 4))

/-- The open check of FET n at a reading x (R237): 8 consecutive on intervals below BAL_OPEN_MA. -/
def openCheck (i : SenseInt) (n x : Nat) (d : Dev) : Dev :=
  let k := n - 1
  if mbit i.onAll k && x < itemN d 0x0408 * 10 then
    let r := nth d.bal.openRun k 0 + 1
    let d1 := { d with bal.openRun := d.bal.openRun.set k (min 8 r) }
    if 8 ≤ r && !mbit d.bal.faultOpen k then raiseCh 121 n { d1 with bal.faultOpen := mset d1.bal.faultOpen k true } else d1
  else
    { d with bal.openRun := d.bal.openRun.set k 0
             bal.faultOpen := if mbit i.onAll k then mset d.bal.faultOpen k false else d.bal.faultOpen }

/-- The short check of FET n at a reading x (R237): 8 consecutive off intervals above 5.0 mA. -/
def shortCheck (i : SenseInt) (n x : Nat) (d : Dev) : Dev :=
  let k := n - 1
  if mbit i.offAll k && 50 < x then
    let r := nth d.bal.shortRun k 0 + 1
    let d1 := { d with bal.shortRun := d.bal.shortRun.set k (min 8 r) }
    if 8 ≤ r && !mbit d.bal.faultShort k then raiseCh 121 n { d1 with bal.faultShort := mset d1.bal.faultShort k true } else d1
  else
    { d with bal.shortRun := d.bal.shortRun.set k 0
             bal.faultShort := if mbit i.offAll k then mset d.bal.faultShort k false else d.bal.faultShort }

/-- Charge of cell n over an interval of mean current x in which its FET conducted, and the end of its plan at Q_T
(R229): 1 mA s is 320000 units of 0.1 mA times 31.25 us. -/
def chargeCell (n x : Nat) (d : Dev) : Dev :=
  let q := nth d.bal.q (n - 1) 0 + x
  let d1 := if mbit d.bal.qOn (n - 1) then { d with bal.q := d.bal.q.set (n - 1) q } else d
  match nth d1.bal.plans (n - 1) none with
  | some p => if p.qT != 0 && p.qT * 320000 ≤ nth d1.bal.q (n - 1) 0 then endPlan n 3 d1 else d1
  | none => d1

/-- The reading x of FET n at the end of an interval (R220, R229, R237); lost says that its beat was dropped (R25). -/
def senseCell (i : SenseInt) (lost : Bool) (conducted : BitVec 24) (n x : Nat) (d : Dev) : Dev :=
  let d1 := if mbit i.onAll (n - 1) && !lost then { d with bal.est := d.bal.est.set (n - 1) (some x) } else d
  let d2 := if lost then d1 else shortCheck i n x (openCheck i n x d1)
  if mbit conducted (n - 1) then chargeCell n x d2 else d2

/-- An interval as the core die takes it (R219, R25): a dropped beat's readings are the last delivered ones. -/
def senseData (i : SenseInt) (d : Dev) : Dev :=
  let lost := fun (n : Nat) => mbit i.drop ((n - 1) / 4)
  let xs := (List.range 24).map (fun j =>
    if j < d.part.cells then (if lost (j + 1) then nth d.bal.sense j 0 else min 4095 (nth i.readings j 0)) else 0)
  let on := ~~~ i.offAll ||| d.bal.faultShort
  let d1 := forEach ((mlist i.drop).flatMap (droppedCells d)) settleOne d
  let d2 := forEach (cellList d) (fun n d => senseCell i (lost n) on n (nth xs (n - 1) 0) d) d1
  { d2 with bal.sense := xs, bal.sensed := ((i.endAt, xs, on) :: d2.bal.sensed).take 4096 }

/-- ISENSE_INTERVAL_END (R219, R25): its beats reach the core die; in a retrain they wait in the hold buffer, and those that
find no room are dropped. -/
def execIsenseIntervalEnd (readings : List Nat) (s : State) : Host.Outcome State Fault Refusal :=
  runDev s (fun d =>
    if !awake d then d
    else
      let groups := d.part.cells / 4
      let i : SenseInt := ⟨d.now, (List.range d.part.cells).map (fun j => nth readings j 0),
        if d.d2d.retrain then droppedBeats groups (32 - holdSize d) else 0, d.bal.onAll, d.bal.offAll⟩
      let d1 := { d with bal.onAll := d.pins.sb, bal.offAll := ~~~ d.pins.sb }
      viaBus (.sense i) (senseData i) d1)

/-- BAL_FET_OVERCURRENT (R237): the FET is latched off. -/
def execBalFetOvercurrent (n : Nat) (s : State) : Host.Outcome State Fault Refusal :=
  runDev s (fun d =>
    if awake d && cellPresent d n && !mbit d.bal.faultOc (n - 1) then
      raiseCh 121 n { d with bal.faultOc := mset d.bal.faultOc (n - 1) true } else d)

/-- BAL_PLAN_TIME_LIMIT (R229). -/
def execBalPlanTimeLimit (n : Nat) (s : State) : Host.Outcome State Fault Refusal :=
  runDev s (fun d => if cellPresent d n && (nth d.bal.plans (n - 1) none).isSome then endPlan n 3 d else d)

/-- A duty of BAL_SET becomes 0 at BAL_TIMEOUT (R231). -/
def timeoutCell (n : Nat) (d : Dev) : Dev :=
  if nth d.bal.owner (n - 1) 0 == 0x38 && (nth d.bal.plans (n - 1) none).isNone then
    jchange (fwCtx 4) (0x0480 + n) (Word.of (nth d.bal.duty (n - 1) 0)) 0 (clearCell n d)
  else d

/-- An active command ramps to 0 at BAL_TIMEOUT (R231). -/
def timeoutBank (b : Nat) (d : Dev) : Dev :=
  if (bank d b).owner == 0x3A then
    jchange (fwCtx 4) (0x04A1 + b) (itemWord (bank d b).cmd) 0 (modBank b (fun x => { x with cmd := 0 }) d)
  else d

/-- BAL_TIMEOUT (R231). -/
def execBalTimeout (s : State) : Host.Outcome State Fault Refusal :=
  runDev s (fun d =>
    if d.bal.timerOn && itemN d 0x0407 != 0 then
      forEach [0, 1, 2, 3] timeoutBank (forEach (cellList d) timeoutCell { d with bal.timeout := true, bal.timerOn := false })
    else d)

/-- TEMP_STALE (R227). -/
def execTempStale (s : State) : Host.Outcome State Fault Refusal :=
  runDev s (fun d => if awake d then { d with bal.tempStale := true } else d)

/-! ## Bank drivers -/

/-- RAMPING (R241): the applied command differs from the set command. -/
def ramping (x : Bank) : Bool := !x.excite && x.on && x.applied != x.cmd * 1000

/-- Phi: carrier periods elapsed since excitation started at at' (R245), k CK_PHASE cycles from now. -/
def sincePeriods (d : Dev) (at' : Nat) (k : Rat) : Rat :=
  (((d.tb.period * 2 ^ 32 + phaseNow d : Int) - at' : Int) : Rat) / (2 ^ 32 : Rat) + k * d.tb.inc / 2 ^ 48

/-- The excitation command of bank b, from 0, at this moment in uA (R246): tone k has phase PHASE_k + 256 OFS_b (R263). -/
def exciteCmd (d : Dev) (p : EisPlan) (b at' : Nat) : Int :=
  let phi := sincePeriods d at' 0
  rround ((p.tones.map (fun t =>
    if toneMuted d t.1 then 0
    else (t.2.2 : Rat) * 10000 * sinTurn ((t.1 : Rat) / 65536 * phi + ((t.2.1 + 256 * nth p.ofs b 0 : Nat) : Rat) / 65536))).sum)

/-- The applied command after one PWM period (R241, R242, R246); before leaving ACTIVE it ramps to 0 (R244, R282). -/
def nextApplied (d : Dev) (b : Nat) (x : Bank) : Int :=
  let m : Int := itemN d 0x0431 * 250
  if x.interlock then 0
  else if d.power.ramping then x.applied + clampInt (-m) m (-x.applied)
  else if x.excite then (match d.eis.plan with
    | some p => exciteCmd d p b x.excAt
    | none => 0)
  else x.applied + clampInt (-m) m (x.cmd * 1000 - x.applied)

/-- The sensed current in 0.1 mA of an AD_Sn level (R239). -/
def senseCurrent (d : Dev) (mV : Nat) : Int := rdiv (((mV : Int) - 2500) * 10000) (max 1 (itemN d 0x0430))

/-- A driver whose command has ramped to 0 turns off and gives up its claim (R231, R240). -/
def rampedOff (b : Nat) (d : Dev) : Dev :=
  let x := bank d b
  if x.on && !x.excite && x.cmd = 0 && x.applied = 0 && x.owner == 0x3A && !d.power.ramping then
    modBank b (fun x => { x with on := false, owner := 0 }) d
  else d

/-- FET n's excitation is in its on half at the CK_MOD edge nearest this moment (R247). -/
def fetOnHalf (d : Dev) (p : EisPlan) (n : Nat) : Bool :=
  match p.tones with
  | t :: _ =>
    let x : Rat := (t.1 : Rat) / 65536 * sincePeriods d (nth d.eis.fetsAt (n - 1) 0) (modCycle (apertureMult d) d.tb.inc / 2) +
      (t.2.1 : Rat) / 65536
    decide (x - x.floor < 1 / 2)
  | [] => false

/-- EXCITE_FET_EDGE (R247): an edge of a FET whose excitation has started; above 2 kHz it stays off. -/
def execExciteFetEdge (n : Nat) (s : State) : Host.Outcome State Fault Refusal :=
  runDev s (fun d =>
    match d.eis.plan with
    | some p =>
      if cellPresent d n && fetExcited d n && mbit d.eis.fetsOn (n - 1) then
        let d1 := noteMuted d
        { d1 with bal.exciteOn := mset d1.bal.exciteOn (n - 1) (fetOnHalf d p n && d1.eis.muted == 0) }
      else d
    | none => d)

/-- ACT_PWM_PERIOD (R239, R241, R246). -/
def execActPwmPeriod (b : Fin 4) (mV : Nat) (s : State) : Host.Outcome State Fault Refusal :=
  runDev s (fun d =>
    let x := bank d b
    if !d.part.hasBanks || !awake d || !x.on || bankFenced d (b + 1) then d
    else
      let bad := decide (mV < 250) || decide (4750 < mV)
      let d0 := if x.excite then noteMuted d else d
      let a := nextApplied d0 b x
      rampedOff b (modBank b (fun x => { x with
        applied := a, badRun := if bad then min 4 (x.badRun + 1) else 0
        seen := ((d.now, senseCurrent d mV) :: x.seen).take 16384
        appSum := x.appSum + a, appCnt := x.appCnt + 1, refMean := x.refMean || x.excite
        limit := x.limit || (x.excite && d0.eis.muted != 0) }) d0))

/-- ACT_SENSE_FAULT (R239): out of range for 4 consecutive periods. -/
def execActSenseFault (b : Fin 4) (s : State) : Host.Outcome State Fault Refusal :=
  runDev s (fun d =>
    let x := bank d b
    if d.part.hasBanks && x.on && 4 ≤ x.badRun then
      raiseBank 122 (b + 1) (bankStop b (modBank b (fun x => { x with faultSense := true, badRun := 0 }) d))
    else d)

/-- The applied command that a 1 ms mean is held against, in uA (R243). -/
def meanRef (x : Bank) : Int := if x.refMean && 0 < x.appCnt then rdiv x.appSum x.appCnt else x.applied

/-- I_MEAS: the mean of the readings of the last 1 ms in 0.1 mA (R239); with none it stays (log 93). -/
def meanMeas (d : Dev) (x : Bank) : Int :=
  match (x.seen.filter (fun e => decide (d.now < e.1 + 384000))).map (fun e => e.2) with
  | [] => x.iMeas
  | l => toCode (((l.sum : Int) : Rat) / l.length)

/-- ACT_MEAN_MS (R239, R243). -/
def execActMeanMs (b : Fin 4) (s : State) : Host.Outcome State Fault Refusal :=
  runDev s (fun d =>
    let x := bank d b
    if !d.part.hasBanks || !awake d then d
    else
      let mean := meanMeas d x
      let e := mean * 100 - meanRef x
      let lim : Int := itemN d 0x0432 * 1000
      let bad := x.on && !bankFenced d (b + 1) && !ramping x && (decide (lim < e) || decide (e < -lim))
      let run := if bad then x.devRun + 1 else 0
      let d1 := modBank b (fun x => { x with iMeas := mean, appSum := 0, appCnt := 0, refMean := x.excite, devRun := run % 10 }) d
      if 10 ≤ run then raiseBank 122 (b + 1) (bankStop b (modBank b (fun x => { x with faultErr := true }) d1)) else d1)

end Sys2Proof.Machine
end

