-- ==== Sys2Proof/Machine/BusOps.lean ====
section
/-! DEFINITION. What the core die does with content that waited on its way up
(01_architecture.md R20, R25). -/

namespace Sys2Proof.Machine

/-- Content that waited acts as it does at its arrival (R20, R25). -/
def actHeld (h : Held) (d : Dev) : Dev :=
  match h with
  | .sar _ _ res => sarTaken res d
  | .leat n verify codes => leatSlotData n verify codes d
  | .edge k hi period phase => edgeToCore k hi false period phase d
  | .sense i => senseData i d
  | .raw _ typ content => intake typ content d

/-- CK_CORE runs at its new frequency: the receive buffer empties in order (R20). -/
def releaseHeld (d : Dev) : Dev := forEach d.d2d.rxBuf actHeld { d with d2d.rxBuf := [] }

/-- Held content is sent again after a retrain (R25): a beat's content as a new beat, the rest at once. -/
def sendAgain (h : Held) (d : Dev) : Dev :=
  match h with
  | .raw _ typ content => { d with d2d.up.queue := d.d2d.up.queue ++ [(typ, content)] }
  | _ => arrive h (actHeld h) d

end Sys2Proof.Machine
end

