-- ==== Sys2Proof/Machine/CmdOps.lean ====
section
/-! DEFINITION. Execution of Aeddo commands: the checks before a command's own, its response, the response cache
(13_host_port_and_mailboxes.md R405 to R415, 14_aeddo_command_reference.md R426 to R431). -/

namespace Sys2Proof.Machine

/-! ## Execution -/

/-- What the table "Command summary" says of a command (R433): code, the LENGTHs its layout takes, broadcast allowed,
head only, session needed. -/
structure Cmd0 where
  code : Nat
  lenOk : Msg → Bool
  bcast : Bool
  head : Bool
  session : Bool

/-- How a command's own part ends: answered, refused after it changed something (R428), or going on over several
events with a note. A refusal of done leaves the device as it was. -/
inductive Ans where
  | done (s : Status) (data : List Word) (d : Dev)
  | forced (s : Status) (data : List Word) (d : Dev)
  | long (arg : Nat) (d : Dev)

/-- A refusal without data. -/
def refuse (s : Status) (d : Dev) : Ans := .done s [] d

/-- OK with data. -/
def okWith (data : List Word) (d : Dev) : Ans := .done stOK data d

/-- The journal can take the entries within 1 ms: the last of them is the 500th at most, and Q27 is granted descriptors
(R295, R296, R427, R520). -/
def journalRoom (before after : Dev) : Bool :=
  decide (after.jrn.q27.length ≤ before.jrn.q27.length) || (decide (after.jrn.q27.length ≤ 500) && decide (0 < freeCount before))

/-- A reserved bit of the header (R13, R427 step 5): ERR_RANGE, unless the command's own checks answer ERR_ABSENT. -/
def reservedFirst (a : Ans) (d : Dev) : Ans :=
  match a with
  | .done s data e => if s.code = 0x04 then .done s data e else refuse stRANGE d
  | _ => refuse stRANGE d

/-- The checks of R427 and the command's own part on a device that has counted the command's SEQ. -/
def executeCmd (c : Cmd0) (m : Msg) (f : Dev → Ans) (gap : Bool) (d : Dev) : Dev :=
  let seq := m.seq.toNat
  let len := m.body.length + 2
  let reply := fun (s : Status) (data : List Word) (d : Dev) => answer c.code seq len m.quiet m.bcast gap s data d
  match firstFail [(!c.lenOk m, stLENGTH), ((m.bcast && !c.bcast) || (c.head && !isHead d) || d.power.leaving.isSome, stSTATE),
      (c.session && !d.sess.isOpen, stAUTH)] with
  | some s => reply s [] d
  | none =>
    match (if m.rsv != 0 then reservedFirst (f d) d else f d) with
    | .done s data e =>
      if s.code != 0 then reply s data d
      else if !journalRoom d e then reply stBUSY [] d
      else reply s data e
    | .forced s data e => reply s data e
    | .long arg e =>
      { e with cmd.busy := some { code := c.code, seq := seq, quiet := m.quiet, bcast := m.bcast, gap := gap, arg := arg, len := len, copies := [] } }

/-- The message waits in the command mailbox (R426). -/
def keepWaiting (code : Nat) (m : Msg) (d : Dev) : Dev :=
  if d.cmd.waiting.contains (m.bcast, msgWords code m) then d
  else { d with cmd.waiting := d.cmd.waiting ++ [(m.bcast, msgWords code m)] }

/-- Commands lie ahead of this one in the command mailbox (R426). -/
def queuedBehind (d : Dev) (w : Bool × List Word) : Bool := d.cmd.waiting.head?.any (fun x => x != w)

/-- A message in the hands of the housekeeper (R413, R414, R426): it waits while the housekeeper restarts, and while another
command executes or lies ahead of it. -/
def runCmd (c : Cmd0) (m : Msg) (f : Dev → Ans) (d : Dev) : Dev :=
  let seq := m.seq.toNat
  let len := m.body.length + 2
  let ws := msgWords c.code m
  let good := crc32 ws.dropLast == m.crc
  if !awake d then d
  else if !d.cmd.hkReady || (d.cmd.busy.isNone && queuedBehind d (m.bcast, ws)) then keepWaiting c.code m d
  else
    let d0 := { d with cmd.waiting := dropFirst (fun x => x == (m.bcast, ws)) d.cmd.waiting }
    match d.cmd.busy with
    | some b =>
      if good && b.code == c.code && b.seq == seq then
        { d0 with cmd.busy := some { b with copies := b.copies ++ [m.quiet] } }
      else keepWaiting c.code m d
    | none =>
      if !good then badCheck c.code seq len m.bcast d0
      else if m.rsp || m.head || m.gap then
        badFlags c.code seq len m.bcast d0
      else match cached d seq c.code with
        | some x => deliver m.bcast false c.code seq len (dupWords (ownAddr d0) x.words) d0
        | none =>
          let gap := seqGap d seq
          executeCmd c m f gap (countSeq seq gap d0)

/-! ## Layout helpers -/

/-- Word i of a message's body: req i (from 1). -/
def req (m : Msg) (i : Nat) : Word := if i = 0 then 0 else nth m.body (i - 1) 0

/-- The LENGTH of a message is n. -/
def lenIs (n : Nat) (m : Msg) : Bool := m.body.length + 2 == n

/-- Bits of w outside the mask are reserved and 0 (R13). -/
def onlyBits (mask : Nat) (w : Word) : Bool := w &&& ~~~ Word.of mask == 0

/-- A signed item or field as a word. -/
def intWord (v : Int) : Word := BitVec.ofInt 32 v

end Sys2Proof.Machine
end

