-- ==== Sys2Proof/Machine/EisCheck.lean ====
section
/-! DEFINITION. Record rates and engine load of an impedance plan (09_impedance.md R259, R262, R281). -/

namespace Sys2Proof.Machine

/-- Slots in force that a plan holds. -/
def planInForce (d : Dev) (p : Nat) : List (Nat × Slot) :=
  (List.range 16).filterMap (fun i => match slotAt d i with
    | some x => if x.plan = p then some (i, x) else none
    | none => none)

/-- Slots of a plan: those of its pending switch, else those in force (R117, R449). -/
def planTable (d : Dev) (p : Nat) : List (Nat × Slot) :=
  match d.tb.loads.find? (fun (l : PlanLoad) => l.plan == p) with
  | some l => l.slots
  | none => planInForce d p

/-- The plan that holds streams: in force, else waiting (R137). -/
def holdingPlan (d : Dev) : Option EisPlan :=
  match d.eis.next with
  | some (some p) => some p
  | _ => d.eis.plan

/-- f_ext in Hz at an increment (04_phase_timebase.md R91). -/
def extHz (inc : Nat) : Rat := (inc : Rat) * 384000000 / 2 ^ 48

/-- CK_MOD in Hz (R110). -/
def modHz (d : Dev) : Rat := if d.tb.pllmLock then (d.tb.mult : Rat) * extHz d.tb.inc else 8000000

/-- The slots loaded: those of a pending switch in place of its plan's slots in force (04_phase_timebase.md R117). -/
def loadedSlots (d : Dev) : List Slot := [0, 1, 2, 3].flatMap (fun p => (planTable d p).map (fun e => e.2))

/-- Enabled CONVERT slots that name channel c. -/
def slotsNaming (l : List Slot) (c : Nat) : List Slot :=
  l.filter (fun s => s.en && s.action == 1 && s.arg.getLsbD c)

/-- Instants, in units of 2^-32 period within one repeat of n periods, at which slots a and b transit together (R113). -/
def jointInstants (n : Nat) (a b : Slot) : List Nat :=
  if a.phase = b.phase then
    ((List.range (n / a.div)).map (fun j => a.offset + j * a.div)).filterMap
      (fun k => if k % b.div = b.offset then some (k * 2 ^ 32 + a.phase.toNat) else none)
  else []

/-- The longest interval between successive instants of a repeat of n periods, the first of the next one included. -/
def longestGap (n : Nat) (l : List Nat) : Nat :=
  match l with
  | [] => 0
  | a :: t =>
    ((l.zip (t ++ [n * 2 ^ 32 + a])).map (fun e => e.2 - e.1)).foldl max 0

/-- f_rec of cell n with the slots (R259). -/
def recRate (d : Dev) (l : List Slot) (shunt : Bool) (n : Nat) : Rat :=
  if d.conv.mode = 1 then modHz d / (decR d.conv.dec : Nat)
  else
    -- a DARK slot repeats with its CONVERT slot
    let rep := ((l.filter (fun s => s.action != 3)).map (fun s => s.div)).foldl Nat.lcm 1
    let own := slotsNaming l (n - 1)
    let ts := if shunt then own.flatMap (fun a => (slotsNaming l 24).flatMap (fun b => jointInstants rep a b))
              else own.flatMap (fun a => jointInstants rep a a)
    let g := longestGap rep ((ts.mergeSort (· ≤ ·)).dedup)
    if g = 0 then 0 else extHz d.tb.inc * 2 ^ 32 / g

/-- Reference currents of a plan as its load counts them (R281). -/
def refCount (p : EisPlan) : Nat :=
  match p.source with
  | 1 => 1
  | 2 => mcount p.banks + b2n ((planCells p).any (fun n => !mbit p.banks (bankOf n - 1)))
  | _ => (planCells p).length

/-- Load of a plan in CK_CORE cycles per second (R281). -/
def planLoad (d : Dev) (l : List Slot) (p : EisPlan) : Rat :=
  let cells := planCells p
  let f := (cells.map (recRate d l (usesShunt d p))).foldl max 0
  f * ((planFreqs p * (cells.length + refCount p) * 200 : Nat) : Rat) +
    ((cells.length * planFreqs p : Nat) : Rat) * extHz d.tb.inc / max 1 p.win * 25000

/-- Engine budget of a plan at an operating point (R281). -/
def planBudget (d : Dev) (o : OpPoint) : Rat := ((d.part.engines - 1 : Nat) : Rat) * coreHz o / 2

/-- EIS_LOAD: the load in units of 0.1 M cycles per second, rounded to nearest (R281). -/
def loadCode (d : Dev) (l : List Slot) (p : EisPlan) : Nat := (rround (planLoad d l p / 100000)).toNat

/-- EIS_LOAD (R281). -/
def loadNow (d : Dev) : Nat := d.eis.plan.elim 0 (loadCode d (loadedSlots d))

/-- The plan that holds streams would exceed its budget at the operating point (R262). -/
def overBudget (d : Dev) (o : OpPoint) : Bool :=
  match holdingPlan d with
  | some p => decide (planBudget d o < planLoad d (loadedSlots d) p)
  | none => false

end Sys2Proof.Machine
end

