-- ==== Sys2Proof/Machine/ItemOps.lean ====
section
/-! DEFINITION. Configuration items: what each reads, the checks of a write, and how written items take effect
(14_aeddo_command_reference.md R439 to R446, 15_faults_and_sluices.md R486, R489, R499,
17_journal_otp_security.md R523 to R536 and the item tables of the chapters). -/

namespace Sys2Proof.Machine

/-! ## Records -/

/-- Words of a slot as its command gave them: PHASE before rounding (R111, log 31). -/
def slotWords (x : Slot) : List Word :=
  [x.asked, Word.of (x.div * 2 ^ 16 + x.offset),
   Word.of (b2n x.en * 2 ^ 31 + x.action * 2 ^ 28 + x.mark * 2 ^ 26 + x.arg.toNat)]

/-- The object of record item 0x06F0 + p. -/
def planRecord (d : Dev) (p : Nat) : Word := recordOf ((planTable d p).flatMap (fun e => slotWords e.2))

/-- The sequencer table that AUX_TABLE_LOAD has set. -/
def auxTableSet (d : Dev) : List Word := d.aux.nextTable.getD d.aux.table

/-! ## Time -/

/-- The device's time set from the outside (R352, R353, R524): TIME_SYNC where it first becomes synced, and on a member
where an almanac moves it by more than 10 ms. -/
def setTime (v at' rate : Nat) (d : Dev) : Dev :=
  let old := timeMs d
  let d1 := { d with jrn.timeMs := v, jrn.timeAt := at', jrn.rate := rate, jrn.synced := true }
  let new := timeMs d1
  if !d.jrn.synced || (!isHead d && (old + 10 < new || new + 10 < old)) then
    jput (fwCtx 7) 0x0BF3 (Word.of old) (Word.of new) d1
  else d1

/-- RATE of the head (R352): 384 000 x (1 + ALM_TRIM_PPM / 10^6) in 24.8 fixed point. -/
def headRate (ppm : Int) : Nat := (rdiv (98304000 * (1000000 + ppm)) 1000000).toNat

/-- A new ALM_TRIM_PPM: the time so far stays (R352). -/
def setRate (d : Dev) : Dev :=
  let r := headRate (item d 0x0707)
  if d.jrn.synced then
    let old := max 1 d.jrn.rate
    let whole := (d.now - d.jrn.timeAt) * 256 / old
    { d with jrn.timeMs := d.jrn.timeMs + whole, jrn.timeAt := d.jrn.timeAt + whole * old / 256, jrn.rate := r }
  else { d with jrn.rate := r }

/-! ## Sessions -/

/-- An open session ends (R473, R536): armed injections are cancelled (R497). -/
def closeSession (d : Dev) : Dev := { d with sess.isOpen := false, fault.inject := [], fault.otpBad := [] }

/-- A session that ends without SERVICE_CLOSE, with its cause (R536). -/
def endSession (cause : Nat) (d : Dev) : Dev :=
  if d.sess.isOpen then jput (fwCtx 8) 0x0BF2 (Word.of (cause * 2 ^ 24)) 0 (closeSession d) else d

/-- CK_PHASE cycles of a second. -/
def secondCycles : Nat := 384000000

/-- The lifetime of the session in force has passed (R536). -/
def sessionOver (d : Dev) : Bool := d.sess.isOpen && decide (d.sess.openAt + itemN d 0x0B03 * secondCycles ≤ d.now)

/-- Seconds a session has left; the rounding is open (R533, log 32). -/
def secondsLeft (d : Dev) : Nat :=
  let c := d.sess.openAt + itemN d 0x0B03 * secondCycles - d.now
  min 65535 (toCode ((c : Rat) / secondCycles)).toNat

/-! ## OTP words -/

/-- OTP words lo to lo + n - 1 read through ECC (R497, R525, R527): EV92 and EV93, and the words that failed. -/
def otpRead (lo n : Nat) (d : Dev) : Dev × List Nat :=
  ((List.range n).map (fun i => lo + i)).foldl (fun acc w =>
    let inj := akey acc.1.fault.otpBad w
    let d1 := { acc.1 with fault.otpBad := adel acc.1.fault.otpBad w }
    if inj == some 2 || acc.1.otp.bad.contains w then (raiseNS 93 w d1, acc.2 ++ [w])
    else if inj == some 1 then (raiseNS 92 w d1, acc.2)
    else (d1, acc.2)) (d, [])

/-- State of generation g (R528): 0 EMPTY, 1 VALID, 2 RETIRED. -/
def genState (d : Dev) (g : Nat) : Nat :=
  let blk := nth d.otp.gens g []
  let v := nth d.otp.valid g 0
  if nth d.otp.retired g 0 != 0 then 2
  else if v != 0 then
    (if v.toNat / 2 ^ 32 = 0xA5A5A5A5 ∧ v.toNat % 2 ^ 32 = (crc32 blk).toNat then 1 else 2)
  else if blk.any (· != 0) then 2 else 0

/-- The lowest EMPTY generation (R441). -/
def emptyGen (d : Dev) : Option Nat := [0, 1, 2, 3].find? (fun g => genState d g == 0)

/-- VSTK at least 20 V and both die temperatures within 0 to 85 C, as last measured (R441, R533). -/
def otpLimitsOk (d : Dev) : Bool :=
  let t := fun (v : Nat) => 100 * (v : Int) - 3496320
  let ok := fun (v : Nat) => decide (0 ≤ t v) && decide (t v ≤ 1088000)
  decide (20 * 65536 ≤ d.aux.vstkCode * 150) && !d.power.vstkLow && ok d.conv.tempFront && ok d.aux.tempCore

/-! ## What items read -/

/-- MODE and OUT_LEVEL of GPIO_CFG_p (R446). -/
def gpioRw (d : Dev) (p : Nat) : Nat :=
  (if gpioHolder d p ≤ 2 then gpioHolder d p else 0) + b2n (mbit d.pins.gpioOut (p - 1)) * 16

/-- BAL_STAT (R251). -/
def balStat (d : Dev) : Nat :=
  b2n d.bal.timeout * 4096 + b2n d.bal.tempStale * 2048 + b2n d.bal.excHeld * 1024 + b2n d.bal.fallback * 512 +
    (if d.bal.tempStale then 0 else d.bal.derate)

/-- ACT_STAT_b, b from 0 (R252). -/
def actStat (d : Dev) (b : Nat) : Nat :=
  let x := bank d b
  let muted := x.owner == 0x40 && d.eis.muted != 0
  ufield 16 x.iMeas * 2 ^ 16 + ufield 10 (x.cmd / 10) * 64 + b2n (ramping x) * 32 + b2n (x.limit || muted) * 16 +
    b2n x.faultErr * 8 + b2n x.faultSense * 4 + b2n x.interlock * 2 + b2n (x.on && !bankFenced d (b + 1))

/-- STATE code of a plan (R284). -/
def eisCode (d : Dev) : Nat :=
  match d.eis.state with
  | .idle => 0
  | .armed => 1
  | .running => 2
  | .suspended => 3

/-- EIS_STAT (R284). -/
def eisStat (d : Dev) : Nat :=
  eisCode d * 2 ^ 30 + d.eis.banksOn.toNat * 2 ^ 26 + d.eis.muted.toNat * 2 ^ 18 + b2n d.eis.fetHeld * 2 ^ 17 + d.eis.winCnt

/-- OTP_STAT (R533). -/
def otpStat (d : Dev) : Nat :=
  genState d 0 + genState d 1 * 4 + genState d 2 * 16 + genState d 3 * 64 + (d.otp.used.getD 4) * 256 +
    b2n d.otp.vendorHash.isSome * 2 ^ 16 + b2n d.otp.custHash.isSome * 2 ^ 17 + b2n d.otp.secret.isSome * 2 ^ 18 +
    b2n d.otp.custFail * 2 ^ 19 + b2n d.otp.secretFail * 2 ^ 20

/-- Injections armed and not yet made (R499). -/
def injectPending (d : Dev) : Nat := min 255 ((d.fault.inject.map (fun i => i.2.2.2.1)).sum + d.fault.otpBad.length)

/-- A read-only item of group 0x02xx. -/
def readAuxItem (d : Dev) (id : Nat) : Nat :=
  if id = 0x0230 then d.aux.ovrCnt * 2 ^ 16 + d.aux.leatSlip
  else if id = 0x0231 then d.aux.openC.toNat
  else if id = 0x0232 then d.aux.openSb.toNat
  else if id = 0x0233 then d.aux.pathFail.toNat
  else if id = 0x0234 then d.aux.axPathFail.toNat
  else if id = 0x0235 then d.aux.excluded.toNat
  else (recordOf (auxTableSet d)).toNat

/-- A read-only item of group 0x04xx. -/
def readBalItem (d : Dev) (id : Nat) : Word :=
  if id = 0x0440 then Word.of d.pins.sb.toNat
  else if id = 0x0441 then Word.of d.bal.held.toNat
  else if id = 0x0442 then Word.of d.bal.done.toNat
  else if id = 0x0443 then Word.of d.bal.faultOpen.toNat
  else if id = 0x0444 then Word.of d.bal.faultShort.toNat
  else if id = 0x0445 then Word.of d.bal.faultOc.toNat
  else if id = 0x0446 then Word.of (balStat d)
  else if id = 0x0447 then Word.of d.bal.capSteps
  else if id ≤ 0x0468 then Word.of (nth d.bal.q (id - 0x0451) 0 / 320000)
  else if id ≤ 0x0474 then Word.of (actStat d (id - 0x0471))
  else if id ≤ 0x0498 then Word.of (nth d.bal.duty (id - 0x0481) 0)
  else itemWord (bank d (id - 0x04A1)).cmd

/-- A read-only item of group 0x05xx. -/
def readEisItem (d : Dev) (id : Nat) : Word :=
  if id = 0x0520 then Word.of (eisStat d)
  else if id = 0x0521 then Word.of (d.eis.qfullCnt * 2 ^ 16 + d.eis.strmDrop)
  else if id = 0x0522 then Word.of (loadNow d)
  else if id = 0x05F0 then
    (match d.eis.next with
     | some n => recordOf (n.elim [] (fun p => p.block))
     | none => recordOf (d.eis.plan.elim [] (fun p => p.block)))
  else recordOf (nth d.eis.temp (id - 0x05F1) [])

/-- A read-only item of group 0x08xx (R499). -/
def readFaultItem (d : Dev) (id : Nat) : Word :=
  if id = 0x0881 then Word.of d.fault.fencedCh.toNat
  else if id = 0x0882 then Word.of d.fault.fencedEng.toNat
  else if id = 0x0883 then fencedPB d
  else if id = 0x0884 then Word.of (safeSrcNat d)
  else if id = 0x0886 then Word.of (injectPending d)
  else Word.of d.fault.msgDrop

/-- A read-only item of group 0x0Bxx (R533, R443). -/
def readSecItem (d : Dev) (id : Nat) : Word :=
  if id = 0x0B01 then (if d.sess.isOpen then Word.of (2 ^ 31 + d.sess.tester * 2 ^ 16 + secondsLeft d) else 0)
  else if id = 0x0B02 then Word.of (min 255 d.sess.failRun * 2 ^ 16 + d.sess.fails)
  else if id = 0x0B04 then Word.of (otpStat d)
  else if 0x0BE0 ≤ id ∧ id ≤ 0x0BE3 then
    let k := nth d.eng.kernels (id - 0x0BE0) Kernel.reset
    if k.loaded then recordOf k.image else 0
  else 0

/-- An item that its own block holds: WIRE_CHECK_NOW, FENCE_RELEASE, GPIO_CFG_n, the security items. -/
def readActItem (d : Dev) (id : Nat) : Word :=
  if id = 0x020A then Word.of (b2n d.aux.running)
  else if 0x0A11 ≤ id ∧ id ≤ 0x0A14 then
    let p := id - 0x0A10
    Word.of (gpioRw d p + gpioHolder d p * 256 + b2n (mbit d.pins.gpioLevel (p - 1)) * 4096)
  else if 0x0B11 ≤ id ∧ id ≤ 0x0B18 then nth d.otp.stageHash (id - 0x0B11) 0
  else 0

/-- What CFG_GET returns of an item (R440). -/
def itemRead (d : Dev) (id : Nat) : Word :=
  match itemOf id with
  | none => 0
  | some i =>
    if i.act then readActItem d id
    else if i.kind == .ro then
      if id = 0x0150 then Word.of (b2n d.conv.aplRange + b2n (d.conv.apl != 0 && d.tb.pllmLock) * 2)
      else if id < 0x0300 then Word.of (readAuxItem d id)
      else if id < 0x0500 then readBalItem d id
      else if id < 0x0600 then readEisItem d id
      else if id < 0x0700 then planRecord d (id - 0x06F0)
      else if id < 0x0900 then readFaultItem d id
      else readSecItem d id
    else itemWord (item d id)

/-- Items that CFG_GET clears (R185, R250, R283, R499). -/
def itemClear (id : Nat) (d : Dev) : Dev :=
  if id = 0x0230 then { d with aux.ovrCnt := 0, aux.leatSlip := 0 }
  else if id = 0x0442 then { d with bal.done := 0 }
  else if id = 0x0447 then { d with bal.capSteps := 0 }
  else if id = 0x0521 then { d with eis.qfullCnt := 0, eis.strmDrop := 0 }
  else if id = 0x0887 then { d with fault.msgDrop := 0 }
  else d

/-! ## Checks of one entry -/

/-- Items that are masks of cells: an absent cell in one is an absent unit (R8). -/
def cellMaskItem (id : Nat) : Bool := id == 0x0101 || id == 0x0201 || id == 0x0301 || id == 0x0302 || id == 0x0508

/-- The word names an absent cell in a cell mask item. -/
def maskAbsent (d : Dev) (id : Nat) (w : Word) : Bool :=
  cellMaskItem id && (w.toNat % 2 ^ 24) &&& (2 ^ 24 - 1 - d.part.cellMask) != 0

/-- Staged words of a programming item (R533): the customer hash, or the secret. -/
def stagedOf (d : Dev) (id : Nat) : List Word := if id = 0x0B19 then d.otp.stageHash else d.otp.stageSecret

/-- The target of a programming item is programmed, or its programming has failed (R533). -/
def targetUsed (d : Dev) (id : Nat) : Bool :=
  if id = 0x0B19 then d.otp.custHash.isSome || d.otp.custFail else d.otp.secret.isSome || d.otp.secretFail

/-- Some source that is SEVERE has put the fence of the unit in force (R489). -/
def fencerSevere (d : Dev) (u : Nat) : Bool :=
  d.fault.esc.any (fun (e : Esc) => e.state == 2 && e.inForce != 0 && e.forceUnit == u)

/-- Checks of an entry that its own chapter adds (R177, R489, R533), and an absent unit named by FORCE_UNIT (R7). -/
def ownCheck (d : Dev) (id : Nat) (w : Word) : Option Status :=
  if id = 0x020A then firstFail [(d.aux.running, stBUSY)]
  else if id = 0x0880 then
    firstFail [(unitAbsent d w.toNat, stABSENT), (!isFenced d w.toNat, stSTATE), (fencerSevere d w.toNat, stBUSY)]
  else if id = 0x0885 then firstFail [(w != 0xFFFF && unitAbsent d w.toNat, stABSENT)]
  else if 0x0B21 ≤ id ∧ id ≤ 0x0B28 then firstFail [(targetUsed d 0x0B29, stSTATE)]
  else if id = 0x0B19 ∨ id = 0x0B29 then
    firstFail [(targetUsed d id || !otpLimitsOk d, stSTATE), (w != crc32 (stagedOf d id), stCHECK)]
  else none

/-- The checks of one entry (R439, R533), on the settings that the earlier entries leave. -/
def entryCheck (d : Dev) (seen : List Nat) (idw w : Word) : Option Status :=
  let id := idw.toNat
  match itemOf id with
  | none => some stRANGE
  | some i =>
    match firstFail [(itemAbsent d.part id || maskAbsent d id w, stABSENT),
        (i.kind == .ro || (i.head && !isHead d), stSTATE),
        (!inRange id (itemValue id w) || seen.contains id, stRANGE),
        (i.session && !d.sess.isOpen, stAUTH)] with
    | some s => some s
    | none => ownCheck d id w

/-- The value an ordinary item stores: an info source's FAULT_ESC stays 0 (R479). -/
def storedValue (id : Nat) (w : Word) : Int :=
  if 0x0800 ≤ id && id ≤ 0x087F && isInfo (id - 0x0800) then 0 else itemValue id w

/-- An entry written without its effects, for the checks of the entries after it. -/
def tryEntry (id : Nat) (w : Word) (d : Dev) : Dev :=
  if 0x0B11 ≤ id ∧ id ≤ 0x0B18 then { d with otp.stageHash := d.otp.stageHash.set (id - 0x0B11) w }
  else if 0x0B21 ≤ id ∧ id ≤ 0x0B28 then { d with otp.stageSecret := d.otp.stageSecret.set (id - 0x0B21) w }
  else match itemOf id with
    | some i => if i.act then d else setItem d id (storedValue id w)
    | none => d

/-! ## Joint rules -/

/-- A CONVERT or DARK slot is held, in force or waiting (R130). -/
def holdsConvert (d : Dev) : Bool :=
  let f := fun (x : Slot) => x.action == 1 || x.action == 3
  d.tb.slots.any (fun (s : Option Slot) => s.any f) || d.tb.loads.any (fun (l : PlanLoad) => l.slots.any (fun e => f e.2))

/-- Bit times of a sweep (R347): 460 or 892 a slot, at most 31 or 16 slots in a part. -/
def sweepBits (fmt n : Nat) : Nat :=
  if fmt = 1 then cdiv n 16 * 198 + n * 892 else cdiv n 31 * 198 + n * 460

/-- Channels that a plan uses (R137). -/
def planChannels (p : EisPlan) (shunt : Bool) : BitVec 25 :=
  BitVec.ofNat 25 (p.cells.toNat + (if shunt then 2 ^ 24 else 0))

/-- The stream settings of a channel that a plan holds would change (R137). -/
def streamConflict (d e : Dev) : Bool :=
  match holdingPlan d with
  | none => false
  | some p =>
    [0x0102, 0x0103, 0x0104, 0x0105].any (fun id => item d id != item e id) ||
      (planChannels p (usesShunt d p) &&& BitVec.ofNat 25 (itemN d 0x0101) &&& ~~~ BitVec.ofNat 25 (itemN e 0x0101)) != 0

/-- The rules that join items, on the settings e that a list would leave on d, in the order of R427 (R90, R130, R137,
R138, R190, R262, R347, R504; log 33). -/
def jointCheck (d e : Dev) : Option Status :=
  let m := itemN e 0x0105
  let hys := fun (id : Nat) => hysMv (itemN e id)
  firstFail [
    (m != 0 && decR (itemN e 0x0103) % m != 0, stRANGE),
    ((cellList e).any (fun n => decide (10 * item e (0x0310 + n) - hys 0x0303 ≤ 10 * item e (0x0330 + n) + hys 0x0304)), stRANGE),
    (isHead e && decide (3600 * itemN e 0x0703 < 125 * sweepBits (itemN e 0x0702) (itemN e 0x0704)), stRANGE),
    (decide (250000 < itemN e 0x0903 * itemN e 0x0901), stRANGE),
    (item e 0x0A07 == 1 && item e 0x0A06 == 0, stSTATE),
    (item e 0x0102 == 1 && item d 0x0102 == 0 && holdsConvert d, stSTATE),
    (streamConflict d e, stCONFLICT 1 0x40)]

/-- A GPIO_CFG entry that claims a pin another function holds (R48, R446). -/
def pinConflict (d : Dev) (l : List (Nat × Word)) : Option Status :=
  firstFail (l.map (fun e =>
    let o := gpioHolder d (e.1 - 0x0A10)
    (decide (0x0A11 ≤ e.1) && decide (e.1 ≤ 0x0A14) && e.2.toNat % 4 != 0 && decide (2 < o), stCONFLICT 2 o)))

/-! ## Writing -/

/-- FAULT_ESC_k written (R486). -/
def escWritten (k : Nat) (d : Dev) : Dev :=
  if isInfo k then d
  else modEsc k (fun e => if e.state = 2 then e else { e with state := 0, count := 0 }) d

/-- GPIO_CFG_p written: MODE 1 or 2 claims the pin, 0 ends such a claim (R446, R48). -/
def writeGpio (p : Nat) (w : Word) (d : Dev) : Dev :=
  let mode := w.toNat % 4
  let d1 := if mode = 0 then gpioRelease 1 p (gpioRelease 2 p d)
    else if gpioHolder d p = mode then d
    else gpioClaim mode p (gpioRelease 1 p (gpioRelease 2 p d))
  { d1 with pins.gpioOut := mset d1.pins.gpioOut (p - 1) (bit w 4) }

/-- A fence released with its message (R489, R573). -/
def releaseFence (c : Ctx) (u : Nat) (d : Dev) : Dev :=
  let old := fenceWord d u
  let d1 := releaseUnit u d
  let d2 := { d1 with fault.esc := d1.fault.esc.map (fun (e : Esc) =>
    if e.forceUnit = u ∧ e.inForce != 5 then { e with inForce := 0 } else e) }
  qmsg (unitSource u) 0x04 (u % 256) (jchange c (fenceItem u) old (fenceWord d2 u) d2)

/-- The programmed value of the customer hash or the secret, read back (R533): none where the readback agrees. -/
def programTarget (id : Nat) (words : List Word) (d : Dev) : Dev × Bool :=
  let d1 := if id = 0x0B19 then { d with otp.custHash := some words }
            else { d with otp.secret := some words, otp.stageSecret := List.replicate 8 0 }
  let r := otpRead (if id = 0x0B19 then 260 else 264) 4 d1
  if r.2.isEmpty then (r.1, true)
  else (if id = 0x0B19 then { r.1 with otp.custFail := true } else { r.1 with otp.secretFail := true }, false)

/-- The items of a list that the command programs into OTP, each with its words and place (R533). -/
abbrev Progs := List (Nat × Nat × List Word)

/-- The checks of a list (R439): the first failing entry with its place, else the settings the list would leave and
what it programs. -/
def listCheck : List (Word × Word) → Nat → List Nat → Dev → Progs → Except (Status × Nat × Nat) (Dev × Progs)
  | [], _, _, e, ps => .ok (e, ps)
  | (idw, w) :: t, i, seen, e, ps =>
    match entryCheck e seen idw w with
    | some s => .error (s, i, idw.toNat % 2 ^ 16)
    | none =>
      let id := idw.toNat
      let ps1 := if id = 0x0B19 ∨ id = 0x0B29 then ps ++ [(id, i, stagedOf e id)] else ps
      listCheck t (i + 1) (id :: seen) (tryEntry id w e) ps1

/-- Programming of what a list programs, in list order, until one fails (R533). -/
def runProgs (c : Ctx) : Progs → Dev → Dev × Option (Nat × Nat)
  | [], d => (d, none)
  | (id, i, words) :: t, d =>
    let r := programTarget id words d
    if r.2 then runProgs c t r.1
    else (jput c id 0 0xFFFFFFFF r.1, some (i, id))

/-- One entry committed with its journal entry; the second part says whether its value changed (R439, R517, R533). -/
def writeEntry (c : Ctx) (id : Nat) (w : Word) (d : Dev) : Dev × Bool :=
  if id = 0x020A then
    if w = 0 then (d, false) else (diagRun (jput c id 0 1 d), true)
  else if id = 0x0880 then (releaseFence c w.toNat d, false)
  else if 0x0A11 ≤ id ∧ id ≤ 0x0A14 then
    let p := id - 0x0A10
    let old := Word.of (gpioRw d p)
    let d1 := writeGpio p w d
    let new := Word.of (gpioRw d1 p)
    (jchange c id old new d1, old != new)
  else if 0x0B11 ≤ id ∧ id ≤ 0x0B18 then
    let old := nth d.otp.stageHash (id - 0x0B11) 0
    (jchange c id old w (tryEntry id w d), old != w)
  else if 0x0B21 ≤ id ∧ id ≤ 0x0B28 then (jput c id 0 0 (tryEntry id w d), false)
  else if id = 0x0B19 then (jput c id 0 w d, false)
  else if id = 0x0B29 then (jput c id 0 1 { d with otp.stageSecret := List.replicate 8 0 }, false)
  else
    let v := storedValue id w
    let d1 := if 0x0800 ≤ id ∧ id ≤ 0x087F then escWritten (id - 0x0800) d else d
    (putItem c id v d1, item d id != v)

/-- The PLL_P reference and the crystal follow LOCAL_REF (R44, R71, R75, R76). -/
def refChanged (d : Dev) : Dev :=
  if item d 0x0A07 = 1 then (if d.clk.xo == .off then { d with clk.xo := .starting, clk.xoTries := 0 } else d)
  else { d with clk.xo := .off, clk.pllRef := if d.clk.pllRef == .xo then .hfo else d.clk.pllRef }

/-- What items that a command has changed bring about beyond their value: ch are the changed ones, wr the written ones;
o is the device before (R136, R188, R221, R93, R104, R352, R71, R536). -/
def itemEffects (o : Dev) (wr ch : List Nat) (d : Dev) : Dev :=
  let has := fun (l : List Nat) => ch.any (fun x => l.contains x)
  let d1 := whenDo (ch.any (fun x => 0x0101 ≤ x && x ≤ 0x0149)) convChanged d
  let d2 := whenDo (has [0x0101, 0x0301, 0x0302, 0x0307]) rearm d1
  let d3 := whenDo (has [0x0401, 0x0402]) (fun d => { d with bal.anchorDue := true }) d2
  let d4 := whenDo (has [0x0601]) (sourceChanged (itemN o 0x0601) (itemN d 0x0601)) d3
  let d5 := whenDo (has [0x0602] && d4.tb.state == .free)
    (fun d => askMult (incOf (itemN d 0x0602)) { d with tb.freqNext := true }) d4
  let d6 := whenDo (has [0x0608] && itemN d5 0x0608 == 0) (fun d => { d with pins.syncOut := false, tb.syncPulse := false }) d5
  let d7 := whenDo (has [0x0707]) setRate d6
  let d8 := whenDo (wr.contains 0x0706)
    (fun d => setTime (itemN d 0x0706 * 2 ^ 32 + itemN d 0x0705) d.now (headRate (item d 0x0707)) d) d7
  let d9 := whenDo (has [0x0A07]) refChanged d8
  whenDo (has [0x0B03] && sessionOver d9) (endSession 1) d9

/-- How a list of writes ends: status, FAIL_INDEX, FAIL_ITEM, items changed, the device, and whether it changed although
it is refused (R428). -/
structure SetResult where
  st : Status
  index : Nat
  item : Nat
  changed : Nat
  dev : Dev
  forced : Bool

/-- A list of items written as one command (R439, R428): nothing takes effect unless all can. -/
def setItems (c : Ctx) (l : List (Word × Word)) (d : Dev) : SetResult :=
  match listCheck l 1 [] d [] with
  | .error e => ⟨e.1, e.2.1, e.2.2, 0, d, false⟩
  | .ok (e, ps) =>
    let ids := l.map (fun x => (x.1.toNat, x.2))
    match jointCheck d e, pinConflict d ids with
    | some s, _ => ⟨s, 0xFF, 0, 0, d, false⟩
    | none, some s => ⟨s, 0xFF, 0, 0, d, false⟩
    | none, none =>
      match runProgs c ps d with
      | (d1, some (i, id)) => ⟨stCHECK, i, id, 0, d1, true⟩
      | (d1, none) =>
        let r := ids.foldl (fun (acc : Dev × List Nat) x =>
          let y := writeEntry c x.1 x.2 acc.1
          (y.1, if y.2 then acc.2 ++ [x.1] else acc.2)) (d1, [])
        ⟨stOK, 0xFF, 0, r.2.length, itemEffects d (ids.map (fun x => x.1)) r.2 r.1, false⟩

/-- The answer of a command that writes items, with its own data where it succeeds (R447, R456, R470). -/
def setAnswer (r : SetResult) (data : Dev → List Word) : Ans :=
  if r.st.code = 0 then .done stOK (data r.dev) r.dev
  else if r.forced then .forced r.st [] r.dev
  else .done r.st [] r.dev

end Sys2Proof.Machine
end

