-- ==== Sys2Proof/Machine/OtpOps.lean ====
section
/-! DEFINITION. OTP generations: encoding, loading and programming (17_journal_otp_security.md R525 to R532). -/

namespace Sys2Proof.Machine

/-- Items that a generation may hold (R531). -/
def committable (id : Nat) : Bool :=
  match itemOf id with
  | none => false
  | some i => decide (id < 0x0B00) && i.kind != .ro && !([0x020A, 0x0880, 0x0885, 0x0705, 0x0706].contains id) &&
      !(decide (0x0800 ≤ id) && decide (id ≤ 0x087F) && isInfo (id - 0x0800))

/-- Every committable ID, ascending. -/
def committableIds : List Nat :=
  (itemRows.flatMap (fun r => (List.range r.2.1).map (fun i => r.1 + i))).filter committable

/-- Value of a committable item now. -/
def commitValue (d : Dev) (id : Nat) : Int :=
  if 0x0A11 ≤ id ∧ id ≤ 0x0A14 then gpioRw d (id - 0x0A10) else item d id

/-- Its reset value. -/
def commitReset (p : Part) (id : Nat) : Int := if 0x0A11 ≤ id ∧ id ≤ 0x0A14 then 0 else itemReset p id

/-- Items that differ from their reset value, ascending (R532). -/
def commitList (d : Dev) : List (Nat × Int) :=
  (committableIds.map (fun id => (id, commitValue d id))).filter (fun e => decide (e.2 ≠ commitReset d.part e.1))

/-- The item is signed (R439). -/
def itemSigned (id : Nat) : Bool :=
  match itemOf id with
  | some ⟨.rng _ lo _, _, _, _, _⟩ => decide (lo < 0)
  | _ => false

/-- The value fits 16 bits as its item is signed or not (R532). -/
def fits16 (e : Nat × Int) : Bool :=
  if itemSigned e.1 then decide (-32768 ≤ e.2) && decide (e.2 ≤ 32767) else decide (e.2 ≤ 65535)

/-- Runs of consecutive IDs, of at most 255 (R529, R532); the latest run is kept first and each run in reverse. -/
def splitRuns : List (Nat × Int) → List (List (Nat × Int)) → List (List (Nat × Int))
  | [], acc => (acc.map List.reverse).reverse
  | e :: t, [] => splitRuns t [[e]]
  | e :: t, r :: acc =>
    match r with
    | x :: _ => if x.1 + 1 = e.1 ∧ r.length < 255 then splitRuns t ((e :: r) :: acc) else splitRuns t ([e] :: r :: acc)
    | [] => splitRuns t ([e] :: acc)

/-- Pairs of 16-bit values, the lower ID high (R529). -/
def packHalf : List Int → List Word
  | [] => []
  | [a] => [Word.of (ufield 16 a * 2 ^ 16)]
  | a :: b :: t => Word.of (ufield 16 a * 2 ^ 16 + ufield 16 b) :: packHalf t

/-- Words of a run: header and values (R529). -/
def encodeRun (r : List (Nat × Int)) : List Word :=
  match r with
  | [] => []
  | (id, _) :: _ =>
    let half := r.all fits16
    Word.of (id * 2 ^ 16 + r.length * 256 + b2n half * 128) ::
      (if half then packHalf (r.map (fun e => e.2)) else r.map (fun e => itemWord e.2))

/-- The generation block of a list of items, none where it does not fit (R529, R532). -/
def encodeGen (l : List (Nat × Int)) : Option (List Word) :=
  let ws := (splitRuns l []).flatMap encodeRun
  if 62 < ws.length then none
  else
    let body := Word.of (2 ^ 16 + ws.length) :: ws ++ List.replicate (62 - ws.length) 0
    some (body ++ [crc32 body])

/-- Values of a run's words. -/
def runValues (half : Bool) (n : Nat) (ws : List Word) : List Word :=
  if half then ((ws.flatMap (fun w => [Word.of (bf w 16 16), Word.of (bf w 0 16)])).take n) else ws.take n

/-- A 16-bit value extended as its item is signed or not (R529). -/
def extendHalf (half : Bool) (id : Nat) (w : Word) : Word :=
  if half && itemSigned id then BitVec.ofInt 32 (sext 16 w.toNat) else w

/-- The entries of a block from word i on; the word that fails a check otherwise (R530). -/
def decodeRuns (p : Part) : Nat → Nat → List Word → Except Nat (List (Nat × Word))
  | 0, _, _ => .ok []
  | _ + 1, _, [] => .ok []
  | fuel + 1, i, h :: t =>
    let id := bf h 16 16
    let n := bf h 8 8
    let half := bit h 7
    let need := if half then cdiv n 2 else n
    if n = 0 ∨ t.length < need ∨ bf h 0 7 ≠ 0 then .error i
    else
      let vals := ((List.range n).zip (runValues half n t)).map (fun e => (id + e.1, extendHalf half (id + e.1) e.2))
      if vals.any (fun e => !committable e.1 || itemAbsent p e.1) then .error i
      else
        match ((List.range n).zip vals).find? (fun e => !inRange e.2.1 (itemValue e.2.1 e.2.2)) with
        | some e => .error (i + 1 + (if half then e.1 / 2 else e.1))
        | none =>
          match decodeRuns p fuel (i + 1 + need) (t.drop need) with
          | .error w => .error w
          | .ok l => .ok (vals ++ l)

/-- The items of a generation block, or the first word that fails (R529, R530). -/
def decodeGen (p : Part) (blk : List Word) : Except Nat (List (Nat × Word)) :=
  let h := nth blk 0 0
  if crc32 (blk.take 63) != nth blk 63 0 then .error 63
  else if bf h 16 16 ≠ 1 ∨ bf h 10 6 ≠ 0 ∨ 62 < bf h 0 10 then .error 0
  else decodeRuns p 63 1 ((blk.drop 1).take (bf h 0 10))

/-- OTP word of word i of generation g (R525). -/
def genWord (g i : Nat) : Nat := 128 + 32 * g + i / 2

/-- A generation that fails a check at start (R530). -/
def genFail (w : Nat) (d : Dev) : Dev := raiseOn 126 w [] (qmsg 0x03 0x01 w d)

/-- The highest VALID generation that passes its checks, tried from the listed ones on (R530). -/
def pickGen : List Nat → Dev → Dev × Option (Nat × List (Nat × Word))
  | [], d => (d, none)
  | g :: t, d =>
    if genState d g ≠ 1 then pickGen t d
    else
      let r := otpRead (128 + 32 * g) 32 d
      match r.2 with
      | w :: _ => pickGen t (genFail w r.1)
      | [] =>
        match decodeGen d.part (nth d.otp.gens g []) with
        | .error i => pickGen t (genFail (genWord g i) r.1)
        | .ok l => (r.1, some (g, l))

/-- One item of the generation applied, with its OTP_LOAD entry (R519). -/
def loadItem (g : Nat) (e : Nat × Word) (d : Dev) : Dev :=
  let id := e.1
  let d1 := jput ⟨oOTP, g, 0⟩ id (itemWord (commitReset d.part id)) e.2 d
  if 0x0A11 ≤ id ∧ id ≤ 0x0A14 then writeGpio (id - 0x0A10) e.2 d1 else setItem d1 id (storedValue id e.2)

/-- The picked generation applied, or none (R530). -/
def applyGen (r : Option (Nat × List (Nat × Word))) (d : Dev) : Dev :=
  match r with
  | none => { d with otp.used := none }
  | some (g, l) => forEach l (loadItem g) { d with otp.used := some g }

/-- GEN_USED (R434). -/
def genUsed (d : Dev) : Nat := d.otp.used.getD 0xFF

/-- Number of EMPTY generations (R434). -/
def genEmpty (d : Dev) : Nat := ([0, 1, 2, 3].filter (fun g => genState d g == 0)).length

/-- The block programmed, so far as it came: the generation is torn until VALID_g follows (R528, R532). -/
def burnBlock (g : Nat) (blk : List Word) (d : Dev) : Dev :=
  { d with otp.gens := d.otp.gens.set g blk, otp.burning := none }

/-- RETIRED_g programmed and journalled (R532). -/
def retireGen (c : Ctx) (g : Nat) (d : Dev) : Dev :=
  jput c 0x0BF6 0 (Word.of g) { d with otp.retired := d.otp.retired.set g (0x5A5A5A5A00000000 : BitVec 64) }

/-- VALID_g programmed and journalled (R528, R532); the CRC-32 is taken over the 64 words (log 34). -/
def validateGen (c : Ctx) (g : Nat) (blk : List Word) (d : Dev) : Dev :=
  jput c 0x0BF5 (Word.of g) (crc32 blk)
    { d with otp.valid := d.otp.valid.set g (BitVec.ofNat 64 (0xA5A5A5A5 * 2 ^ 32 + (crc32 blk).toNat)) }

/-- Programming that a reset cuts off leaves a torn generation (R528). -/
def tearBurn (d : Dev) : Dev :=
  match d.otp.burning with
  | some (g, blk) => burnBlock g blk d
  | none => d

end Sys2Proof.Machine
end

