-- ==== Sys2Proof/Machine/JournalOps.lean ====
section
/-! DEFINITION. Writing the change journal (17_journal_otp_security.md R514 to R522). -/

namespace Sys2Proof.Machine

/-- Entries that the journal keeps (R514). -/
def journalDepth : Nat := 8192

/-- An entry as it is stored (R516), chained to the previous one (R521). -/
def entryWords (e : Entry) (idx : Nat) (prev : List Word) : List Word :=
  let ctx := e.ctxA * 2 ^ 24 + e.ctxB * 2 ^ 16
  let w := [Word.of e.time,
    Word.of ((e.time / 2 ^ 32) % 256 * 2 ^ 24 + b2n e.unsynced * 2 ^ 23 + e.origin * 2 ^ 20 + e.item),
    e.old, e.new, Word.of idx]
  w ++ [Word.of (ctx + crc16Chain prev (w ++ [Word.of ctx]))]

/-- The entry at the head of Q27 written (R514, R518). -/
def writeNext (d : Dev) : Dev :=
  match d.jrn.q27 with
  | [] => d
  | e :: t =>
    let w := entryWords e d.jrn.next d.jrn.prev
    let l := d.jrn.entries ++ [w]
    sramWritten 1 ((List.range 3).map (fun i => d.jrn.next % journalDepth * 3 + i)) { d with
      jrn.q27 := t
      jrn.entries := if journalDepth < l.length then l.drop 1 else l
      jrn.prev := w
      jrn.wraps := if d.jrn.next ≠ 0 ∧ d.jrn.next % journalDepth = 0 then satInc 65535 d.jrn.wraps else d.jrn.wraps
      jrn.next := (d.jrn.next + 1) % 2 ^ 32 }

/-- Every waiting entry written. -/
def writeAll (d : Dev) : Dev := forEach d.jrn.q27 (fun _ d => writeNext d) d

/-- Absolute INDEX of the oldest kept entry. -/
def firstKept (d : Dev) : Nat := (d.jrn.next + 2 ^ 32 - d.jrn.entries.length) % 2 ^ 32

end Sys2Proof.Machine
end

