-- ==== Sys2Proof/Machine/StartOps.lean ====
section
/-! DEFINITION. What a start, a restart from SAFE_HOLD, SOFT_RESET and the entry to OFF, SHIP and SLEEP leave
(03_supply_power_clocks.md R58 to R70, R76, R85, R88, 12_ring_membership.md R389,
14_aeddo_command_reference.md R438, 17_journal_otp_security.md R519). -/

namespace Sys2Proof.Machine

/-! ## What a reset clears -/

/-- OTP after a reset: a generation in programming is torn, staged words are cleared (R528, R533). -/
def otpAfterReset (d : Dev) : Otp :=
  { (tearBurn d).otp with used := none, stageHash := List.replicate 8 0, stageSecret := List.replicate 8 0 }

/-- The device without power: only what is fused or programmed stays. -/
def coldDev (d : Dev) : Dev :=
  let b := { Dev.reset with part := d.part, now := d.now, free := d.free, otp := otpAfterReset d }
  { (clearArray b) with eng.clearedAt := d.now }

/-- The always-on domain and the clocks while the buck is stopped (R58, R70). -/
def lowPower (p : PState) (d : Dev) : Power :=
  { Power.reset with pstate := p, v5Good := false, vaOn := false, vdOk := false, stepNo := 0, cause := d.power.cause,
                     alwaysOn := p != .off, vdRetention := p == .sleep
                     role := d.power.role, modeSamples := if p == .sleep then d.power.modeSamples else [] }

/-- Every oscillator off but the LFO of SLEEP (R58); an entry to SHIP or SLEEP has closed every gate (R85). -/
def lowClocks (p : PState) : Clocks :=
  { Clocks.reset with hfo := .off, lfo := if p == .sleep then .stable else .off, boot := false
                      closedGates := if p == .off then [] else allGates }

/-- OFF, from any state (R59). -/
def enterOff (d : Dev) : Dev :=
  { coldDev d with power := lowPower .off d, clk := lowClocks .off, fault := { Faults.reset with startup := false, latch := false } }

/-! ## Retention image -/

/-- Items of the retention image (R62). -/
def imageIds (d : Dev) : List Nat :=
  (List.range 9).map (fun i => 0x0A01 + i) ++ (List.range 4).map (fun i => 0x0A11 + i) ++
    (if d.part.hasBanks then [0x0A15] else []) ++
    (mlist (BitVec.ofNat 16 (itemN d 0x0A04))).map (fun i => 0x0351 + i)

/-- The retention image: items and their values (R62). -/
def retentionImage (d : Dev) : List (Nat × Int) := (imageIds d).map (fun id => (id, commitValue d id))

/-- GPIO claims that survive SHIP and SLEEP (R51). -/
def survivingClaims (d : Dev) : List Nat := d.pins.gpioOwner.map (fun f => if f = 1 ∨ f = 2 ∨ f = 5 then f else 0)

/-- The sleep cell mask (R62). -/
def sleepCells (d : Dev) : BitVec 24 :=
  BitVec.ofNat 24 (itemN d 0x0101 % 2 ^ 24 % 2 ^ d.part.cells) &&& ~~~ d.aux.excluded

/-- Entry to SLEEP or SHIP (R51, R58, R62, R63, R515, R535, R536): the session ends and the entries that wait are
written first. -/
def enterLow (p : PState) (d : Dev) : Dev :=
  let e := writeAll (endSession 4 d)
  let b := coldDev e
  { b with
    power := { lowPower p e with retained := retentionImage e, retainedGpio := survivingClaims e, sleepMask := sleepCells e,
                                 toneUntil := e.power.toneUntil }
    clk := lowClocks p
    pins.gpioOwner := survivingClaims e
    jrn := if p == .sleep then { e.jrn with synced := false, timeMs := 0, timeAt := e.now, rate := 98304000 } else Journal.reset
    sess := if p == .sleep then { Session.reset with failRun := e.sess.failRun, fails := e.sess.fails, failAt := e.sess.failAt }
            else Session.reset
    fault := { Faults.reset with safeSrc := e.fault.safeSrc, safeAt := e.fault.safeAt, safePrev := e.fault.safePrev,
                                 startup := false, latch := false } }

/-- An item as the always-on domain holds it in SLEEP and SHIP: from the retention image (R62). -/
def imageItem (d : Dev) (id : Nat) : Int := (akey d.power.retained id).getD (itemReset d.part id)

/-! ## The sleep check -/

/-- Sum of the four conversions of unit i (R64). -/
def sum4 (codes : List Nat) (i : Nat) : Nat := ((codes.drop (4 * i)).take 4).sum

/-- The sleep check finds a violation (R64): the mean of a cell of the mask above SLEEP_OV or below SLEEP_UV, or of a
selected AX input outside its window; a limit item of 0 is not compared. -/
def sleepViolation (d : Dev) (get : Nat → Int) (mask : BitVec 24) (cells ax : List Nat) : Bool :=
  let ov := get 0x0A02
  let uv := get 0x0A03
  let ins := mlist (BitVec.ofNat 16 (get 0x0A04).toNat)
  (mlist mask).zipIdx.any (fun e =>
    let v := leatUv d (e.1 + 1) ((sum4 cells e.2 : Rat) / 4)
    (ov != 0 && decide ((ov * 10000 : Int) < v)) || (uv != 0 && decide (v < (uv * 10000 : Int)))) ||
  ins.zipIdx.any (fun e =>
    let w := (get (0x0351 + e.1)).toNat
    let s := sum4 ax e.2
    decide (s < 4 * (w % 2 ^ 16)) || decide (4 * (w / 2 ^ 16) < s))

/-! ## Starts -/

/-- A start from OFF, SHIP or SLEEP with its cause: step 1 (R69, R70). STARTUP and LATCH are set (R491, R494). -/
def beginStart (c : Cause) (d : Dev) : Dev :=
  { d with power.pstate := .starting, power.stepNo := 1, power.cause := c, power.alwaysOn := true, power.vdRetention := false
           clk.closedGates := [], clk.gateReqs := [], clk.waitGate := none, clk.hfo := .starting, clk.lfo := if d.clk.lfo == .stable then .stable else .starting
           clk.pairTries := 0, clk.retryDue := none
           fault.startup := true, fault.latch := true }

/-- A wake tone begins on a port (R67, R68). -/
def sendTone (p : Port) (d : Dev) : Dev := { d with power.toneTx := d.power.toneTx.filter (· != p) ++ [p] }

/-- A wake tone on a port has been sent: tones are ignored for 10 ms from here (R67, R68). -/
def toneSent (p : Port) (d : Dev) : Dev :=
  if d.power.toneTx.contains p then
    { d with power.toneTx := d.power.toneTx.filter (· != p), power.toneUntil := d.now + 3840000 }
  else d

/-- Step 7 of the start-up: the core die leaves reset on the boot clock; its time counts from here (R70, R523). The timebase
of the head is in FREE, that of a member in ACQUIRE (R93, R121). -/
def coreRelease (d : Dev) : Dev :=
  { d with power.stepNo := 7, power.vdOk := true, power.op := .opL, power.vdTargetMv := 800, power.coreReset := false
           clk.boot := true, clk.pllP := false
           tb.state := if isHead d then .free else .acquire
           jrn.timeMs := 0, jrn.timeAt := d.now, jrn.synced := false, jrn.rate := 98304000 }

/-- Captures whose span a restart from SAFE_HOLD has just ended (R156). -/
def justTruncated (d : Dev) : Nat :=
  (d.conv.caps.filter (fun (c : Capture) => c.state == 3 && c.truncated && c.epoch + 1 == d.conv.epoch)).length

/-- Ring values through a restart from SAFE_HOLD (R389): a member that was attached is UNATTACHED; the head keeps its map
and state, an enumeration cut short is over. -/
def ringAfterHold (d : Dev) : Ring :=
  { Ring.reset with
    addr := d.ring.addr, gate := d.ring.gate, mode := if d.ring.mode == .gated then .gated else .unattached
    epoch := d.ring.epoch, valA := d.ring.valA, dA := d.ring.dA, valB := d.ring.valB, dB := d.ring.dB
    passId := d.ring.passId, map := d.ring.map, dRing := d.ring.dRing, dRingV := d.ring.dRingV
    stat := if d.ring.stat == .enumerating then .idle else d.ring.stat
    foldBAddr := d.ring.foldBAddr, foldAAddr := d.ring.foldAAddr, lostPasses := d.ring.lostPasses }

/-- The core die restarted from SAFE_HOLD (R88, R135, R156, R389, R488, R515, R535, R572): what it held is lost but
history that captures pin, the ring values, the journal written so far, comparators and trip path. -/
def coreRestart (d : Dev) : Dev :=
  let t := clearArray (forEach [0, 1, 2, 3] truncateCap d)
  let b := coldDev d
  let e := { b with
    power := { d.power with pstate := .starting, safeHold := false, safeForced := false,
                            tripThird := false, wakeSeen := false, opTarget := none, goal := none, leaving := none,
                            ramping := false, v5Good := true, vaOn := true }
    clk := Clocks.reset
    pins.faultnReadHigh := d.pins.faultnReadHigh
    conv := { Conv.reset with caps := t.conv.caps, live := t.conv.live.filter (pinned t), epoch := d.conv.epoch + 1,
                              tempFront := d.conv.tempFront }
    aux := { Aux.reset with tempCore := d.aux.tempCore, vstkCode := d.aux.vstkCode }
    cmp := d.cmp, trip := d.trip
    eis := { Eis.reset with gen := (d.eis.gen + 1) % 256 }
    eng := { t.eng with clearedAt := d.now }
    ring := ringAfterHold d
    fault := { Faults.reset with safeSrc := d.fault.safeSrc, safeAt := d.fault.safeAt, safePrev := d.fault.safePrev,
                                 safeReact := d.fault.safeReact, sramBad := d.fault.sramBad }
    jrn := { d.jrn with q27 := [] }
    sess := { Session.reset with failRun := d.sess.failRun, fails := d.sess.fails, failAt := d.sess.failAt,
                                 ended := if d.sess.isOpen then 3 else d.sess.ended } }
  coreRelease e

/-! ## The firmware's part of a start -/

/-- The first entries of a start (R519): START, the SAFE_SRC entry of a SAFE_STATE restart, SESSION_END. -/
def startEntries (d : Dev) : Dev :=
  let d1 := jput (fwCtx 1) 0x0BF4 0 (Word.of (causeCode d.power.cause)) d
  let d2 := if d.fault.safeReact then
      jput ⟨oREACTION, d.fault.safeSrc, 5⟩ 0x0884 (Word.of d.fault.safePrev)
        (Word.of (d.fault.safeSrc + min 255 d.fault.safeAt.length * 256)) d1
    else d1
  if d.sess.ended = 0 then d2
  else jput (fwCtx 8) 0x0BF2 (Word.of (d.sess.ended * 2 ^ 24)) 0 { d2 with sess.ended := 0 }

/-- One item of the retention image, with its RETAIN entry where it changes (R519). -/
def retainItem (e : Nat × Int) (d : Dev) : Dev :=
  if commitValue d e.1 = e.2 then d
  else
    let d1 := jput (fwCtx 2) e.1 (itemWord (commitValue d e.1)) (itemWord e.2) d
    if 0x0A11 ≤ e.1 ∧ e.1 ≤ 0x0A14 then writeGpio (e.1 - 0x0A10) (itemWord e.2) d1 else setItem d1 e.1 e.2

/-- The retention image applied (R62, R51). -/
def applyImage (d : Dev) : Dev :=
  let d1 := forEach d.power.retained retainItem d
  let d2 := forEach [1, 2, 3, 4] (fun p d => if nth d.power.retainedGpio (p - 1) 0 = 5 then gpioClaim 5 p d else d) d1
  { d2 with power.retained := [], power.retainedGpio := [] }

/-- Every item at its reset value, then the OTP generation, then the retention image, each with its entries
(R62, R519, R530); the items that differ from what stood before come to act (R136, R188, R93, R71). -/
def loadConfig (o d : Dev) : Dev :=
  let d0 := startEntries { d with cfg := [], pins.gpioOwner := [0, 0, 0, 0], pins.gpioOut := 0 }
  let r := pickGen [3, 2, 1, 0] d0
  let d1 := applyImage (applyGen r.2 r.1)
  let d2 := if d1.power.cause == .xoFail then putItem (fwCtx 6) 0x0A07 0 d1 else d1
  let ids := ((o.cfg.map (fun e => e.1) ++ d2.cfg.map (fun e => e.1)).dedup).filter (fun id =>
    decide (item o id ≠ item d2 id) && (isHead d || !((itemOf id).map (fun (i : Item) => i.head)).getD false))
  rearm (applyAllSettings (convChanged (itemEffects o [] ids d2)))

/-- The event of a SAFE_HOLD cause (R89). The table names none for a brown-out or the safe-state wire: EV106 and EV107 are
taken for the brown-outs and none for the wire (DESIGN CHOICE, log 85). -/
def causeEvent : Cause → Option Nat
  | .hfoFail => some 97
  | .lfoFail => some 98
  | .xoFail => some 99
  | .pllPUnlock => some 100
  | .v5Brownout => some 106
  | .vdBrownout => some 107
  | .tjShutdown => some 109
  | _ => none

/-- After a restart from SAFE_HOLD (R88, R89, R156, R389, R573): RESTART message, the FENCED message of a SAFE_STATE
reaction behind it, EV111, the event of the cause, EV114 of captures cut short; the head handles its ring as broken. -/
def afterHold (d : Dev) : Dev :=
  let d1 := qmsg 0x0C 0x05 (causeCode d.power.cause) d
  let d2 := if d.fault.safeReact then qmsg 0x0C 0x02 d.fault.safeSrc d1 else d1
  let d3 := raise 111 { d2 with fault.safeReact := false }
  let d4 := match causeEvent d.power.cause with
    | some k => raise k d3
    | none => d3
  let d5 := forEach (List.range (justTruncated d)) (fun _ d => raise 114 d) d4
  if isHead d5 && (d5.ring.stat == .closed || d5.ring.stat == .wrapped) then headBreak d5 else d5

/-- The start came from SAFE_HOLD (R69). -/
def fromHold (d : Dev) : Bool := decide (0x10 ≤ causeCode d.power.cause)

/-- Step 9: the firmware has started and the device is in STANDBY (R70, R85, R494). -/
def reachStandby (d : Dev) : Dev :=
  let d1 := { d with power.pstate := .standby, power.stepNo := 9, power.sleepViol := false, cmd.hkReady := true
                     ring.silent := true
                     fault.startup := true, fault.latch := true, fault.critical := false }
  let d2 := auxStart (loadConfig { d1 with cfg := [] } d1)
  if fromHold d2 then afterHold d2 else d2

/-! ## SOFT_RESET -/

/-- SOFT_RESET (R438): what it ends, and what it keeps; a fenced channel leaves its substitution (R147). -/
def softReset (c : Ctx) (d : Dev) : Dev :=
  let o := d
  let d1 := forEach [3, 4] (fun k d => forEach (List.range 5) (fun n d =>
    if isFenced d (k * 256 + n) then releaseUnit (k * 256 + n) d else d) d) (cutSlice d)
  let d2 := clearArray (loseEis (forEach [1, 2, 3, 4] (fun p d => gpioRelease (gpioHolder d p) p d)
    (forEach (mlist d1.fault.fencedCh) settleOne d1)))
  let d3 := { d2 with
    power.cause := .softReset
    conv.caps := List.replicate 4 Capture.reset
    tb.slots := List.replicate 16 none, tb.loads := [], tb.switchAt := [0, 0, 0, 0], tb.darkNow := []
    tb.leads := List.replicate 16 none, tb.owed := []
    bal := { d2.bal with duty := List.replicate 24 0, dutyNow := List.replicate 24 0, owner := List.replicate 24 0
                         plans := List.replicate 24 none, q := List.replicate 24 0, qOn := 0, timeout := false
                         timerOn := false, excHeld := false, exciteOn := 0 }
    banks := List.replicate 4 Bank.reset
    host.evt := [], host.evtRecs := [], host.strm := [], host.strmRecs := []
    bist := { Bist.reset with cycleAt := d2.now, pausedAt := d2.now }
    fault := { d2.fault with
      esc := List.replicate 128 Esc.reset, fencedCh := 0, fencedEng := 0, fencedPort := 0, fencedBank := 0, msgDrop := 0
      startup := true, latch := true, critical := false, inject := [], otpBad := [], safeReact := false }
    sess := { Session.reset with failRun := d2.sess.failRun, fails := d2.sess.fails, failAt := d2.sess.failAt
                                 ended := if d2.sess.isOpen then 2 else 0 }
    otp := otpAfterReset d2 }
  -- the SOFT_RESET entry stands first and carries the generation that the restart applies (R438)
  let g := (pickGen [3, 2, 1, 0] { d3 with cfg := [] }).2
  let d4 := jput c 0x0BF0 0 (Word.of ((g.map (fun x => x.1)).getD 0xFF)) d3
  let d5 := loadConfig o d4
  auxStart { d5 with aux.nextTable := none }

end Sys2Proof.Machine
end

