-- ==== Sys2Proof/Machine/PowerOps.lean ====
section
/-! DEFINITION. Operating points, the gating tree and the transitions between power states
(03_supply_power_clocks.md R59 to R62, R78 to R85). -/

namespace Sys2Proof.Machine

/-- Operating point of an awake state (R58). -/
def opOf : PState → OpPoint
  | .activeH => .opH
  | .activeM => .opM
  | _ => .opL

/-- VD of an operating point in mV (R78). -/
def vdOf : OpPoint → Nat
  | .opL => 800
  | .opM => 900
  | .opH => 1100

/-- State of a POWER_STATE code that is a goal (R435). -/
def stateOfCode : Nat → Option PState
  | 1 => some .ship
  | 2 => some .sleep
  | 3 => some .standby
  | 4 => some .activeM
  | 5 => some .activeH
  | _ => none

/-! ## Gates -/

/-- Gates that a sleep or ship entry closes before its answer, from the bottom up (R81, R85); those of R83 and what the
answer itself needs stay open (log 36). -/
def sleepGates (d : Dev) : List Gate :=
  let es := List.range d.part.engines
  let ds := (List.range 25).filter (chanPresent d)
  es.map Gate.mac ++ ds.map Gate.fir ++ es.map Gate.engine ++ ds.map Gate.decimator ++ [.compute, .convert, .aux, .balance]

/-- The gates of an entry to SLEEP or SHIP close, bottom up (R85). -/
def beginGates (d : Dev) : Dev × GateResult :=
  serveGates ((sleepGates d).map (fun g => (false, g)))
    { d with clk.savedGates := d.clk.closedGates, clk.gateTries := 0 }

/-- Every gate back to its earlier state (R85). -/
def restoreGates (d : Dev) : Dev :=
  { d with clk.closedGates := d.clk.savedGates, clk.gateReqs := [], clk.waitGate := none, clk.gateTries := 0 }

/-! ## Transitions -/

/-- The gates are closed: the device leaves once its response has left it (R436). -/
def gatesClosed (d : Dev) : Dev :=
  match d.power.goal with
  | some p => suspendPlan (convStop { d with power.goal := none, power.leaving := some p })
  | none => d

/-- An awake state entered: conversion starts on the way from STANDBY and stops on the way to it (R126, R282). -/
def enterAwake (p : PState) (d : Dev) : Dev :=
  let was := active d
  let d1 := { d with power.pstate := p }
  if active d1 && !was then resumePlan (convStart d1)
  else if was && !active d1 then suspendPlan (convStop d1)
  else d1

/-- The gate controller has answered a close of an entry to SLEEP or SHIP (R84, R85): done with all, the device leaves;
awaited, the answer is still to come; refused, every gate goes back and the status of the result is the answer. -/
def gatesAnswered (r : Dev × GateResult) : Dev × Option Status :=
  match r.2 with
  | .done => (gatesClosed r.1, some stOK)
  | .busy => (r.1, none)
  | x => (restoreGates { r.1 with power.goal := none }, some (gateStatus x))

/-- A transition to the goal begins (R59, R78, R85), with its answer where it is complete at once. -/
def beginTransition (d : Dev) : Dev × Option Status :=
  match d.power.goal with
  | none => (d, some stOK)
  | some p =>
    if p == .sleep || p == .ship then gatesAnswered (beginGates d)
    else
      let t := opOf p
      let d := cutSlice d
      if vdOf d.power.op < vdOf t then
        ({ d with power.opPrev := d.power.op, power.opTarget := some t, power.opUp := true, power.vdOk := false,
                  power.vdTargetMv := vdOf t }, none)
      else
        (enterAwake p { d with power.opPrev := d.power.op, power.op := t, power.opTarget := some t, power.opUp := false
                               power.vdTargetMv := vdOf t, power.vdOk := false, power.goal := none }, none)

/-- A bank driver is on. -/
def anyDriver (d : Dev) : Bool := d.banks.any (fun (b : Bank) => b.on)

/-- POWER_STATE accepted for a goal (R59, R244): active commands ramp to 0 first where the device leaves ACTIVE. -/
def goTo (p : PState) (d : Dev) : Dev × Option Status :=
  let d1 := { d with power.goal := some p }
  if active d && !(p == .activeM || p == .activeH) && anyDriver d then ({ d1 with power.ramping := true }, none)
  else beginTransition d1

/-- The state a response reports (R435). -/
def stateData (d : Dev) : List Word := [Word.of (pstateCode d)]

/-- A POWER_STATE that has come to its end is answered. -/
def endPower (s : Status) (d : Dev) : Dev :=
  if busyWith d 0x03 then finishBusy s (if s.code = 0 then stateData d else []) d else d

/-- A transition that has come to its end is answered; one that goes on is answered later. -/
def endTransition (r : Dev × Option Status) : Dev :=
  match r.2 with
  | some s => endPower s r.1
  | none => r.1

/-- The checks of POWER_STATE (R60, R262, R435). -/
def powerCheck (d : Dev) (w : Word) (cells ax : List Nat) : Option Status :=
  let c := bf w 0 3
  let low := decide (c = 1) || decide (c = 2)
  firstFail [
    (!onlyBits 7 w || (stateOfCode c).isNone, stRANGE),
    (decide (c = 2) && (item d 0x0A02 == 0 || item d 0x0A03 == 0), stSTATE),
    (low && sleepViolation d (item d) (sleepCells d) cells ax, stSTATE),
    (decide (c = 4) && overBudget d .opM, stCONFLICT 1 0x40)]

end Sys2Proof.Machine
end

