-- ==== Sys2Proof/Machine/Power.lean ====
section
/-! DEFINITION. The commands of supply, power states, clocks and SAFE_HOLD (03_supply_power_clocks.md R55 to R89). -/

namespace Sys2Proof.Machine

/-! ## Supply and thermal monitors -/

/-- VSTK_POWER_ON (R59, R70): from OFF the start begins. -/
def execVstkPowerOn (s : State) : Host.Outcome State Fault Refusal :=
  runDev s (fun d => if d.power.pstate == .off then beginStart .por d else d)

/-- VSTK_POWER_LOSS (R59): OFF, from any state. -/
def execVstkPowerLoss (s : State) : Host.Outcome State Fault Refusal := runDev s enterOff

/-- VSTK_LOW (R57): EV104. A level that began outside STANDBY, ACTIVE-M and ACTIVE-H is kept and raises its event neither then
nor later (log 78). -/
def execVstkLow (low : Bool) (s : State) : Host.Outcome State Fault Refusal :=
  runDev s (fun d =>
    whenDo (low && !d.power.vstkLow && awake d) (raise 104) { d with power.vstkLow := low && d.power.pstate != .off })

/-- VSTK_HIGH (R57): EV105, as VSTK_LOW (log 78). -/
def execVstkHigh (high : Bool) (s : State) : Host.Outcome State Fault Refusal :=
  runDev s (fun d =>
    whenDo (high && !d.power.vstkHigh && awake d) (raise 105) { d with power.vstkHigh := high && d.power.pstate != .off })

/-- V5 is produced (R55, R70): awake, in SAFE_HOLD, and in a start once it has reached power-good. -/
def v5Present (d : Dev) : Bool :=
  match d.power.pstate with
  | .off | .ship | .sleep => false
  | _ => d.power.vaOn

/-- VD is produced (R55, R70): from step 7 of a start on, and in SAFE_HOLD. -/
def vdPresent (d : Dev) : Bool := coreRuns d || d.power.safeHold

/-- V5_FAULT (R57): V5 has left its window, EV106; or it is back in it. -/
def execV5Fault (outside : Bool) (s : State) : Host.Outcome State Fault Refusal :=
  runDev s (fun d =>
    if v5Present d then whenDo (outside && awake d) (raise 106) { d with power.v5Good := !outside } else d)

/-- V5_BROWNOUT (R57, R87): V5 has fallen below 4.20 V; or it is above again, which R88 waits for. -/
def execV5Brownout (below : Bool) (s : State) : Host.Outcome State Fault Refusal :=
  runDev s (fun d =>
    if !v5Present d then d
    else if below then enterSafeHold .v5Brownout { d with power.v5Brown := true, power.v5Good := false }
    else { d with power.v5Brown := false })

/-- VD_FAULT (R57): VD has left its target +-3 % outside an operating-point transition, EV107; or it is back. -/
def execVdFault (outside : Bool) (s : State) : Host.Outcome State Fault Refusal :=
  runDev s (fun d =>
    if vdPresent d && d.power.opTarget.isNone then
      whenDo (outside && awake d) (fun d => raise 107 (cutSlice d)) { d with power.vdOk := !outside }
    else d)

/-- VD_BROWNOUT (R57, R87): VD has fallen below 90 % of its target; or it is above again, which R88 waits for. -/
def execVdBrownout (below : Bool) (s : State) : Host.Outcome State Fault Refusal :=
  runDev s (fun d =>
    if !vdPresent d then d
    else if below then enterSafeHold .vdBrownout { d with power.vdBrown := true, power.vdOk := false }
    else { d with power.vdBrown := false })

/-- TJ_WARN (R57): EV108 above 125 C; it clears below 115 C (log 78). -/
def execTjWarn (above : Bool) (s : State) : Host.Outcome State Fault Refusal :=
  runDev s (fun d => whenDo (above && !d.power.tjWarn && awake d) (raise 108) { d with power.tjWarn := above })

/-- TJ_SHUTDOWN (R57, R87): SAFE_HOLD above 150 C; its exit needs less than 135 C. -/
def execTjShutdown (above : Bool) (s : State) : Host.Outcome State Fault Refusal :=
  runDev s (fun d =>
    let d1 := { d with power.tjShut := above }
    if above then enterSafeHold .tjShutdown d1 else d1)

/-! ## Oscillators and the start -/

/-- OSC_STARTED (R72): 4096 of its own cycles counted. -/
def execOscStarted (o : Osc) (s : State) : Host.Outcome State Fault Refusal :=
  runDev s (fun d =>
    let n (k : Nat) : Nat := if d.power.pstate == .starting && !d.power.safeHold then max d.power.stepNo k else d.power.stepNo
    match o with
    | .hfo => if d.clk.hfo == .starting then { d with clk.hfo := .started, power.stepNo := n 2 } else d
    | .lfo => if d.clk.lfo == .starting then { d with clk.lfo := .started, power.stepNo := n 5 } else d
    | .xo => if d.clk.xo == .starting then { d with clk.xo := .started } else d)

/-- A count within 3 % of the expected one (R72). -/
def countGood (count expect : Nat) : Bool :=
  decide (100 * count ≤ 103 * expect) && decide (97 * expect ≤ 100 * count)

/-- Expected HFO count over 32 LFO cycles: 93 750, corrected by the LFO frequency that trim holds for the present die
temperature (R72; the form of that trim: log 10). -/
def lfoExpect (d : Dev) : Nat :=
  let ppm : Rat := d.otp.lfoPpm + d.otp.lfoTc * ((frontTemp d - 320000 : Int) : Rat) / 12800
  (rround (93750 * 1000000 / (1000000 + ppm))).toNat

/-- A comparison of HFO and LFO judges both (R72). In a start a failed one is repeated, the third leaves the device in
SAFE_HOLD (R73); in SAFE_HOLD it is repeated with the next restart (R87); else it is the frequency monitor (R74). -/
def pairCompare (o : Osc) (count : Nat) (d : Dev) : Dev :=
  let good := countGood count (lfoExpect d)
  let ready := fun (x : OscState) => x == .started || x == .stable
  if d.power.safeHold || (d.power.pstate == .starting && d.power.stepNo < 7) then
    if !ready d.clk.hfo || !ready d.clk.lfo || d.clk.retryDue.isSome then d
    else if good then
      { d with clk.hfo := .stable, clk.lfo := .stable, clk.pairTries := 0
               power.stepNo := if d.power.pstate == .starting then max d.power.stepNo 6 else d.power.stepNo }
    else if d.power.safeHold then { d with clk.hfo := .failed }
    else if d.clk.pairTries + 1 < 3 then { d with clk.pairTries := d.clk.pairTries + 1, clk.retryDue := some o }
    else enterSafeHold .hfoFail { d with clk.hfo := .failed, clk.pairTries := 0 }
  else if good then d
  else if o == .lfo then enterSafeHold .lfoFail d
  else enterSafeHold .hfoFail d

/-- The crystal takes over as local reference where it is selected (R71, R75). -/
def xoStable (d : Dev) : Dev :=
  { d with clk.xo := .stable, clk.xoTries := 0
           clk.pllRef := if item d 0x0A07 == 1 && d.clk.pllRef == .hfo then .xo else d.clk.pllRef }

/-- A comparison of XO with HFO (R72, R73, R74); in SAFE_HOLD it is judged after each restart (R87). -/
def xoCompare (count : Nat) (d : Dev) : Dev :=
  let good := countGood count (itemN d 0x0A06)
  if d.power.safeHold then
    if d.clk.xo == .started then { d with clk.xo := if good then .stable else .failed } else d
  else if d.clk.xo == .started then
    if d.clk.retryDue == some .xo then d
    else if good then xoStable d
    else if d.clk.xoTries + 1 < 3 then { d with clk.xoTries := d.clk.xoTries + 1, clk.retryDue := some .xo }
    else raise 99 { d with clk.xo := .failed, clk.xoTries := 0 }
  else if d.clk.xo == .stable && d.clk.pllRef == .xo && !good then enterSafeHold .xoFail { d with clk.xo := .failed }
  else d

/-- CLOCK_COMPARE_DONE (R72 to R74). -/
def execClockCompareDone (o : Osc) (count : Nat) (s : State) : Host.Outcome State Fault Refusal :=
  runDev s (fun d => if o == .xo then (if awake d || d.power.safeHold then xoCompare count d else d) else pairCompare o count d)

/-- CLOCK_COMPARE_RETRY (R73): the comparison begins again. -/
def execClockCompareRetry (o : Osc) (s : State) : Host.Outcome State Fault Refusal :=
  runDev s (fun d => if d.clk.retryDue == some o then { d with clk.retryDue := none } else d)

/-- V5_POWER_GOOD (R36, R68, R70): V5 is in its window; in a start VA and VREFC come up, MODE is sampled on the way from OFF
and SHIP, a wake tone goes on. -/
def execV5PowerGood (mode : Bool) (s : State) : Host.Outcome State Fault Refusal :=
  runDev s (fun d =>
    if d.power.pstate == .starting && !d.power.vaOn then
      let d1 := { d with power.v5Good := true, power.vaOn := true, power.stepNo := max d.power.stepNo 3
                         power.modeSamples := if d.power.modeSamples.isEmpty then [mode] else d.power.modeSamples
                         power.toneRelay := none }
      match d.power.toneRelay with
      | some p => sendTone p d1
      | none => d1
    else if v5Present d then { d with power.v5Good := true, power.v5Brown := false }
    else d)

/-- MODE_SAMPLE (R36): the majority of three is latched as the role. -/
def execModeSample (mode : Bool) (s : State) : Host.Outcome State Fault Refusal :=
  runDev s (fun d =>
    let l := d.power.modeSamples ++ [mode]
    if d.power.pstate != .starting || d.power.modeSamples.isEmpty || 3 ≤ d.power.modeSamples.length then d
    else if l.length < 3 then { d with power.modeSamples := l }
    else { d with power.modeSamples := l, power.stepNo := max d.power.stepNo 4
                  power.role := decide (2 ≤ (l.filter (fun b => b)).length) })

/-- CORE_RESET_RELEASE (R70 step 7). -/
def execCoreResetRelease (s : State) : Host.Outcome State Fault Refusal :=
  runDev s (fun d =>
    if d.power.pstate == .starting && d.power.stepNo < 7 && !d.power.safeHold && d.power.v5Good &&
        d.power.modeSamples.length == 3 && d.clk.hfo == .stable && d.clk.lfo == .stable then coreRelease d
    else d)

/-- PLL_P_LOCK (R70 step 8): CK_CORE runs at 25 MHz. -/
def execPllPLock (s : State) : Host.Outcome State Fault Refusal :=
  runDev s (fun d =>
    if d.power.pstate == .starting && d.power.stepNo == 7 && !d.power.coreReset then
      { d with clk.pllP := true, clk.boot := false, power.stepNo := 8 }
    else d)

/-- BOOT_DONE (R70 step 9): STANDBY. -/
def execBootDone (s : State) : Host.Outcome State Fault Refusal :=
  runDev s (fun d =>
    if d.power.pstate == .starting && d.power.stepNo == 8 && !d.power.coreReset then reachStandby d else d)

/-! ## Source failures and SAFE_HOLD -/

/-- HFO_FAIL (R74, R87). -/
def execHfoFail (s : State) : Host.Outcome State Fault Refusal :=
  runDev s (fun d => if d.clk.hfo == .off then d else enterSafeHold .hfoFail { d with clk.hfo := .failed })

/-- LFO_FAIL (R74, R87): in SLEEP start-up begins at once, with the same outcome. -/
def execLfoFail (s : State) : Host.Outcome State Fault Refusal :=
  runDev s (fun d =>
    if d.clk.lfo == .off then d
    else
      let d1 := { d with clk.lfo := .failed }
      enterSafeHold .lfoFail (if d.power.pstate == .sleep then beginStart .lfoFail d1 else d1))

/-- XO_FAIL (R74, R87): a crystal that is selected, that is, the PLL_P reference in use (log 77). -/
def execXoFail (s : State) : Host.Outcome State Fault Refusal :=
  runDev s (fun d => if d.clk.pllRef == .xo then enterSafeHold .xoFail { d with clk.xo := .failed } else d)

/-- PLL_P_UNLOCK (R74, R87). -/
def execPllPUnlock (s : State) : Host.Outcome State Fault Refusal :=
  runDev s (fun d => if d.clk.pllP then enterSafeHold .pllPUnlock { d with clk.pllP := false } else d)

/-- CLK_FORCED (R77): EV96. -/
def execClkForced (s : State) : Host.Outcome State Fault Refusal := runDev s (fun d => whenDo (coreRuns d) (raise 96) d)

/-- A safe-wire pair asks for the safe state (R27, R87), or it asks no more and its rails have agreed for 1 ms (R88). -/
def safeWire (front asks : Bool) (d : Dev) : Dev :=
  if coreRuns d || d.power.safeHold then
    let d1 := { d with power.safeWireF := if front then asks else d.power.safeWireF
                       power.safeWireC := if front then d.power.safeWireC else asks }
    if asks then enterSafeHold .safeWire d1 else d1
  else d

/-- SAFE_WIRE_DISAGREE (R27): counts as a request. -/
def execSafeWireDisagree (front asks : Bool) (s : State) : Host.Outcome State Fault Refusal := runDev s (safeWire front asks)

/-- SAFE_WIRE_REQUEST (R87). -/
def execSafeWireRequest (front asks : Bool) (s : State) : Host.Outcome State Fault Refusal := runDev s (safeWire front asks)

/-- SAFE_HOLD_RETRY (R73, R87): HFO and the failed source are restarted; OSC_STARTED and CLOCK_COMPARE_DONE judge them. -/
def execSafeHoldRetry (s : State) : Host.Outcome State Fault Refusal :=
  runDev s (fun d =>
    if d.power.safeHold then
      { d with clk.hfo := .starting
               clk.lfo := if d.power.cause == .lfoFail || d.clk.lfo == .failed then .starting else d.clk.lfo
               clk.xo := if d.power.cause == .xoFail then .starting else d.clk.xo
               clk.pairTries := 0, clk.retryDue := none }
    else d)

/-- What R88 asks for before SAFE_HOLD ends: HFO and LFO judged stable; the failed source too, or deselected, as R76 deselects
the XO and as PLL_P is judged in step 8 of the restart (log 79); the monitors within their limits; no safe-wire request;
after the third SAFE_STATE of 10 s the condition of R488; and a role latched in this start (R36, R70). -/
def holdMayEnd (d : Dev) : Bool :=
  d.power.safeHold && d.clk.hfo == .stable && d.clk.lfo == .stable && d.power.vaOn && !d.power.v5Brown &&
    !d.power.vdBrown && !d.power.tjShut && !d.power.safeWireF && !d.power.safeWireC &&
    (!d.power.tripThird || d.power.wakeSeen) && d.power.modeSamples.length == 3

/-- SAFE_HOLD_EXIT (R57, R88, R488). -/
def execSafeHoldExit (s : State) : Host.Outcome State Fault Refusal :=
  runDev s (fun d => if holdMayEnd d then coreRestart d else d)

/-! ## Operating points and gates -/

/-- OP_VD_GOOD (R78): going up, the divider changes once VD is good. -/
def execOpVdGood (s : State) : Host.Outcome State Fault Refusal :=
  runDev s (fun d =>
    match d.power.opTarget, d.power.goal with
    | some t, some p =>
      if d.power.opUp && awake d then
        endPower stOK (enterAwake p (releaseHeld { d with
          power.op := t, power.opTarget := none, power.vdOk := true, power.goal := none }))
      else d
    | _, _ => d)

/-- OP_TIMEOUT (R60, R79). -/
def execOpTimeout (s : State) : Host.Outcome State Fault Refusal :=
  runDev s (fun d =>
    if d.power.opTarget.isSome && d.power.opUp && awake d then
      endPower stSTATE (raise 103 (releaseHeld { d with
        power.opTarget := none, power.goal := none, power.vdTargetMv := vdOf d.power.opPrev }))
    else d)

/-- OP_DOWN_VD_POWER_GOOD (R78): VD is within its target and the transition ends; after a time-out VD is back (R79). -/
def execOpDownVdPowerGood (s : State) : Host.Outcome State Fault Refusal :=
  runDev s (fun d =>
    if !awake d || (d.power.opTarget.isSome && d.power.opUp) then d
    else if d.power.opTarget.isSome then
      endPower stOK (releaseHeld { d with power.opTarget := none, power.vdOk := true })
    else { d with power.vdOk := true })

/-- ACT_RAMP_DONE (R244): the drivers turn off, the transition begins. -/
def execActRampDone (s : State) : Host.Outcome State Fault Refusal :=
  runDev s (fun d =>
    if d.power.ramping && d.banks.all (fun (b : Bank) => !b.on || b.applied == 0) then
      endTransition (beginTransition (forEach [0, 1, 2, 3] bankStop { d with power.ramping := false }))
    else d)

/-- GATE_HANDSHAKE (R82): the close that waits completes, and the requests behind it are served (R84). -/
def execGateHandshake (s : State) : Host.Outcome State Fault Refusal :=
  runDev s (fun d =>
    match d.clk.waitGate with
    | some g =>
      endTransition (gatesAnswered
        (serveGates (d.clk.gateReqs.drop 1) { closeOne g d with clk.waitGate := none, clk.gateTries := 0 }))
    | none => d)

/-- GATE_BUSY_TIMEOUT (R82, R85): GATE_BUSY; after the fourth retry every gate goes back and POWER_STATE is answered
BUSY. -/
def execGateBusyTimeout (s : State) : Host.Outcome State Fault Refusal :=
  runDev s (fun d =>
    if d.clk.waitGate.isNone then d
    else if d.clk.gateTries < 4 then { d with clk.waitGate := none, clk.gateTries := d.clk.gateTries + 1 }
    else endPower stBUSY (restoreGates { d with power.goal := none }))

/-- GATE_BUSY_RETRY (R85): the refused close is asked for again; where it succeeds, the gates behind it have their own four
retries. -/
def execGateBusyRetry (s : State) : Host.Outcome State Fault Refusal :=
  runDev s (fun d =>
    match d.clk.waitGate, d.clk.gateReqs with
    | none, (false, g) :: t =>
      if gateBusy d g then { d with clk.waitGate := some g }
      else endTransition (gatesAnswered (serveGates ((false, g) :: t) { d with clk.gateTries := 0 }))
    | _, _ => d)

/-! ## Sleep and wake -/

/-- POWER_STATE (R59, R60, R244, R435, R436); codes and ax are what the sleep check reads. -/
def execPowerState (m : Msg) (codes : List Nat) (ax : List Nat) (s : State) : Host.Outcome State Fault Refusal :=
  runDev s (runCmd ⟨0x03, lenIs 3, true, false, false⟩ m (fun d =>
    let w := req m 1
    if onlyBits 7 w && bf w 0 3 == pstateCode d then okWith (stateData d) d
    else
      match powerCheck d w codes ax, stateOfCode (bf w 0 3) with
      | some e, _ => refuse e d
      | none, none => refuse stRANGE d
      | none, some p =>
        let r := goTo p d
        match r.2 with
        | some e => if e.code = 0 then okWith (stateData r.1) r.1 else .forced e [] r.1
        | none => .long (bf w 0 3) r.1))

/-- SLEEP_ENTRY (R61, R62, R436): the response or the broadcast frame has left. -/
def execSleepEntry (s : State) : Host.Outcome State Fault Refusal :=
  runDev s (fun d =>
    match d.power.leaving with
    | some p => enterLow p d
    | none => d)

/-- SLEEP_ENTRY_TIMEOUT (R436): 10 ms after the response is ready. -/
def execSleepEntryTimeout (s : State) : Host.Outcome State Fault Refusal :=
  runDev s (fun d =>
    match d.power.leaving with
    | some p => enterLow p d
    | none => d)

/-- SLEEP_CHECK (R64, R65): the row is the whole check, steps 1 to 5, so VA, VTREF and the references that step 1 powers are
down again after it. -/
def execSleepCheck (cells : List Nat) (ax : List Nat) (s : State) : Host.Outcome State Fault Refusal :=
  runDev s (fun d =>
    if d.power.pstate == .sleep && sleepViolation d (imageItem d) d.power.sleepMask cells ax then
      beginStart .sleepCheck (sendTone .A { d with power.sleepViol := true, power.wakeOut := true })
    else d)

/-- WAKE_PIN (R66, R488): above 2.0 V for 10 us. -/
def execWakePin (high : Bool) (s : State) : Host.Outcome State Fault Refusal :=
  runDev s (fun d =>
    if !high then d
    else
      let d1 := { d with power.wakeSeen := d.power.wakeSeen || (d.power.safeHold && d.power.tripThird) }
      match d.power.pstate with
      | .sleep => beginStart .wakePin d1
      | .ship => if (imageItem d 0x0A08).toNat.testBit 0 then beginStart .wakePin d1 else d1
      | _ => d1)

/-- WAKE_TONE_DETECT (R66 to R68): a tone is ignored while awake and for 10 ms after one was sent. -/
def execWakeToneDetect (p : Port) (s : State) : Host.Outcome State Fault Refusal :=
  runDev s (fun d =>
    let c : Cause := if p == .A then .toneA else .toneB
    let wake := beginStart c { d with power.toneRelay := some p.other }
    if d.now < d.power.toneUntil || !d.power.toneTx.isEmpty then d
    else match d.power.pstate with
      | .sleep => wake
      | .ship => if (imageItem d 0x0A08).toNat.testBit (p.num + 1) then wake else d
      | _ => d)

/-- SLEEP_WAKE_AFTER (R66). -/
def execSleepWakeAfter (s : State) : Host.Outcome State Fault Refusal :=
  runDev s (fun d =>
    if d.power.pstate == .sleep && imageItem d 0x0A05 != 0 then beginStart .sleepTimer d else d)

/-- WAKE_TONE_END (R67, R68): the tone has been sent. -/
def execWakeToneEnd (p : Port) (s : State) : Host.Outcome State Fault Refusal := runDev s (toneSent p)

/-- WAKE_OUT_END (R65). -/
def execWakeOutEnd (s : State) : Host.Outcome State Fault Refusal :=
  runDev s (fun d => { d with power.wakeOut := false })

end Sys2Proof.Machine
end

