-- ==== Sys2Proof/Machine/CmdSys.lean ====
section
/-! DEFINITION. System, configuration and settings commands (14_aeddo_command_reference.md R434 to R447, R456). -/

namespace Sys2Proof.Machine

/-- PART field (13_host_port_and_mailboxes.md R402). -/
def partCode : Part → Nat
  | .tl2440 => 0x2440
  | .tl2424 => 0x2424
  | .tl1612 => 0x1612

/-- The ID register (R402). -/
def idWord (d : Dev) : Word := Word.of (partCode d.part * 2 ^ 16 + 0xB1 * 2 ^ 8 + 3 * 2 ^ 4 + b2n (isHead d) * 8)

/-- The context of the changes that a command makes. -/
def msgCtx (d : Dev) (code : Nat) (m : Msg) : Ctx := cmdCtx d code m.seq.toNat

/-- IDENTIFY (R434). -/
def execIdentify (m : Msg) (s : State) : Host.Outcome State Fault Refusal :=
  runDev s (runCmd ⟨0x01, lenIs 2, false, false, false⟩ m (fun d =>
    okWith [idWord d, 0x03020300,
      Word.of (causeCode d.power.cause * 2 ^ 24 + b2n (isHead d) * 2 ^ 23 + pstateCode d * 2 ^ 20 + ownAddr d),
      Word.of (d.otp.uid.toNat % 2 ^ 32), Word.of (d.otp.uid.toNat / 2 ^ 32), d.part.cap0, d.part.cap1,
      Word.of (genEmpty d * 2 ^ 8 + genUsed d)] d))

/-- CAPS (R434). -/
def execCaps (m : Msg) (s : State) : Host.Outcome State Fault Refusal :=
  runDev s (runCmd ⟨0x02, lenIs 2, false, false, false⟩ m (fun d =>
    okWith [d.part.cap0, d.part.cap1, Word.of (historyDepth d.part * 2 ^ 16 + historyDepth d.part / 8),
      Word.of (d.part.pool * 2 ^ 16 + weir d), 0x10040404, 0x01000100] d))

/-- SOFT_RESET (R438): CONFIRM is the device's own address, or 63 in a broadcast. -/
def execSoftReset (m : Msg) (s : State) : Host.Outcome State Fault Refusal :=
  runDev s (runCmd ⟨0x04, lenIs 3, true, false, false⟩ m (fun d =>
    let w := req m 1
    if !onlyBits 0x3F w || w.toNat != (if m.bcast then 63 else ownAddr d) then refuse stRANGE d
    else okWith [] (softReset (msgCtx d 0x04 m) d)))

/-! ## Items -/

/-- COUNT of CFG_SET and CFG_GET (R439, R440). -/
def cfgCount (m : Msg) : Nat := bf (req m 1) 0 8

/-- COUNT lies in 1 to 126 and its word has no reserved bit. -/
def countOk (m : Msg) : Bool := onlyBits 0xFF (req m 1) && decide (1 ≤ cfgCount m) && decide (cfgCount m ≤ 126)

/-- Item and value pairs of CFG_SET (R439). -/
def cfgPairs (m : Msg) : List (Word × Word) :=
  (List.range (cfgCount m)).map (fun i => (req m (2 * i + 2), req m (2 * i + 3)))

/-- rsp 2 and rsp 3 of CFG_SET (R439). -/
def cfgSetData (r : SetResult) : List Word := [Word.of (r.index * 2 ^ 24 + r.item), Word.of r.changed]

/-- CFG_SET (R439, R428, R533). -/
def execCfgSet (m : Msg) (s : State) : Host.Outcome State Fault Refusal :=
  runDev s (runCmd ⟨0x10, fun m => lenIs (3 + 2 * cfgCount m) m, true, false, false⟩ m (fun d =>
    if !countOk m then .done stRANGE [0xFF000000, 0] d
    else
      let r := setItems (msgCtx d 0x10 m) (cfgPairs m) d
      if r.forced then .forced r.st (cfgSetData r) r.dev
      else if r.st.code = 0 then .done stOK (cfgSetData r) r.dev
      else .done r.st (cfgSetData r) d))

/-- Items that CFG_GET names (R440). -/
def getIds (m : Msg) : List Word := (List.range (cfgCount m)).map (fun i => req m (i + 2))

/-- The checks of CFG_GET (R440) in the order of R427: an item of an absent unit, then an unknown ID. -/
def getCheck (p : Part) (l : List Word) : Option Status :=
  firstFail [(l.any (fun w => (itemOf w.toNat).isSome && itemAbsent p w.toNat), stABSENT),
    (l.any (fun w => (itemOf w.toNat).isNone), stRANGE)]

/-- CFG_GET (R440): read-clear items clear only where the command succeeds. -/
def execCfgGet (m : Msg) (s : State) : Host.Outcome State Fault Refusal :=
  runDev s (runCmd ⟨0x11, fun m => lenIs (3 + cfgCount m) m, false, false, false⟩ m (fun d =>
    let ids := getIds m
    if !countOk m then refuse stRANGE d
    else match getCheck d.part ids with
      | some e => refuse e d
      | none => okWith (ids.flatMap (fun w => [w, itemRead d w.toNat])) (forEach ids (fun w d => itemClear w.toNat d) d)))

/-! ## CFG_COMMIT_OTP -/

/-- CFG_COMMIT_OTP (R441): the programming of the lowest EMPTY generation begins. -/
def execCfgCommitOtp (m : Msg) (s : State) : Host.Outcome State Fault Refusal :=
  runDev s (runCmd ⟨0x12, lenIs 3, false, false, true⟩ m (fun d =>
    match emptyGen d with
    | none => refuse stOTPFULL d
    | some g =>
      if !otpLimitsOk d || bf (req m 1) 0 2 != g then refuse stSTATE d
      else match encodeGen (commitList d), onlyBits 3 (req m 1) with
        | some blk, true => .long g { d with otp.burning := some (g, blk) }
        | _, _ => refuse stRANGE d))

/-- The context of a commit's entry (R532). -/
def commitCtx (d : Dev) : Ctx := ⟨oSERVICE, 0x12, d.sess.tester⟩

/-- The programming ends without a valid generation: RETIRED, ERR_CHECK (R441, R532). -/
def commitFails (g : Nat) (blk : List Word) (d : Dev) : Dev :=
  finishBusy stCHECK [] (retireGen (commitCtx d) g (burnBlock g blk d))

/-- OTP_LIMIT_DEPART (R441, R532): VSTK or a die temperature leaves its limits while a generation is programmed. -/
def execOtpLimitDepart (s : State) : Host.Outcome State Fault Refusal :=
  runDev s (fun d =>
    match d.otp.burning with
    | some (g, blk) => if busyWith d 0x12 then commitFails g blk d else d
    | none => d)

/-- OTP_PROGRAM_DONE (R441, R532): programming and readback complete; ok is the readback of the device, which an
uncorrectable word fails too. -/
def execOtpProgramDone (ok : Bool) (s : State) : Host.Outcome State Fault Refusal :=
  runDev s (fun d =>
    match d.otp.burning with
    | some (g, blk) =>
      if !busyWith d 0x12 then d
      else
        let r := otpRead (128 + 32 * g) 32 { d with otp.gens := d.otp.gens.set g blk }
        if ok && r.2.isEmpty then
          finishBusy stOK [Word.of g, crc32 blk] (validateGen (commitCtx d) g blk (burnBlock g blk r.1))
        else commitFails g blk r.1
    | none => d)

/-! ## Commands that write items -/

/-- CONV_SETUP as a list of items (R447). -/
def convList (m : Msg) : List (Word × Word) :=
  let w := req m 2
  [(0x0101, req m 1), (0x0102, Word.of (bf w 0 1)), (0x0103, Word.of (bf w 1 3)), (0x0104, Word.of (bf w 4 1)),
   (0x0105, Word.of (bf w 8 8)), (0x0106, Word.of (bf w 5 1)), (0x0107, Word.of (bf w 6 1))]

/-- CONV_SETUP (R447). -/
def execConvSetup (m : Msg) (s : State) : Host.Outcome State Fault Refusal :=
  runDev s (runCmd ⟨0x20, lenIs 4, true, false, false⟩ m (fun d =>
    match firstFail [(maskAbsent d 0x0101 (req m 1), stABSENT),
        (!onlyBits 0x1FFFFFF (req m 1) || !onlyBits 0xFF7F (req m 2), stRANGE)] with
    | some e => refuse e d
    | none => setAnswer (setItems (msgCtx d 0x20 m) (convList m) d) (fun d => [itemRead d 0x0150])))

/-- WINDOW_SET as a list of items (R456). -/
def windowList (m : Msg) : List (Word × Word) :=
  let c := mlist (BitVec.ofNat 24 (bf (req m 1) 0 24))
  let a := mlist (BitVec.ofNat 16 (bf (req m 3) 0 16))
  (if bit (req m 1) 24 then c.map (fun i => (Word.of (0x0311 + i), Word.of (bf (req m 2) 0 10))) else []) ++
  (if bit (req m 1) 25 then c.map (fun i => (Word.of (0x0331 + i), Word.of (bf (req m 2) 16 10))) else []) ++
  a.map (fun i => (Word.of (0x0351 + i), req m 4))

/-- WINDOW_SET (R456). -/
def execWindowSet (m : Msg) (s : State) : Host.Outcome State Fault Refusal :=
  runDev s (runCmd ⟨0x30, lenIs 6, true, false, false⟩ m (fun d =>
    match firstFail [(maskAbsent d 0x0301 (req m 1), stABSENT),
        (!onlyBits 0x3FFFFFF (req m 1) || !onlyBits 0x03FF03FF (req m 2) || !onlyBits 0xFFFF (req m 3) ||
          !onlyBits 0x0FFF0FFF (req m 4), stRANGE)] with
    | some e => refuse e d
    | none => setAnswer (setItems (msgCtx d 0x30 m) (windowList m) d) (fun _ => [])))

end Sys2Proof.Machine
end

