-- ==== Sys2Proof/Machine/PlanOps.lean ====
section
/-! DEFINITION. Loading transit plans: slot assignment, checks, read-back
(04_phase_timebase.md R111 to R118, 14_aeddo_command_reference.md R448, R449). -/

namespace Sys2Proof.Machine

/-- PLAN of a TRANSIT_PLAN (R448). -/
def planNo (m : Msg) : Nat := bf (req m 1) 28 2

/-- NSLOT. -/
def planSlots (m : Msg) : Nat := bf (req m 1) 0 5

/-- Entry j of a TRANSIT_PLAN (R111). -/
def planEntry (m : Msg) (j : Nat) : Slot :=
  let w0 := req m (3 + 3 * j)
  let w1 := req m (4 + 3 * j)
  let w2 := req m (5 + 3 * j)
  { plan := planNo m, phase := w0, asked := w0, div := bf w1 16 16, offset := bf w1 0 16, en := bit w2 31,
    action := bf w2 28 3, mark := bf w2 26 2, arg := BitVec.ofNat 25 (bf w2 0 25) }

/-- The entries. -/
def planEntries (m : Msg) : List Slot := (List.range (planSlots m)).map (planEntry m)

/-- Another plan than p holds slot i, in force or waiting (R117). -/
def heldByOther (d : Dev) (p i : Nat) : Bool :=
  ((slotAt d i).map (fun s => decide (s.plan ≠ p))).getD false ||
    d.tb.loads.any (fun (l : PlanLoad) => l.plan != p && l.slots.any (fun e => e.1 == i))

/-- Slots that are free for plan p, ascending (R449). -/
def freeSlots (d : Dev) (p : Nat) : List Nat := (List.range 16).filter (fun i => !heldByOther d p i)

/-- ARG bits that an action gives a meaning (R112). -/
def argMask (s : Slot) : Nat :=
  match s.action with
  | 1 => 0x1FFFFFF
  | 2 => 0x3F
  | 3 => 0xF
  | 4 => 0x3
  | 5 => if s.arg.getLsbD 24 then 0x1FFFFFF else 0xF
  | _ => 0

/-- An entry names something the part lacks (R112, R449). -/
def entryAbsent (d : Dev) (s : Slot) : Bool :=
  let cells := s.arg.toNat % 2 ^ 24
  if s.action = 1 || (s.action = 5 && s.arg.getLsbD 24) then cells &&& (2 ^ 24 - 1 - d.part.cellMask) != 0
  else s.action = 5 && !d.part.hasBanks

/-- A field of an entry lies outside R111 to R113; own are the CONVERT slots of the command. -/
def entryBad (d : Dev) (p : Nat) (own : List Nat) (s : Slot) : Bool :=
  let a := s.arg.toNat
  s.action = 0 || 5 < s.action || a &&& (2 ^ 25 - 1 - argMask s) != 0 ||
  (if s.action = 3 then s.phase != 0 || s.div != 0 || s.offset != 0 || (!own.contains (a % 16) && !heldByOther d p (a % 16))
   else s.div = 0 || decide (s.div ≤ s.offset)) ||
  (s.action = 2 && decide ((auxTableSet d).length ≤ a))

/-- FETs that the dark window of a CONVERT over the channels holds (08_balancing.md R235). -/
def darkHeld (d : Dev) (m : BitVec 25) : BitVec 24 :=
  let hit := fun i => (i < 24 && mbit m i)
  mof 24 (((cellList d).filter (fun n => hit (n - 1) || hit n || (2 ≤ n && hit (n - 2)))).map (· - 1))

/-- FETs that EIS_PLAN claims for passive excitation, in force or waiting (R236). -/
def eisFets (d : Dev) : BitVec 24 :=
  mof 24 ((List.range 24).filter (fun i => nth d.bal.owner i 0 == 0x40)) |||
    (match holdingPlan d with
     | some p => if p.source = 3 then p.fets else 0
     | none => 0)

/-- The slot that a table of slots holds under a number. -/
def inTable (t : List (Nat × Slot)) (i : Nat) : Option Slot := akey t i

/-- Some DARK entry would hold a FET that EIS_PLAN claims (R236). -/
def darkConflict (d : Dev) (t : List (Nat × Slot)) : Bool :=
  t.any (fun e => e.2.action == 3 &&
    (match inTable t (e.2.arg.toNat % 16) with
     | some c => c.action == 1 && (darkHeld d c.arg &&& eisFets d) != 0
     | none => false))

/-- The load would lower f_rec of a measured cell below 2.5 times its highest f_k (R262). -/
def rateConflict (d : Dev) (p : Nat) (t : List (Nat × Slot)) : Bool :=
  match holdingPlan d with
  | none => false
  | some e =>
    let others := ([0, 1, 2, 3].filter (· != p)).flatMap (fun q => (planTable d q).map (fun x => x.2))
    let top : Rat := ((e.tones.map (fun x => x.1)).foldl max 0 : Nat) * extHz d.tb.inc / 65536
    (planCells e).any (fun n =>
      let new := recRate d (others ++ t.map (fun x => x.2)) (usesShunt d e) n
      decide (new < 5 / 2 * top) && decide (new < recRate d (loadedSlots d) (usesShunt d e) n))

/-- START is already past (R117). -/
def startPast (d : Dev) (start : Nat) : Bool := start != 0 && decide (2 ^ 31 ≤ (start + 2 ^ 32 - d.tb.period) % 2 ^ 32)

/-- An entry of the command has its reserved bit set (R13). -/
def reservedSet (m : Msg) : Bool := (List.range (planSlots m)).any (fun j => bit (req m (5 + 3 * j)) 25)

/-- The checks of a LOAD in the order of R449; t is the table that the entries would form. -/
def planCheck (d : Dev) (m : Msg) (t : List (Nat × Slot)) : Option Status :=
  let p := planNo m
  let es := planEntries m
  let own := (t.filter (fun e => e.2.action == 1)).map (fun e => e.1)
  let darks := (es.filter (fun s => s.action == 3)).map (fun s => s.arg.toNat % 16)
  let mark := fun (pin : Nat) => es.any (fun s => s.mark.testBit (pin - 1)) && gpioHolder d pin != 0 && gpioHolder d pin != 4
  firstFail [
    (decide (16 < es.length), stSLOTS),
    (es.any (entryAbsent d), stABSENT),
    (!onlyBits 0xF000001F (req m 1) || reservedSet m ||
      es.any (entryBad d p own) || decide (darks.dedup.length < darks.length), stRANGE),
    (itemN d 0x0102 == 1 && es.any (fun s => s.action == 1 || s.action == 3), stSTATE),
    (startPast d (req m 2).toNat, stSTATE),
    (decide (t.length < es.length), stSLOTS),
    (es.any (fun s => s.action == 3 && !own.contains (s.arg.toNat % 16)), stCONFLICT 1 0x21),
    (darkConflict d t || rateConflict d p t, stCONFLICT 1 0x40),
    (mark 1, stCONFLICT 2 (gpioHolder d 1)),
    (mark 2, stCONFLICT 2 (gpioHolder d 2))]

/-- The table that entries form: each the lowest free slot, CONVERT phases rounded (R115, R449). -/
def planForm (d : Dev) (m : Msg) : List (Nat × Slot) :=
  ((freeSlots d (planNo m)).zip (planEntries m)).map (fun e =>
    (e.1, if e.2.action = 1 then { e.2 with phase := roundPhase d.tb.mult e.2.asked } else e.2))

/-- Slot i as it is held: waiting, else in force. -/
def heldSlot (d : Dev) (i : Nat) : Option Slot := akey ([0, 1, 2, 3].flatMap (planTable d)) i

/-- Words of a slot as read back (R113, R115): a DARK slot shows its lead point. -/
def slotBack (d : Dev) (s : Slot) : List Word :=
  if s.action = 3 then
    let i := s.arg.toNat % 16
    match heldSlot d i with
    | some c =>
      let points := if slotAt d i = some c then leadPoints d i c else leadsNow d c
      slotWords { s with asked := Word.of (points.2 % 2 ^ 32).toNat, div := c.div, offset := c.offset }
    | none => slotWords s
  else slotWords { s with asked := s.phase }

/-- SWITCH (R117, R448): the meridian at which the plan takes or took effect. -/
def planSwitch (d : Dev) (p : Nat) : Nat :=
  match d.tb.loads.find? (fun (l : PlanLoad) => l.plan == p) with
  | some l => if l.start = 0 || l.start = d.tb.period then (d.tb.period + 1) % 2 ^ 32 else l.start
  | none => nth d.tb.switchAt p 0

/-- The plan that holds slot i: one that waits for its meridian, else the one in force (R117, R448). -/
def slotHolder (d : Dev) (i : Nat) : Option Nat :=
  ((heldSlot d i).map (fun s => s.plan)) <|> ((slotAt d i).map (fun s => s.plan))

/-- The response of TRANSIT_PLAN (R448). -/
def planData (d : Dev) (p : Nat) : List Word :=
  let held := (List.range 16).filter (fun i => (slotHolder d i).isSome)
  let mine := planTable d p
  let own := (List.range 16).filter (fun i => mine.any (fun e => e.1 == i))
  let map := (held.map (fun i => (slotHolder d i).getD 0 * 4 ^ i)).sum
  [Word.of ((mof 16 held).toNat * 2 ^ 16 + (mof 16 own).toNat), Word.of (planSwitch d p), Word.of map] ++
    own.flatMap (fun i => (akey mine i).elim [] (slotBack d))

/-- A LOAD accepted: it waits for its meridian, claims its MARK pins, and its record changes (R117, R118, R443). -/
def planLoadIn (c : Ctx) (m : Msg) (t : List (Nat × Slot)) (d : Dev) : Dev :=
  let p := planNo m
  let old := planRecord d p
  let d1 := { d with tb.loads := d.tb.loads.filter (fun (l : PlanLoad) => l.plan != p) ++
                                 [{ plan := p, start := (req m 2).toNat, slots := t }] }
  let d2 := forEach [1, 2] (fun pin d =>
    if t.any (fun e => e.2.mark.testBit (pin - 1)) then gpioClaim 4 pin d else d) d1
  jchange c (0x06F0 + p) old (planRecord d2 p) d2

/-- TRANSIT_PLAN by its OP (R448, R449). -/
def transitPlan (m : Msg) (d : Dev) : Ans :=
  let op := bf (req m 1) 30 2
  let t := planForm d m
  if op = 0 then
    match planCheck d m t with
    | some e => refuse e d
    | none => let d1 := planLoadIn (msgCtx d 0x21 m) m t d; okWith (planData d1 (planNo m)) d1
  else
    match firstFail [(op != 1 || !onlyBits 0xF000001F (req m 1) || reservedSet m, stRANGE), (planSlots m != 0 || req m 2 != 0, stSTATE)] with
    | some e => refuse e d
    | none => okWith (planData d (planNo m)) d

/-- What the command table says of TRANSIT_PLAN (R433). -/
def planCmd : Cmd0 := ⟨0x21, fun m => lenIs (4 + 3 * planSlots m) m, true, false, false⟩

end Sys2Proof.Machine
end

