-- ==== Sys2Proof/Machine/CmdMeas.lean ====
section
/-! DEFINITION. Measurement and auxiliary commands (14_aeddo_command_reference.md R448 to R455). -/

namespace Sys2Proof.Machine

/-- TRANSIT_PLAN_LOAD (R448, R449). -/
def execTransitPlanLoad (m : Msg) (s : State) : Host.Outcome State Fault Refusal :=
  runDev s (runCmd planCmd m (transitPlan m))

/-- TRANSIT_PLAN_QUERY (R448, R449). -/
def execTransitPlanQuery (m : Msg) (s : State) : Host.Outcome State Fault Refusal :=
  runDev s (runCmd planCmd m (transitPlan m))

/-! ## Records -/

/-- Channels of a mask word, ascending. -/
def chanMask (w : Word) : List Nat := mlist (BitVec.ofNat 25 (bf w 0 25))

/-- A statistic in sample-word form (R450): uV, or 10 nV for the shunt, in 20 nV units with SH_WIDE where it needs it. -/
def statForm (c : Nat) (w : Word) : Word :=
  let v := w.toInt
  if c = 24 && (decide (8388607 < v) || decide (v < -8388607)) then Word.of (ufield 24 (rdiv v 2) * 256 + 64)
  else Word.of (ufield 24 v * 256)

/-- Statistics words of a channel of the latest STATS job (R450): MIN, MAX, MEAN and the RMS deviation. -/
def statWords (d : Dev) (c : Nat) : List Word :=
  match (d.eng.statsRes.map (fun r => nth r.2 c [])).getD [] with
  | [a, b, e, r] => [statForm c a, statForm c b, statForm c e, r]
  | _ => List.replicate 4 0x80000000

/-- READ_CELLS (R450). -/
def execReadCells (m : Msg) (s : State) : Host.Outcome State Fault Refusal :=
  runDev s (runCmd ⟨0x22, lenIs 3, false, false, false⟩ m (fun d =>
    let w := req m 1
    let cs := chanMask w
    match firstFail [(maskAbsent d 0x0101 w, stABSENT), (!onlyBits 0x81FFFFFF w, stRANGE), (!d.conv.visSince, stSTATE)],
        latestRec d with
    | some e, _ => refuse e d
    | none, none => refuse stSTATE d
    | none, some r =>
      okWith ([Word.of r.tseq] ++ logWords r ++ cs.map (recWord r) ++
        (if bit w 31 then cs.flatMap (statWords d) ++ [(d.eng.statsRes.map (fun x => Word.of x.1)).getD 0x80000000]
         else [])) d))

/-- Visible records from a record on, in TSEQ order (R451). -/
def recsFrom (d : Dev) (r : Rec) : List Rec :=
  d.conv.live.filter (fun (x : Rec) => x.epoch == r.epoch && !serialLater r.tseq x.tseq)

/-- The SRAM object of a record's sample of channel c. -/
def sampleKey (d : Dev) (r : Rec) (c : Nat) : Nat := r.tseq % historyDepth d.part * 32 + c

/-- A sample word as history delivers it: 0x80000000 where its SRAM word is not correctable (R480). -/
def historyWord (d : Dev) (r : Rec) (c : Nat) : Word :=
  if sramFailed d 0 (sampleKey d r c) then 0x80000000 else recWord r c

/-- Words of a record in a history response (R451). -/
def historyWords (d : Dev) (log : Bool) (cs : List Nat) (r : Rec) : List Word :=
  (if log then logWords r else []) ++ cs.map (historyWord d r)

/-- Records that a HIST_PACK job reads. -/
def packRecs (d : Dev) (x : Desc) : List Rec := ((recOf d x.win).elim [] (recsFrom d)).take x.len

/-- The response of HISTORY_READ that a HIST_PACK job has packed (R451): ARG holds the mask and LOG. -/
def historyData (d : Dev) (x : Desc) : List Word :=
  let a := Word.of x.arg
  let l := packRecs d x
  [Word.of x.win, Word.of l.length] ++ l.flatMap (historyWords d (bit a 31) (chanMask a))

/-- The reads of a HIST_PACK job (R480). -/
def historyReads (d : Dev) (x : Desc) : Dev :=
  sramRead 0 ((packRecs d x).flatMap (fun r => (chanMask (Word.of x.arg)).map (sampleKey d r))) d

/-- HISTORY_READ (R298, R451): it is answered when its HIST_PACK job has completed. -/
def execHistoryRead (m : Msg) (s : State) : Host.Outcome State Fault Refusal :=
  runDev s (runCmd ⟨0x23, lenIs 5, false, false, false⟩ m (fun d =>
    let w := req m 2
    let cs := chanMask w
    let per := cs.length + (if bit w 31 then 2 else 0)
    let first := (req m 1).toNat
    match firstFail [(maskAbsent d 0x0101 w, stABSENT),
        (!onlyBits 0x81FFFFFF w || !onlyBits 0xFFFF (req m 3) || req m 3 == 0 || per == 0, stRANGE)], recOf d first with
    | some e, _ => refuse e d
    | none, none => refuse stRANGE d
    | none, some r =>
      let n := min (req m 3).toNat (min (recsFrom d r).length (251 / max 1 per))
      let j := createJob { Desc.reset with kernel := 6, cls := 5, win := first, len := n, arg := w.toNat, cost := 8 * n * per } d
      match j.2 with
      | some id => .long id j.1
      | none => .forced stQFULL [] j.1))

/-! ## Captures -/

/-- OP of CAPTURE_ARM. -/
def capOp (m : Msg) : Nat := bf (req m 1) 30 2

/-- TRIG. -/
def capTrig (m : Msg) : Nat := bf (req m 1) 24 3

/-- A capture is in use. -/
def capUsed (d : Dev) (c : Nat) : Bool := (capAt d c).state != 0

/-- Captures in use. -/
def capsInUse (d : Dev) : List Nat := [0, 1, 2, 3].filter (capUsed d)

/-- Records that a capture holds (R154). -/
def capSize (d : Dev) (c : Nat) : Nat := (capAt d c).pre + (capAt d c).post

/-- The first capture of a list with the largest value of f. -/
def firstMost (f : Nat → Nat) (l : List Nat) : Nat := (l.find? (fun c => l.all (fun x => decide (f x ≤ f c)))).getD 0

/-- The capture armed earliest (R453). -/
def firstArmed (d : Dev) (l : List Nat) : Nat :=
  (l.find? (fun c => l.all (fun x => decide ((capAt d c).order ≤ (capAt d x).order)))).getD 0

/-- EVENT names a source of an absent unit (R453). -/
def capAbsent (d : Dev) (m : Msg) : Bool := capTrig m == 3 && srcAbsent d.part (bf (req m 1) 0 7)

/-- The checks of an ARM after that of its EVENT (R153, R154, R453). -/
def armCheck (d : Dev) (m : Msg) : Option Status :=
  let size := (req m 2).toNat + (req m 3).toNat
  let used := capsInUse d
  let half := historyDepth d.part / 2
  let pin := capTrig m
  match firstFail [
    (decide (4 < capTrig m) || size == 0 || decide (half < size), stRANGE),
    (used.length == 4, stCONFLICT 3 (firstArmed d used)),
    (decide (half < size + (used.map (capSize d)).sum), stCONFLICT 3 (firstMost (capSize d) used))] with
  | some e => some e
  | none => if pin = 1 || pin = 2 then gpioCheck d 3 pin else none

/-- The response of CAPTURE_ARM (R452). -/
def capData (d : Dev) (c : Nat) : List Word :=
  let x := capAt d c
  let on := decide (2 ≤ x.state)
  let fr := x.state == 3
  [Word.of (c * 2 ^ 30 + x.state * 2 ^ 28 + b2n x.truncated * 2 ^ 27), if on then Word.of x.trigTseq else 0,
   if fr then Word.of x.first else 0, if fr then Word.of x.last else 0, if fr then Word.of x.preValid else 0]

/-- ARM: the lowest free capture (R152). -/
def armCapture (m : Msg) (d : Dev) : Dev × Nat :=
  let c := ([0, 1, 2, 3].find? (fun c => !capUsed d c)).getD 0
  let t := capTrig m
  let d1 := if t = 1 || t = 2 then gpioClaim 3 t d else d
  let d2 := modCap c (fun _ => { Capture.reset with
    state := 1, pre := (req m 2).toNat, post := (req m 3).toNat, trig := t, edge := bit (req m 1) 16
    event := bf (req m 1) 0 7, order := d.conv.armCount }) { d1 with conv.armCount := d.conv.armCount + 1 }
  (if t = 4 then triggerCap c d2 else d2, c)

/-- RELEASE (R453): the claim ends where no other capture waits on the pin; records that nothing pins any more and that
a restart had ended go. -/
def releaseCapture (c : Nat) (d : Dev) : Dev :=
  let t := (capAt d c).trig
  let d1 := modCap c (fun _ => Capture.reset) d
  let d2 := if (t = 1 || t = 2) && !(capsInUse d1).any (fun x => (capAt d1 x).trig == t) then gpioRelease 3 t d1 else d1
  { d2 with conv.live := d2.conv.live.filter (fun (r : Rec) => r.epoch == d2.conv.epoch || pinned d2 r) }

/-- CAPTURE_ARM by its OP (R452, R453). -/
def captureCmd (m : Msg) (d : Dev) : Ans :=
  let op := capOp m
  let c := bf (req m 1) 28 2
  if capAbsent d m then refuse stABSENT d
  else if op = 3 || !onlyBits 0xF701007F (req m 1) then refuse stRANGE d
  else if op = 0 then
    match armCheck d m with
    | some e => refuse e d
    | none => let r := armCapture m d; okWith (capData r.1 r.2) r.1
  else if !capUsed d c then refuse stSTATE d
  else if op = 1 then let d1 := releaseCapture c d; okWith (capData d1 c) d1
  else okWith (capData d c) d

/-- What the command table says of CAPTURE_ARM (R433). -/
def capCmd : Cmd0 := ⟨0x24, lenIs 5, false, false, false⟩

/-- CAPTURE_ARM (R152 to R154, R452, R453). -/
def execCaptureArm (m : Msg) (s : State) : Host.Outcome State Fault Refusal := runDev s (runCmd capCmd m (captureCmd m))

/-- CAPTURE_RELEASE (R155, R452, R453). -/
def execCaptureRelease (m : Msg) (s : State) : Host.Outcome State Fault Refusal := runDev s (runCmd capCmd m (captureCmd m))

/-- CAPTURE_QUERY (R452, R453). -/
def execCaptureQuery (m : Msg) (s : State) : Host.Outcome State Fault Refusal := runDev s (runCmd capCmd m (captureCmd m))

/-! ## Auxiliary commands -/

/-- Entries of AUX_TABLE_LOAD (R454). -/
def auxEntries (m : Msg) : List Word := (List.range (bf (req m 1) 0 8)).map (fun i => req m (i + 2))

/-- Length of every AUX slot's entry number, held in force or waiting, plus 1 (R168). -/
def auxSlotsNeed (d : Dev) : Nat :=
  let need := fun (s : Slot) => if s.action = 2 then s.arg.toNat + 1 else 0
  max ((d.tb.slots.map (fun (s : Option Slot) => (s.map need).getD 0)).foldl max 0)
    ((d.tb.loads.flatMap (fun (l : PlanLoad) => l.slots.map (fun e => need e.2))).foldl max 0)

/-- AUX_TABLE_LOAD (R168, R454). -/
def execAuxTableLoad (m : Msg) (s : State) : Host.Outcome State Fault Refusal :=
  runDev s (runCmd ⟨0x28, fun m => lenIs (3 + bf (req m 1) 0 8) m, true, false, false⟩ m (fun d =>
    let t := auxEntries m
    match firstFail [
        (!onlyBits 0xFF (req m 1) || decide (64 < t.length) ||
          t.any (fun w => decide (0x30 < entrySrc w) || bf w 0 8 != 0), stRANGE),
        (t.any (fun w => decide (0x10 ≤ entrySrc w) && decide (entrySrc w ≤ 0x27) && !cellPresent d (entrySrc w - 0x0F)), stABSENT),
        (decide (t.length < auxSlotsNeed d), stCONFLICT 1 0x21)] with
    | some e => refuse e d
    | none =>
      let d1 := sarKick { d with aux.nextTable := some t }
      okWith [Word.of t.length] (jchange (msgCtx d 0x28 m) 0x02F0 (recordOf (auxTableSet d)) (recordOf t) d1)))

/-- What AUX_READ returns of an entry (R455). -/
def auxReadWords (d : Dev) (e : Nat) : List Word :=
  match if d.aux.nextTable.isSome then none else akey d.aux.last e with
  | some x => [x.result, Word.of x.period]
  | none => [Word.of (e * 2 ^ 10), 0]

/-- AUX_READ (R455). -/
def execAuxRead (m : Msg) (s : State) : Host.Outcome State Fault Refusal :=
  runDev s (runCmd ⟨0x29, lenIs 4, false, false, false⟩ m (fun d =>
    let es := mlist (BitVec.ofNat 64 ((req m 1).toNat + (req m 2).toNat * 2 ^ 32))
    if es.any (fun e => decide ((auxTableSet d).length ≤ e)) then refuse stRANGE d
    else okWith (es.flatMap (auxReadWords d)) d))

end Sys2Proof.Machine
end

