-- ==== Sys2Proof/Machine/CmdBal.lean ====
section
/-! DEFINITION. Balancing commands (08_balancing.md R228 to R240, 14_aeddo_command_reference.md R457, R458). -/

namespace Sys2Proof.Machine

/-! ## Passive balancing -/

/-- Cells that a balancing command names, from 1. -/
def balCells (m : Msg) : List Nat := (mlist (BitVec.ofNat 24 (bf (req m 1) 0 24))).map (· + 1)

/-- Cells whose FET BAL_SET or BAL_PLAN holds (R457): one feature (R228). -/
def balHeldMask (d : Dev) : Nat := (mof 24 ((List.range 24).filter (fun i => nth d.bal.owner i 0 == 0x38))).toNat

/-- The plan that waits for its meridian claims its units already (R245, R261). -/
def planWaits (d : Dev) (f : EisPlan → Bool) : Bool :=
  match d.eis.next with
  | some (some p) => f p
  | _ => false

/-- EIS_PLAN holds the FET of cell n (R245). -/
def eisHoldsFet (d : Dev) (n : Nat) : Bool :=
  fetExcited d n || planWaits d (fun p => p.source == 3 && mbit p.fets (n - 1))

/-- EIS_PLAN holds the driver of bank b, from 0 (R245). -/
def eisHoldsBank (d : Dev) (b : Nat) : Bool :=
  (bank d b).owner == 0x40 || planWaits d (fun p => p.source == 2 && mbit p.banks b)

/-- The checks that BAL_SET and BAL_PLAN share (R228, R229): cells with their duties, and whether a field lies outside
its range. -/
def balCheck (d : Dev) (m : Msg) (l : List (Nat × Nat)) (bad : Bool) : Option Status :=
  firstFail [
    (l.any (fun e => !cellPresent d e.1), stABSENT),
    (!onlyBits 0xFFFFFF (req m 1) || bad || l.any (fun e => decide (256 < e.2)), stRANGE),
    (l.any (fun e => e.2 != 0 && !(itemN d 0x0101).testBit (e.1 - 1)), stSTATE),
    (l.any (fun e => chFenced d e.1 || bankFenced d (bankOf e.1)), stFENCED),
    (l.any (fun e => eisHoldsFet d e.1), stCONFLICT 1 0x40)]

/-- The duty of cell n set by a command, with its entry (R228, R444). -/
def setDuty (c : Ctx) (n v : Nat) (d : Dev) : Dev :=
  giveDuty n v (jchange c (0x0480 + n) (Word.of (nth d.bal.duty (n - 1) 0)) (Word.of v) d)

/-- The balancing timer starts again (R231, R251). -/
def restartTimer (d : Dev) : Dev := { d with bal.timeout := false, bal.timerOn := itemN d 0x0407 != 0 }

/-- Duty of named cell j, from 0, of a BAL_SET. -/
def setDuties (m : Msg) : List (Nat × Nat) := (balCells m).zipIdx.map (fun e => (e.1, (req m (2 + e.2)).toNat))

/-- BAL_SET (R228, R231, R457). -/
def execBalSet (m : Msg) (s : State) : Host.Outcome State Fault Refusal :=
  runDev s (runCmd ⟨0x38, fun m => lenIs (3 + (balCells m).length) m, false, false, false⟩ m (fun d =>
    let l := setDuties m
    match balCheck d m l false with
    | some e => refuse e d
    | none =>
      let d1 := forEach l (fun e d =>
        setDuty (msgCtx d 0x38 m) e.1 e.2 { d with bal.faultOc := mset d.bal.faultOc (e.1 - 1) false }) d
      okWith [Word.of (balHeldMask d1)] (restartTimer d1)))

/-- Entry j of a BAL_PLAN: duty, and plan. -/
def planOf (m : Msg) (j : Nat) : Nat × Plan :=
  let w := req m (2 + 3 * j)
  (bf w 16 9, { vStop := bf w 0 16, qT := (req m (3 + 3 * j)).toNat, limit := bf (req m (4 + 3 * j)) 0 16, run := 0 })

/-- A field of BAL_PLAN's entry j lies outside its range (R457). -/
def planFieldBad (m : Msg) (j : Nat) : Bool :=
  let p := (planOf m j).2
  !onlyBits 0x1FFFFFF (req m (2 + 3 * j)) || !onlyBits 0xFFFF (req m (4 + 3 * j)) || p.limit == 0 ||
    (p.vStop != 0 && (p.vStop < 1000 || 5500 < p.vStop))

/-- A cell's plan starts (R229): BAL_Q of the cell is cleared and accumulates from here. -/
def startCellPlan (c : Ctx) (n : Nat) (p : Nat × Plan) (d : Dev) : Dev :=
  let d1 := setDuty c n p.1 d
  { d1 with bal.plans := d1.bal.plans.set (n - 1) (some p.2), bal.q := d1.bal.q.set (n - 1) 0
            bal.qOn := mset d1.bal.qOn (n - 1) true }

/-- BAL_PLAN (R229, R457). -/
def execBalPlan (m : Msg) (s : State) : Host.Outcome State Fault Refusal :=
  runDev s (runCmd ⟨0x39, fun m => lenIs (3 + 3 * (balCells m).length) m, false, false, false⟩ m (fun d =>
    let l := (balCells m).zipIdx
    match balCheck d m (l.map (fun e => (e.1, (planOf m e.2).1))) (l.any (fun e => planFieldBad m e.2)) with
    | some e => refuse e d
    | none =>
      let d1 := forEach l (fun e d => startCellPlan (msgCtx d 0x39 m) e.1 (planOf m e.2) d) d
      okWith [Word.of (balHeldMask d1)] d1))

/-! ## Active bank drivers -/

/-- Banks that an ACTIVE_SET names, from 0, each with its command in mA. -/
def activeList (m : Msg) : List (Nat × Int) :=
  (mlist (BitVec.ofNat 4 (bf (req m 1) 0 4))).zipIdx.map (fun e => (e.1, sext 16 (bf (req m (2 + e.2)) 0 16)))

/-- The words of the commands carry no reserved bit. -/
def activeWordsOk (m : Msg) : Bool := (m.body.drop 1).all (onlyBits 0xFFFF)

/-- The checks of ACTIVE_SET (R240, R458). -/
def activeCheck (d : Dev) (m : Msg) (l : List (Nat × Int)) : Option Status :=
  let pin := itemN d 0x0A15
  firstFail [
    (!d.part.hasBanks, stABSENT),
    (!onlyBits 0xF (req m 1) || !activeWordsOk m ||
      l.any (fun e => e.2 % 10 != 0 || decide (e.2 < -3000) || decide (3000 < e.2)), stRANGE),
    (itemN d 0x0433 == 0 || itemN d 0x0434 == 0 || !active d, stSTATE),
    (l.any (fun e => bankFenced d (e.1 + 1)), stFENCED),
    (l.any (fun e => eisHoldsBank d e.1), stCONFLICT 1 0x40),
    (l.any (fun e => e.2 != 0) && !anyDriver d && pin != 0 && gpioHolder d pin != 0 && gpioHolder d pin != 6,
      stCONFLICT 2 (gpioHolder d pin))]

/-- The command of bank b, from 0, set with its entry (R240, R444): 0 turns the driver off and releases its claim. -/
def setBank (c : Ctx) (b : Nat) (v : Int) (d : Dev) : Dev :=
  let d1 := jchange c (0x04A1 + b) (itemWord (bank d b).cmd) (itemWord v) d
  modBank b (fun x =>
    let y := { x with cmd := v, limit := false, faultErr := false, faultSense := false }
    if v = 0 then { y with on := false, applied := 0, owner := 0 }
    else if x.on then { y with owner := 0x3A }
    else { y with on := true, applied := 0, owner := 0x3A, badRun := 0, devRun := 0 }) d1

/-- Banks whose driver ACTIVE_SET holds (R457). -/
def bankHeldMask (d : Dev) : Nat := (mof 4 ((List.range 4).filter (fun b => (bank d b).owner == 0x3A))).toNat

/-- ACTIVE_SET (R231, R240, R457, R458). -/
def execActiveSet (m : Msg) (s : State) : Host.Outcome State Fault Refusal :=
  runDev s (runCmd ⟨0x3A, fun m => lenIs (3 + mcount (BitVec.ofNat 4 (bf (req m 1) 0 4))) m, false, false, false⟩ m (fun d =>
    let l := activeList m
    match activeCheck d m l with
    | some e => refuse e d
    | none =>
      let pin := itemN d 0x0A15
      let d1 := if l.any (fun e => e.2 != 0) && !anyDriver d && pin != 0 then gpioClaim 6 pin d else d
      let d2 := forEach l (fun e d => setBank (msgCtx d 0x3A m) e.1 e.2 d) d1
      okWith [Word.of (bankHeldMask d2)] (restartTimer (releaseAdEn d2))))

end Sys2Proof.Machine
end

