-- ==== Sys2Proof/Machine/CmdEis.lean ====
section
/-! DEFINITION. Impedance commands (09_impedance.md R258 to R263, R272, R277,
14_aeddo_command_reference.md R459 to R461). -/

namespace Sys2Proof.Machine

/-! ## EIS_PLAN -/

/-- SOURCE of a plan block (R258). -/
def eisSource (m : Msg) : Nat := bf (req m 1) 28 4

/-- NFREQ. -/
def eisNfreq (m : Msg) : Nat := bf (req m 1) 24 4

/-- The plan that a block lays out (R258). -/
def eisForm (m : Msg) : EisPlan :=
  let w2 := req m 3
  { source := eisSource m, cells := BitVec.ofNat 24 (bf (req m 1) 0 24), win := (req m 2).toNat
    ofs := [bf w2 0 8, bf w2 8 8, bf w2 16 8, bf w2 24 8], fets := BitVec.ofNat 24 (bf (req m 4) 4 24)
    banks := BitVec.ofNat 4 (bf (req m 4) 0 4)
    tones := (List.range (eisNfreq m)).map (fun k =>
      ((req m (5 + 2 * k)).toNat, bf (req m (6 + 2 * k)) 16 16, bf (req m (6 + 2 * k)) 6 10))
    block := m.body }

/-- A reserved bit, or a field that is 0 for this source, is not 0 (R258, R260). -/
def eisFieldBad (m : Msg) (p : EisPlan) : Bool :=
  !onlyBits 0x0FFFFFFF (req m 4) ||
    (List.range (eisNfreq m)).any (fun k => bf (req m (6 + 2 * k)) 0 6 != 0) ||
    (p.source != 2 && req m 3 != 0) ||
    (p.source != 3 && p.source != 4 && p.fets != 0) ||
    (p.source != 2 && p.source != 4 && p.banks != 0) ||
    (p.source != 2 && p.source != 3 && p.tones.any (fun t => t.2.1 != 0)) ||
    (p.source != 2 && p.tones.any (fun t => t.2.2 != 0))

/-- f_k in Hz (R258). -/
def toneHz (d : Dev) (ratio : Nat) : Rat := (ratio : Rat) * extHz d.tb.inc / 65536

/-- Two of the ratios lie closer than 8 cycles a window (R260). -/
def tonesClose (win : Nat) : List Nat → Bool
  | [] => false
  | a :: t => t.any (fun b => decide ((max a b - min a b) * win < 8 * 65536)) || tonesClose win t

/-- The frequencies and the window of a plan lie outside what R260 allows. -/
def eisTonesBad (d : Dev) (p : EisPlan) : Bool :=
  let f := extHz d.tb.inc
  let rs := p.tones.map (fun t => t.1)
  let top := (planCells p).map (recRate d (loadedSlots d) (usesShunt d p))
  decide (10 * (p.win : Rat) < f) || decide (60 * f < (p.win : Rat)) ||
    rs.any (fun r => decide (toneHz d r < 1 / 20) || decide (4000 < toneHz d r) ||
      top.any (fun g => decide (2 / 5 * g < toneHz d r)) || decide (r * p.win < 8 * 65536)) ||
    tonesClose p.win rs

/-- What R260 asks of an excited source is not met. -/
def eisExciteBad (d : Dev) (p : EisPlan) : Bool :=
  let r0 := (nth p.tones 0 (0, 0, 0)).1
  if p.source = 2 then
    p.tones.any (fun t => decide (2000 < toneHz d t.1)) || decide (100 < (p.tones.map (fun t => t.2.2)).sum)
  else if p.source = 3 then
    decide (2000 < toneHz d r0) || p.tones.any (fun t => t.1 % r0 != 0 || t.1 / r0 % 2 == 0) || p.cells != p.fets ||
      decide (itemN d 0x0405 * 10 < ((mlist p.fets).map (fun i => estOf d (i + 1))).sum)
  else false

/-- FETs that a loaded DARK slot holds (R236). -/
def loadedDarkFets (d : Dev) : BitVec 24 :=
  (List.range 16).foldl (fun (a : BitVec 24) i =>
    match heldSlot d i with
    | some s =>
      if s.action = 3 then
        match heldSlot d (s.arg.toNat % 16) with
        | some c => if c.action = 1 then a ||| darkHeld d c.arg else a
        | none => a
      else a
    | none => a) 0

/-- The checks of EIS_PLAN in the order of R260. -/
def eisCheck (d : Dev) (m : Msg) (p : EisPlan) : Option Status :=
  let absent := 2 ^ 24 - 1 - d.part.cellMask
  firstFail [
    ((p.source == 2 || p.banks != 0) && !d.part.hasBanks || (p.cells.toNat ||| p.fets.toNat) &&& absent != 0, stABSENT),
    (decide (4 < p.source) || eisNfreq m == 0 || decide (d.part.freqs < eisNfreq m) || eisFieldBad m p || eisTonesBad d p ||
      eisExciteBad d p || decide (planBudget d d.power.op < planLoad d (loadedSlots d) p), stRANGE),
    (!active d || (mlist p.cells).any (fun i => !(itemN d 0x0101).testBit i) ||
      (p.source != 3 && (!(itemN d 0x0101).testBit 24 || itemN d 0x0504 == 0)), stSTATE),
    ((mlist p.banks).any (fun b => bankFenced d (b + 1)) ||
      (mlist p.fets).any (fun i => chFenced d (i + 1) || bankFenced d (bankOf (i + 1))), stFENCED),
    (p.source == 2 && (mlist p.banks).any (fun b => (bank d b).owner == 0x3A), stCONFLICT 1 0x3A),
    (p.source == 3 && (mlist p.fets).any (fun i => nth d.bal.owner i 0 == 0x38), stCONFLICT 1 0x38),
    (p.source == 3 && (loadedDarkFets d &&& p.fets) != 0, stCONFLICT 1 0x21),
    (decide (8 < mcount p.banks + mcount p.fets), stCONFLICT 1 0x40)]

/-- A plan, or none, waits for the next meridian, with its entry (R261, R443). -/
def eisAccept (c : Ctx) (np : Option EisPlan) (d : Dev) : Dev :=
  jchange c 0x05F0 (readEisItem d 0x05F0) (recordOf (np.elim [] (fun p => p.block))) { d with eis.next := some np }

/-- rsp 2 of EIS_PLAN (R459). -/
def eisData (d : Dev) (np : Option EisPlan) : List Word :=
  [Word.of (eisCode d * 2 ^ 30 + np.elim 0 (loadCode d (loadedSlots d)))]

/-- EIS_PLAN (R258 to R261, R459). -/
def execEisPlan (m : Msg) (s : State) : Host.Outcome State Fault Refusal :=
  runDev s (runCmd ⟨0x40, fun m => lenIs (6 + 2 * eisNfreq m) m, true, false, false⟩ m (fun d =>
    let c := msgCtx d 0x40 m
    if d.part.freqs = 0 then refuse stABSENT d
    else if eisSource m = 0 then okWith (eisData d none) (eisAccept c none d)
    else match eisCheck d m (eisForm m) with
      | some e => refuse e d
      | none => okWith (eisData d (some (eisForm m))) (eisAccept c (some (eisForm m)) d)))

/-! ## EIS_READ and TEMP_TABLE_LOAD -/

/-- The record of a cell and index, 0 but for CELL, K and T_EST where there is no result (R460). -/
def eisRecordOf (d : Dev) (n k : Nat) : List Word :=
  (akey d.eis.results (8 * (n - 1) + k)).getD [0, Word.of (n * 2 ^ 27 + k * 2 ^ 24), 0, 0, 0, 0x80000000]

/-- EIS_READ (R460). -/
def execEisRead (m : Msg) (s : State) : Host.Outcome State Fault Refusal :=
  runDev s (runCmd ⟨0x41, lenIs 3, false, false, false⟩ m (fun d =>
    let cells := mlist (BitVec.ofNat 24 (bf (req m 1) 0 24))
    let ks := mlist (BitVec.ofNat 8 (bf (req m 1) 24 8))
    if d.part.freqs = 0 || cells.any (fun i => decide (d.part.cells ≤ i)) then refuse stABSENT d
    else if 42 < cells.length * ks.length then refuse stRANGE d
    else okWith (cells.flatMap (fun i => ks.flatMap (eisRecordOf d (i + 1)))) d))

/-- Signed numbers that strictly rise, or strictly fall. -/
def strictly (l : List Int) : Bool := decide (l.Pairwise (· < ·)) || decide (l.Pairwise (· > ·))

/-- TEMP_TABLE_LOAD (R277, R461). -/
def execTempTableLoad (m : Msg) (s : State) : Host.Outcome State Fault Refusal :=
  runDev s (runCmd ⟨0x42, lenIs 20, true, false, false⟩ m (fun d =>
    let t := bf (req m 1) 24 8
    let f := (req m 2).toNat
    let pts := tablePoints m.body
    if d.part.freqs = 0 then refuse stABSENT d
    else if 1 < t || !onlyBits 0xFFFF0000 (req m 1) || f < 50 || 4000000 < f ||
        pts.any (fun x => decide (x.2 < -5000) || decide (15000 < x.2)) || !strictly (pts.map (fun x => x.1)) then
      refuse stRANGE d
    else okWith [] (jchange (msgCtx d 0x42 m) (0x05F1 + t) (recordOf (nth d.eis.temp t [])) (recordOf m.body)
      { d with eis.temp := d.eis.temp.set t m.body })))

end Sys2Proof.Machine
end

