-- ==== Sys2Proof/Machine/Hmac.lean ====
section
/-! DEFINITION. SHA-256 and HMAC-SHA-256, which R525, R311 and R534 name, over lists of bytes; the hash is that of the
published standard (log 37), its constants computed from the roots that define them. -/

namespace Sys2Proof.Machine

/-! ## The constants -/

/-- The largest number below 2 ^ bits whose k-th power does not exceed x. -/
def rootFloor (k x : Nat) : Nat → Nat
  | 0 => 0
  | bits + 1 =>
    let hi := rootFloor k (x / 2 ^ k) bits * 2
    if (hi + 1) ^ k ≤ x then hi + 1 else hi

/-- The first 32 bits behind the binary point of the k-th root of p. -/
def rootBits (k p : Nat) : Word := Word.of (rootFloor k (p * 2 ^ (32 * k)) 40)

/-- The primes up to 311: 64 of them. -/
def hashPrimes : List Nat :=
  (List.range 312).filter (fun p => decide (2 ≤ p) && (List.range 18).all (fun q => decide (q < 2) || decide (p ≤ q) || p % q != 0))

/-- A constant for each round: cube roots. -/
def roundConstants : List Word := hashPrimes.map (rootBits 3)

/-- The hash of nothing, before any block: square roots. -/
def hashStart : List Word := (hashPrimes.take 8).map (rootBits 2)

/-! ## A block -/

/-- The exclusive or of a word turned right by each of the numbers. -/
def turned (w : Word) (l : List Nat) : Word := l.foldl (fun x n => x ^^^ w.rotateRight n) 0

/-- The word that joins a window of the last 16, oldest first. -/
def nextWord (win : List Word) : Word :=
  let at' := fun (i : Nat) => nth win i 0
  at' 0 + (turned (at' 1) [7, 18] ^^^ at' 1 >>> 3) + at' 9 + (turned (at' 14) [17, 19] ^^^ at' 14 >>> 10)

/-- What a round works on: the window of message words, and the eight words of the hash in two halves. -/
structure Mixing where
  win : List Word
  upper : List Word
  lower : List Word

/-- One round: the oldest word of the window is mixed in and leaves it. -/
def mix (m : Mixing) (k : Word) : Mixing :=
  let u := fun (i : Nat) => nth m.upper i 0
  let v := fun (i : Nat) => nth m.lower i 0
  let chosen := v 2 ^^^ (v 0 &&& (v 1 ^^^ v 2))
  let most := (u 0 &&& u 1) ||| (u 2 &&& (u 0 ||| u 1))
  let carry := nth m.win 0 0 + k + v 3 + chosen + turned (v 0) [6, 11, 25]
  { win := m.win.drop 1 ++ [nextWord m.win]
    upper := (carry + most + turned (u 0) [2, 13, 22]) :: m.upper.take 3
    lower := (carry + u 3) :: m.lower.take 3 }

/-- The hash after a block of 16 words. -/
def hashBlock (h block : List Word) : List Word :=
  let m := roundConstants.foldl mix ⟨block, h.take 4, h.drop 4⟩
  List.zipWith (fun x y => x + y) (m.upper ++ m.lower) h

/-! ## Messages -/

/-- The bytes of a message, then 0x80, zeros, and the message's length in bits in the last 8 bytes of a block. -/
def hashInput (b : List Nat) : List Nat :=
  let zeros := 63 - (b.length + 8) % 64
  b ++ 0x80 :: List.replicate zeros 0 ++ (List.range 8).map (fun i => b.length * 8 / 2 ^ (56 - 8 * i) % 256)

/-- Word i of a list of bytes, most significant byte first. -/
def byteWord (b : List Nat) (i : Nat) : Word := Word.of (((b.drop (4 * i)).take 4).foldl (fun a x => a * 256 + x) 0)

/-- SHA-256 of a list of bytes. -/
def sha256 (b : List Nat) : List Word :=
  let all := hashInput b
  (List.range (all.length / 64)).foldl (fun h i => hashBlock h ((List.range 16).map (fun j => byteWord all (16 * i + j)))) hashStart

/-- HMAC-SHA-256 with a 32-byte key (R534). -/
def hmac (key : List Word) (msg : List Nat) : List Word :=
  let pad := fun (m : Nat) => (bytesOf key ++ List.replicate 32 0).map (fun x => x ^^^ m)
  sha256 (pad 0x5C ++ bytesOf (sha256 (pad 0x36 ++ msg)))

end Sys2Proof.Machine
end

