-- ==== Sys2Proof/Machine/Ecdsa.lean ====
section
/-! DEFINITION. Verification of an ECDSA P-256 signature over SHA-256, which R311 names
(10_engines_and_flumes.md); the curve's numbers are those of the published standard (log 37). -/

namespace Sys2Proof.Machine

/-- The field's prime. -/
def p256P : Nat := 0xffffffff00000001000000000000000000000000ffffffffffffffffffffffff

/-- The order of the base point. -/
def p256N : Nat := 0xFFFFFFFF00000000FFFFFFFFFFFFFFFFBCE6FAADA7179E84F3B9CAC2FC632551

/-- The curve's constant b; a is -3. -/
def p256B : Nat := 0x5AC635D8AA3A93E7B3EBBD55769886BC651D06B0CC53B0F63BCE3C3E27D2604B

/-- The base point. -/
def p256G : Nat × Nat :=
  (0x6B17D1F2E12C4247F8BCE6E563A440F277037D812DEB33A0F4A13945D898C296,
   0x4FE342E2FE1A7F9B8EE7EB4A7C0F9E162BCE33576B315ECECBB6406837BF51F5)

/-- b to the power given by the n low bits of e, modulo m. -/
def powMod (m b e : Nat) : Nat → Nat
  | 0 => 1
  | n + 1 => let h := powMod m b (e / 2) n; h * h % m * (if e % 2 = 1 then b else 1) % m

/-- The inverse modulo a prime below 2^256. -/
def invMod (m a : Nat) : Nat := powMod m a (m - 2) 256

/-- Subtraction modulo m of reduced numbers. -/
def subMod (m a b : Nat) : Nat := (a + m - b) % m

/-- A point of the curve; none is the point at infinity. -/
abbrev CurvePoint := Option (Nat × Nat)

/-- The sum of two points. -/
def pointAdd (u v : CurvePoint) : CurvePoint :=
  match u, v with
  | none, v => v
  | u, none => u
  | some (x1, y1), some (x2, y2) =>
    let go := fun (l : Nat) =>
      let x3 := subMod p256P (subMod p256P (l * l % p256P) x1) x2
      some (x3, subMod p256P (l * subMod p256P x1 x3 % p256P) y1)
    if x1 = x2 then
      if (y1 + y2) % p256P = 0 then none
      else go (subMod p256P (3 * x1 * x1 % p256P) 3 * invMod p256P (2 * y1 % p256P) % p256P)
    else go (subMod p256P y2 y1 * invMod p256P (subMod p256P x2 x1) % p256P)

/-- The multiple of a point by the n low bits of k. -/
def pointMul (k : Nat) (u : CurvePoint) : Nat → CurvePoint
  | 0 => none
  | n + 1 =>
    let h := pointMul (k / 2) u n
    let t := pointAdd h h
    if k % 2 = 1 then pointAdd t u else t

/-- A number from words, the most significant first. -/
def natOf (l : List Word) : Nat := l.foldl (fun a w => a * 2 ^ 32 + w.toNat) 0

/-- The point lies on the curve. -/
def onCurve (x y : Nat) : Bool :=
  decide (x < p256P) && decide (y < p256P) && y * y % p256P == (x * x * x + (p256P - 3) * x + p256B) % p256P

/-- The signature (r, s) of a key (X, Y) over a hash is valid. -/
def ecdsaOk (key sig hash : List Word) : Bool :=
  let x := natOf (key.take 8)
  let y := natOf (key.drop 8)
  let r := natOf (sig.take 8)
  let s := natOf (sig.drop 8)
  if !onCurve x y || r = 0 || s = 0 || p256N ≤ r || p256N ≤ s then false
  else
    let w := invMod p256N s
    match pointAdd (pointMul (natOf hash * w % p256N) (some p256G) 256) (pointMul (r * w % p256N) (some (x, y)) 256) with
    | none => false
    | some (x1, _) => x1 % p256N == r

end Sys2Proof.Machine
end

