-- ==== Sys2Proof/Machine/CmdEng.lean ====
section
/-! DEFINITION. Custom kernels and job statistics (10_engines_and_flumes.md R311 to R317,
14_aeddo_command_reference.md R461). -/

namespace Sys2Proof.Machine

/-! ## KERNEL_LOAD -/

/-- OP of a KERNEL_LOAD (R312). -/
def kerOp (m : Msg) : Nat := bf (req m 1) 24 8

/-- SLOT. -/
def kerSlot (m : Msg) : Nat := bf (req m 1) 22 2

/-- The LENGTHs of the operations (14_aeddo_command_reference.md R433). -/
def kerLen (m : Msg) : Bool :=
  match kerOp m with
  | 1 => lenIs 4 m
  | 2 => decide (1 ≤ m.body.length) && decide (m.body.length ≤ 241)
  | 3 | 4 => lenIs 3 m
  | _ => true

/-- BEGIN (R312): staging starts anew. -/
def kerBegin (m : Msg) (d : Dev) : Ans :=
  if !onlyBits 0xFFC00000 (req m 1) then refuse stRANGE d
  else if (kernelAt d (kerSlot m)).loaded then refuse (stCONFLICT 1 0x48) d
  else okWith [0] (modKernel (kerSlot m) (fun k => { k with staging := some (req m 2).toNat, staged := [] }) d)

/-- DATA (R312): image words staged from an offset; without a BEGIN there is nothing to stage into, and words past the
announced length have no place (log 38). -/
def kerData (m : Msg) (d : Dev) : Ans :=
  let o := bf (req m 1) 0 16
  let ws := m.body.drop 1
  if !onlyBits 0xFFC0FFFF (req m 1) then refuse stRANGE d
  else match (kernelAt d (kerSlot m)).staging with
    | none => refuse stSTATE d
    | some n =>
      if n < o + ws.length then refuse stRANGE d
      else
        let d1 := modKernel (kerSlot m) (fun k => { k with
          staged := (ws.zipIdx.map (fun e => (o + e.2, e.1))).foldl (fun l e => aset l e.1 e.2) k.staged }) d
        okWith [Word.of (kernelAt d1 (kerSlot m)).staged.length] d1

/-- The staged image, where it is whole and its lengths and format agree (R311, R313). -/
def kerImage (k : Kernel) : Option (List Word) :=
  match k.staging with
  | none => none
  | some n =>
    let w := (List.range (min n 2088)).map (akey k.staged)
    let l := w.map (fun x => x.getD 0)
    if w.all (fun x => x.isSome) && nth l 0 0 == 0x00010028 && n == 40 + bf (nth l 1 0) 0 16 && decide (n ≤ 2088) then some l
    else none

/-- The selected key hash, as OTP gives it through ECC (R311, R525, R527); KEY above 1 selects none (log 38). -/
def kerHash (key : Nat) (d : Dev) : Dev × Option (List Word) :=
  if key = 0 then
    let r := otpRead 256 4 d
    (r.1, if r.2.isEmpty then d.otp.vendorHash else none)
  else if key = 1 then
    let r := otpRead 260 4 d
    (r.1, if r.2.isEmpty && !d.otp.custFail then d.otp.custHash else none)
  else (d, none)

/-- The image is signed by a key whose hash is h (R311). -/
def kerSigned (l : List Word) (h : Option (List Word)) : Bool :=
  let key := (l.drop 5).take 16
  let msg := l.take 5 ++ (l.drop 37)
  h == some (sha256 (bytesOf key)) && ecdsaOk key ((l.drop 21).take 16) (sha256 (bytesOf msg))

/-- A field of the image lies outside its range, or the limits over all kernels are exceeded (R311, R313). -/
def kerBad (d : Dev) (l : List Word) : Bool :=
  let i := kernelInfo { Kernel.reset with image := l }
  let code := fun (im : List Word) => bf (nth im 1 0) 0 16
  let use := fun (im : List Word) => (nth im 2 0).toNat * bf (nth im 3 0) 0 24
  let all := l :: (d.eng.kernels.filter (fun (k : Kernel) => k.loaded)).map (fun k => k.image)
  !([1, 4, 5, 6, 7].contains i.1) || code l == 0 || decide (2048 < code l) || i.2.1 == 0 || decide (500000 < i.2.1) ||
    i.2.2.1 == 0 || i.2.2.2.1 == 0 || decide (100000 < i.2.2.2.1) || ((l.drop 37).take 3).any (· != 0) ||
    decide (2048 < (all.map code).sum) || decide ((d.part.engines - 1) * 20000000 < (all.map use).sum)

/-- The staged image discarded (R313). -/
def kerDiscard (slot : Nat) (d : Dev) : Dev := modKernel slot (fun k => { k with staging := none, staged := [] }) d

/-- Installed: every engine in service is to take a copy (R313, R314). -/
def kerInstall (c : Ctx) (slot : Nat) (l : List Word) (d : Dev) : Dev :=
  let d1 := modKernel slot (fun k => { Kernel.reset with loaded := true, image := l, gen := (k.gen + 1) % 256 }) d
  let es := (List.range 16).filter (fun e => inService (eng d1 e))
  let d2 := { d1 with eng.copies := d1.eng.copies ++ es.map (fun e => (e, slot)) }
  startGens (jchange c (0x0BE0 + slot) 0 (recordOf l) d2)

/-- END (R313, R461). -/
def kerEnd (m : Msg) (d : Dev) : Ans :=
  let slot := kerSlot m
  if !onlyBits 0xFFC00000 (req m 1) then refuse stRANGE d
  else match kerImage (kernelAt d slot) with
    | none => .forced stCHECK [] (kerDiscard slot d)
    | some l =>
      let r := kerHash (bf (nth l 1 0) 16 8) d
      if !kerSigned l r.2 then .forced stAUTH [] (kerDiscard slot r.1)
      else if kerBad d l then .forced stRANGE [] (kerDiscard slot r.1)
      else okWith [Word.of (0x80 + slot), crc32 l] (kerInstall (msgCtx d 0x48 m) slot l r.1)

/-- UNLOAD (R316): the generator stops, queued jobs are cancelled; it ends when no job of the kernel runs. -/
def kerUnload (m : Msg) (d : Dev) : Ans :=
  let slot := kerSlot m
  let k := kernelAt d slot
  if !onlyBits 0xFFC00000 (req m 1) then refuse stRANGE d
  else if !k.loaded then refuse stSTATE d
  else
    let d1 := modKernel slot (fun k => { k with genOn := false, unloading := true, gen := (k.gen + 1) % 256 }) d
    let mine := (d1.eng.pool.filter (fun (x : Desc) => x.kernel == 0x80 + slot && !isRunning d1 x.id)).map (fun x => x.id)
    let d2 := forEach mine freeDesc d1
    let d3 := { d2 with eng.copies := d2.eng.copies.filter (fun c => c.2 != slot) }
    .long slot (drainOut (forEach (List.range 16) (fun e d => holdKernels e (mset (eng d e).kernels slot false) d) d3))

/-- KERNEL_LOAD by its OP (R312). -/
def kernelCmd (m : Msg) (d : Dev) : Ans :=
  match kerOp m with
  | 1 => kerBegin m d
  | 2 => kerData m d
  | 3 => kerEnd m d
  | 4 => kerUnload m d
  | _ => refuse stRANGE d

/-- What the command table says of KERNEL_LOAD (R433). -/
def kerCmd : Cmd0 := ⟨0x48, kerLen, true, false, false⟩

/-- KERNEL_LOAD_BEGIN (R312). -/
def execKernelLoadBegin (m : Msg) (s : State) : Host.Outcome State Fault Refusal := runDev s (runCmd kerCmd m (kernelCmd m))

/-- KERNEL_LOAD_DATA (R312). -/
def execKernelLoadData (m : Msg) (s : State) : Host.Outcome State Fault Refusal := runDev s (runCmd kerCmd m (kernelCmd m))

/-- KERNEL_LOAD_END (R311, R313). -/
def execKernelLoadEnd (m : Msg) (s : State) : Host.Outcome State Fault Refusal := runDev s (runCmd kerCmd m (kernelCmd m))

/-- KERNEL_UNLOAD (R316). -/
def execKernelUnload (m : Msg) (s : State) : Host.Outcome State Fault Refusal := runDev s (runCmd kerCmd m (kernelCmd m))

/-! ## JOB_STATS -/

/-- Code of an engine state (R287). -/
def engStateCode : EngState → Nat
  | .absent => 0
  | .loading => 1
  | .active => 2
  | .draining => 3
  | .out => 4
  | .fenced => 5

/-- BUSY_PM of an engine (R317). -/
def busyPm (d : Dev) (e : Engine) : Nat :=
  let run := e.busy + (if e.running.isSome then d.now - e.countAt else 0)
  let all := d.now - d.eng.clearedAt
  if all = 0 then 0 else (toCode ((1000 * run : Nat) / (all : Rat))).toNat

/-- Words of one engine (R317); those of an absent engine read 0. -/
def engineWords (d : Dev) (e : Engine) : List Word :=
  if e.state == .absent then [0, 0, 0]
  else [Word.of e.jobs, Word.of (e.steals * 2 ^ 16 + busyPm d e),
    Word.of (engStateCode e.state * 2 ^ 29 + e.traps * 2 ^ 16 + e.overruns * 256 + e.twinFaults)]

/-- The block of JOB_STATS (R317). -/
def statsBlock (d : Dev) : List Word :=
  let mask := fun (p : Engine → Bool) => (mof 16 ((List.range 16).filter (fun e => p (eng d e)))).toNat
  [Word.of (mask inService * 2 ^ 16 + mask (fun e => e.state == .fenced)),
   Word.of (freeCount d * 2 ^ 16 + d.eng.freeMin),
   Word.of (d.eng.safeRefused * 2 ^ 16 + d.eng.descCrc * 256 + d.eng.unresolved)] ++
  d.eng.counts.flatMap (fun (c : ClassCnt) =>
    [Word.of c.created, Word.of (c.discarded * 2 ^ 24 + c.refused * 2 ^ 12 + c.waitMax)]) ++
  (List.range 16).flatMap (fun e => engineWords d (eng d e))

/-- The counters of JOB_STATS start again (R317). -/
def clearStats (d : Dev) : Dev :=
  { d with eng := { d.eng with
      counts := List.replicate 8 ClassCnt.reset, freeMin := freeCount d, safeRefused := 0, descCrc := 0, unresolved := 0
      clearedAt := d.now
      engines := d.eng.engines.map (fun (e : Engine) =>
        { e with jobs := 0, steals := 0, busy := 0, countAt := d.now, traps := 0, overruns := 0, twinFaults := 0 }) } }

/-- JOB_STATS (R317). -/
def execJobStats (m : Msg) (s : State) : Host.Outcome State Fault Refusal :=
  runDev s (runCmd ⟨0x49, lenIs 3, false, false, false⟩ m (fun d =>
    if !onlyBits 1 (req m 1) then refuse stRANGE d
    else okWith (statsBlock d) (if bit (req m 1) 0 then clearStats d else d)))

end Sys2Proof.Machine
end

