-- ==== Sys2Proof/Machine/Engines.lean ====
section
/-! DEFINITION. The commands of the engine array: dispatch, start, completion, stealing, faults
(10_engines_and_flumes.md R287 to R309, R314, R315). -/

namespace Sys2Proof.Machine

/-! ## Placement -/

/-- Engine e may take the job (R302). -/
def eligible (x : Desc) (e : Nat) : Bool :=
  !((x.role == 1 || x.role == 2) && x.partner == some e) && !(x.role == 3 && (x.ran.contains e || x.partner == some e))

/-- An engine's load in CK_CORE cycles times 384: the cost of its flume and what its running job still has to do (R298). -/
def engineLoad (d : Dev) (e : Nat) : Nat :=
  let x := eng d e
  let cost := fun (id : Nat) => ((desc d id).map (fun y => y.cost)).getD 0
  let mhz := coreHz d.power.op / 1000000
  384 * (x.flume.map cost).sum + (match x.running with
    | some id => 384 * cost id - (d.now - x.startAt) * mhz
    | none => 0)

/-- Engines that a job can be placed on (R299). -/
def candidates (d : Dev) (x : Desc) : List Nat :=
  (List.range 16).filter (fun e => (eng d e).state == .active && (eng d e).flume.length < 4 && eligible x e)

/-- The candidate with the lowest load, the lowest number on a tie (R299). -/
def bestEngine (d : Dev) (l : List Nat) : Option Nat :=
  l.find? (fun e => l.all (fun f => decide (engineLoad d e ≤ engineLoad d f)))

/-- A job behind every job of its own or a higher class (R300). -/
def insertJob (d : Dev) (x : Desc) : List Nat → List Nat
  | [] => [x.id]
  | a :: t =>
    if x.cls < ((desc d a).map (fun y => y.cls)).getD 0 then x.id :: a :: t else a :: insertJob d x t

/-- The other twin learns the engine of a twin that moves or starts (R302). -/
def notePartner (x : Desc) (e : Nat) (d : Dev) : Dev :=
  if x.role = 1 || x.role = 2 then modDesc x.twin (fun y => if y.twin = x.id then { y with partner := some e } else y) d else d

/-- The class flume that the dispatcher takes from: safety, then a head passed over in 256 dispatches, then the highest
priority (R299). -/
def dispatchClass (d : Dev) : Option Nat :=
  let heads := (List.range 8).filterMap (fun c => ((nth d.eng.classes c []).head?.bind (desc d)).map (fun x => (c, x)))
  match heads.find? (fun h => h.1 == 0), heads.find? (fun h => decide (256 ≤ h.2.passed)) with
  | some h, _ => some h.1
  | none, some h => some h.1
  | none, none => heads.head?.map (fun h => h.1)

/-- Twin B of a pair waits beside twin A (R299). -/
def pairWaits (d : Dev) (x : Desc) : Bool := x.role == 1 && d.eng.classes.any (fun l => l.contains x.twin)

/-- A job put on an engine's flume; the heads passed over are counted (R299, R300). -/
def placeOn (x : Desc) (c e : Nat) (d : Dev) : Dev :=
  let passed := ((List.range 8).filter (· != c)).filterMap (fun i => (nth d.eng.classes i []).head?)
  let d1 := forEach passed (fun id d => modDesc id (fun y => { y with passed := y.passed + 1 }) d) d
  let d2 := { d1 with eng.classes := d1.eng.classes.map (fun l => l.filter (· != x.id)) }
  notePartner x e (modEng e (fun y => { y with flume := insertJob d2 x y.flume }) d2)

/-- JOB_DISPATCH (R299, R302). -/
def execJobDispatch (s : State) : Host.Outcome State Fault Refusal :=
  runDev s (fun d =>
    match dispatchClass d with
    | none => d
    | some c =>
      match (nth d.eng.classes c []).head?.bind (desc d) with
      | none => d
      | some x =>
        let l := candidates d x
        if awake d && (!pairWaits d x || 2 ≤ l.length) then
          match bestEngine d l with
          | some e => placeOn x c e d
          | none => d
        else d)

/-! ## Running -/

/-- What follows the end of a job: DRAINING engines, windows that wait for lock-in jobs (R287, R298). -/
def afterJob (d : Dev) : Dev := serveWindows (drainOut d)

/-- A descriptor lost to its CRC (R292): freed unexecuted. A twin left behind names itself and waits for TWIN_TIMEOUT; an
arbiter's loss leaves the pair unresolved, and both twins go (R297, R306). -/
def crcLost (x : Desc) (d : Dev) : Dev :=
  if x.role = 3 then dropTwin x d
  else
    let d1 := freeDesc x.id (loseRecords x d)
    if x.role = 1 || x.role = 2 then modDesc x.twin (fun y => if y.twin = x.id then { y with twin := y.id } else y) d1 else d1

/-- A descriptor runs on engine e (R286, R298, R302, R317). -/
def runDesc (e : Nat) (x : Desc) (d : Dev) : Dev :=
  let d1 := modEng e (fun y => { y with running := some x.id, startAt := d.now, countAt := d.now }) d
  let wait := (d.now / 384 % 2 ^ 16 + 2 ^ 16 - x.issue) % 2 ^ 16 / 10
  notePartner x e (modClass x.cls (fun c => { c with waitMax := min 4095 (max c.waitMax wait) }) d1)

/-- JOB_START (R286, R292, R293): the head of the engine's flume is taken; damage is what has become of the 256 bits of its
descriptor in SRAM. It is checked, and run as it was read. -/
def execJobStart (e : Fin 16) (damage : BitVec 256) (s : State) : Host.Outcome State Fault Refusal :=
  runDev s (fun d =>
    let g := eng d e
    if !awake d || !inService g || g.running.isSome then d
    else match g.flume.head?.bind (desc d) with
      | none => d
      | some x =>
        let keys := (List.range 4).map (fun i => 4 * x.id + i)
        let d1 := sramRead 2 keys (modEng e (fun y => { y with flume := y.flume.filter (· != x.id) }) d)
        let image := descImage x ^^^ damage
        let y := if damage = 0 then x else descOfImage image x
        if keys.any (sramFailed d 2) || (damage != 0 && !imageGood image) then
          afterJob (raise 85 (crcLost x { d1 with eng.descCrc := satInc 255 d1.eng.descCrc }))
        else if y.gen != currentGen d y.kernel then afterJob (freeDesc x.id d1)
        else runDesc e y (modDesc x.id (fun _ => y) d1))

/-- R303: an ACTIVE engine that has ended a job takes the head job of a DRAINING or FENCED engine's flume to its own
head. Of several such engines the lowest number is served (log 40). -/
def rescue (e : Nat) (d : Dev) : Dev :=
  let g := eng d e
  let own := (g.flume.head?.bind (desc d)).map (fun x => x.cls)
  let take := fun (f : Nat) => ((eng d f).flume.head?.bind (desc d)).filter (fun x =>
    f != e && ((eng d f).state == .draining || (eng d f).state == .fenced) && eligible x e &&
      (match own with
       | some c => decide (x.cls ≤ c)
       | none => true))
  match (List.range 16).find? (fun f => (take f).isSome) with
  | none => d
  | some f =>
    match take f with
    | some x =>
      if g.state == .active then
        let d1 := modEng f (fun y => { y with flume := y.flume.drop 1 }) d
        notePartner x e (modEng e (fun y => { y with flume := x.id :: y.flume, steals := satInc 65535 y.steals }) d1)
      else d
    | none => d

/-- What a safety job writes: the result operand, or where it is empty what the ROM kernel computes (R305). -/
def safetyResult (d : Dev) (x : Desc) (result : List Word) : List Nat :=
  if result.isEmpty then auditJob d x else result.map BitVec.toNat

/-- The halves differ: an arbiter is created, or the pair is unresolved (R305, R306). -/
def callArbiter (a b : Desc) (d : Dev) : Dev :=
  let ran := a.partner.toList ++ b.partner.toList
  let none' := (List.range 16).all (fun e => !inService (eng d e) || ran.contains e)
  let both := fun (d : Dev) => freeDesc a.id (freeDesc b.id (unresolved d))
  if none' then both d
  else
    let r := createJob { Desc.reset with kernel := a.kernel, cls := 0, role := 3, chan := a.chan, gen := a.gen, win := a.win,
                                         len := a.len, arg := a.arg, cost := a.cost, twin := a.id, ran := ran, src := a.src } d
    match r.2 with
    | some _ => r.1
    | none => both r.1

/-- A twin ends with its half written: both halves are compared when both are there (R305). -/
def twinDone (x : Desc) (h : List Nat) (d : Dev) : Dev :=
  match desc d x.twin with
  | some y =>
    if x.twin = x.id then modDesc x.id (fun z => { z with half := some h }) d
    else if y.twin != x.id || (y.role != 1 && y.role != 2) then freeDesc x.id d
    else
      let d1 := modDesc x.id (fun z => { z with half := some h }) d
      match y.half with
      | none => d1
      | some k =>
        if h = k then deliverAudit h (freeDesc x.id (freeDesc y.id d1))
        else if x.role = 1 then callArbiter x y d1 else callArbiter y x d1
  | none => freeDesc x.id d

/-- EV80 naming the engine of the losing twin (R306). -/
def twinLost (e : Option Nat) (d : Dev) : Dev :=
  match e with
  | some n => raiseEng 80 n (modEng n (fun y => { y with twinFaults := satInc 255 y.twinFaults }) d)
  | none => raise 80 d

/-- An arbiter ends (R306). Twin A ran on the engine that B names as partner, and B on the one that A names. -/
def arbiterDone (x : Desc) (h : List Nat) (d : Dev) : Dev :=
  match desc d x.twin with
  | none => freeDesc x.id (unresolved d)
  | some a =>
    let d1 := freeDesc x.id (freeDesc a.id (freeDesc a.twin d))
    if a.half = some h then deliverAudit h (twinLost a.partner d1)
    else match desc d a.twin with
      | some b => if b.half = some h then deliverAudit h (twinLost b.partner d1) else unresolved d1
      | none => unresolved d1

/-- The channels' statistics of a STATS job (R289, R450). -/
def statsDone (x : Desc) (d : Dev) : Dev :=
  { d with eng.statsRes := some (x.win, (List.range 25).map (fun c =>
      if (enabledChans d).contains c then chanStats (jobRecs d x) c else [])) }

/-- A HIST_PACK result: the housekeeper answers with it, or it waits for the housekeeper (R310, R451). -/
def packDone (x : Desc) (d : Dev) : Dev :=
  if d.cmd.hkReady then freeDesc x.id (finishBusy stOK (historyData d x) (historyReads d x))
  else { d with eng.packWait := d.eng.packWait ++ [x.id] }

/-- The effect of a completed single job (R289, R298); a custom kernel's result is its own. -/
def singleDone (x : Desc) (d : Dev) : Dev :=
  if x.kernel = 6 then packDone x d
  else
    let d1 := freeDesc x.id d
    if x.kernel = 4 then closeCell x.chan x.start x.gen d1
    else if x.gen != currentGen d x.kernel then d1
    else if x.kernel = 2 then statsDone x d1
    else if x.kernel = 5 then balAccum x d1
    else if 0x80 ≤ x.kernel then modKernel (x.kernel - 0x80) (fun k => { k with overRun := 0 }) d1
    else d1

/-- What a completed job leaves in the engine: JOBS, its result in the data area, and of a lock-in the sums in the accumulator.
Their number format is not given: both parts are free (R286, R317; log 95). -/
def leaveRun (e : Nat) (x : Desc) (result : List Word) (d : Dev) : Dev :=
  let macs := x.kernel == 3
  let free := fun (i : Nat) => Config.freeWord (d.free + i) ++ Config.freeWord (d.free + i + 1) ++ Config.freeWord (d.free + i + 2)
  let d1 := modEng e (fun y => { y with
    jobs := (y.jobs + 1) % 2 ^ 32, data := result
    accRe := if macs then free 0 else y.accRe, accIm := if macs then free 3 else y.accIm }) d
  if macs then { d1 with free := d1.free + 6 } else d1

/-- JOB_COMPLETE (R289, R292, R297, R303, R305, R306). result is what a safety job wrote; empty where the engine
computed as its ROM kernel says. -/
def execJobComplete (e : Fin 16) (result : List Word) (s : State) : Host.Outcome State Fault Refusal :=
  runDev s (fun d =>
    match (eng d e).running.bind (desc d) with
    | none => d
    | some x =>
      let d1 := leaveRun e x result (stopRun e d)
      let d2 := if x.role = 0 then singleDone x d1
        else if x.role = 3 then arbiterDone x (safetyResult d x result) d1
        else twinDone x (safetyResult d x result) d1
      afterJob (rescue e d2))

/-! ## Faults -/

/-- A job of engine e runs, of a custom kernel or not. -/
def runsCustom (d : Dev) (e : Nat) : Option Bool := ((eng d e).running.bind (desc d)).map (fun x => decide (0x80 ≤ x.kernel))

/-- JOB_OVERRUN (R290, R308). -/
def execJobOverrun (e : Fin 16) (s : State) : Host.Outcome State Fault Refusal :=
  runDev s (fun d =>
    if runsCustom d e == some false then
      afterJob (raiseEng 83 e (modEng e (fun y => { y with overruns := satInc 255 y.overruns }) (abandonJob e true d)))
    else d)

/-- The eighth consecutive overrun stops a kernel's generator (R315). -/
def countOverrun (s : Nat) (d : Dev) : Dev :=
  modKernel s (fun k => { k with overRun := min 8 (k.overRun + 1), genOn := k.genOn && decide (k.overRun + 1 < 8) }) d

/-- KERNEL_OVERRUN (R315): abandoned without retry; EV84 names no engine. -/
def execKernelOverrun (e : Fin 16) (s : State) : Host.Outcome State Fault Refusal :=
  runDev s (fun d =>
    match (eng d e).running.bind (desc d) with
    | some x => if 0x80 ≤ x.kernel then afterJob (raise 84 (countOverrun (x.kernel - 0x80) (abandonJob e false d))) else d
    | none => d)

/-- ENGINE_TRAP (R308). -/
def execEngineTrap (e : Fin 16) (s : State) : Host.Outcome State Fault Refusal :=
  runDev s (fun d =>
    if (eng d e).running.isSome then
      afterJob (raiseEng 82 e (modEng e (fun y => { y with traps := satInc 255 y.traps }) (abandonJob e true d)))
    else d)

/-! ## Stealing -/

/-- The flumes a thief tries: of the other ACTIVE engines, the longest first, the lowest number on a tie (R301). -/
def victims (d : Dev) (e : Nat) : List Nat :=
  ((List.range 16).filter (fun f => f != e && (eng d f).state == .active && !(eng d f).flume.isEmpty)).mergeSort
    (fun a b => decide ((eng d b).flume.length < (eng d a).flume.length) ||
      ((eng d a).flume.length == (eng d b).flume.length && decide (a ≤ b)))

/-- The first eligible job of the last 4 of a flume, from its tail (R301). -/
def stealFrom (d : Dev) (e f : Nat) : Option (Nat × Desc) :=
  ((((eng d f).flume.reverse.take 4).filterMap (desc d)).find? (fun x => eligible x e)).map (fun x => (f, x))

/-- ENGINE_STEAL (R301, R302). -/
def execEngineSteal (e : Fin 16) (s : State) : Host.Outcome State Fault Refusal :=
  runDev s (fun d =>
    let g := eng d e
    if awake d && g.state == .active && g.running.isNone && g.flume.isEmpty then
      match (victims d e).findSome? (stealFrom d e) with
      | some (f, x) =>
        let d1 := modEng f (fun y => { y with flume := y.flume.filter (· != x.id) }) d
        notePartner x e (modEng e (fun y => { y with flume := [x.id], steals := satInc 65535 y.steals }) d1)
      | none => d
    else d)

/-- TWIN_TIMEOUT (R306): 10 ms after the twin of descriptor id wrote its half, the other has not. -/
def execTwinTimeout (id : Nat) (s : State) : Host.Outcome State Fault Refusal :=
  runDev s (fun d =>
    match desc d id with
    | some x =>
      let y := (desc d x.twin).filter (fun y => y.twin == id && (y.role == 1 || y.role == 2))
      if (x.role = 1 || x.role = 2) && x.half.isSome && (x.twin == id || (y.map (fun y => y.half.isNone)).getD true) then
        afterJob (dropTwin x d)
      else d
    | none => d)

/-! ## Loading -/

/-- ENGINE_LOADED (R287): the code area holds the ROM kernels and every installed custom kernel. -/
def execEngineLoaded (e : Fin 16) (s : State) : Host.Outcome State Fault Refusal :=
  runDev s (fun d =>
    if coreRuns d && (eng d e).state == .loading then
      let held := mof 4 ((List.range 4).filter (fun k => (kernelAt d k).loaded))
      setEngState e .active (holdKernels e held
        { d with eng.copies := d.eng.copies.filter (fun c => c.1 != e) })
    else d)

/-- KERNEL_COPY (R294, R314): an in-service engine between jobs takes one of the copies in Q30. -/
def execKernelCopy (e : Fin 16) (slot : Fin 4) (s : State) : Host.Outcome State Fault Refusal :=
  runDev s (fun d =>
    let g := eng d e
    if inService g && g.running.isNone && (d.eng.copies.take d.eng.copyHeld).contains (e.val, slot.val) then
      startGens (holdKernels e (mset g.kernels slot true)
        { d with eng.copies := d.eng.copies.erase (e.val, slot.val) })
    else d)

end Sys2Proof.Machine
end

