-- ==== Sys2Proof/Machine/CmdFault.lean ====
section
/-! DEFINITION. Housekeeper restarts, fault, journal and service commands (13_host_port_and_mailboxes.md R417,
14_aeddo_command_reference.md R467 to R473, 15_faults_and_sluices.md R496 to R498,
17_journal_otp_security.md R514 to R536). -/

namespace Sys2Proof.Machine

/-! ## The housekeeper -/

/-- The housekeeper restarts (R417). -/
def hkDown (d : Dev) : Dev := { d with cmd.hkReady := false }

/-- The housekeeper runs again (R417, R495, R310): HK_RESTARTED, HK_RESTARTS, RESTART message, EV124; waiting
HIST_PACK results are taken. -/
def hkUp (d : Dev) : Dev :=
  let n := satInc 255 d.cmd.hkRestarts
  let d1 := raise 124 (qmsg 0x04 0x05 n { d with cmd.hkReady := true, cmd.hkRestarted := true, cmd.hkRestarts := n })
  forEach d1.eng.packWait (fun id d => (desc d id).elim d (fun x => packDone x d)) { d1 with eng.packWait := [] }

/-! ## FAULT_CFG and FAULT_READ -/

/-- N_ENT of FAULT_CFG (R467). -/
def escEntries (m : Msg) : Nat := bf (req m 1) 0 8

/-- FCOPY. -/
def fcopyOf (m : Msg) : Nat := bf (req m 1) 8 2

/-- FAULT_CFG's entries as items and values (R445, R467). -/
def escList (m : Msg) : List (Word × Word) :=
  (List.range (escEntries m)).map (fun j =>
    let a := req m (2 + 2 * j)
    let b := req m (3 + 2 * j)
    (Word.of (0x0800 + bf a 24 7), Word.of (bf b 0 16 * 2 ^ 16 + bf a 16 8 * 256 + bf a 0 4)))

/-- A reserved bit of an entry is set. -/
def escReserved (m : Msg) : Bool :=
  (List.range (escEntries m)).any (fun j => !onlyBits 0x7FFF000F (req m (2 + 2 * j)) || !onlyBits 0xFFFF (req m (3 + 2 * j)))

/-- The pin that FCOPY names. -/
def fcopyPin (m : Msg) : Nat := fcopyOf m + 2

/-- The check of FCOPY (R48, R467). -/
def fcopyCheck (d : Dev) (m : Msg) : Option Status :=
  if fcopyOf m = 1 || fcopyOf m = 2 then gpioCheck d 5 (fcopyPin m) else none

/-- FCOPY carried out (R467): the claim moves, stays or ends. -/
def fcopyDo (m : Msg) (d : Dev) : Dev :=
  match fcopyOf m with
  | 0 => d
  | 3 => gpioReleaseFn 5 d
  | _ => if gpioHolder d (fcopyPin m) = 5 then d else gpioClaim 5 (fcopyPin m) (gpioReleaseFn 5 d)

/-- FAULT_CFG (R467, R479, R486). -/
def execFaultCfg (m : Msg) (s : State) : Host.Outcome State Fault Refusal :=
  runDev s (runCmd ⟨0x58, fun m => lenIs (3 + 2 * escEntries m) m, true, false, false⟩ m (fun d =>
    let absent := (escList m).any (fun e => srcAbsent d.part (e.1.toNat - 0x0800))
    match firstFail [(absent, stABSENT), (!onlyBits 0x3FF (req m 1) || decide (126 < escEntries m) || escReserved m, stRANGE)] with
    | some e => refuse e d
    | none =>
      let r := setItems (msgCtx d 0x58 m) (escList m) d
      if r.st.code != 0 then refuse r.st d
      else match fcopyCheck d m with
        | some e => refuse e d
        | none => okWith [Word.of r.changed] (fcopyDo m r.dev)))

/-- The word of source k in FAULT_READ (R468). What a source of an absent unit gives is not stated: it never occurs, so a word
of zeros (R9; DESIGN CHOICE, log 84). -/
def faultWord (d : Dev) (k : Nat) : Word :=
  let e := esc d k
  if srcAbsent d.part k then 0
  else if isInfo k then Word.of (min 255 e.count * 2 ^ 24)
  else Word.of (min 255 e.count * 2 ^ 24 + e.lost * 2 ^ 16 + escCount d k * 256 + e.state * 16 + e.inForce)

/-- What returning the word of source k clears (R468, R484). -/
def faultClear (k : Nat) (d : Dev) : Dev :=
  modEsc k (fun e => if isInfo k then { e with count := 0 } else { e with lost := 0 }) d

/-- FAULT_READ (R468, R495). -/
def execFaultRead (m : Msg) (s : State) : Host.Outcome State Fault Refusal :=
  runDev s (runCmd ⟨0x59, lenIs 3, false, false, false⟩ m (fun d =>
    let w := req m 1
    let first := bf w 0 7
    let n := bf w 8 7
    if !onlyBits 0x80007F7F w || n = 0 || 128 < first + n then refuse stRANGE d
    else
      let ks := (List.range n).map (fun i => first + i)
      let words := ks.map (faultWord d)
      let d1 := forEach ks faultClear d
      if bit w 31 then
        let ms := d.eng.msgs.take (252 - n)
        okWith (words ++ Word.of ms.length :: ms) { d1 with eng.msgs := d.eng.msgs.drop (252 - n) }
      else okWith words d1))

/-! ## INJECT -/

/-- TARGET, BITS, port or direction, COUNT and address of an INJECT (R469). -/
def injectOf (m : Msg) : Nat × Nat × Nat × Nat × Nat :=
  let w := req m 1
  (bf w 0 4, bf w 8 2, bf w 12 1, bf w 16 8, (req m 2).toNat)

/-- Words that an ECC injection names. -/
def injectWords (i : Nat × Nat × Nat × Nat × Nat) : List (Nat × Nat) :=
  (List.range i.2.2.2.1).map (fun j => (i.2.2.2.2 / 8 + j, i.2.1))

/-- The checks of INJECT (R497, R498). -/
def injectCheck (d : Dev) (m : Msg) : Option Status :=
  let i := injectOf m
  let ecc := i.1 == 1 || i.1 == 5
  let top := if i.1 = 1 then d.part.sramMib * 131072 else 1024
  let p : Port := if i.2.2.1 = 0 then .A else .B
  firstFail [
    (!onlyBits 0x00FF130F (req m 1) || i.1 == 0 || decide (5 < i.1) || i.2.2.2.1 == 0 || (i.1 == 4 && i.2.2.2.1 != 1) ||
      (ecc && (i.2.1 == 0 || i.2.1 == 3 || i.2.2.2.2 % 8 != 0 || decide (top < i.2.2.2.2 / 8 + i.2.2.2.1))) ||
      (!ecc && i.2.2.2.2 != 0), stRANGE),
    (i.1 == 2 && !portUp d p, stSTATE),
    (injectPending d != 0, stBUSY)]

/-- An injection armed, or made at once where nothing has to pass first: SRAM check bits, a compare cycle (R497, log 41).
The second part counts those made. -/
def injectDo (m : Msg) (d : Dev) : Dev × Nat :=
  let i := injectOf m
  if i.1 = 1 then
    let ws := injectWords i
    ({ d with fault.sramBad := d.fault.sramBad.filter (fun e => !ws.any (fun x => x.1 == e.1)) ++ ws },
      ws.length)
  else if i.1 = 5 then ({ d with fault.otpBad := injectWords i }, 0)
  else if i.1 = 4 then ({ d with fault.inject := [i] }, 1)
  else ({ d with fault.inject := [i] }, 0)

/-- A compare cycle that INJECT inverted restarts the housekeeper, once the command has been committed (R417, R497). -/
def lockstepDue (d : Dev) : Dev :=
  if d.fault.inject.any (fun i => i.1 == 4) then
    hkDown { d with fault.inject := d.fault.inject.filter (fun i => i.1 != 4) } else d

/-- INJECT (R469, R497, R498). -/
def execInject (m : Msg) (s : State) : Host.Outcome State Fault Refusal :=
  runDev s (fun d => lockstepDue (runCmd ⟨0x5A, lenIs 4, false, false, true⟩ m (fun d =>
    match injectCheck d m with
    | some e => refuse e d
    | none =>
      let r := injectDo m (jput (msgCtx d 0x5A m) 0x0BF1 0 (req m 1) d)
      okWith [Word.of r.2] r.1) d))

/-! ## JOURNAL_READ -/

/-- Entries from the absolute index FIRST on, with the index of the first (R472). -/
def journalFrom (d : Dev) (first : Nat) : Nat × List (Nat × List Word) :=
  let low := firstKept d
  let off := (first + 2 ^ 32 - low) % 2 ^ 32
  let all := d.jrn.entries.zipIdx.map (fun e => (e.2, e.1))
  if off < all.length then (first, all.drop off)
  else if first < low && low ≤ d.jrn.next then (low, all)
  else (d.jrn.next, [])

/-- The SRAM objects of entry i of the kept ones (R480, R514). -/
def entryKeys (d : Dev) (i : Nat) : List Nat :=
  (List.range 3).map (fun j => ((firstKept d + i) % 2 ^ 32) % journalDepth * 3 + j)

/-- JOURNAL_READ (R472, R520, R522). -/
def execJournalRead (m : Msg) (s : State) : Host.Outcome State Fault Refusal :=
  runDev s (runCmd ⟨0x60, lenIs 4, false, false, false⟩ m (fun d =>
    let n := (req m 2).toNat
    if n = 0 || 41 < n then refuse stRANGE d
    else
      let r := journalFrom d (req m 1).toNat
      let l := r.2.take n
      okWith ([Word.of d.jrn.next, Word.of d.jrn.wraps, Word.of r.1] ++ l.flatMap (fun e => e.2))
        (sramRead 1 (l.flatMap (fun e => entryKeys d e.1)) d)))

/-! ## Service sessions -/

/-- The wait after failed ANSWERs has not passed (R535). -/
def authWait (d : Dev) : Bool :=
  d.sess.failRun != 0 && decide (d.now < d.sess.failAt + (if d.sess.failRun < 8 then 1 else 60) * secondCycles)

/-- CHALLENGE (R473, R534, R535). -/
def challenge (m : Msg) (d : Dev) : Ans :=
  match firstFail [(!onlyBits 0xFF03 (req m 1), stRANGE), (d.sess.isOpen, stSTATE), (authWait d, stBUSY)] with
  | some e => refuse e d
  | none =>
    let n := (List.range 4).map (fun i => Config.freeWord (d.free + i))
    okWith n { d with free := d.free + 4, sess.nonce := some n, sess.asked := bf (req m 1) 8 8 }

/-- The MAC that a correct ANSWER carries; none while no secret can be read (R527, R533, R534). -/
def rightMac (d : Dev) (nonce : List Word) (bad : List Nat) : Option (List Word) :=
  match d.otp.secret with
  | some k =>
    if d.otp.secretFail || !bad.isEmpty then none
    else
      let uid := d.otp.uid.toNat
      some (hmac k (bytesOf (nonce ++ [Word.of (uid / 2 ^ 32), Word.of (uid % 2 ^ 32)]) ++ [d.sess.asked]))
  | none => none

/-- ANSWER (R473, R534, R535): the nonce is spent. -/
def answerMac (m : Msg) (d : Dev) : Ans :=
  if !onlyBits 3 (req m 1) then refuse stRANGE d
  else match d.sess.nonce with
    | none => refuse stSTATE d
    | some n =>
      let r := otpRead 264 4 d
      let d1 := { r.1 with sess.nonce := none }
      if rightMac d n r.2 == some (m.body.drop 1) then
        okWith [] (jput ⟨oSERVICE, 0x61, d.sess.asked⟩ 0x0BF2 0 1
          { d1 with sess.isOpen := true, sess.tester := d.sess.asked, sess.openAt := d.now, sess.failRun := 0 })
      else .forced stAUTH []
        { d1 with sess.failRun := satInc 255 d.sess.failRun, sess.fails := satInc 65535 d.sess.fails, sess.failAt := d.now }

/-- SERVICE_OPEN by its OP (R473). -/
def serviceOpen (m : Msg) (d : Dev) : Ans :=
  match bf (req m 1) 0 2 with
  | 1 => challenge m d
  | 2 => answerMac m d
  | _ => refuse stRANGE d

/-- What the command table says of SERVICE_OPEN (R433). -/
def serviceCmd : Cmd0 :=
  ⟨0x61, fun m => match bf (req m 1) 0 2 with
    | 1 => lenIs 3 m
    | 2 => lenIs 11 m
    | _ => lenIs 3 m || lenIs 11 m, false, false, false⟩

/-- SERVICE_CHALLENGE (R473, R534). -/
def execServiceChallenge (m : Msg) (s : State) : Host.Outcome State Fault Refusal := runDev s (runCmd serviceCmd m (serviceOpen m))

/-- SERVICE_ANSWER (R473, R534). -/
def execServiceAnswer (m : Msg) (s : State) : Host.Outcome State Fault Refusal := runDev s (runCmd serviceCmd m (serviceOpen m))

/-- SERVICE_CLOSE (R473). -/
def execServiceClose (m : Msg) (s : State) : Host.Outcome State Fault Refusal :=
  runDev s (runCmd ⟨0x62, lenIs 2, false, false, false⟩ m (fun d =>
    if d.sess.isOpen then okWith [] (closeSession (jput ⟨oSERVICE, 0x62, d.sess.tester⟩ 0x0BF2 1 0 d))
    else refuse stSTATE d))

/-- SESSION_EXPIRY (R536). -/
def execSessionExpiry (s : State) : Host.Outcome State Fault Refusal := runDev s (endSession 1)

/-- NONCE_EXPIRY (R473, R534). -/
def execNonceExpiry (s : State) : Host.Outcome State Fault Refusal := runDev s (fun d => { d with sess.nonce := none })

/-- JOURNAL_WRITE (R514, R520, R521): the writer takes the entry at the head of Q27. -/
def execJournalWrite (s : State) : Host.Outcome State Fault Refusal :=
  runDev s (fun d => if coreRuns d then writeNext d else d)

end Sys2Proof.Machine
end

