-- ==== Sys2Proof/Machine/Bist.lean ====
section
/-! DEFINITION. Periodic self-test: slots, slices, their outcomes, and the commands that set and read it
(16_periodic_self_test.md R500 to R513, 14_aeddo_command_reference.md R470, R471). -/

namespace Sys2Proof.Machine

/-! ## Units -/

/-- The port is idle (R506). The head's arms hold the members of its map. -/
def portIdle (d : Dev) (p : Port) : Bool :=
  !portEnabled d p || portFenced d p ||
    (!isHead d && d.ring.mode == .fold && p == (if d.ring.foldB then Port.A else .B)) ||
    (isHead d && d.ring.stat != .closed && d.ring.stat != .enumerating && !expectedRx d p &&
      !d.ring.map.any (fun (e : MapEntry) => e.present && e.arm == (p == .A)))

/-- Units of a kind in the order of its cycle (R500); an engine that is fenced or absent is none (log 43). -/
def kindUnits (d : Dev) (k : Nat) : List Nat :=
  match k with
  | 0 => List.range (d.part.sramMib * 256) ++ [0xFFFF]
  | 1 => (List.range 16).filter (fun e => (eng d e).state != .absent && (eng d e).state != .fenced)
  | 2 => (enabledChans d).flatMap (fun c => [2 * c, 2 * c + 1])
  | 3 => mlist d.cmp.armed
  | _ => (if portIdle d .A then [0] else []) ++ (if portIdle d .B then [1] else [])

/-- Units of the cycle that R507 counts: every present engine, fenced or not. -/
def coverUnits (d : Dev) (k : Nat) : Nat := if k = 1 then d.part.engines else (kindUnits d k).length

/-- Units of a kind that have not had their slice in this cycle (R504). -/
def dueUnits (d : Dev) (k : Nat) : List Nat :=
  if k = 1 then (kindUnits d 1).filter (fun u => !(kindAt d 1).tested.contains u)
  else (kindUnits d k).filter (fun u => decide ((kindAt d k).next ≤ u))

/-- The kind is enabled (R512). -/
def kindOn (d : Dev) (k : Nat) : Bool := (itemN d 0x0902).testBit k

/-- A coverage cycle that has ended (R507, R513): its duration, and the first unit of each kind again. -/
def cycleEnd (d : Dev) : Dev :=
  let ks := (List.range 5).filter (kindOn d)
  if d.bist.slice.isNone && d.bist.waiting.isNone && ks.all (fun k => (dueUnits d k).isEmpty) && d.bist.kinds.any (fun x => x.next != 0) then
    { d with bist.kinds := d.bist.kinds.map (fun (x : Kind) => { x with next := 0, tested := [] })
             bist.lastCycle := min 65535 (toCode (((d.now - d.bist.cycleAt : Nat) : Rat) / 384000)).toNat
             bist.cycleAt := d.now }
  else d

/-! ## Slots -/

/-- The withdrawn engine has reached OUT (R505). -/
def engineReady (d : Dev) : Option Nat := d.bist.withdrawn.filter (fun e => (eng d e).state == .out)

/-- ACTIVE engines. -/
def activeEngines (d : Dev) : List Nat := (List.range 16).filter (fun e => (eng d e).state == .active)

/-- The withdrawal is refused (R288). -/
def withdrawRefused (d : Dev) : Bool :=
  decide ((activeEngines d).length < 3) ||
    d.eng.engines.any (fun (e : Engine) => e.state == .draining || e.state == .out)

/-- Queued cost of an engine (R298). -/
def queuedCost (d : Dev) (e : Nat) : Nat := ((eng d e).flume.map (fun id => ((desc d id).map (fun y => y.cost)).getD 0)).sum

/-- The engine that a withdrawal takes: the ACTIVE one of the cycle's with the lowest queued cost (R288, R505). -/
def pickEngine (d : Dev) : Option Nat :=
  let l := (activeEngines d).filter (fun e => (dueUnits d 1).contains e)
  l.find? (fun e => l.all (fun f => decide (queuedCost d e ≤ queuedCost d f)))

/-- The kind has a turn to take now: enabled, with a unit due; the engine kind's turns pass while an engine is DRAINING
(R504, R505). -/
def kindReady (d : Dev) (k : Nat) : Bool :=
  kindOn d k && (if k = 1 then (pickEngine d).isSome && d.bist.withdrawn.isNone else !(dueUnits d k).isEmpty)

/-- The next kind of the rotation from k on. -/
def nextKind (d : Dev) (k : Nat) : Option Nat := ((List.range 5).map (fun i => (k + i) % 5)).find? (kindReady d)

/-- A turn of kind k (R504): its next unit's slice. -/
def takeTurn (k : Nat) (d : Dev) : Dev :=
  let d1 := { d with bist.rot := (k + 1) % 5 }
  match dueUnits d k with
  | u :: _ => slotSlice k u d1
  | [] => d1

/-- A slot without an engine waiting (R504, R505): an engine turn asks for the withdrawal and passes the slot on. -/
def slotTurn (d : Dev) : Dev :=
  match nextKind d d.bist.rot with
  | none => d
  | some 1 =>
    match pickEngine d with
    | none => d
    | some e =>
      let d1 := { d with bist.rot := 2 }
      if d.power.opTarget.isSome || !d.power.vdOk || decide ((itemN d 0x0901 : Rat) < sliceNeed d 1 e) || withdrawRefused d then
        deferSlice 1 e d1
      else
        let d2 := drainOut (setEngState e .draining { d1 with bist.withdrawn := some e })
        match nextKind d2 2 with
        | some k => takeTurn k d2
        | none => d2
  | some k => takeTurn k d

/-- BIST_SLOT (R288, R504, R505, R508). -/
def execBistSlot (s : State) : Host.Outcome State Fault Refusal :=
  runDev s (fun d =>
    if !active d || itemN d 0x0903 = 0 || d.bist.slice.isSome || d.bist.waiting.isSome then d
    else
      let d0 := cycleEnd d
      cycleEnd (match engineReady d0 with
        | some e =>
          let d1 := { d0 with bist.rot := 2 }
          if sliceBarred d1 1 e then
            setEngState e .loading { deferSlice 1 e d1 with bist.withdrawn := none }
          else beginSlice 1 e d1
        | none => slotTurn d0))

/-! ## Outcomes -/

/-- The message of a FAIL (R511): a wrong test DAC is named in place of the channel. -/
def failMsg (k u : Nat) (dac : Bool) : Nat × Nat := if k = 2 && dac then (0x0D, 0) else (sliceSource k, sliceAddr k u)

/-- A FAIL (R509, R511, R513, R519): counted, its message, its journal entry with origin BIST, EV126. -/
def failSlice (k u : Nat) (dac : Bool) (word : Nat) (d : Dev) : Dev :=
  let m := failMsg k u dac
  let unit := if k = 0 ∧ u ≠ 0xFFFF then word else sliceUnit k u
  let d1 := modKind k (fun x => { x with last := 2, unit := unit, fails := satInc 65535 x.fails }) d
  let d2 := jput ⟨oBIST, k, 0⟩ 0x0BF7 0 (msgWord m.1 0x01 m.2) (qmsg m.1 0x01 m.2 d1)
  if k = 2 && dac then raise 126 (returnUnit k u true d2) else raiseBist k u (returnUnit k u true d2)

/-- A failed engine leaves OUT when the handling of EV126 has ended (R505). -/
def freeFailed (d : Dev) : Dev :=
  match d.bist.failHold with
  | some e =>
    if (esc d 126).state = 2 then d
    else
      let d1 := { d with bist.failHold := none }
      if (eng d e).state == .out then setEngState e .loading d1 else d1
  | none => d

/-- Voltage in uV of the code of a converter slice (R500). -/
def sliceUv (u : Nat) : Nat := if u % 2 = 0 then 1000000 else 4000000

/-- A converter path's result lies within 10 mV + 0.5 % x V of the direct reading, both in uV (R500); V is the applied voltage
(DEDUCED, log 97). -/
def pathGood (u : Nat) (result direct : Int) : Bool := decide ((result - direct).natAbs ≤ 10000 + sliceUv u / 200)

/-- The direct TEST_DAC reading lies more than 20 mV from code / 186 V (R511). -/
def dacWrong (u : Nat) (direct : Int) : Bool := decide (20000 < (direct - (sliceUv u : Int)).natAbs)

/-- The evidence of a slice that has reached its count (R509): the test's own comparisons and signature, the two readings of
a converter slice, the readings of a comparator's check (R201, R202). -/
def slicePasses (d : Dev) (k u : Nat) (ok : Bool) (result direct : Int) : Bool :=
  ok && (k != 2 || pathGood u result direct) && !(k == 3 && d.cmp.checkBad)

/-- BIST_SLICE_DONE (R505, R509, R511): ok is the comparison of every value and signature of an SRAM, engine or loopback
slice; result and direct are the readings of a converter slice in uV; word is the first failing 64-bit word of an SRAM block. -/
def execBistSliceDone (ok : Bool) (result direct : Int) (word : Nat) (s : State) : Host.Outcome State Fault Refusal :=
  runDev s (fun d =>
    match d.bist.slice with
    | none => d
    | some (k, u) =>
      let d1 := if slicePasses d k u ok result direct then
          returnUnit k u false (modKind k (fun x => { x with last := 1, unit := sliceUnit k u }) d)
        else failSlice k u (dacWrong u direct) word d
      cycleEnd (freeFailed d1))

/-- BIST_BUDGET_EXPIRY (R510): cut short without evidence; a wrong reading that a comparator's check has already given is
evidence (R509); a slice that still waits for the test DAC has not run (R508). -/
def execBistBudgetExpiry (s : State) : Host.Outcome State Fault Refusal :=
  runDev s (fun d =>
    match d.bist.slice, d.bist.waiting with
    | none, none => d
    | none, some (k, u, _) => cycleEnd (deferSlice k u { d with bist.waiting := none })
    | some (k, u), _ =>
      let d1 := if k = 3 && d.cmp.checkBad then failSlice k u false 0 d else cutSlice d
      cycleEnd d1)

/-! ## Commands -/

/-- Coverage period in ms (R507). -/
def coverage (d : Dev) : Nat :=
  let u := (((List.range 5).filter (kindOn d)).map (coverUnits d)).sum
  if itemN d 0x0903 = 0 then 0 else cdiv (1000 * u) (itemN d 0x0903)

/-- BIST_CFG (R470, R507, R512). -/
def execBistCfg (m : Msg) (s : State) : Host.Outcome State Fault Refusal :=
  runDev s (runCmd ⟨0x5C, lenIs 5, true, false, false⟩ m (fun d =>
    setAnswer (setItems (msgCtx d 0x5C m) [(0x0901, req m 1), (0x0902, req m 2), (0x0903, req m 3)] d)
      (fun d => [Word.of (coverage d)])))

/-- The words of a kind in BIST_READ (R471, R513). -/
def kindWords (x : Kind) : List Word := [Word.of (x.last * 2 ^ 28 + x.unit % 2 ^ 24), Word.of (x.fails * 2 ^ 16 + x.incomplete)]

/-- BIST_READ (R471, R513). -/
def execBistRead (m : Msg) (s : State) : Host.Outcome State Fault Refusal :=
  runDev s (runCmd ⟨0x5D, lenIs 3, false, false, false⟩ m (fun d =>
    if !onlyBits 1 (req m 1) then refuse stRANGE d
    else
      let data := ((List.range 5).filter (kindOn d)).flatMap (fun k => kindWords (kindAt d k)) ++
        [Word.of (d.bist.lastCycle * 2 ^ 16 + d.bist.deferred)]
      okWith data (if bit (req m 1) 0 then
        { d with bist.deferred := 0
                 bist.kinds := d.bist.kinds.map (fun (x : Kind) => { x with fails := 0, incomplete := 0 }) }
        else d)))

end Sys2Proof.Machine
end

