-- ==== Sys2Proof/Machine/Faults.lean ====
section
/-! DEFINITION. The timed steps of escalation, FAULTN, the start-up checks, forced events
(15_faults_and_sluices.md R482 to R496). -/

namespace Sys2Proof.Machine

/-- ESC_WINDOW_EXPIRY (R482). -/
def execEscWindowExpiry (k : Fin 128) (s : State) : Host.Outcome State Fault Refusal :=
  runDev s (fun d => if !isInfo k && (esc d k).state = 1 then modEsc k (fun e => { e with state := 0, count := 0 }) d else d)

/-- ESC_HANDLING_END (R483): the minimum pulse has ended and the reaction's entry has been written; a self-test's failed
engine may then leave OUT (R505). -/
def execEscHandlingEnd (k : Fin 128) (s : State) : Host.Outcome State Fault Refusal :=
  runDev s (fun d =>
    let e := esc d k
    if e.state = 2 && !e.pulse && e.journal.isNone then freeFailed (endHandling k d) else d)

/-- REACTION_JOURNAL (R430, R483, R516): written between commands. -/
def execReactionJournal (k : Fin 128) (s : State) : Host.Outcome State Fault Refusal :=
  runDev s (fun d =>
    match (esc d k).journal with
    | some (it, old, new, r) =>
      if awake d && d.cmd.hkReady && d.cmd.busy.isNone then
        jput ⟨oREACTION, k, r⟩ it old new (modEsc k (fun e => { e with journal := none }) d)
      else d
    | none => d)

/-- STRETCH_END (R483, R491): the stretcher ends, and with it the minimum pulses of the handlings in progress. -/
def execStretchEnd (s : State) : Host.Outcome State Fault Refusal :=
  runDev s (fun d =>
    if d.fault.stretch then
      { d with fault.stretch := false, fault.esc := d.fault.esc.map (fun (e : Esc) => { e with pulse := false }) }
    else d)

/-- FAULTN_STUCK (R493). -/
def execFaultnStuck (s : State) : Host.Outcome State Fault Refusal :=
  runDev s (fun d => if awake d && faultnLow d then raise 127 { d with pins.faultnReadHigh := true } else d)

/-! ## Start-up checks -/

/-- ROM, the lockstep compare and the OTP trim are the checks whose failure keeps STARTUP set (R494, R525). -/
def checkCritical (f : Nat × Nat) : Bool := f.1 == 0x02 || f.1 == 0x04 || (f.1 == 0x03 && decide (f.2 < 128))

/-- A start-up check that fails (R494, R519): message, entry with origin BIST, EV126 naming the unit. -/
def checkFails (f : Nat × Nat) (d : Dev) : Dev :=
  let d1 := jput ⟨oBIST, 0xFF, 0⟩ 0x0BF7 0 (msgWord f.1 0x01 f.2) (qmsg f.1 0x01 f.2 d)
  match f.1 with
  | 0x05 => raiseBist 1 f.2 d1
  | 0x08 => raiseBist 3 f.2 d1
  | _ => raise 126 d1

/-- The start-up checks have such a check: no engine that the part lacks, no comparator that is not armed (R9, R494). -/
def checkMade (d : Dev) (f : Nat × Nat) : Bool :=
  match f.1 with
  | 0x05 => decide (f.2 < d.part.engines)
  | 0x08 => decide (f.2 < 64) && mbit d.cmp.armed f.2
  | _ => true

/-- STARTUP_CHECKS_DONE (R494, R495): fails lists source and address of each check that failed. -/
def execStartupChecksDone (fails : List (Nat × Nat)) (s : State) : Host.Outcome State Fault Refusal :=
  runDev s (fun d =>
    if awake d && d.fault.startup && !d.fault.critical then
      let l := fails.filter (checkMade d)
      let bad := l.any checkCritical
      qmsg 0x0C 0x00 l.length (forEach l checkFails { d with fault.critical := bad, fault.startup := bad })
    else d)

end Sys2Proof.Machine
end

