-- ==== Sys2Proof/Machine/D2d.lean ====
section
/-! DEFINITION. The commands of the die-to-die bus: beats, acknowledgement, replay, retrain and room in the hold buffer
(01_architecture.md R17 to R25, 15_faults_and_sluices.md R497). -/

namespace Sys2Proof.Machine

/-- An armed inversion of the next beat's CRC in a direction is made (R497). -/
def takeBeatInject (up : Bool) (d : Dev) : Bool × Dev :=
  match d.fault.inject with
  | (3, b, p, n, a) :: t =>
    if p = dirCode up then
      (true, { d with fault.inject := if n ≤ 1 then t else (3, b, p, n - 1, a) :: t })
    else (false, d)
  | _ => (false, d)

/-! ## Sending -/

/-- TYPEs that the hold buffer keeps: upward content other than MOD (R25). -/
def heldType (up : Bool) (typ : Nat) : Bool := up && decide (2 ≤ typ)

/-- A new beat enters the replay buffer, its content the hold buffer where that keeps it (R21, R25). -/
def sendNew (up : Bool) (typ : Nat) (content : BitVec 52) (d : Dev) : BitVec 72 × Dev :=
  let q := (lane d up).txSeq
  let b := mkBeat typ q (ackOf (lane d (!up))) content
  let d1 := modLane up (laneSend b) d
  (b, whenDo (heldType up typ) (holdPut (.raw q typ content)) d1)

/-- The beat that a direction sends (R17, R21, R22, R25): a NAK that is due; else a replay; else, below 15 outstanding,
content that waits since a retrain; else new content. None where nothing may be sent. -/
def sendBeat (up : Bool) (typ : Nat) (content : BitVec 52) (d : Dev) : Option (BitVec 72 × Dev) :=
  let l := lane d up
  if typ = 15 then (lane d (!up)).nak.map (fun q => (mkBeat 15 q (ackOf (lane d (!up))) 0, d))
  else match l.resend, l.queue with
    | b :: t, _ => some (b, modLane up (fun l => { l with resend := t }) d)
    | [], q =>
      if 15 ≤ l.unacked then none
      else match q with
        | (y, c) :: t => some (sendNew up y c (modLane up (fun l => { l with queue := t }) d))
        | [] =>
          if !typeGoes up typ || (heldType up typ && holdFull d) then none
          else some (sendNew up typ content d)

/-- A NAK (R22): the transmitter of the direction it names replays its buffer from the SEQ on; what lies before is
received. -/
def nakDo (up : Bool) (seq : Nat) (d : Dev) : Dev :=
  let n := ((lane d up).txSeq + 16 - seq) % 16
  modLane up (fun l => { l with resend := l.replay.drop (l.replay.length - n), nak := none }) (outstanding up n d)

/-! ## Retrain -/

/-- Writes and reads that are not acknowledged, or wait to be issued again, when the lanes fail (R25). -/
def openRequests (d : Dev) : List (Nat × BitVec 52) :=
  let l := d.d2d.down
  ((l.replay.drop (l.replay.length - l.unacked)).map (fun b => (beatType b, beatContent b)) ++ l.queue).filter
    (fun e => e.1 == 8 || e.1 == 9)

/-- Upward content that waits to be sent again is held still (R25). -/
def queuedHeld (d : Dev) : List Held := d.d2d.up.queue.map (fun e => .raw 0 e.1 e.2)

/-- The samples of a record whose apertures ended before the loss are judged for SETTLING as the counts stand now (R24,
R147). -/
def judgePast (r : Rec) (d : Dev) : Dev :=
  if r.written || !r.apEnd then d
  else
    let due := (mlist r.named).filter (fun c => !mbit r.late c && !mbit r.spent c && !noSample d c)
    let flagged : BitVec 25 := mof 25 (due.filter (fun c => nth d.conv.settle c 0 != 0))
    let seen : BitVec 25 := mof 25 due
    { d with
      conv.settle := d.conv.settle.mapIdx (fun c n => if due.contains c then n - 1 else n)
      conv.flight := d.conv.flight.map (fun (y : Rec) => if y.tseq = r.tseq then
        { y with settle := y.settle ||| flagged, spent := y.spent ||| seen } else y) }

/-- Modulator data are lost (R24): the decimators restart, and the samples from the apertures under way on settle. -/
def modLoss (d : Dev) : Dev :=
  let d1 := forEach d.conv.flight judgePast { d with conv.mods := [] }
  whenDo (active d) settleAll d1

/-- One SEQ has failed three times (R23): EV95; replay buffers discarded, SEQ 0, the lanes retrain. Held content and open
requests wait for its end (R25); a converter slice is cut short (R510). -/
def laneLost (up : Bool) (d : Dev) : Dev :=
  cutUnit 2 (fun _ => true) (modLoss (raiseNS 95 (dirCode up) { d with
    d2d.hold := d.d2d.hold ++ queuedHeld d
    d2d.issued := d.d2d.issued ++ openRequests d
    d2d.up := { Lane.reset with rxReg := d.d2d.up.rxReg }
    d2d.down := { Lane.reset with rxReg := d.d2d.down.rxReg }
    d2d.retrain := true }))

/-! ## Receiving -/

/-- A beat that fails its CRC (R22, R23): EV94, discarded, NAK with the expected SEQ; a third failure of that SEQ loses
the lanes. -/
def beatFails (up : Bool) (sent : BitVec 72) (d : Dev) : Dev :=
  let hit := beatType sent != 15 && beatSeq sent == (lane d up).rxSeq
  let d1 := raiseNS 94 (dirCode up) (modLane up (fun l => { l with
    discarding := true, nak := some l.rxSeq, fails := l.fails + b2n hit }) d)
  if 3 ≤ (lane d1 up).fails then laneLost up d1 else d1

/-- A beat received correctly (R17, R22): its ACK counts; a NAK starts a replay; the expected beat's content goes on,
another beat is discarded. -/
def beatPasses (up : Bool) (b : BitVec 72) (d : Dev) : Dev :=
  let d1 := laneAcked (!up) (beatAck b) d
  if beatType b = 15 then nakDo (!up) (beatSeq b) d1
  else if beatSeq b != (lane d1 up).rxSeq then d1
  else
    let d2 := modLane up (fun l => { l with rxSeq := (l.rxSeq + 1) % 16, discarding := false, fails := 0, nak := none }) d1
    if up && beatType b != 0 then
      arrive (.raw (beatSeq b) (beatType b) (beatContent b)) (intake (beatType b) (beatContent b)) d2
    else intake (beatType b) (beatContent b) d2

/-- A beat of the direction is sent and received, with the bits of damage inverted on its way (R17 to R23, R497). -/
def beatRx (up : Bool) (typ : Nat) (content : BitVec 52) (damage : BitVec 72) (d : Dev) : Dev :=
  if !awake d || d.d2d.retrain then d
  else match sendBeat up typ content d with
    | none => d
    | some x =>
      let i := takeBeatInject up x.2
      let flip : BitVec 72 := if i.1 then BitVec.ofNat 72 (0xFF * 2 ^ 64) else 0
      let b := x.1 ^^^ damage ^^^ flip
      let d1 := modLane up (fun l => { l with rxReg := b }) i.2
      if beatGood b then beatPasses up b d1 else beatFails up x.1 d1

/-- D2D_BEAT_RX. -/
def execD2dBeatRx (up : Bool) (typ : Nat) (content : BitVec 52) (damage : BitVec 72) (s : State) :
    Host.Outcome State Fault Refusal :=
  runDev s (beatRx up typ content damage)

/-- D2D_NAK_RX (R22): the transmitter of the direction replays. -/
def execD2dNakRx (up : Bool) (seq : Nat) (s : State) : Host.Outcome State Fault Refusal :=
  runDev s (fun d => if awake d && !d.d2d.retrain && decide (seq < 16) then nakDo up seq d else d)

/-- D2D_RETRAIN_DONE (R23, R25): held content is sent again, register requests are issued again. -/
def execD2dRetrainDone (s : State) : Host.Outcome State Fault Refusal :=
  runDev s (fun d =>
    if d.d2d.retrain then
      forEach d.d2d.hold sendAgain { d with
        d2d.retrain := false, d2d.hold := [], d2d.down.queue := d.d2d.issued, d2d.issued := [] }
    else d)

/-- D2D_HOLD_ROOM (R25): latched edges are sent with the period and phase of their output's change; the SAR may start
again. -/
def execD2dHoldRoom (s : State) : Host.Outcome State Fault Refusal :=
  runDev s (fun d =>
    if holdFull d then d
    else
      let d1 := forEach d.d2d.latched (fun e d => sendEdge e.1 e.2.1 false e.2.2.1 e.2.2.2 d) { d with d2d.latched := [] }
      sarKick { d1 with d2d.sarWait := false })

end Sys2Proof.Machine
end

