-- ==== Sys2Proof/Machine/RegOps.lean ====
section
/-! DEFINITION. The direct registers: what each reads, what a read clears, and what a write does (00_scope.md R13,
04_phase_timebase.md R121, 07_comparators_and_trip.md R215, 11_burza_link.md R354, R355,
12_ring_membership.md R392, 13_host_port_and_mailboxes.md R401 to R424, 15_faults_and_sluices.md R492, R496,
17_journal_otp_security.md R517). -/

namespace Sys2Proof.Machine

/-! ## The map -/

/-- Registers that every device maps (R401). -/
def commonRegs : List Nat :=
  [0x00, 0x04, 0x08, 0x10, 0x14, 0x18, 0x30, 0x34, 0x38, 0x40, 0x44, 0x48, 0x4C, 0x50, 0x54, 0x60, 0x64, 0x68, 0x6C,
   0x70, 0x74, 0x78, 0x80, 0x90, 0x94, 0x98, 0x9C, 0xA0, 0xA4, 0xA8, 0xAC, 0xB0, 0xB4, 0xB8,
   0x100, 0x104, 0x108, 0x10C, 0x110, 0x114, 0x118, 0x11C, 0x120, 0x124, 0x128, 0x12C]

/-- A word of the sweep buffer (R401). -/
def inSweepBuffer (a : Nat) : Bool := decide (0x2000 ≤ a) && decide (a < 0x4000) && a % 4 == 0

/-- Registers of the head alone (R401). -/
def headReg (a : Nat) : Bool := [0x20, 0x24, 0x28, 0x2C, 0x58].contains a || inSweepBuffer a

/-- The address is mapped on the device (R401). -/
def mapped (head : Bool) (a : Nat) : Bool := commonRegs.contains a || (head && headReg a)

/-! ## Words -/

/-- STATUS (R402). -/
def statusReg (d : Dev) : Word :=
  let p := match d.power.pstate with
    | .activeM => 1
    | .activeH => 2
    | _ => 0
  Word.of (p * 2 ^ 30 + b2n d.cmd.hkReady * 2 ^ 29 + b2n d.cmd.hkRestarted * 2 ^ 28 + b2n d.sess.isOpen * 2 ^ 27 +
    b2n (anyFence d) * 2 ^ 26 + causeCode d.power.cause * 2 ^ 16 + d.cmd.hkRestarts * 2 ^ 8 + ownAddr d)

/-- Free words of the command mailbox (R408, R409). -/
def mbxFree (d : Dev) : Nat := 256 - (d.host.composed.length + d.host.submitted)

/-- MBX_CMD_CTRL (R408). -/
def cmdCtrlReg (d : Dev) : Word :=
  Word.of (d.host.target * 2 ^ 26 + b2n d.host.ovf * 2 ^ 23 + d.host.composed.length * 2 ^ 9 + mbxFree d)

/-- Words that the response mailbox holds (R408). -/
def rspFill (d : Dev) : Nat := (d.host.rsps.map (fun (r : Resp) => r.words.length)).sum - d.host.rspPos

/-- Commands outstanding in the ring (R409, R410): a broadcast counts as one. -/
def outstNow (d : Dev) : Nat := d.host.outst.length

/-- MBX_RSP_CTRL (R408). -/
def rspCtrlReg (d : Dev) : Word :=
  match d.host.rsps with
  | [] => Word.of (outstNow d * 2 ^ 18)
  | r :: _ => Word.of (r.src * 2 ^ 26 + 2 ^ 25 + outstNow d * 2 ^ 18 + r.words.length * 2 ^ 9 + rspFill d % 512)

/-- MBX_COUNTS (R421). -/
def countsReg (d : Dev) : Word :=
  Word.of (d.host.evtDrop * 2 ^ 24 + d.host.spiCrc * 2 ^ 16 + d.host.msgCrc * 2 ^ 8 + d.host.seqGaps)

/-- LINK_STAT (R354). -/
def linkStatReg (d : Dev) : Word :=
  Word.of (b2n d.link.lockA * 2 ^ 31 + b2n d.link.lockB * 2 ^ 30 + b2n d.link.losA * 2 ^ 29 + b2n d.link.losB * 2 ^ 28 +
    b2n d.link.almValid * 2 ^ 27 + b2n d.link.unswept * 2 ^ 26 + b2n d.link.enRefused * 2 ^ 25 + d.link.crcCnt * 2 ^ 16 +
    d.link.violCnt * 2 ^ 8 + d.link.retryCnt)

/-- The RING_MAP entry of an address as it stands (R392). -/
def mapAt (d : Dev) (a : Nat) : MapEntry := nth d.ring.map a MapEntry.reset

/-- RING_MAP with SEL = a (R392). -/
def mapWord (d : Dev) (a : Nat) : Word :=
  if a = 1 then
    Word.of (2 ^ 26 + 2 ^ 25 + b2n (d.ring.foldAAddr == 1 || d.ring.foldBAddr == 1) * 2 ^ 22 + d.ring.dRing % 4096)
  else
    let e := mapAt d a
    Word.of (a * 2 ^ 26 + b2n e.present * 2 ^ 25 + b2n e.reserved * 2 ^ 24 + b2n e.arm * 2 ^ 23 + b2n e.fold * 2 ^ 22 +
      e.pos * 2 ^ 16 + (if e.arm then e.dB else e.dA) % 4096)

/-- Code of a ring mode (R359). -/
def modeCode : RingMode → Nat
  | .gated => 0
  | .normal => 1
  | .arm => 2
  | .reversed => 3
  | .fold => 4
  | .unattached => 5
  | .await => 6

/-- RING_SELF (R392). -/
def ringSelfReg (d : Dev) : Word :=
  Word.of (ownAddr d * 2 ^ 26 + b2n d.ring.gate * 2 ^ 25 + modeCode d.ring.mode * 2 ^ 22 + b2n d.ring.foldB * 2 ^ 21 +
    b2n d.ring.farLock * 2 ^ 20 + b2n d.ring.farProbe * 2 ^ 19 + d.ring.epoch)

/-- A pair of delays as RING_DELAY lays them out (R392). -/
def delayWord (vB : Bool) (dB : Nat) (vA : Bool) (dA : Nat) : Word :=
  Word.of (b2n vB * 2 ^ 31 + dB % 4096 * 2 ^ 16 + b2n vA * 2 ^ 15 + dA % 4096)

/-- RING_DELAY (R392): 0 on the head. -/
def ringDelayReg (d : Dev) : Word := if isHead d then 0 else delayWord d.ring.valB d.ring.dB d.ring.valA d.ring.dA

/-- Code of RING_STAT.STATE (R392). -/
def ringStateCode : RingState → Nat
  | .idle => 0
  | .enumerating => 1
  | .closed => 2
  | .wrapped => 3
  | .failed => 4
  | .conflict => 5

/-- PRESENT members (R392). -/
def members (d : Dev) : Nat := (d.ring.map.filter (fun (e : MapEntry) => e.present)).length

/-- RING_STAT (R392): 0 on a member. -/
def ringStatReg (d : Dev) : Word :=
  if isHead d then
    Word.of (ringStateCode d.ring.stat * 2 ^ 29 + d.ring.foldBAddr * 2 ^ 18 + d.ring.foldAAddr * 2 ^ 12 + members d * 2 ^ 6 +
      d.ring.attempts)
  else 0

/-- SWEEP_STAT (R423). -/
def sweepStatReg (d : Dev) : Word :=
  Word.of (d.host.front.no * 2 ^ 16 + b2n d.host.swNew * 2 ^ 15 + b2n d.host.swHold * 2 ^ 14 + b2n d.host.front.full * 2 ^ 13 +
    d.host.swRepl)

/-- STATE code of the timebase (R121). -/
def tbStateCode : TbState → Nat
  | .free => 0
  | .acquire => 1
  | .locked => 2
  | .flywheel => 3

/-- TB_STAT (R121). -/
def tbStatReg (d : Dev) : Word :=
  Word.of (tbStateCode d.tb.state * 2 ^ 30 + d.tb.headState * 2 ^ 28 + b2n d.tb.pllmLock * 2 ^ 27 + b2n d.tb.phaseLost * 2 ^ 26 +
    b2n d.tb.tsPortB * 2 ^ 25 + d.tb.refReject * 2 ^ 16 + d.tb.lateCnt)

/-- TRIP_STAT (R215). -/
def tripStatReg (d : Dev) : Word :=
  Word.of (b2n d.trip.tripn * 2 ^ 31 + b2n d.trip.localLatch * 2 ^ 30 + b2n d.trip.rxLatch * 2 ^ 29 +
    b2n (if isHead d then d.trip.localLatch || d.trip.rxLatch else d.trip.headEcho) * 2 ^ 28 + b2n d.trip.pending * 2 ^ 27 +
    b2n d.trip.tsValid * 2 ^ 26 + d.trip.rxPort.toNat * 2 ^ 24 + d.trip.insertCnt * 2 ^ 16)

/-- n bits of a vector from a place on, as a word. -/
def cmpBits {w : Nat} (v : BitVec w) (lo n : Nat) : Word := Word.of ((v.toNat >>> lo) % 2 ^ n)

/-- The comparator registers (R215). -/
def cmpReg (d : Dev) (a : Nat) : Word :=
  if a = 0x90 then cmpBits d.cmp.level 0 24
  else if a = 0x94 then cmpBits d.cmp.level 24 24
  else if a = 0x98 then cmpBits d.cmp.rise 0 24
  else if a = 0x9C then cmpBits d.cmp.fall 0 24
  else if a = 0xA0 then cmpBits d.cmp.rise 24 24
  else if a = 0xA4 then cmpBits d.cmp.fall 24 24
  else if a = 0xA8 then Word.of (d.cmp.axAbove.toNat * 2 ^ 16 + d.cmp.axBelow.toNat)
  else if a = 0xAC then cmpBits d.cmp.rise 48 16 * 65536 + cmpBits d.cmp.fall 48 16
  else if a = 0xB0 then Word.of d.cmp.undecided.toNat
  else if a = 0xB4 then cmpBits d.cmp.inband 0 24
  else cmpBits d.cmp.inband 24 24

/-- Word j of entry a of the front buffer (R423, R424). -/
def sweepEntryWord (d : Dev) (a j : Nat) : Word :=
  let ws := (akey d.host.front.entries a).getD [Word.of (d.host.front.no * 2 ^ 16)]
  if j = 0 then nth ws 0 0
  else if bit (nth ws 0 0) 15 && (a == 1 || (mapAt d a).present) then nth ws j 0 else 0

/-- A word of the sweep buffer (R423). -/
def sweepWord (d : Dev) (addr : Nat) : Word :=
  let i := (addr - 0x2000) / 4
  let n := if d.host.front.full then 32 else 16
  if i / n < 62 then sweepEntryWord d (i / n + 1) (i % n) else 0

/-- What a read of a mapped register returns (R401, R408, R418): write-only fields read 0. -/
def regWord (d : Dev) (a : Nat) : Word :=
  if a = 0x00 then idWord d
  else if a = 0x04 then d.part.cap0
  else if a = 0x08 then d.part.cap1
  else if a = 0x10 then statusReg d
  else if a = 0x14 then Word.of (eventSum d)
  else if a = 0x18 then Word.of d.host.irqEn.toNat
  else if a = 0x24 then cmdCtrlReg d
  else if a = 0x28 then (match d.host.rsps with
    | r :: _ => nth r.words d.host.rspPos 0
    | [] => 0)
  else if a = 0x2C then rspCtrlReg d
  else if a = 0x30 then nth d.host.evt 0 0
  else if a = 0x34 then nth d.host.strm 0 0
  else if a = 0x38 then countsReg d
  else if a = 0x40 then Word.of (b2n d.link.enB * 2 + b2n d.link.enA)
  else if a = 0x44 then linkStatReg d
  else if a = 0x48 then (if isHead d then mapWord d d.ring.sel else 0)
  else if a = 0x4C then ringSelfReg d
  else if a = 0x50 then ringDelayReg d
  else if a = 0x54 then ringStatReg d
  else if a = 0x58 then sweepStatReg d
  else if a = 0x64 then d.tb.pwFreq
  else if a = 0x68 then tbStatReg d
  else if a = 0x6C then Word.of d.tb.period
  else if a = 0x70 then tripStatReg d
  else if a = 0x74 then d.trip.tsPhase
  else if a = 0x78 then Word.of d.trip.tsPeriod
  else if a = 0x80 then faultPinWord d
  else if 0x90 ≤ a ∧ a ≤ 0xB8 then cmpReg d a
  else if 0x100 ≤ a ∧ a ≤ 0x10C then cmpBits d.host.evf ((a - 0x100) * 8) 32
  else if 0x110 ≤ a ∧ a ≤ 0x11C then cmpBits d.host.eve ((a - 0x110) * 8) 32
  else if 0x2000 ≤ a then sweepWord d a
  else 0

/-! ## What a read does -/

/-- One word of a record mailbox is taken: the words that are left of each record. -/
def takeRec : List Nat → List Nat
  | [] => []
  | n :: t => if n ≤ 1 then t else (n - 1) :: t

/-- A read of MBX_RSP_WIN takes a word; after the last the next response becomes current (R408). -/
def takeRsp (d : Dev) : Dev :=
  match d.host.rsps with
  | [] => d
  | r :: t =>
    if d.host.rspPos + 1 < r.words.length then { d with host.rspPos := d.host.rspPos + 1 }
    else { d with host.rsps := t, host.rspPos := 0 }

/-- RC fields clear, windows give up the word that was read (R408, R418, R421, R423, R121, R215, R354). -/
def afterRead (a : Nat) (d : Dev) : Dev :=
  if a = 0x28 then takeRsp d
  else if a = 0x30 then { d with host.evt := d.host.evt.drop 1, host.evtRecs := takeRec d.host.evtRecs }
  else if a = 0x34 then { d with host.strm := d.host.strm.drop 1, host.strmRecs := takeRec d.host.strmRecs }
  else if a = 0x38 then { d with host.evtDrop := 0, host.spiCrc := 0, host.msgCrc := 0, host.seqGaps := 0 }
  else if a = 0x44 then { d with link.crcCnt := 0, link.violCnt := 0, link.retryCnt := 0 }
  else if a = 0x58 then { d with host.swNew := false, host.swRepl := 0 }
  else if a = 0x68 then { d with tb.refReject := 0, tb.lateCnt := 0 }
  else if a = 0x70 then { d with trip.insertCnt := 0 }
  else d

/-- A direct register read: the word, and the device after it. -/
def readReg (a : Nat) (d : Dev) : Word × Dev := if mapped (isHead d) a then (regWord d a, afterRead a d) else (0, d)

/-! ## Writes -/

/-- ITEM of a direct register (R516). -/
def regItem (a : Nat) : Nat := 0xC000 + a / 4

/-- An RW field that a write alters makes its entry, OLD and NEW in the field's place (R517, log 46). -/
def fieldEntry (src : Source) (a mask : Nat) (old new : Word) (d : Dev) : Dev :=
  jchange (srcCtx src) (regItem a) (old &&& Word.of mask) (new &&& Word.of mask) d

/-- The completed sweep waiting is published (R422). -/
def publishSweep (d : Dev) : Dev :=
  match d.host.back with
  | some b => if d.host.swHold then d else { d with host.front := b, host.back := none, host.swNew := true }
  | none => d

/-- The port on which the device receives the head's frames (R355): the head its own, on port A of a closed ring. -/
def receivePort (d : Dev) : Option Port :=
  if isHead d then (if d.ring.stat == .closed then some .A else none) else headSide d

/-- An enable of a port written (R354, R355, R45); a disabled port leaves lock. -/
def writeEnable (src : Source) (p : Port) (w : Word) (d : Dev) : Dev :=
  let v := bit w p.num
  let old := Word.of (b2n (portEnabled d p) * 2 ^ p.num)
  if !v && portEnabled d p && receivePort d == some p then { d with link.enRefused := true }
  else
    let d1 := fieldEntry src 0x40 (2 ^ p.num) old w d
    let d2 := match p with
      | .A => { d1 with link.enA := v }
      | .B => { d1 with link.enB := v }
    if v then d2 else setLock p false d2

/-- CLR_CNT (R354). -/
def clearLinkCounts (d : Dev) : Dev := { d with link.crcCnt := 0, link.violCnt := 0, link.retryCnt := 0 }

/-- A write to LINK_CTRL (R354, R355). -/
def writeLinkCtrl (src : Source) (w : Word) (d : Dev) : Dev :=
  writeEnable src .B w (writeEnable src .A w (whenDo (bit w 2) clearLinkCounts d))

/-- A write to FAULT_PIN_CTRL (R492, R517). -/
def writeFaultPin (src : Source) (w : Word) (d : Dev) : Dev :=
  let rw := fun (d : Dev) => Word.of (d.fault.stretch10us * 256 + b2n d.fault.force * 2 + b2n d.fault.auto)
  let d1 := { d with fault.stretch10us := max 5 (bf w 8 8), fault.force := bit w 1, fault.auto := bit w 0 }
  let d2 := jchange (srcCtx src) 0xC020 (rw d) (rw d1) d1
  if bit w 2 && d.fault.latch && !(faultLive d || d.fault.startup || d.fault.stretch) then
    jput (srcCtx src) 0xC020 1 0 { d2 with fault.latch := false }
  else d2

/-- Enable bits of sources that the part lacks ignore writes (00_scope.md R9). -/
def enableMask (d : Dev) (w : Nat) : Nat :=
  (mof 32 ((List.range 32).filter (fun i => !srcAbsent d.part (32 * w + i)))).toNat

/-- A write to EVEw (R404, R517). -/
def writeEnables (src : Source) (n : Nat) (w : Word) (d : Dev) : Dev :=
  let v := w &&& Word.of (enableMask d n)
  { fieldEntry src (0x110 + 4 * n) 0xFFFFFFFF (cmpBits d.host.eve (32 * n) 32) v d with
    host.eve := (d.host.eve &&& ~~~ (BitVec.ofNat 128 (0xFFFFFFFF * 2 ^ (32 * n)))) ||| BitVec.ofNat 128 (v.toNat * 2 ^ (32 * n)) }

/-- A write of 1 to bits of EVFORCEw (R496), the lowest event first. -/
def writeForce (w : Nat) (v : Word) (d : Dev) : Dev := forEach (mlist v) (fun i d => raiseForced (32 * w + i) d) d

/-- A write to RING_DELAY on a member (R392, R517). -/
def writeRingDelay (src : Source) (w : Word) (d : Dev) : Dev :=
  let old := ringDelayReg d
  let d1 := forEach [0x80000000, 0x0FFF0000, 0x8000, 0xFFF] (fun m d => fieldEntry src 0x50 m old w d) d
  { d1 with ring.valB := bit w 31, ring.dB := bf w 16 12, ring.valA := bit w 15, ring.dA := bf w 0 12 }

/-- W1C of the comparator flags (R215): n flags from comparator lo on, rising or falling. -/
def clearFlags (rise : Bool) (lo n : Nat) (v : Nat) (d : Dev) : Dev :=
  let m : BitVec 64 := BitVec.ofNat 64 ((v % 2 ^ n) * 2 ^ lo)
  if rise then { d with cmp.rise := d.cmp.rise &&& ~~~ m } else { d with cmp.fall := d.cmp.fall &&& ~~~ m }

/-- A write to TRIP_STAT (R215): LOCAL_LATCH stays while TRIPN is asserted. -/
def writeTripStat (w : Word) (d : Dev) : Dev :=
  { d with
    trip.localLatch := d.trip.localLatch && (!bit w 30 || d.trip.tripn)
    trip.rxLatch := d.trip.rxLatch && !bit w 29
    trip.rxPort := if bit w 29 then 0 else d.trip.rxPort
    trip.tsValid := d.trip.tsValid && !bit w 26 }

/-- What a write to a mapped register that needs no message mailbox does (R397, R401): RO fields and reserved bits are
ignored. -/
def writeReg (src : Source) (a : Nat) (w : Word) (d : Dev) : Dev :=
  if a = 0x10 then { d with cmd.hkRestarted := d.cmd.hkRestarted && !bit w 28 }
  else if a = 0x18 then
    { fieldEntry src a 0x1FF (Word.of d.host.irqEn.toNat) w d with host.irqEn := BitVec.ofNat 9 w.toNat }
  else if a = 0x40 then writeLinkCtrl src w d
  else if a = 0x44 then
    { d with link.losA := d.link.losA && !bit w 29, link.losB := d.link.losB && !bit w 28
             link.enRefused := d.link.enRefused && !bit w 25 }
  else if a = 0x48 then (if isHead d then { d with ring.sel := bf w 26 6 } else d)
  else if a = 0x50 then (if isHead d then d else writeRingDelay src w d)
  else if a = 0x58 then (if isHead d then publishSweep { d with host.swHold := bit w 14 } else d)
  else if a = 0x60 then phaseWord w d
  else if a = 0x64 then
    (if isHead d && itemN d 0x0601 == 2 then { fieldEntry src a 0xFFFFFFFF d.tb.pwFreq w d with tb.pwFreq := w } else d)
  else if a = 0x70 then writeTripStat w d
  else if a = 0x80 then writeFaultPin src w d
  else if a = 0x98 then clearFlags true 0 24 w.toNat d
  else if a = 0x9C then clearFlags false 0 24 w.toNat d
  else if a = 0xA0 then clearFlags true 24 24 w.toNat d
  else if a = 0xA4 then clearFlags false 24 24 w.toNat d
  else if a = 0xAC then clearFlags true 48 16 (bf w 16 16) (clearFlags false 48 16 (bf w 0 16) d)
  else if 0x100 ≤ a ∧ a ≤ 0x10C then
    { d with host.evf := d.host.evf &&& ~~~ (BitVec.ofNat 128 (w.toNat * 2 ^ ((a - 0x100) * 8))) }
  else if 0x110 ≤ a ∧ a ≤ 0x11C then writeEnables src ((a - 0x110) / 4) w d
  else if 0x120 ≤ a ∧ a ≤ 0x12C then writeForce ((a - 0x120) / 4) w d
  else d

end Sys2Proof.Machine
end

