-- ==== Sys2Proof/Machine/FrameOps.lean ====
section
/-! DEFINITION. What a device does with a frame that arrives: damage, CRC, header, trip field, timing block, almanac,
replies, sweep slots, and the turning of passes (11_burza_link.md R323 to R354, 12_ring_membership.md R359 to R371,
R386 to R388, 04_phase_timebase.md R105 to R107, 07_comparators_and_trip.md R210). A frame is one command, taken whole at
its first SYNC edge (log 44). -/

namespace Sys2Proof.Machine

/-! ## Words of a frame -/

/-- CRC-24 (R330) over words, from a register value. -/
def crc24From (reg : Nat) (l : List Word) : Nat := crcList 24 0x864CFB 32 (l.map BitVec.toNat) reg

/-- CRC-24 (R330) over words. -/
def crc24 (l : List Word) : Nat := crc24From 0xB704CE l

/-- REPLY word (R337). -/
def replyWord (addr seq lstat : Nat) : Word :=
  let v := addr % 64 * 2 ^ 18 + seq % 256 * 2 ^ 8 + lstat
  Word.of (v * 256 + crc8 24 v)

/-- RCRC word (R337). -/
def rcrcWord (l : List Word) : Word := Word.of (crc24 l * 256)

/-- LSTAT L_ACCEPT. -/
def lACCEPT : Nat := 1
/-- LSTAT L_DUP. -/
def lDUP : Nat := 2
/-- LSTAT L_BUSY. -/
def lBUSY : Nat := 3
/-- LSTAT L_EMPTY. -/
def lEMPTY : Nat := 5

/-- The header word of a frame (R327). -/
def headerWord (typ seq addr : Nat) (bcast alm : Bool) (rty len : Nat) : Word :=
  Word.of (typ * 2 ^ 28 + seq * 2 ^ 20 + addr * 2 ^ 14 + b2n bcast * 2 ^ 13 + b2n alm * 2 ^ 12 + rty * 2 ^ 10 + len)

/-- The header of a frame received. -/
def frameHeader (f : Frame) : Word := headerWord f.typ f.seq f.addr f.bcast f.alm f.rty f.len

/-- OP of a RING_CTL frame (R367). -/
def ringOp (f : Frame) : Nat := bf (nth f.body 0 0) 28 4

/-- LENGTH lies in the range of the TYPE (R328, R329, R367). -/
def lengthOk (typ len : Nat) : Bool :=
  match typ with
  | 1 => len == 0
  | 2 => decide (1 ≤ len) && decide (len ≤ 32)
  | 3 => decide (1 ≤ len) && decide (len ≤ 17)
  | 4 => decide (4 ≤ len) && decide (len ≤ 130) && len % 2 == 0
  | 6 => len == 4
  | 5 | 7 | 8 | 9 | 10 | 11 => len == 2
  | _ => false

/-- A header error (R329, R368): reserved TYPE, LENGTH, broadcast and address, an OP that is not listed. -/
def headerError (f : Frame) : Bool :=
  !lengthOk f.typ f.len || (f.bcast != (f.addr == 63)) || (f.bcast && (f.typ == 5 || f.typ == 7)) ||
    (f.typ == 11 && !(decide (1 ≤ ringOp f) && decide (ringOp f ≤ 7)))

/-- Damage before the frame's CRC-24 had passed (R334). -/
def lostEarly (f : Frame) : Bool := f.damagedAt == 1 || f.damagedAt == 3

/-- The frame is turned by its target or the first closed headgate (R363): ENUM, DELAY to a member, directed RING_CTL. -/
def isTurned (f : Frame) : Bool := f.typ == 8 || (f.typ == 10 && f.addr != 1) || (f.typ == 11 && !f.bcast)

/-! ## Counters -/

/-- A code violation or a header error (R329, R334): VIOL_CNT, EV65. -/
def countViol (p : Port) (d : Dev) : Dev := raisePort 65 p { d with link.violCnt := satInc 255 d.link.violCnt }

/-- A CRC-24 mismatch (R335): CRC_CNT, EV64. -/
def countCrc (p : Port) (d : Dev) : Dev := raisePort 64 p { d with link.crcCnt := satInc 255 d.link.crcCnt }

/-! ## Trip field, timing block, almanac -/

/-- The majority of the three copies of a bit of the trip field (R210, R326). -/
def majority (t : BitVec 6) (i : Nat) : Bool :=
  let n := b2n (mbit t i) + b2n (mbit t (i + 2)) + b2n (mbit t (i + 4))
  decide (2 ≤ n)

/-- A member takes the trip field, whether or not the CRC passes (R210, R326). -/
def takeTrip (f : Frame) (d : Dev) : Dev :=
  notePending { d with
    trip.headEcho := majority f.trip 0
    trip.headField := mof 2 ((if majority f.trip 0 then [0] else []) ++ (if majority f.trip 1 then [1] else [])) }

/-- A repeat of the TRIP behind a frame that is forwarded (R210). -/
def repeatTrip (d : Dev) : Dev := if d.trip.pending then insertTrip d else d

/-- A timing block that does not count (R107, R387). -/
def badBlock (d : Dev) : Dev := { d with tb.goodBlocks := 0 }

/-- The valid delay of a port (R106, R387). -/
def portDelay (d : Dev) : Port → Option Nat
  | .A => if d.ring.valA then some d.ring.dA else none
  | .B => if d.ring.valB then some d.ring.dB else none

/-- The state of a member's timebase after a block whose error is small or not (R93, R107): 8 good blocks lock it; a block
on the other port within 2 ms finds it still locked (log 48). -/
def blockState (small moved : Bool) (gap : Nat) (d : Dev) : Dev :=
  match d.tb.state with
  | .acquire =>
    let d1 := { d with tb.goodBlocks := if small then d.tb.goodBlocks + 1 else 0 }
    if 8 ≤ d1.tb.goodBlocks then enterLocked d1 else d1
  | .flywheel =>
    if small && moved && decide (gap < 768000) then enterLocked d
    else
      let d1 := enterAcquire d
      { d1 with tb.goodBlocks := b2n small }
  | _ => d

/-- A timing block applied (R106, R107, R101, R387); the first one loads the accumulator and asks for an N (R110). The load
has no error to judge, so that it does not count among the 8 blocks of R107 (DESIGN CHOICE, log 80). -/
def takeBlock (f : Frame) (d : Dev) : Dev :=
  match portDelay d f.port with
  | none => badBlock d
  | some dl =>
    let inc : Nat := bf f.tsWord2 0 30 * 64
    let want : Nat := f.tsPeriod.toNat * 2 ^ 48 + f.tsPhase.toNat * 2 ^ 16 + dl * inc
    let onB := f.port == Port.B
    let moved := d.tb.tsPortB != onB
    let gap := d.now - d.tb.lastAcc.getD 0
    let d1 := { d with tb.headState := bf f.tsWord2 30 2, tb.tsPortB := onB, tb.lastAcc := some d.now }
    if !d.tb.loaded then
      judgeBand (askMult inc { d1 with
        tb.acc := want % 2 ^ 48, tb.period := want / 2 ^ 48 % 2 ^ 32, tb.inc := inc, tb.corr := 0, tb.loaded := true })
    else
      let own : Nat := d.tb.period * 2 ^ 48 + d.tb.acc
      let e : Int := (want : Int) - (own : Int)
      let ph : Int := shortWay e
      let step : Nat := (((e - ph) / (2 ^ 48 : Int)) % (2 ^ 32 : Int)).toNat
      let small : Bool := decide (ph.natAbs ≤ 2 * inc)
      blockState small moved gap (judgeBand { d1 with
        tb.inc := inc, tb.corr := ph
        tb.stepTo := if step = 0 then none else some ((d.tb.period + 1 + step) % 2 ^ 32) })

/-- A bit string as a number, the first bit highest. -/
def bitsNat (l : List Bool) : Nat := l.foldl (fun a b => 2 * a + b2n b) 0

/-- A complete almanac (R353): EV69 where its CRC-16 fails; otherwise time, ALM_VALID, RING_EPOCH and RING. -/
def adoptAlmanac (d : Dev) : Dev :=
  let v := bitsNat d.link.almBits
  let d1 := { d with link.almBits := [] }
  if crc16Bits 112 (v / 2 ^ 16) != v % 2 ^ 16 then raiseNS 69 0xFFFF d1
  else
    setTime (v / 2 ^ 80) d.link.almAt (v / 2 ^ 48 % 2 ^ 32) { d1 with
      link.almValid := true, ring.epoch := v / 2 ^ 32 % 2 ^ 16, link.ringIdRx := v / 2 ^ 30 % 4 }

/-- The almanac bit of a frame (R352, R353): a missing bit discards the almanac, a retry carries a bit already taken. -/
def takeAlmanac (f : Frame) (d : Dev) : Dev :=
  let i := f.seq % 128
  let n := d.link.almBits.length
  if i = 0 then (if n = 1 && decide (0 < f.rty) then d else { d with link.almBits := [f.alm], link.almAt := d.now })
  else if n = 0 || (i + 1 = n && decide (0 < f.rty)) then d
  else if i = n then
    let d1 := { d with link.almBits := d.link.almBits ++ [f.alm] }
    if n = 127 then adoptAlmanac d1 else d1
  else { d with link.almBits := [] }

/-! ## Membership -/

/-- FORGET (R361, R368, R371): address 0, headgate closed, delays invalid, GATED. -/
def forget (d : Dev) : Dev :=
  { d with
    ring.addr := 0, ring.gate := false, ring.mode := .gated, ring.headPort := none, ring.valA := false, ring.valB := false
    ring.armState := false, ring.returning := false, ring.turning := false, ring.foldPass := false, ring.passBuf := [], ring.probing := false
    ring.marking := false, ring.reversePend := false, ring.afterPass := 0 }

/-- The command of a code that executes over several events is answered. -/
def finishIf (code : Nat) (s : Status) (data : List Word) (d : Dev) : Dev := if busyWith d code then finishBusy s data d else d

/-- A head receives a frame it did not originate (R388): drivers idle, FAULTN low, EV76; it originates nothing more. -/
def conflict (d : Dev) : Dev :=
  if d.fault.conflict then d
  else
    let d1 := raiseNS 76 1 (dropFrames { d with ring.stat := .conflict, head.idle := true, fault.conflict := true })
    finishIf 0x50 stSTATE [] (ringDown { d1 with ring.enumStep := 0 })

/-- What waits for the end of a return pass (R386). -/
def afterReturn (d : Dev) : Dev :=
  match d.ring.afterPass with
  | 1 => { d with ring.mode := .await, ring.afterPass := 0 }
  | 2 =>
    { d with ring.mode := .normal, ring.foldB := false, ring.headPort := none, ring.afterPass := 0
             ring.valA := d.ring.valA && !d.ring.unwrapJoined, ring.valB := d.ring.valB && !d.ring.unwrapJoined }
  | _ => d

/-- The device turns the passes that reach it: its headgate is closed, or it is attached to no stream (R361, R385). -/
def turnsAll (d : Dev) : Bool := !d.ring.gate || d.ring.mode == .unattached || d.ring.mode == .gated

/-- The device forwards the frame (R334, R361, R363): it turns neither every pass nor this one. -/
def forwards (f : Frame) (d : Dev) : Bool := !turnsAll d && (lostEarly f || !(isTurned f && f.addr == d.ring.addr))

/-- How the pass goes on (R349, R360, R361, R363): turned here, awaited back on the far port, or held by the fold. -/
def passOn (f : Frame) (d : Dev) : Dev :=
  if turnsAll d then { d with ring.turning := true }
  else if isTurned f then
    (if f.addr == d.ring.addr then { d with ring.turning := true } else { d with ring.returning := true })
  else
    match d.ring.mode with
    | .arm | .reversed => { d with ring.returning := true }
    | .fold => { d with ring.foldPass := true, ring.passBuf := frameHeader f :: f.tsPhase :: f.tsPeriod :: f.tsWord2 :: f.body }
    | _ => d

/-- The port brings the device an outbound pass (R359): the head-side port; before a GATED or UNATTACHED device has one,
any; port A in AWAIT; a stale member hears an ENUM on either (R371). -/
def isHeadSide (d : Dev) (f : Frame) : Bool :=
  f.typ == 8 ||
    (match d.ring.mode with
     | .gated | .unattached => d.ring.headPort.isNone || d.ring.headPort == some f.port
     | .await => f.port == .A
     | _ => headSide d == some f.port)

/-- A frame whose CRC-24 passes reaches the device (R359, R362, R386): the head-side port of a device without a stream; an
AWAIT member enters NORMAL. -/
def noteStream (f : Frame) (d : Dev) : Dev :=
  let d1 := { d with ring.beacons := mset d.ring.beacons f.port.num false }
  match d.ring.mode with
  | .gated | .unattached => { d1 with ring.headPort := some (d.ring.headPort.getD f.port) }
  | .await => if f.port == .A then { d1 with ring.mode := .normal, ring.headPort := none } else d1
  | _ => d1

/-- A return pass arrives on the far port, or leaves (R349, R360). -/
def passReturned (d : Dev) : Dev := afterReturn { d with ring.returning := false }

/-- A frame reaches a member (R333 to R335): act is what its type asks for, once the CRC-24 has passed. A TRIP is repeated
after each frame that it forwards, damaged or not (R210). -/
def memberFrame (typ : Nat) (act : Frame → Dev → Dev) (f : Frame) (d : Dev) : Dev :=
  if d.ring.returning && !isHeadSide d f then passReturned d
  else if d.ring.returning && f.typ == 8 && headSide d != some f.port then passReturned d
  else if !isHeadSide d f then d
  else
    let d1 := takeTrip f { d with link.lastHeader := frameHeader f }
    let d2 := if f.damagedAt == 1 || f.damagedAt == 2 then countViol f.port d1 else d1
    let again := whenDo (forwards f d2) repeatTrip
    if lostEarly f then badBlock (again d2)
    else if !f.crcOk then badBlock (again (countCrc f.port d2))
    else if headerError f then again (countViol f.port d2)
    else
      let d3 := passOn f (takeAlmanac f (takeBlock f (noteStream f d2)))
      again (if f.typ = typ then act f d3 else d3)

/-- A frame reaches a device (R333, R388): on the head one it did not originate is a conflict. -/
def onFrame (typ : Nat) (act : Frame → Dev → Dev) (f : Frame) (d : Dev) : Dev :=
  if !awake d || !portUp d f.port then d
  else
    let d1 := cutUnit 4 (fun u => u == f.port.num) d
    if isHead d1 then
      (if f.own || d1.fault.conflict then d1
       else if lostEarly f then (if f.damagedAt == 1 then countViol f.port d1 else d1)
       else if f.crcOk then conflict d1
       else countCrc f.port d1)
    else memberFrame typ act f d1

/-! ## Replies -/

/-- A reply written into a directed frame (R337, R338), and kept where the frame was accepted; nothing is written into a
damaged frame. -/
def sendReply (f : Frame) (lstat : Nat) (more : List Word) (rcrc : Bool) (d : Dev) : Dev :=
  let ws := replyWord d.ring.addr f.seq lstat :: more
  let all := if rcrc then ws ++ [rcrcWord ws] else ws
  { d with
    link.reply := if f.damagedAt == 0 then all else []
    link.kept := if lstat == lACCEPT || lstat == lEMPTY then some (f.seq, f.typ, all) else d.link.kept }

/-- The kept reply as a retry of its frame gets it (R338): L_DUP, CRC fields anew. -/
def dupReply (l : List Word) : List Word :=
  match l with
  | [] => []
  | r :: t =>
    let r1 := replyWord (bf r 26 6) (bf r 16 8) lDUP
    if t.isEmpty then [r1] else
      let ws := r1 :: t.dropLast
      ws ++ [rcrcWord ws]

/-- A retry of a frame that has been answered (R338). -/
def isKept (d : Dev) (f : Frame) : Bool :=
  decide (0 < f.rty) && (match d.link.kept with
    | some k => k.1 == f.seq && k.2.1 == f.typ
    | none => false)

/-- The reply to such a retry: the frame is not acted on again; RETRY_CNT counts it (R338, R354). -/
def answerDup (f : Frame) (d : Dev) : Dev :=
  match d.link.kept with
  | some k =>
    { d with link.reply := if f.damagedAt == 0 then dupReply k.2.2 else [], link.retryCnt := satInc 255 d.link.retryCnt }
  | none => d

/-- A directed frame to this enumerated member (R333, R338): once, and its reply again on a retry. -/
def directed (f : Frame) (act : Dev → Dev) (d : Dev) : Dev :=
  if f.addr != d.ring.addr || !d.ring.gate then d
  else if isKept d f then answerDup f d
  else act d

/-- A broadcast at an enumerated member (R340): acted on once, the ACK pair written each time. -/
def broadcast (f : Frame) (act : Dev → Dev) (d : Dev) : Dev :=
  if !d.ring.gate then d
  else if decide (0 < f.rty) && d.link.ackKept == some f.seq then
    { d with link.ackPair := f.damagedAt == 0, link.retryCnt := satInc 255 d.link.retryCnt }
  else act { d with link.ackPair := f.damagedAt == 0, link.ackKept := some f.seq }

/-! ## Sweep slots -/

/-- VALUE of a sample word; none where there is no sample (R144). -/
def sampleValue (w : Word) : Option Int := if bf w 8 24 = 0x800000 then none else some (sext 24 (bf w 8 24))

/-- A cell field of the compact payload (R158). -/
def compactCell (w : Word) : Nat :=
  match sampleValue w with
  | some v => (clampInt 0 65534 (rdiv (v + 1000000) 100)).toNat
  | none => 0xFFFF

/-- The shunt field of the compact payload (R158, R141). -/
def compactShunt (w : Word) : Nat :=
  match sampleValue w with
  | some v => ufield 16 (clampInt (-32767) 32767 (rdiv (if bit w 6 then 2 * v else v) 400))
  | none => 0x8000

/-- The flag summary of a record (R159). -/
def flagSummary (d : Dev) (r : Rec) : Nat :=
  let w := recWord r
  let cells := List.range 24
  let attn := mof 24 (cells.filter (fun c => w c &&& 0xB5 != 0 && (sampleValue (w c)).isSome))
  r.tseq % 16 * 2 ^ 28 + b2n (d.conv.lastSwept == some r.tseq) * 2 ^ 27 +
    b2n ((List.range 25).any (fun c => bit (w c) 3)) * 2 ^ 26 + b2n (cells.any (fun c => bit (w c) 6)) * 2 ^ 25 +
    b2n (w 24 &&& 0xA4 != 0) * 2 ^ 24 + attn.toNat

/-- The record that a sweep slot carries: the latest visible one since history was last lost (R345, R126). -/
def sweptRec (d : Dev) : Option Rec := if d.conv.visSince then latestRec d else none

/-- Full payload (R157, R345). -/
def fullPayload (d : Dev) : List Word :=
  match sweptRec d with
  | some r => logWords r ++ (List.range 25).map (recWord r)
  | none => [0, 0] ++ List.replicate 25 0x80000000

/-- Fields of the compact payload (R158, R345). -/
def compactFields (d : Dev) : List Nat :=
  match sweptRec d with
  | some r =>
    let s := flagSummary d r
    (List.range 24).map (fun c => compactCell (recWord r c)) ++ [compactShunt (recWord r 24), s % 65536, s / 65536]
  | none => List.replicate 24 0xFFFF ++ [0x8000, 0, 0]

/-- Compact fields two to a word, as a sweep buffer entry holds them (R423). -/
def packFields (l : List Nat) : List Word :=
  (List.range 14).map (fun i => Word.of (nth l (2 * i) 0 * 65536 + nth l (2 * i + 1) 0))

/-- CRC-24 of a slot over payload and ALIVE (R344). -/
def slotCrc (d : Dev) (full : Bool) (alive : Nat) : Nat :=
  let reg := if full then crc24 (fullPayload d) else crcList 24 0x864CFB 16 (compactFields d) 0xB704CE
  crcBits 24 0x864CFB 4 alive reg

/-- The payload of a slot in the words of a sweep buffer entry. -/
def slotPayload (d : Dev) (full : Bool) : List Word := if full then fullPayload d else packFields (compactFields d)

/-- An armed inversion of a slot's CRC-24 is made (R497). -/
def takeSlotInject (d : Dev) : Bool × Dev :=
  match d.fault.inject with
  | (2, b, p, n, a) :: t =>
    (true, { d with fault.inject := if n ≤ 1 then t else (2, b, p, n - 1, a) :: t })
  | _ => (false, d)

/-- The member fills its slot (R345): payload, ALIVE, CRC-24. -/
def fillSlot (f : Frame) (d : Dev) : Dev :=
  let first := bf (nth f.body 0 0) 10 6
  let s := d.ring.addr - 1
  if !d.ring.gate || f.damagedAt != 0 || s < first || first + f.len ≤ s then d
  else
    let full := f.typ == 3
    let a := d.link.alive
    let i := takeSlotInject d
    let crc := if i.1 then slotCrc d full a ^^^ 0xFFFFFF else slotCrc d full a
    { i.2 with
      link.alive := (a + 1) % 16, link.slotOut := slotPayload d full ++ [Word.of (a * 2 ^ 24 + crc)]
      conv.lastSwept := (sweptRec d).map (fun (r : Rec) => r.tseq) }

end Sys2Proof.Machine
end

