-- ==== Sys2Proof/Machine/Link.lean ====
section
/-! DEFINITION. Frames at a member, ports, turned passes and the member's part in wrapping and restoring the ring
(11_burza_link.md R323 to R354, 12_ring_membership.md R359 to R388, 13_host_port_and_mailboxes.md R410, R412). -/

namespace Sys2Proof.Machine

/-! ## Ports -/

/-- PORT_LOS (R323). -/
def execPortLos (p : Port) (s : State) : Host.Outcome State Fault Refusal :=
  runDev s (fun d => if awake d then losOn p d else d)

/-- A member's PLL_P takes RCK again once its receiving port is in lock (R75). -/
def refRestore (p : Port) (d : Dev) : Dev :=
  if !isHead d && (headSide d == some p || headSide d == none) then { d with clk.pllRef := .rck } else d

/-- PORT_LOCK (R323, R75). -/
def execPortLock (p : Port) (s : State) : Host.Outcome State Fault Refusal :=
  runDev s (fun d => if awake d && portUp d p then refRestore p (setLock p true d) else d)

/-! ## Tunnelled frames -/

/-- FRAME_TIMING (R333): nothing beside the timing block and the almanac. -/
def execFrameTiming (f : Frame) (s : State) : Host.Outcome State Fault Refusal := runDev s (onFrame 1 (fun _ d => d) f)

/-- FRAME_SWEEP (R345): compact or full. -/
def execFrameSweep (f : Frame) (s : State) : Host.Outcome State Fault Refusal :=
  runDev s (onFrame (if f.typ = 3 then 3 else 2) fillSlot f)

/-- Words that a member's command mailbox holds (R341, log 49). -/
def mailHeld (d : Dev) : Nat := (d.cmd.waiting.map (fun x => x.2.length)).sum + d.cmd.partMsg.length

/-- Commands that a member has in hand: waiting, executing, or answered and not yet fetched (R412). -/
def cmdsInHand (d : Dev) : Nat := d.cmd.waiting.length + b2n d.cmd.busy.isSome + d.cmd.out.length

/-- A fragment stored (R410, R341): LSTAT, and the device after it. -/
def storeFrag (f : Frame) (d : Dev) : Nat × Dev :=
  let w := nth f.body 0 0
  let seq := bf w 24 8
  let ix := bf w 16 8
  let data := (f.body.drop 1).take (bf w 0 9)
  let none' := { d with cmd.partMsg := [], cmd.partSeq := none, cmd.partNext := 0 }
  let follows := ix == 0 || (d.cmd.partSeq == some seq && ix == d.cmd.partNext)
  let had := if ix = 0 then [] else d.cmd.partMsg
  if !follows then (lACCEPT, none')
  else if 256 < mailHeld d - d.cmd.partMsg.length + had.length + data.length || (ix == 0 && decide (4 ≤ cmdsInHand d)) then (lBUSY, d)
  else if bit w 15 then (lACCEPT, { none' with cmd.waiting := d.cmd.waiting ++ [(f.bcast, had ++ data)] })
  else (lACCEPT, { d with cmd.partMsg := had ++ data, cmd.partSeq := some seq, cmd.partNext := ix + 1 })

/-- A CMD frame (R333, R336, R340): the fragment stored; a mailbox that is full writes no ACK pair. -/
def takeCmd (f : Frame) (d : Dev) : Dev :=
  if f.bcast then
    broadcast f (fun d =>
      let r := storeFrag f d
      if r.1 = lBUSY then { r.2 with link.ackPair := false, link.ackKept := none } else r.2) d
  else directed f (fun d => let r := storeFrag f d; sendReply f r.1 [] false r.2) d

/-- FRAME_CMD. -/
def execFrameCmd (f : Frame) (s : State) : Host.Outcome State Fault Refusal := runDev s (onFrame 4 takeCmd f)

/-- A POLL frame (R336, R337, R412): the next response fragment, padded to NW_MAX; only a POLL with a new SEQ moves on, and
one with the SEQ of the last is given the same fragment. -/
def takePoll (f : Frame) (d : Dev) : Dev :=
  directed f (fun d =>
    let nw := bf (nth f.body 0 0) 0 9
    if decide (0 < f.rty) && d.cmd.pollSeq == some f.seq then sendReply f lACCEPT d.cmd.pollGave true d
    else match d.cmd.out with
    | [] => sendReply f lEMPTY (0 :: List.replicate nw 0) true { d with cmd.pollSeq := none }
    | r :: t =>
      let part := (r.words.drop d.cmd.outPos).take nw
      let last := decide (r.words.length ≤ d.cmd.outPos + nw)
      let frag := Word.of (bf (nth r.words 0 0) 16 8 * 2 ^ 24 + d.cmd.outPos / max 1 nw * 2 ^ 16 + b2n last * 2 ^ 15 + part.length)
      let give := frag :: part ++ List.replicate (nw - part.length) 0
      let d1 := { d with cmd.pollSeq := some f.seq, cmd.pollGave := give }
      sendReply f lACCEPT give true
        (if last then { d1 with cmd.out := t, cmd.outPos := 0 } else { d1 with cmd.outPos := d1.cmd.outPos + nw })) d

/-- FRAME_POLL. -/
def execFramePoll (f : Frame) (s : State) : Host.Outcome State Fault Refusal := runDev s (onFrame 5 takePoll f)

/-- A REG_WR frame (R333, R336): the register written with origin HEAD_RELAY. -/
def takeRegWr (f : Frame) (d : Dev) : Dev :=
  let a := bf (nth f.body 0 0) 0 16
  let act := fun (d : Dev) => if mapped false a then writeReg (.frame f.seq) a (nth f.body 1 0) d else d
  if f.bcast then broadcast f act d else directed f (fun d => sendReply f lACCEPT [] false (act d)) d

/-- FRAME_REG_WR. -/
def execFrameRegWr (f : Frame) (s : State) : Host.Outcome State Fault Refusal := runDev s (onFrame 6 takeRegWr f)

/-- A REG_RD frame (R333, R337). -/
def takeRegRd (f : Frame) (d : Dev) : Dev :=
  directed f (fun d => let r := readReg (bf (nth f.body 0 0) 0 16) d; sendReply f lACCEPT [r.1] true r.2) d

/-- FRAME_REG_RD. -/
def execFrameRegRd (f : Frame) (s : State) : Host.Outcome State Fault Refusal := runDev s (onFrame 7 takeRegRd f)

/-! ## Ring frames -/

/-- ENUM_INFO (R367). -/
def enumInfo (d : Dev) (p : Port) (claimed : Bool) : Word :=
  Word.of (d.part.cells * 2 ^ 24 + d.part.engines * 2 ^ 19 + p.num * 2 + b2n claimed)

/-- Mode of a member that has claimed (R359, log 48): NORMAL on port A of a closed ring, ARM while arms are operated, REVERSED
where the claim came on port B. -/
def claimMode (d : Dev) (p : Port) : RingMode :=
  match p with
  | .A => if d.ring.armState then .arm else .normal
  | .B => .reversed

/-- An ENUM frame (R370, R371): a kept claim is answered again, a closed headgate claims or refuses, a stale member forgets. -/
def takeEnum (f : Frame) (d : Dev) : Dev :=
  let w := nth f.body 0 0
  let next := bf w 0 6
  if decide (0 < f.rty) && d.ring.claimed == some f.seq && isKept d f then { answerDup f d with ring.turning := true, ring.returning := false }
  else if d.ring.gate then (if bf w 16 8 = d.ring.passId then d else forget d)
  else if bit w 31 == (f.port == .B) && decide (2 ≤ next) && decide (next ≤ 62) then
    sendReply f lACCEPT [enumInfo d f.port true] true { d with
      ring.addr := next, ring.passId := bf w 16 8, ring.claimed := some f.seq, ring.mode := claimMode d f.port }
  else sendReply f lACCEPT [enumInfo d f.port false] true d

/-- FRAME_ENUM. -/
def execFrameEnum (f : Frame) (s : State) : Host.Outcome State Fault Refusal := runDev s (onFrame 8 takeEnum f)

/-- A DELAY frame (R365, R367): its target writes REPLY and turns it. -/
def takeDelay (f : Frame) (d : Dev) : Dev := directed f (sendReply f lACCEPT [] false) d

/-- FRAME_DELAY. -/
def execFrameDelay (f : Frame) (s : State) : Host.Outcome State Fault Refusal := runDev s (onFrame 10 takeDelay f)

/-- A CENSUS frame (R375): the ACK pair. -/
def takeCensus (f : Frame) (d : Dev) : Dev := broadcast f (fun d => d) d

/-- FRAME_CENSUS. -/
def execFrameCensus (f : Frame) (s : State) : Host.Outcome State Fault Refusal := runDev s (onFrame 9 takeCensus f)

/-- ARM_STATE is adopted by every member that a RING_CTL passes (R359, R367). -/
def adoptArm (f : Frame) (d : Dev) : Dev :=
  let a := bit (nth f.body 0 0) 27
  { d with ring.armState := a, ring.mode := if a && d.ring.mode == .normal then .arm else d.ring.mode }

/-- A RING_CTL frame with operation op (R367, R368): the ARM_STATE, then the operation; DATA is RING_SELF as it stood. -/
def takeRingCtl (op : Nat) (act : Frame → Dev → Dev) (f : Frame) (d : Dev) : Dev :=
  if ringOp f != op || !d.ring.gate then d
  else
    let d1 := adoptArm f d
    if f.bcast then broadcast f (act f) d1
    else directed f (fun d => act f (sendReply f lACCEPT [ringSelfReg d] true d)) d1

/-- RING_CTL_FORGET. -/
def execRingCtlForget (f : Frame) (s : State) : Host.Outcome State Fault Refusal :=
  runDev s (onFrame 11 (takeRingCtl 1 (fun _ d => forget d)) f)

/-- SET_FOLD (R368): FOLD with the arrival port as head-side port. -/
def setFold (f : Frame) (d : Dev) : Dev := { d with ring.mode := .fold, ring.foldB := f.port == .B }

/-- RING_CTL_SET_FOLD. -/
def execRingCtlSetFold (f : Frame) (s : State) : Host.Outcome State Fault Refusal :=
  runDev s (onFrame 11 (takeRingCtl 2 setFold) f)

/-- EXTEND (R368): a fold becomes ARM, or REVERSED. -/
def extendArm (d : Dev) : Dev :=
  if d.ring.mode == .fold then { d with ring.mode := if d.ring.foldB then .reversed else .arm, ring.foldB := false } else d

/-- RING_CTL_EXTEND. -/
def execRingCtlExtend (f : Frame) (s : State) : Host.Outcome State Fault Refusal :=
  runDev s (onFrame 11 (takeRingCtl 3 (fun _ d => extendArm d)) f)

/-- RING_CTL_PROBE_FAR (R368): 128 bit times of 1 bits follow the fold's return pass. -/
def execRingCtlProbeFar (f : Frame) (s : State) : Host.Outcome State Fault Refusal :=
  runDev s (onFrame 11 (takeRingCtl 4 (fun _ d => if d.ring.mode == .fold then { d with ring.probing := true } else d)) f)

/-- RING_CTL_FAR_STAT (R368, R384): the flags are reported, then clear. -/
def execRingCtlFarStat (f : Frame) (s : State) : Host.Outcome State Fault Refusal :=
  runDev s (onFrame 11 (takeRingCtl 5 (fun _ d => { d with ring.farLock := false, ring.farProbe := false })) f)

/-- What UNWRAP_PREP and UNWRAP do waits for the return pass where there is one (R368). -/
def atReturn (n : Nat) (d : Dev) : Dev :=
  let d1 := { d with ring.afterPass := n }
  match d.ring.mode with
  | .arm | .reversed | .fold => d1
  | _ => afterReturn d1

/-- RING_CTL_UNWRAP_PREP (R386). -/
def execRingCtlUnwrapPrep (f : Frame) (s : State) : Host.Outcome State Fault Refusal :=
  runDev s (onFrame 11 (takeRingCtl 6 (fun _ d => atReturn 1 d)) f)

/-- RING_CTL_UNWRAP (R386). -/
def execRingCtlUnwrap (f : Frame) (s : State) : Host.Outcome State Fault Refusal :=
  runDev s (onFrame 11 (takeRingCtl 7 (fun f d => atReturn 2 { d with ring.unwrapJoined := bit (nth f.body 0 0) 26 })) f)

/-! ## Return passes -/

/-- FOLD_RETURN (R349). -/
def execFoldReturn (s : State) : Host.Outcome State Fault Refusal :=
  runDev s (fun d => if d.ring.foldPass then afterReturn { d with ring.foldPass := false, ring.passBuf := [] } else d)

/-- TURN_RETURN (R364, R370): the headgate of a member that has claimed opens at the end of its return pass. -/
def execTurnReturn (s : State) : Host.Outcome State Fault Refusal :=
  runDev s (fun d =>
    if d.ring.turning then
      { d with ring.turning := false, ring.probing := false, ring.gate := d.ring.gate || d.ring.addr != 0 }
    else d)

/-- ARM_RETURN_TIMEOUT (R360): the ports turn back without a return. -/
def execArmReturnTimeout (s : State) : Host.Outcome State Fault Refusal :=
  runDev s (fun d => if d.ring.returning then { d with ring.returning := false, ring.afterPass := 0 } else d)

/-! ## Beacons and flags -/

/-- BEACON (R362). -/
def execBeacon (p : Port) (s : State) : Host.Outcome State Fault Refusal :=
  runDev s (fun d =>
    if awake d && !isHead d && portUp d p && (d.ring.mode == .gated || d.ring.mode == .unattached) && !lockOf d p then
      { d with ring.beacons := mset d.ring.beacons p.num true }
    else d)

/-- A device that folds an arm keeps the flags of its far port (R384): a member in FOLD mode, the head of an empty arm. -/
def isFold (d : Dev) : Bool :=
  if isHead d then d.ring.stat == .wrapped && (d.ring.foldAAddr == 1 || d.ring.foldBAddr == 1) else d.ring.mode == .fold

/-- The far port of a fold is up (R45): on a member the one away from the head, on the head that of an empty arm. -/
def farUp (d : Dev) : Bool :=
  if isHead d then (d.ring.foldAAddr == 1 && portUp d .A) || (d.ring.foldBAddr == 1 && portUp d .B)
  else portUp d (if d.ring.foldB then .A else .B)

/-- FAR_LOCK_SET (R384). -/
def execFarLockSet (s : State) : Host.Outcome State Fault Refusal :=
  runDev s (fun d => if awake d && isFold d && farUp d then { d with ring.farLock := true } else d)

/-- FAR_PROBE_SET (R384). -/
def execFarProbeSet (s : State) : Host.Outcome State Fault Refusal :=
  runDev s (fun d => if awake d && isFold d && farUp d then { d with ring.farProbe := true } else d)

/-- AWAIT_TIMEOUT (R386). -/
def execAwaitTimeout (s : State) : Host.Outcome State Fault Refusal :=
  runDev s (fun d => if d.ring.mode == .await then { d with ring.mode := .reversed } else d)

/-! ## Kept replies and fragments -/

/-- DUP_KEEP_EXPIRY (R338, R340, R370). -/
def execDupKeepExpiry (s : State) : Host.Outcome State Fault Refusal :=
  runDev s (fun d => { d with link.kept := none, link.ackKept := none, ring.claimed := none })

/-- FRAG_TIMEOUT (R410). -/
def execFragTimeout (s : State) : Host.Outcome State Fault Refusal :=
  runDev s (fun d => { d with cmd.partMsg := [], cmd.partSeq := none, cmd.partNext := 0 })

end Sys2Proof.Machine
end

