-- ==== Sys2Proof/Machine/RingOps.lean ====
section
/-! DEFINITION. The head's work on its ring: delay measurement, enumeration, census, wrap and restoration
(12_ring_membership.md R363 to R387). Frames are queued here and started elsewhere. -/

namespace Sys2Proof.Machine

/-! ## Frames of the ring -/

/-- A frame into the queue of ring frames (R348). -/
def pushRing (f : Flight) (d : Dev) : Dev := { d with head.ringFrames := d.head.ringFrames ++ [f] }

/-- A ring frame (R367): type, address, port, one payload word. -/
def ringFrame (typ addr : Nat) (via : Option Port) (w : Word) : Flight :=
  { Flight.reset with typ := typ, addr := addr, via := via, body := [w], kind := 1 }

/-- The word of a RING_CTL frame (R367): ARM_STATE while the ring is wrapped. -/
def ctlWord (op : Nat) (arms joined : Bool) : Word := Word.of (op * 2 ^ 28 + b2n arms * 2 ^ 27 + b2n joined * 2 ^ 26)

/-- The ring is wrapped. -/
def wrapped (d : Dev) : Bool := d.ring.stat == .wrapped

/-- A RING_MAP entry changed. -/
def modMap (a : Nat) (f : MapEntry → MapEntry) (d : Dev) : Dev := { d with ring.map := d.ring.map.modify a f }

/-- Addresses of members, from 2. -/
def memberAddrs : List Nat := (List.range 61).map (· + 2)

/-- Members in RING_MAP that answer census. -/
def presentMembers (d : Dev) : List Nat := memberAddrs.filter (fun a => (mapAt d a).present)

/-- The present member at a position. -/
def atPos (d : Dev) (p : Nat) : Option Nat := (presentMembers d).find? (fun a => (mapAt d a).pos == p)

/-- Port of the head through which a member is reached (R377): its arm's in a wrapped ring, B in a closed one. -/
def armPort (d : Dev) (a : Nat) : Port := if wrapped d && (mapAt d a).arm then .A else .B

/-- FOLD marks follow the fold addresses (R392). -/
def markFolds (d : Dev) : Dev :=
  let g := d.ring
  { d with ring.map := (List.range g.map.length).map (fun a =>
      { nth g.map a MapEntry.reset with fold := decide (2 ≤ a) && (a == g.foldBAddr || a == g.foldAAddr) }) }

/-- The fold of an arm is known (R379, R384). -/
def foldIs (p : Port) (a : Nat) (d : Dev) : Dev :=
  markFolds (match p with
    | .A => { d with ring.foldAAddr := a }
    | .B => { d with ring.foldBAddr := a })

/-- The fold of an arm; 0 is none, 1 the head. -/
def foldOf (d : Dev) : Port → Nat
  | .A => d.ring.foldAAddr
  | .B => d.ring.foldBAddr

/-! ## SET_FOLD -/

/-- SET_FOLD to a member (R379). -/
def pushSetFold (p : Port) (a : Nat) (d : Dev) : Dev := pushRing (ringFrame 11 a (some p) (ctlWord 2 true false)) d

/-- Members of an arm in the order in which SET_FOLD tries them (R379, R383): from the given position toward the head. -/
def towardHead (d : Dev) (p : Port) (from' : Nat) : List Nat :=
  let l := presentMembers d
  match p with
  | .B => ((List.range 63).reverse.filter (fun x => decide (x ≤ from') && decide (1 ≤ x))).filterMap (fun x =>
      l.find? (fun a => (mapAt d a).pos == x && !(mapAt d a).arm))
  | .A => ((List.range 63).filter (fun x => decide (from' ≤ x) && decide (1 ≤ x))).filterMap (fun x =>
      l.find? (fun a => (mapAt d a).pos == x && (mapAt d a).arm))

/-- SET_FOLD to the first member of an arm from a position toward the head; with none the head is the fold (R379). -/
def seekFold (p : Port) (from' : Nat) (d : Dev) : Dev :=
  match towardHead d p from' with
  | a :: _ => pushSetFold p a d
  | [] => foldIs p 1 d

/-- The position next to a member's toward the head on its arm (R379, R383). -/
def nextToward (d : Dev) (p : Port) (a : Nat) : Nat :=
  match p with
  | .B => (mapAt d a).pos - 1
  | .A => (mapAt d a).pos + 1

/-- SET_FOLD has been answered, or has failed three times (R379, R383). -/
def setFoldEnds (f : Flight) (ok : Bool) (d : Dev) : Dev :=
  let p := f.via.getD .B
  if ok then foldIs p f.addr d
  else if f.addr ≤ 1 then d
  else
    let q := nextToward d p f.addr
    if p == .B && q = 0 then foldIs p 1 d else seekFold p q d

/-- The A arm is known after a break (R379): its members, its fold, and SET_FOLD on port B below it. -/
def armFound (as : List Nat) (d : Dev) : Dev :=
  let d1 := { d with ring.map := (List.range d.ring.map.length).map (fun a =>
    { nth d.ring.map a MapEntry.reset with arm := as.contains a }) }
  let low := as.foldl (fun m a => min m (mapAt d1 a).pos) 63
  let fold := as.find? (fun a => (mapAt d1 a).pos == low)
  seekFold .B (low - 1) (foldIs .A (fold.getD 1) d1)

/-- Two passes in a row have brought nothing back on an arm (R383). -/
def armSilent (p : Port) (d : Dev) : Dev :=
  let a := foldOf d p
  let d1 := { d with ring.lostPasses := d.ring.lostPasses.set p.num 0 }
  if a ≤ 1 then d1 else
    let q := nextToward d p a
    if p == .B && q = 0 then foldIs p 1 d1 else seekFold p q d1

/-! ## Delays -/

/-- A DELAY frame (R365, R367): to a member it is turned; to the head itself it goes round (D_RING). -/
def delayFrame (d : Dev) (a : Nat) : Flight :=
  let via := if a = 1 then none
    else if d.ring.stat == .enumerating then some (if a ≤ 1 + d.ring.enumB then Port.B else .A)
    else some (armPort d a)
  ringFrame 10 a via 0

/-- RING_DELAY of a member as the head holds it (R392, R466). -/
def writtenDelay (d : Dev) (a : Nat) : Word := let e := mapAt d a; delayWord e.vB e.dB e.vA e.dA

/-- The write of a member's RING_DELAY (R373, R377). -/
def delayWrite (d : Dev) (a : Nat) : Flight :=
  { Flight.reset with typ := 6, addr := a, body := [0x50, writtenDelay d a], kind := 6 }

/-- The delay that 16 round trips give (R365): the mean, to the nearest cycle. -/
def meanDelay (a : Nat) (l : List Nat) : Nat :=
  if a = 1 then (l.sum + 8) / 16 else (l.sum - 16 * 2376 + 16) / 32

/-- The delay measured of an address (R365). -/
def measured (d : Dev) (a : Nat) : Option Nat := akey d.ring.delays a

/-! ## Enumeration -/

/-- FORGET, then 100 us (R370). -/
def beginPass (d : Dev) : Dev :=
  pushRing (ringFrame 11 63 none (ctlWord 1 false false)) { d with
    ring.passId := (d.ring.passId + 1) % 256, ring.enumStep := 1, ring.enumArm := false, ring.enumNext := 2
    ring.enumB := 0, ring.enumA := 0, ring.enumClosed := false, ring.delays := [] }

/-- The next ENUM of a pass, or of an extended arm (R370, R385). -/
def pushEnum (arm : Bool) (next : Nat) (d : Dev) : Dev :=
  pushRing (ringFrame 8 0 (some (if arm then .A else .B)) (Word.of (b2n arm * 2 ^ 31 + d.ring.passId * 2 ^ 16 + next))) d

/-- An attempt begins (R370). -/
def beginAttempt (d : Dev) : Dev := beginPass { d with ring.enumPass := 1, ring.firstPass := none, ring.disturbed := false }

/-- The RING_STAT and RING_EPOCH that ENUMERATE returns (R463). -/
def enumData (d : Dev) : List Word := [ringStatReg d, Word.of d.ring.epoch]

/-- The next delay of the measurement in progress, or its end: what the measurement was for goes on (R372). -/
def askDelay (d : Dev) : Option Dev :=
  match d.ring.measQ with
  | a :: _ =>
    some (pushRing (delayFrame d a) { d with
      ring.measAddr := a, ring.measures := [], head.ringFrames := d.head.ringFrames.filter (fun (f : Flight) => f.typ != 10) })
  | [] => none

/-- The claims of a pass have ended (R372): the delays are measured next. -/
def claimsEnd (d : Dev) : Dev :=
  let n := d.ring.enumB + d.ring.enumA
  let q := (List.range n).map (· + 2) ++ (if d.ring.enumClosed then [1] else [])
  { d with ring.enumStep := 3, ring.measQ := q, ring.measFor := 1 }

/-- An arm of a pass ends (R370, R371): the head goes on with port A, or the claims have ended. -/
def armEnds (d : Dev) : Dev :=
  if d.ring.enumArm then claimsEnd d else pushEnum true d.ring.enumNext { d with ring.enumArm := true }

/-- A valid claim (R370, R371). -/
def claimed (d : Dev) : Dev :=
  let next := if d.ring.enumNext = 62 then 0 else d.ring.enumNext + 1
  let d1 := if d.ring.enumArm then { d with ring.enumA := d.ring.enumA + 1 } else { d with ring.enumB := d.ring.enumB + 1 }
  pushEnum d.ring.enumArm next { d1 with ring.enumNext := next }

/-- An attempt is disturbed (R374): EV71, quiet wait; after ENUM_RETRY_MAX of them FAILED and EV75. -/
def attemptDisturbed (d : Dev) : Dev :=
  let d1 := raiseNS 71 1 { dropFrames d with ring.disturbedRun := d.ring.disturbedRun + 1, ring.disturbed := false }
  if itemN d 0x0711 ≤ d1.ring.disturbedRun then
    let d2 := raiseNS 75 1 { d1 with ring.map := List.replicate 63 MapEntry.reset, ring.stat := .failed, ring.enumStep := 0 }
    finishIf 0x50 stCHECK (enumData d2) d2
  else { d1 with ring.enumStep := 4 }

/-- Rank of an address among others by their delay (R373). -/
def rankOf (ds : List (Nat × Nat)) (as : List Nat) (a : Nat) : Nat :=
  let key := fun (x : Nat) => (akey ds x).getD 0
  (as.filter (fun x => decide (key x < key a) || (key x == key a && decide (x < a)))).length

/-- The RING_MAP entry that an enumeration gives an address (R372, R373, log 50). -/
def enumEntry (d : Dev) (a : Nat) : MapEntry :=
  let g := d.ring
  let bs := (List.range g.enumB).map (· + 2)
  let as := (List.range g.enumA).map (· + (2 + g.enumB))
  let v := (measured d a).getD 0
  let has := (measured d a).isSome
  let ring := (measured d 1).getD 0
  let e := { MapEntry.reset with present := true }
  if bs.contains a then
    { e with pos := rankOf g.delays bs a + 1, dA := v, vA := has
             dB := if g.enumClosed then ring - v else 0, vB := g.enumClosed && has }
  else if as.contains a then { e with arm := true, pos := g.enumB + g.enumA - rankOf g.delays as a, dB := v, vB := has }
  else MapEntry.reset

/-- A valid attempt (R373): RING_MAP; the members' delays are written next. -/
def attemptValid (d : Dev) : Dev :=
  let n := d.ring.enumB + d.ring.enumA
  { d with
    ring.map := (List.range 63).map (enumEntry d), ring.dRing := (measured d 1).getD 0, ring.dRingV := d.ring.enumClosed
    ring.enumStep := 5, ring.toWrite := (List.range n).map (· + 2), ring.disturbedRun := 0 }

/-- The delays have been written (R373): RING_EPOCH, STATE, the folds of an open ring, EV70, ENUMERATE's answer. -/
def enumDone (d : Dev) : Dev :=
  let g := d.ring
  let d1 := { d with
    ring.enumStep := 0, ring.epoch := (g.epoch + 1) % 2 ^ 16, ring.stat := if g.enumClosed then .closed else .wrapped
    ring.foldBAddr := if g.enumClosed then 0 else 1 + g.enumB
    ring.foldAAddr := if g.enumClosed then 0 else if g.enumA = 0 then 1 else 1 + g.enumB + g.enumA
    ring.lostPasses := [0, 0], ring.restore := 0, ring.remeasure := 2 }
  let d2 := markFolds d1
  let d3 := if g.enumClosed then d2
    else whenDo (decide (2 ≤ d2.ring.foldAAddr)) (pushSetFold .A d2.ring.foldAAddr)
      (whenDo (decide (2 ≤ d2.ring.foldBAddr)) (pushSetFold .B d2.ring.foldBAddr) d2)
  let d4 := raiseNS 70 1 d3
  finishIf 0x50 stOK (enumData d4) d4

/-- Delays of two passes agree within 1 CK_PHASE cycle at every address (R373). -/
def delaysAgree (a b : List (Nat × Nat)) : Bool :=
  a.length == b.length && a.all (fun e => match akey b e.1 with
    | some v => decide (v ≤ e.2 + 1) && decide (e.2 ≤ v + 1)
    | none => false)

/-- A pass has ended (R370, R373, R374). -/
def passEnds (d : Dev) : Dev :=
  let g := d.ring
  let r := (g.enumB, g.enumA, g.enumClosed, g.delays)
  if g.enumPass = 1 then beginPass { d with ring.firstPass := some r, ring.enumPass := 2 }
  else
    let same := match g.firstPass with
      | some x => x.1 == r.1 && x.2.1 == r.2.1 && x.2.2.1 == r.2.2.1 && delaysAgree x.2.2.2 r.2.2.2
      | none => false
    if same && !g.disturbed then attemptValid d else attemptDisturbed d

/-- Enumeration starts (R369): no sweep and no tunnelled frame goes on. -/
def startEnum (d : Dev) : Dev :=
  beginAttempt { ringDown (dropFrames d) with
    ring.stat := .enumerating, ring.attempts := 1, ring.disturbedRun := 0, ring.restore := 0, ring.foldBAddr := 0
    ring.foldAAddr := 0, ring.marking := false, ring.reversePend := false
    head.sweepParts := [], head.partsOut := 0, head.sweepDue := false }

/-! ## Census -/

/-- CENSUS (R375). -/
def censusFrame (d : Dev) (via : Option Port) : Flight := ringFrame 9 63 via (Word.of (d.ring.epoch * 2 ^ 16))

/-- A census is queued, once (R375, R465). -/
def pushCensus (d : Dev) : Dev :=
  if (d.ring.stat == .closed || wrapped d) && !d.head.ringFrames.any (fun (f : Flight) => f.typ == 9) then
    pushRing (censusFrame d none) d
  else d

/-- Membership changes (R375): EV72, RING_EPOCH. -/
def membershipChange (d : Dev) : Dev := raiseNS 72 1 { d with ring.epoch := (d.ring.epoch + 1) % 2 ^ 16 }

/-- One address after a census (R375). -/
def censusAddr (pairs : BitVec 64) (a : Nat) (d : Dev) : Dev :=
  let e := mapAt d a
  if mbit pairs a then
    let d1 := modMap a (fun e => { e with missed := 0, present := e.present || e.reserved, reserved := false }) d
    if e.reserved then membershipChange d1 else d1
  else if !e.present then d
  else if 1 ≤ e.missed then
    targetGone a (membershipChange (modMap a (fun e => { e with present := false, reserved := true, missed := 0 }) d))
  else modMap a (fun e => { e with missed := e.missed + 1 }) d

/-- The delay of the next member is measured again (R377). -/
def remeasureNext (d : Dev) : Dev :=
  let l := presentMembers d
  match l.find? (fun a => decide (d.ring.remeasure ≤ a)) <|> l.head? with
  | some a =>
    if d.ring.measFor != 0 then d
    else { d with ring.remeasure := a + 1, ring.measQ := [a], ring.measFor := 2, ring.delays := [] }
  | none => d

/-- A re-measured delay (R377): written and EV77 where it moved by more than 2 cycles. -/
def judgeDrift (a : Nat) (d : Dev) : Dev :=
  match measured d a with
  | none => d
  | some v =>
    let e := mapAt d a
    let onB := wrapped d && e.arm
    let old := if onB then e.dB else e.dA
    if v ≤ old + 2 && old ≤ v + 2 then d
    else
      let d1 := modMap a (fun e =>
        if onB then { e with dB := v, vB := true, dA := if d.ring.dRingV then d.ring.dRing - v else e.dA }
        else { e with dA := v, vA := true, dB := if d.ring.dRingV then d.ring.dRing - v else e.dB }) d
      raiseNS 77 a (pushRing (delayWrite d1 a) d1)

/-! ## Restoration and joining -/

/-- The flags of a fold from its RING_SELF (R384): FAR_LOCK 1, FAR_PROBE 2. -/
def farFlags (w : Word) : Nat := b2n (bit w 20) + 2 * b2n (bit w 19)

/-- The head's own flags, as the fold of an empty arm (R384). -/
def ownFar (d : Dev) : Nat := b2n d.ring.farLock + 2 * b2n d.ring.farProbe

/-- The lowest address that is neither PRESENT nor RESERVED, 0 for none (R376). -/
def freeAddr (d : Dev) : Nat := (memberAddrs.find? (fun a => !(mapAt d a).present && !(mapAt d a).reserved)).getD 0

/-- A device joined while the ring was wrapped (R386). -/
def anyJoined (d : Dev) : Bool := d.ring.map.any (fun (e : MapEntry) => e.joined)

/-- An arm is extended by the device beyond its fold (R384, R385): EXTEND to the fold; where the head is the fold, ENUM at
once. -/
def pushExtend (p : Port) (d : Dev) : Dev :=
  let d1 := { d with ring.restore := 4, ring.extA := p == .A }
  let a := foldOf d p
  if 2 ≤ a then pushRing (ringFrame 11 a (some p) (ctlWord 3 true false)) d1 else pushEnum (p == .A) (freeAddr d) d1

/-- UNWRAP on port B (R386). -/
def pushUnwrap (d : Dev) : Dev :=
  pushRing (ringFrame 11 63 (some .B) (ctlWord 7 false (anyJoined d))) { d with ring.restore := 6 }

/-- TIMING on port B, to return on port A (R386). -/
def pushTiming (d : Dev) : Dev :=
  pushRing { Flight.reset with typ := 1, kind := 1 } { d with ring.restore := 7 }

/-- The UNWRAP sequence (R386); an arm without members needs no frame of its own. -/
def startUnwrap (d : Dev) : Dev :=
  if 2 ≤ d.ring.foldAAddr then pushRing (ringFrame 11 63 (some .A) (ctlWord 6 true false)) { d with ring.restore := 5 }
  else if 2 ≤ d.ring.foldBAddr then pushUnwrap d
  else pushTiming d

/-- The table "Restoration decisions" (R384). -/
def restoreDecide (d : Dev) : Dev :=
  let a := if d.ring.foldAAddr = 1 then ownFar d else d.ring.farA
  let b := if d.ring.foldBAddr = 1 then ownFar d else d.ring.farB
  let d1 := { d with ring.restore := 0, ring.farA := 0, ring.farB := 0, ring.farLock := false, ring.farProbe := false }
  if 2 ≤ a then startUnwrap d1
  else if a = 1 then pushExtend .A d1
  else if b % 2 = 1 then pushExtend .B d1
  else d1

/-- After every census of a wrapped ring (R384): PROBE_FAR to the B fold, FAR_STAT to both folds. -/
def startRestore (d : Dev) : Dev :=
  if !wrapped d || d.ring.restore != 0 || d.ring.foldAAddr = 0 || d.ring.foldBAddr = 0 then d
  else
    let ctl := fun (op : Nat) (p : Port) (d : Dev) =>
      if 2 ≤ foldOf d p then pushRing (ringFrame 11 (foldOf d p) (some p) (ctlWord op true false)) d else d
    let d1 := ctl 5 .B (ctl 5 .A (ctl 4 .B { d with ring.farA := 0, ring.farB := 0 }))
    if 2 ≤ d.ring.foldBAddr then { d1 with ring.restore := 3 }
    else if 2 ≤ d.ring.foldAAddr then { d1 with ring.restore := 2 }
    else restoreDecide d1

/-- A FAR_STAT has ended, w its DATA (R384): the last of them decides. -/
def farStatEnds (f : Flight) (w : Word) (d : Dev) : Dev :=
  let onA := f.via == some .A
  let d1 := if onA then { d with ring.farA := farFlags w } else { d with ring.farB := farFlags w }
  if (onA && d.ring.restore = 2) || (!onA && d.ring.restore = 3) then restoreDecide d1 else d1

/-- Position of the device beyond an arm's fold (R385). -/
def beyondPos (d : Dev) (p : Port) : Nat :=
  let a := foldOf d p
  match p with
  | .B => if 2 ≤ a then (mapAt d a).pos + 1 else 1
  | .A => if 2 ≤ a then (mapAt d a).pos - 1 else (d.ring.map.map (fun (e : MapEntry) => e.pos)).foldl max 0 + 1

/-- The arm's delay of a device that joined is measured (R385). -/
def measureJoined (a : Nat) (d : Dev) : Dev :=
  { d with ring.measQ := [a], ring.measFor := 3, ring.delays := [], ring.restore := 0 }

/-- The ENUM of an extended arm has returned (R385): a claim is recorded one position beyond the old fold and EV72 raised;
an enumerated device is known by its position. -/
def joinEnds (ok : Bool) (a : Nat) (d : Dev) : Dev :=
  let p : Port := if d.ring.extA then .A else .B
  if ok && decide (2 ≤ a) then
    measureJoined a (raiseNS 72 1 (modMap a (fun e => { e with
      present := true, arm := d.ring.extA, pos := beyondPos d p, joined := true }) d))
  else
    match (memberAddrs.filter (fun x => (mapAt d x).present || (mapAt d x).reserved)).find? (fun x => (mapAt d x).pos == beyondPos d p) with
    | some x => measureJoined x (modMap x (fun e => { e with arm := d.ring.extA }) d)
    | none => if 2 ≤ foldOf d p then pushSetFold p (foldOf d p) { d with ring.restore := 0 } else { d with ring.restore := 0 }

/-- The delay of a joined device (R385): written, and SET_FOLD to it. -/
def joinedDelay (a : Nat) (d : Dev) : Dev :=
  let e := mapAt d a
  let p : Port := if e.arm then .A else .B
  match measured d a with
  | some v =>
    let d1 := modMap a (fun e => if e.arm then { e with dB := v, vB := true, vA := false }
                                 else { e with dA := v, vA := true, vB := false }) d
    pushSetFold p a (pushRing (delayWrite d1 a) d1)
  | none => if 2 ≤ foldOf d p then pushSetFold p (foldOf d p) d else d

/-- The ring is closed again (R386): CLOSED, RING_EPOCH, EV74; after JOINED D_RING and the joined devices are measured. -/
def ringRestored (d : Dev) : Dev :=
  let js := (presentMembers d).filter (fun a => (mapAt d a).joined)
  let d1 := raiseNS 74 1 { d with
    ring.stat := .closed, ring.epoch := (d.ring.epoch + 1) % 2 ^ 16, ring.restore := 0, ring.foldAAddr := 0
    ring.foldBAddr := 0, ring.lostPasses := [0, 0]
    ring.map := d.ring.map.map (fun (e : MapEntry) => { e with fold := false, arm := false }) }
  if js.isEmpty then d1 else { d1 with ring.measQ := 1 :: js, ring.measFor := 4, ring.delays := [] }

/-- The delays of a ring that has closed with joined devices (R386): every member's is written. -/
def restoredDelays (d : Dev) : Dev :=
  let ring := (measured d 1).getD d.ring.dRing
  let fix := fun (a : Nat) (e : MapEntry) =>
    if !e.present then { e with joined := false }
    else
      let v := (measured d a).getD (if e.vA then e.dA else ring - e.dB)
      { e with dA := v, vA := true, dB := ring - v, vB := true, joined := false }
  let d1 := { d with ring.dRing := ring, ring.dRingV := true
                     ring.map := (List.range d.ring.map.length).map (fun a => fix a (nth d.ring.map a MapEntry.reset)) }
  forEach (presentMembers d1) (fun a d => pushRing (delayWrite d a) d) d1

/-! ## Measurements go on -/

/-- A measurement has ended: what it was for goes on. -/
def measureEnds (d : Dev) : Dev :=
  let a := d.ring.measAddr
  let d1 := { d with ring.measFor := 0, ring.measures := [] }
  match d.ring.measFor with
  | 1 => passEnds d1
  | 2 => judgeDrift a d1
  | 3 => joinedDelay a d1
  | 4 => restoredDelays d1
  | _ => d1

/-- The next delay is asked for, or the measurement ends. -/
def goOnMeasuring (d : Dev) : Dev :=
  if d.ring.measFor = 0 then d
  else match askDelay d with
    | some e => e
    | none => measureEnds d

/-- A round trip of a DELAY frame (R365): 16 of them give the delay. -/
def tookTrip (a rt : Nat) (d : Dev) : Dev :=
  if a != d.ring.measAddr || d.ring.measFor = 0 then d else
  let l := d.ring.measures ++ [rt]
  if l.length < 16 then pushRing (delayFrame d d.ring.measAddr) { d with ring.measures := l }
  else
    goOnMeasuring { d with
      ring.delays := aset d.ring.delays d.ring.measAddr (meanDelay d.ring.measAddr l), ring.measures := []
      ring.measQ := d.ring.measQ.drop 1 }

/-- A DELAY frame has failed three times: its device has no delay. -/
def lostTrip (a : Nat) (d : Dev) : Dev :=
  if a != d.ring.measAddr || d.ring.measFor = 0 then d else goOnMeasuring { d with ring.measures := [], ring.measQ := d.ring.measQ.drop 1 }

/-- The next RING_DELAY of an enumeration is written, or the enumeration is done (R373). -/
def goOnWriting (d : Dev) : Dev :=
  match d.ring.toWrite with
  | a :: t => pushRing (delayWrite d a) { d with ring.toWrite := t }
  | [] => enumDone d

/-- A step of an enumeration has ended: the measurements or the writes begin. -/
def goOnEnum (d : Dev) : Dev :=
  let idle := d.head.ringFrames.isEmpty && d.head.flights.isEmpty && d.head.retry.isEmpty
  if d.ring.enumStep = 3 && d.ring.measFor = 1 && idle && d.ring.measures.isEmpty then goOnMeasuring d
  else if d.ring.enumStep = 5 && idle then goOnWriting d
  else d

end Sys2Proof.Machine
end

