-- ==== Sys2Proof/Machine/HeadOps.lean ====
section
/-! DEFINITION. The head originates frames and judges what returns (11_burza_link.md R326 to R352,
12_ring_membership.md R363 to R386, 13_host_port_and_mailboxes.md R410 to R412, R422 to R424). -/

namespace Sys2Proof.Machine

/-! ## What may start -/

/-- The head may originate frames (R388). -/
def canSend (d : Dev) : Bool := isHead d && awake d && !d.ring.silent && !d.head.idle && !d.fault.conflict

/-- Sweeps and tunnelled frames go on (R369, R374, R388). -/
def ringServes (d : Dev) : Bool :=
  match d.ring.stat with
  | .enumerating | .failed | .conflict => false
  | _ => true

/-- Both folds of a wrapped ring are known (R379, R381). -/
def foldsSet (d : Dev) : Bool := !wrapped d || (d.ring.foldAAddr != 0 && d.ring.foldBAddr != 0)

/-- The frame comes back on the port it leaves by (R363). -/
def turnedFlight (f : Flight) : Bool := f.typ == 8 || (f.typ == 10 && f.addr != 1) || (f.typ == 11 && f.addr != 63)

/-- The link is free for another frame (R322, R211): in a closed ring frames may follow one another, but not into a turned
frame's return; arms carry one pass at a time. -/
def linkFree (d : Dev) : Bool :=
  d.head.flights.isEmpty ||
    ((d.ring.stat == .closed || d.ring.stat == .idle) && d.head.flights.all (fun (f : Flight) => !turnedFlight f && f.via.isNone))

/-! ## Words of a frame -/

/-- LENGTH of a frame (R327, R328). -/
def flightLen (f : Flight) : Nat := if f.kind = 0 then f.slots else 2 * f.body.length

/-- Words of POLL's largest fragment, and of a CMD fragment (R336, R410). -/
def nwMax (d : Dev) : Nat := if wrapped d then 16 else 64

/-- Bits of a frame's region (R337, R340, R344, R367). -/
def regionBits (f : Flight) : Nat :=
  match f.typ with
  | 2 => f.slots * 460
  | 3 => f.slots * 892
  | 4 | 6 => if f.addr = 63 then 128 else 32
  | 5 => 96 + 32 * bf (nth f.body 0 0) 0 9
  | 7 | 8 => 96
  | 9 => 128
  | 10 => 32
  | 11 => if f.addr = 63 then 128 else 96
  | _ => 0

/-- Bit times from the first edge of a frame to its last bit at the head (R325, R331, R349): an arm's outbound form has no
region. -/
def frameBits (d : Dev) (f : Flight) : Nat := 162 + 32 * f.body.length + (if wrapped d then 0 else regionBits f)

/-- The frame ends 4 bit times before the next sweep part is due (R348). -/
def fits (d : Dev) (f : Flight) : Bool :=
  let due := d.head.sweepAt + itemN d 0x0703 * 384
  itemN d 0x0701 = 0 || !ringServes d || decide (due ≤ d.now) || decide (d.now + 12 * frameBits d f + 48 ≤ due)

/-- The head's trip field (R210), three times (R326). -/
def tripWord (d : Dev) : Word :=
  Word.of ((b2n (d.trip.localLatch || d.trip.rxLatch) + 2 * b2n (faultnLow d)) * 21)

/-- The almanac that is sent next (R351, R352), bit 127 first. -/
def almanac (d : Dev) : List Bool :=
  let v := timeMs d % 2 ^ 48 * 2 ^ 64 + headRate (item d 0x0707) * 2 ^ 32 + d.ring.epoch * 2 ^ 16 + itemN d 0x0708 * 2 ^ 14
  let all := v * 2 ^ 16 + crc16Bits 112 v
  (List.range 128).map (fun i => all.testBit (127 - i))

/-- Trip prefix, header, timing block and payload of a frame that starts now (R105, R326, R327). TS_INC is INC cut off to its
units of 2^-10: the spec does not say how it rounds (DESIGN CHOICE, log 81). -/
def txWords (d : Dev) (f : Flight) : List Word :=
  [tripWord d, headerWord f.typ f.seq f.addr (f.addr == 63) (nth d.head.almWord (f.seq % 128) false) f.rty (flightLen f),
    Word.of (phaseNow d), Word.of d.tb.period, Word.of (tbStateCode d.tb.state * 2 ^ 30 + d.tb.inc / 64 % 2 ^ 30)] ++ f.body

/-! ## Ports -/

/-- Ports by which a frame leaves (R349, R363, R380); a disabled port takes no part in wrap (R45). -/
def sendPorts (d : Dev) (f : Flight) : List Port :=
  match f.via with
  | some p => [p]
  | none =>
    if wrapped d then ((if 2 ≤ d.ring.foldAAddr then [Port.A] else []) ++
      (if 2 ≤ d.ring.foldBAddr then [Port.B] else [])).filter (portUp d)
    else [.B]

/-- Ports on which a frame is due back: the opposite one round a closed ring, the same one on an arm; an ENUM of the B arm may
come round to port A (R370), the TIMING of an UNWRAP does (R386). -/
def duePorts (d : Dev) (f : Flight) : BitVec 2 :=
  match f.via with
  | some p => if f.typ = 8 && p == .B && d.ring.stat == .enumerating then 3 else one 2 p.num
  | none =>
    if f.kind = 1 && f.typ = 1 then 1
    else if wrapped d then mof 2 ((sendPorts d f).map Port.num)
    else 1

/-- An armed inversion of the next frame's CRC-24 on a port is made (R497). -/
def takeFrameInject (ps : List Port) (d : Dev) : BitVec 2 × Dev :=
  match d.fault.inject with
  | (2, b, p, n, a) :: t =>
    if ps.any (fun q => q.num == p) then
      (one 2 p, { d with fault.inject := if n ≤ 1 then t else (2, b, p, n - 1, a) :: t })
    else (0, d)
  | _ => (0, d)

/-- What returned on a port was sent with its CRC-24 inverted. -/
def injected (d : Dev) (f : Flight) (p : Port) : Bool :=
  if wrapped d && f.via.isNone then mbit f.bad p.num else f.bad != 0

/-! ## Sweeps -/

/-- The parts of a sweep of n slots with at most m in one (R342): first slot and slots. -/
def planParts (n m : Nat) : List (Nat × Nat) :=
  let p := cdiv n m
  (List.range p).map (fun i => (1 + i * (n / p) + min i (n % p), n / p + b2n (decide (i < n % p))))

/-- Word 0 of a sweep buffer entry (R423). -/
def entryHead (no alive : Nat) (rev : Bool) : Word := Word.of (no * 2 ^ 16 + 2 ^ 15 + b2n rev * 2 ^ 14 + alive * 2 ^ 8)

/-- A sweep begins (R342, R343, R422): its parts, its number, the head's own entry. -/
def beginSweep (d : Dev) : Dev :=
  let full := itemN d 0x0702 == 1
  let l := planParts (itemN d 0x0704) (if full then 17 else 32)
  { d with
    head.sweepParts := l, head.partsOut := l.length, head.lastPart := l.length - 1, head.sweepDue := false
    head.sweepNo := (d.head.sweepNo + 1) % 2 ^ 16
    host.fill := { no := d.head.sweepNo, full := full
                   entries := [(1, entryHead d.head.sweepNo 0 false :: slotPayload d full)] }
    conv.lastSwept := (sweptRec d).map (fun (r : Rec) => r.tseq) }

/-- A sweep part is due (R342, R348, R381). -/
def partDue (d : Dev) : Bool :=
  ringServes d && foldsSet d &&
    (!d.head.sweepParts.isEmpty || (d.head.sweepDue && d.head.partsOut == 0 && itemN d 0x0701 == 1))

/-- The next part of the sweep (R343). -/
def partFlight (d : Dev) (a n : Nat) : Flight :=
  let no := d.head.lastPart + 1 - d.head.sweepParts.length
  { Flight.reset with
    typ := if d.host.fill.full then 3 else 2, first := a, slots := n
    body := [Word.of (d.host.fill.no * 2 ^ 16 + a * 2 ^ 10 + no * 2 ^ 8 + d.head.lastPart * 2 ^ 6)] }

/-- A part has returned or failed (R422); with the last of them the sweep completes. -/
def partDone (d : Dev) : Dev :=
  let n := d.head.partsOut - 1
  let d1 := { d with head.partsOut := n }
  if n = 0 && d.head.sweepParts.isEmpty then
    publishSweep { d1 with host.swRepl := if d.host.back.isSome then satInc 255 d.host.swRepl else d.host.swRepl
                           host.back := some d.host.fill }
  else d1

/-- Sample words of a full-format entry carry PATH_REV (R380). -/
def markRev (full : Bool) (l : List Word) : List Word := if full then l.take 2 ++ (l.drop 2).map (· ||| 2) else l

/-- The head accepts a slot whose CRC-24 passes (R346, R380, R423). -/
def acceptSlot (a alive : Nat) (ws : List Word) (rev : Bool) (d : Dev) : Dev :=
  let b := d.host.fill
  let l := if rev then markRev b.full ws else ws
  { d with host.fill := { b with entries := aset b.entries a (entryHead b.no alive rev :: l) } }

/-- The slots of a part that returns on a port (R346, R380): each is judged on the arm of its address; one that fails raises
EV68. -/
def takeSlots (f : Flight) (p : Port) (bad : Bool) (slots : List (Nat × Bool × Nat × List Word)) (d : Dev) : Dev :=
  let mine := (presentMembers d).filter (fun a =>
    decide (f.first ≤ a - 1) && decide (a - 1 < f.first + f.slots) && (!wrapped d || ((mapAt d a).arm == (p == .A))))
  forEach mine (fun a d =>
    match slots.find? (fun x => x.1 == a && x.2.1) with
    | some x => if bad then raiseNS 68 a d else acceptSlot a (x.2.2.1 % 16) x.2.2.2 (wrapped d && p == .A) d
    | none => raiseNS 68 a d) d

/-! ## Tunnelled frames -/

/-- The message a CMD fragment belongs to (R410). -/
def findMsg (d : Dev) (f : Flight) : Option Outst :=
  d.host.outst.find? (fun (o : Outst) => o.target == f.addr && o.seq * 256 + o.code == f.tag && !o.words.isEmpty)

/-- An entry of the list of outstanding commands replaced. -/
def setOutst (o n : Outst) (d : Dev) : Dev :=
  { d with host.outst := d.host.outst.takeWhile (fun (x : Outst) => x != o) ++
      (match d.host.outst.dropWhile (fun (x : Outst) => x != o) with
       | _ :: t => n :: t
       | [] => []) }

/-- A command whose response is awaited from a target (R412). -/
def awaits (a : Nat) (o : Outst) : Bool := o.target == a && o.words.isEmpty && o.target != 1 && o.target != 63

/-- Words of responses held or half fetched (R412). -/
def rspHeld (d : Dev) : Nat :=
  rspFill d + (d.host.outst.map (fun (o : Outst) => if o.target = 63 then 0 else o.polls.length)).sum

/-- A POLL (R412). -/
def pollFlight (a : Nat) : Flight := { Flight.reset with typ := 5, addr := a, kind := 3 }

/-- A tunnelled frame may start (R412). -/
def tunnelReady (d : Dev) (f : Flight) : Bool :=
  match f.kind with
  | 2 => (findMsg d f).isSome
  | 3 => decide (rspHeld d + nwMax d ≤ 256)
  | _ => true

/-- The payload of a tunnelled frame as it starts (R336, R410). -/
def fillTunnel (d : Dev) (f : Flight) : Flight :=
  match f.kind with
  | 2 =>
    match findMsg d f with
    | some o =>
      let ws := o.words.take (nwMax d)
      { f with body := Word.of (o.seq * 2 ^ 24 + o.fragNo * 2 ^ 16 + b2n (o.words.length == ws.length) * 2 ^ 15 + ws.length) :: ws }
    | none => f
  | 3 => { f with body := [Word.of (nwMax d)] }
  | _ => f

/-- The tunnelled frame that starts next: the first in Q26 that may (R294), else a POLL of a target that owes a response (R348, R412). -/
def nextTunnel (d : Dev) : Option (Flight × Dev) :=
  match (d.head.tunnel.take d.eng.linkHeld).find? (tunnelReady d) with
  | some f => some (f, { d with head.tunnel := dropFirst (tunnelReady d) d.head.tunnel })
  | none =>
    match d.host.outst.find? (fun (o : Outst) => awaits o.target o &&
        !(d.head.tunnel ++ d.head.flights).any (fun (f : Flight) => f.kind == 3 && f.addr == o.target)) with
    | some o => if tunnelReady d (pollFlight o.target) then some (pollFlight o.target, d) else none
    | none => none

/-- A fragment accepted (R410, R431): the next one, or POLL, or the head's own execution of a broadcast. -/
def fragTaken (f : Flight) (d : Dev) : Dev :=
  match findMsg d f with
  | none => d
  | some o =>
    let n := bf (nth f.body 0 0) 0 9
    let bc := o.target == 63
    let rest := o.words.drop n
    let d1 := setOutst o { o with
      words := rest, fragNo := o.fragNo + 1, acks := if o.fragNo = 0 then f.pairs else o.acks &&& f.pairs
      polls := if bc && rest.isEmpty then [] else o.polls } d
    let d2 := { d1 with host.submitted := if bc then d.host.submitted else d.host.submitted - n }
    if !rest.isEmpty then { d2 with head.tunnel := { Flight.reset with typ := 4, addr := f.addr, kind := 2, tag := f.tag } :: d2.head.tunnel }
    else if bc then { d2 with cmd.waiting := d2.cmd.waiting ++ [(true, o.polls)] }
    else { d2 with head.tunnel := d2.head.tunnel ++ [pollFlight f.addr] }

/-- A POLL answered L_EMPTY: QUIET commands that its target has in hand send no response (R405); other targets are polled
first. -/
def pollEmpty (a : Nat) (d : Dev) : Dev :=
  let l := d.host.outst.filter (fun (o : Outst) => !(awaits a o && o.quiet))
  { d with host.outst := l.filter (fun (o : Outst) => !awaits a o) ++ l.filter (awaits a) }

/-- A response is complete (R408, R410, R412). -/
def pollLast (a : Nat) (ws : List Word) (d : Dev) : Dev :=
  let h := nth ws 0 0
  let hit := fun (o : Outst) => awaits a o && o.seq == bf h 16 8 && o.code == bf h 24 8
  let l := dropFirst hit (d.host.outst.map (fun (o : Outst) => if awaits a o then { o with polls := [] } else o))
  let d1 := { d with host.outst := l, host.rsps := d.host.rsps ++ [⟨a, ws⟩] }
  if l.any (awaits a) then { d1 with head.tunnel := d1.head.tunnel ++ [pollFlight a] } else d1

/-- A POLL answered (R337, R412). -/
def pollTaken (f : Flight) (ws : List Word) (d : Dev) : Dev :=
  let frag := nth ws 0 0
  let n := bf frag 0 9
  if n = 0 then pollEmpty f.addr d
  else
    match d.host.outst.find? (awaits f.addr) with
    | none => d
    | some o =>
      let all := o.polls ++ (ws.drop 1).take n
      if bit frag 15 then pollLast f.addr all d
      else
        let d1 := setOutst o { o with polls := all } d
        { d1 with head.tunnel := pollFlight f.addr :: d1.head.tunnel }

/-! ## Ends of frames -/

/-- The LSTAT and words of a valid reply from the target (R339). -/
def replyOf (f : Flight) : Option (Nat × List Word) :=
  match f.got with
  | some (a, l, ws) => if a = f.addr then some (l, ws) else none
  | none => none

/-- The words of a reply that makes the frame a success (R339). -/
def served (f : Flight) : Option (List Word) :=
  match replyOf f with
  | some (l, ws) => if l = lACCEPT || l = lDUP || l = lEMPTY then some ws else none
  | none => none

/-- Every address in RING_MAP has accepted the broadcast (R340). -/
def allAcked (d : Dev) (f : Flight) : Bool := (presentMembers d).all (fun a => mbit f.pairs a)

/-- The frame is sent again after a failure (R339, R340): not a sweep part, TIMING, a broadcast of the ring's own. -/
def retried (f : Flight) : Bool :=
  match f.kind with
  | 0 | 5 => false
  | 1 => !(f.typ == 11 && f.addr == 63) && !(f.typ == 9 && f.via.isNone)
  | _ => true

/-- The break of a ring whose port A has lost nothing (R379): the A arm is empty. -/
def breakUnseen (d : Dev) : Dev := armFound [] (breakRing false d)

/-- RETRY_FAIL (R339, R411, R398, R370, R379, R383 to R386). -/
def gaveUp (f : Flight) (d0 : Dev) : Dev :=
  let d := raiseNS 67 f.addr d0
  match f.kind with
  | 2 => (findMsg d f).elim d (fun o => headRsp 2 stBUSY o d)
  | 3 => (d.host.outst.find? (awaits f.addr)).elim d (fun o => headRsp 2 stBUSY o d)
  | 4 => remoteDone false 0 d
  | 6 => if d.ring.enumStep = 5 then goOnWriting d else d
  | 1 =>
    match f.typ with
    | 1 => breakUnseen d
    | 8 => if d.ring.stat == .enumerating then armEnds d else goOnMeasuring (joinEnds false 0 d)
    | 9 => armFound [] d
    | 10 => lostTrip f.addr d
    | _ =>
      match bf (nth f.body 0 0) 28 4 with
      | 2 => setFoldEnds f false d
      | 3 => { d with ring.restore := 0 }
      | 5 => farStatEnds f 0 d
      | _ => d
  | _ => d

/-- An attempt has failed (R339): the frame is sent again, or given up with its third attempt. -/
def attemptFails (f : Flight) (d : Dev) : Dev :=
  if !retried f then d
  else if 2 ≤ f.rty then gaveUp f d
  else { d with head.retry := d.head.retry ++ [{ f with out := 0 }] }

/-- An ENUM has come back (R370, R371), or an extended arm has answered (R385). -/
def enumBack (f : Flight) (ok : Bool) (p : Port) (d : Dev) : Dev :=
  let w := nth f.body 0 0
  let next := bf w 0 6
  let enum := d.ring.stat == .enumerating
  match f.got with
  | some (a, l, ws) =>
    let info := nth ws 0 0
    if l != lACCEPT && l != lDUP then attemptFails f d
    else if a = next && next != 0 && bit info 0 then (if enum then claimed d else goOnMeasuring (joinEnds true a d))
    else if a = 0 && !bit info 0 then
      (if !enum then goOnMeasuring (joinEnds false 0 d)
       else if bit info 1 != bit w 31 then armEnds (raiseNS 79 1 d)
       else if next = 0 then armEnds (raiseNS 78 1 d)
       else attemptFails f d)
    else attemptFails f d
  | none =>
    if enum && ok && p == .A && f.via == some .B then claimsEnd { d with ring.enumClosed := true }
    else attemptFails f d

/-- A census has come back (R375, R377, R379, R384). -/
def censusBack (f : Flight) (ok : Bool) (d : Dev) : Dev :=
  if f.via.isSome then
    (if ok then armFound ((presentMembers d).filter (fun a => mbit f.pairs a)) d else attemptFails f d)
  else
    let d1 := forEach memberAddrs (censusAddr f.pairs) d
    let d2 := remeasureNext d1
    startRestore (if d1.ring.measFor = 0 && d2.ring.measFor != 0 then goOnMeasuring d2 else d2)

/-- A RING_CTL has come back (R368, R379, R384 to R386). -/
def ctlBack (f : Flight) (d : Dev) : Dev :=
  match bf (nth f.body 0 0) 28 4, served f with
  | 1, _ => d
  | 6, _ => if 2 ≤ d.ring.foldBAddr then pushUnwrap d else pushTiming d
  | 7, _ => pushTiming d
  | 2, some _ => setFoldEnds f true d
  | 3, some _ => pushEnum d.ring.extA (freeAddr d) d
  | 5, some ws => farStatEnds f (nth ws 0 0) d
  | _, some _ => d
  | _, none => attemptFails f d

/-- A frame of the ring's own has come back, or has not (ok false). -/
def ringBack (f : Flight) (ok : Bool) (p : Port) (rt : Nat) (d : Dev) : Dev :=
  match f.typ with
  | 1 => if ok && p == .A then goOnMeasuring (ringRestored d) else attemptFails f d
  | 8 => enumBack f ok p d
  | 9 => censusBack f ok d
  | 10 => if (f.addr = 1 && ok) || (served f).isSome then tookTrip f.addr rt d else attemptFails f d
  | _ => ctlBack f d

/-- A frame has come back on every port it was due on, or has not in time (ok false) (R339). -/
def conclude (f : Flight) (ok : Bool) (p : Port) (rt : Nat) (d : Dev) : Dev :=
  match f.kind with
  | 0 => partDone d
  | 1 => ringBack f ok p rt d
  | 5 => d
  | 6 => if (served f).isSome then (if d.ring.enumStep = 5 then goOnWriting d else d) else attemptFails f d
  | k =>
    if f.addr = 63 then
      (if allAcked d f && (ok || wrapped d) then (if k = 2 then fragTaken f d else remoteDone true 0 d) else attemptFails f d)
    else if k = 2 && (replyOf f).any (fun x => x.1 == lBUSY) then (findMsg d f).elim d (fun o => headRsp 3 stBUSY o d)
    else match served f with
      | some ws =>
        if k = 2 then fragTaken f d
        else if k = 3 then pollTaken f ws d
        else remoteDone true (nth ws 0 0) d
      | none => attemptFails f d

/-- The head's ring work goes on after a frame (R370 to R374). -/
def goesOn (d : Dev) : Dev :=
  if d.ring.disturbed && d.ring.stat == .enumerating && d.ring.enumStep != 4 && d.ring.enumStep != 0 then attemptDisturbed d
  else goOnEnum d

/-! ## A frame starts -/

/-- A frame leaves (R327, R352): a retry keeps its SEQ. -/
def startFrame (f : Flight) (d : Dev) : Dev :=
  let seq := if f.rty = 0 then d.head.seq else f.seq
  let d1 := if f.rty = 0 then
      { d with head.seq := (seq + 1) % 256, head.almWord := if seq % 128 = 0 then almanac d else d.head.almWord }
    else d
  let i := takeFrameInject (sendPorts d f) d1
  let g := { f with seq := seq, out := duePorts d f, bad := i.1, got := none, pairs := 0 }
  let d2 := { i.2 with head.timingDue := false, head.txFrame := txWords i.2 g }
  if g.out = 0 then goesOn (conclude g false .A 0 d2) else { d2 with head.flights := d2.head.flights ++ [g] }

/-- The next sweep part starts. -/
def startPart (d : Dev) : Dev :=
  let d1 := if d.head.sweepParts.isEmpty then beginSweep d else d
  match d1.head.sweepParts with
  | (a, n) :: t => startFrame (partFlight d1 a n) { d1 with head.sweepParts := t }
  | [] => d1

/-- A TIMING frame starts where one is due (R348). -/
def startTiming (d : Dev) : Dev :=
  let f : Flight := { Flight.reset with typ := 1, kind := 5 }
  if d.head.timingDue && fits d f then startFrame f d else d

/-- A tunnelled frame starts, or a TIMING frame (R348). -/
def startTunnel (d : Dev) : Dev :=
  if !ringServes d || !foldsSet d then startTiming d
  else match nextTunnel d with
    | some (f, e) =>
      let g := fillTunnel d f
      if fits d g then startFrame g e else startTiming d
    | none => startTiming d

/-- The next frame by precedence (R348): a retry that is due is the next after sweep parts (R339). -/
def startNext (d : Dev) : Dev :=
  if partDue d then startPart d
  else if !d.head.retry.isEmpty then d
  else match d.head.ringFrames with
    | f :: t => if fits d f then startFrame f { d with head.ringFrames := t } else startTiming d
    | [] => startTunnel d

/-- A retry starts (R339). -/
def startRetry (d : Dev) : Dev :=
  match d.head.retry with
  | f :: t =>
    if partDue d || !fits d f then d
    else startFrame { f with rty := f.rty + 1 } { d with head.retry := t, link.retryCnt := satInc 255 d.link.retryCnt }
  | [] => d

/-! ## A frame returns -/

/-- A return of the head's own frame (R334, R335): damage and CRC failures are counted as at any receiver. -/
def countReturn (r : FrameReturn) (bad : Bool) (d : Dev) : Dev :=
  if r.damaged = 1 then countViol r.port d
  else if r.damaged = 0 && (!r.crcOk || bad) then countCrc r.port d
  else d

/-- A frame returns to the head (R339, R340, R346); on a disabled port nothing arrives (R45, R354). -/
def takeReturn (r : FrameReturn) (d : Dev) : Dev :=
  if !portUp d r.port then d
  else match d.head.flights.find? (fun (f : Flight) => f.typ == r.typ && f.seq == r.seq && mbit f.out r.port.num) with
  | none => d
  | some f =>
    let bad := injected d f r.port
    let good := r.crcOk && r.damaged == 0 && !bad
    let d1 := countReturn r bad { d with
      ring.lostPasses := d.ring.lostPasses.set r.port.num 0
      link.lastHeader := headerWord f.typ f.seq f.addr (f.addr == 63) (nth d.head.almWord (f.seq % 128) false) f.rty (flightLen f) }
    let d2 := if f.kind = 0 then takeSlots f r.port bad r.slots d1 else d1
    let g := { f with
      out := if f.typ = 8 then 0 else mset f.out r.port.num false
      pairs := if good then f.pairs ||| mof 64 ((r.pairs.filter (fun x => x.2 == 2)).map (fun x => x.1)) else f.pairs
      got := if good then (match r.reply with
        | some l => some (r.addr, l, r.words)
        | none => f.got) else f.got }
    let rest := dropFirst (fun (x : Flight) => x == f) d2.head.flights
    if g.out = 0 then goesOn (conclude g good r.port r.trip { d2 with head.flights := rest })
    else { d2 with head.flights := g :: rest }

/-- Nothing came back on an arm (R383): its second pass in a row moves the fold. -/
def passLost (p : Port) (d : Dev) : Dev :=
  let n := nth d.ring.lostPasses p.num 0 + 1
  let d1 := { d with ring.lostPasses := d.ring.lostPasses.set p.num n }
  if 2 ≤ n && foldsSet d then armSilent p d1 else d1

/-- A closed ring from which a frame has not come back is broken where no stream reaches port A, or with the second frame in
a row (R379). -/
def closedLost (d : Dev) : Bool := !d.link.lockA || decide (1 ≤ nth d.ring.lostPasses 0 0)

/-- The oldest frame has not returned in time (R339, R379, R383). -/
def returnTimeout (d : Dev) : Dev :=
  match d.head.flights with
  | [] => d
  | f :: t =>
    if d.ring.stat == .closed && !turnedFlight f then
      (if closedLost d then breakUnseen d
       else goesOn (conclude f false .A 0 { d with head.flights := t, ring.lostPasses := d.ring.lostPasses.set 0 1 }))
    else
      let d1 := { d with head.flights := t }
      let lost := fun (p : Port) (d : Dev) => if mbit f.out p.num then passLost p d else d
      let d2 := if wrapped d then lost .B (lost .A d1) else d1
      goesOn (conclude f false .A 0 d2)

end Sys2Proof.Machine
end

