-- ==== Sys2Proof/Machine/Head.lean ====
section
/-! DEFINITION. The head's frames, its ring work, and the ring commands (11_burza_link.md R339 to R348,
12_ring_membership.md R369 to R388, 14_aeddo_command_reference.md R462 to R466). -/

namespace Sys2Proof.Machine

/-! ## Frames of the head -/

/-- HEAD_FRAME_START (R348). -/
def execHeadFrameStart (s : State) : Host.Outcome State Fault Refusal :=
  runDev s (fun d => if canSend d && linkFree d then startNext d else d)

/-- HEAD_FRAME_RETURN (R339, R340, R346, R370 to R377, R384 to R386). -/
def execHeadFrameReturn (r : FrameReturn) (s : State) : Host.Outcome State Fault Refusal :=
  runDev s (fun d => if isHead d && awake d then takeReturn r d else d)

/-- HEAD_RETURN_TIMEOUT (R339, R379, R383). -/
def execHeadReturnTimeout (s : State) : Host.Outcome State Fault Refusal :=
  runDev s (fun d => if isHead d && awake d then returnTimeout d else d)

/-- HEAD_RETRY (R339): RETRY_FAIL is decided with the third failure. -/
def execHeadRetry (s : State) : Host.Outcome State Fault Refusal :=
  runDev s (fun d => if canSend d && linkFree d then startRetry d else d)

/-- SWEEP_DUE (R342). -/
def execSweepDue (s : State) : Host.Outcome State Fault Refusal :=
  runDev s (fun d =>
    if canSend d && ringServes d && itemN d 0x0701 == 1 then { d with head.sweepDue := true, head.sweepAt := d.now } else d)

/-- TIMING_FRAME_DUE (R348, R105). -/
def execTimingFrameDue (s : State) : Host.Outcome State Fault Refusal :=
  runDev s (fun d => if canSend d then { d with head.timingDue := true } else d)

/-! ## Breaks -/

/-- REVERSE_DECIDE (R378, R379): mark says whether a run of 64 1 bits began on port A. -/
def execReverseDecide (mark : Bool) (s : State) : Host.Outcome State Fault Refusal :=
  runDev s (fun d =>
    if !d.ring.reversePend then d
    else
      let d1 := { d with ring.reversePend := false }
      if isHead d then (if mark then d1 else armFound [] { d1 with ring.marking := false })
      else if mark then { d1 with ring.mode := .reversed }
      else raiseNS 73 0xFFFF { d1 with ring.mode := .fold, ring.foldB := true })

/-- BREAK_MARK_END (R378, R379). -/
def execBreakMarkEnd (s : State) : Host.Outcome State Fault Refusal :=
  runDev s (fun d =>
    if !d.ring.marking then d
    else
      let d1 := { d with ring.marking := false }
      if isHead d then pushRing (censusFrame d (some .A)) { d1 with ring.reversePend := false } else d1)

/-! ## Census and enumeration -/

/-- CENSUS_DUE (R375). -/
def execCensusDue (s : State) : Host.Outcome State Fault Refusal :=
  runDev s (fun d => if canSend d then pushCensus d else d)

/-- HEAD_SILENCE_END (R388, R369): a ring not yet enumerated is, where ENUM_AUTO is 1. -/
def execHeadSilenceEnd (s : State) : Host.Outcome State Fault Refusal :=
  runDev s (fun d =>
    if isHead d && awake d && d.ring.silent then
      let d1 := { d with ring.silent := false }
      if d.ring.stat == .idle && itemN d 0x0710 == 1 then startEnum d1 else d1
    else d)

/-- ENUM_FORGET_WAIT (R370): FORGET is done with, the claims begin on port B. -/
def execEnumForgetWait (s : State) : Host.Outcome State Fault Refusal :=
  runDev s (fun d =>
    if d.ring.stat == .enumerating && d.ring.enumStep == 1 then
      pushEnum false 2 { d with ring.enumStep := 2, head.flights := [], head.retry := [], head.ringFrames := [] }
    else d)

/-- ENUM_QUIET (R374): a new attempt. -/
def execEnumQuiet (s : State) : Host.Outcome State Fault Refusal :=
  runDev s (fun d =>
    if d.ring.stat == .enumerating && d.ring.enumStep == 4 then
      beginAttempt { d with ring.attempts := satInc 63 d.ring.attempts }
    else d)

/-! ## Commands -/

/-- ENUMERATE (R369, R462, R463): answered when the ring is CLOSED, WRAPPED or FAILED. -/
def execEnumerate (m : Msg) (s : State) : Host.Outcome State Fault Refusal :=
  runDev s (runCmd ⟨0x50, lenIs 3, false, true, false⟩ m (fun d =>
    match firstFail [(req m 1 != 0, stRANGE), (d.ring.stat == .conflict, stSTATE), (d.ring.stat == .enumerating, stBUSY)] with
    | some e => refuse e d
    | none => .long 0 (startEnum d)))

/-- The response of CENSUS (R465). -/
def censusData (d : Dev) : List Word :=
  let p := (mof 64 (1 :: presentMembers d)).toNat
  let r := (mof 64 (memberAddrs.filter (fun a => (mapAt d a).reserved))).toNat
  [Word.of d.ring.epoch, Word.of (p % 2 ^ 32), Word.of (p / 2 ^ 32), Word.of (r % 2 ^ 32), Word.of (r / 2 ^ 32)]

/-- CENSUS by its OP (R465, R376). -/
def censusCmd (m : Msg) (d : Dev) : Ans :=
  let w := req m 1
  let a := bf w 8 6
  let op := bf w 0 2
  if op = 3 || !onlyBits 0x3F03 w then refuse stRANGE d
  else if op = 1 then
    if !(mapAt d a).reserved then refuse stSTATE d
    else
      let d1 := modMap a (fun _ => MapEntry.reset) d
      okWith (censusData d1) d1
  else if op = 2 then let d1 := pushCensus d; okWith (censusData d1) d1
  else okWith (censusData d) d

/-- What the command table says of CENSUS (R433). -/
def censusRow : Cmd0 := ⟨0x51, lenIs 3, false, true, false⟩

/-- CENSUS_QUERY. -/
def execCensusQuery (m : Msg) (s : State) : Host.Outcome State Fault Refusal := runDev s (runCmd censusRow m (censusCmd m))

/-- CENSUS_RELEASE. -/
def execCensusRelease (m : Msg) (s : State) : Host.Outcome State Fault Refusal := runDev s (runCmd censusRow m (censusCmd m))

/-- CENSUS_RUN. -/
def execCensusRun (m : Msg) (s : State) : Host.Outcome State Fault Refusal := runDev s (runCmd censusRow m (censusCmd m))

/-- RING_STATUS (R466). -/
def execRingStatus (m : Msg) (s : State) : Host.Outcome State Fault Refusal :=
  runDev s (runCmd ⟨0x52, lenIs 2, false, false, false⟩ m (fun d =>
    if isHead d then
      okWith ([ringStatReg d, ringSelfReg d, Word.of (d.ring.dRing % 4096)] ++
        ((List.range 62).map (· + 1)).flatMap (fun a => [mapWord d a, if a = 1 then 0 else writtenDelay d a])) d
    else okWith [ringSelfReg d, ringDelayReg d] d))

end Sys2Proof.Machine
end

