-- ==== Sys2Proof/Machine/HostPort.lean ====
section
/-! DEFINITION. The SPI port, the mailboxes and the direct registers as the host uses them, and the housekeeper's restart
(13_host_port_and_mailboxes.md R395 to R423, 11_burza_link.md R354, R355, 15_faults_and_sluices.md R492, R496). -/

namespace Sys2Proof.Machine

/-! ## The command mailbox -/

/-- A word written to MBX_CMD_WIN (R408, R409). -/
def winWrite (w : Word) (d : Dev) : Dev :=
  if mbxFree d = 0 then { d with host.ovf := true } else { d with host.composed := d.host.composed ++ [w] }

/-- ABORT (R408). -/
def abortCompose (d : Dev) : Dev := { d with host.composed := [], host.ovf := false }

/-- Commands outstanding against a device (R409, R410): a broadcast counts against each. -/
def outstAt (d : Dev) (a : Nat) : Nat := (d.host.outst.filter (fun (o : Outst) => o.target == a || o.target == 63)).length

/-- The outstanding limit is reached (R409). -/
def atLimit (d : Dev) (t : Nat) : Bool :=
  decide (32 ≤ outstNow d) ||
    (if t = 63 then (1 :: presentMembers d).any (fun a => decide (4 ≤ outstAt d a)) else decide (4 ≤ outstAt d t))

/-- The checks of SEND in their order (R409, R411): head reason and status. -/
def sendCheck (d : Dev) : Option (Nat × Status) :=
  let t := d.host.target
  let len := bf (nth d.host.composed 0 0) 0 10
  if d.host.ovf then some (7, stLENGTH)
  else if len < 2 ∨ 256 < len then some (6, stLENGTH)
  else if d.host.composed.length ≠ len then some (7, stLENGTH)
  else if t ≠ 1 ∧ t ≠ 63 ∧ !(decide (2 ≤ t) && (mapAt d t).present) then some (4, stSTATE)
  else if t ≠ 1 ∧ !ringServes d then some (5, stBUSY)
  else if atLimit d t then some (1, stBUSY)
  else none

/-- SEND (R409, R410). -/
def sendMessage (d : Dev) : Dev :=
  let ws := d.host.composed
  let h := nth ws 0 0
  let t := d.host.target
  let o : Outst := { Outst.reset with
    target := t, seq := bf h 16 8, code := bf h 24 8, quiet := bit h 13, len := ws.length
    words := if t = 1 then [] else ws, polls := if t = 63 then ws else [] }
  let d1 := abortCompose d
  match sendCheck d with
  | some e =>
    { d1 with host.rsps := d.host.rsps ++ [⟨1, rspWords 1 o.code o.seq false true e.1 e.2 []⟩] }
  | none =>
    let d2 := { d1 with host.outst := d.host.outst ++ [o], host.submitted := d.host.submitted + ws.length }
    if t = 1 then { d2 with cmd.waiting := d2.cmd.waiting ++ [(false, ws)] }
    else { d2 with head.tunnel := d2.head.tunnel ++ [{ Flight.reset with typ := 4, addr := t, kind := 2, tag := o.seq * 256 + o.code }] }

/-- A write to MBX_CMD_CTRL (R408): TARGET, then ABORT or SEND. -/
def writeCmdCtrl (w : Word) (d : Dev) : Dev :=
  let d1 := { d with host.target := bf w 26 6 }
  if bit w 24 then abortCompose d1 else if bit w 25 then sendMessage d1 else d1

/-- NEXT (R408): the rest of the current response is discarded. -/
def nextRsp (d : Dev) : Dev := { d with host.rsps := d.host.rsps.drop 1, host.rspPos := 0 }

/-- The host writes a register of the head (R397, R401). -/
def hostWrite (a : Nat) (w : Word) (d : Dev) : Dev :=
  if a = 0x20 then winWrite w d
  else if a = 0x24 then writeCmdCtrl w d
  else if a = 0x2C then (if bit w 24 then nextRsp d else d)
  else writeReg .spi a w d

/-! ## SPI -/

/-- A response on SDO (R396). -/
def spiWord (sstat addr : Nat) (data : Word) : BitVec 64 :=
  let v := sstat * 2 ^ 48 + addr * 2 ^ 32 + data.toNat
  BitVec.ofNat 64 (v * 256 + crc8 56 v)

/-- The response of the next transaction (R396, R397). -/
def spiAnswer (sstat addr : Nat) (data : Word) (d : Dev) : Dev := { d with host.sstat := sstat, host.rAddr := addr, host.rData := data }

/-- What SDO carries during a transaction (R397): the answer to the one before, or a remote result after a NOP. -/
def spiOut (d : Dev) : Dev :=
  match d.host.lastNop, d.host.remoteRes with
  | true, some (s, a, v) => { d with host.sdo := spiWord s a v, host.remoteRes := none }
  | _, _ => { d with host.sdo := spiWord d.host.sstat d.host.rAddr d.host.rData }

/-- A remote READ or WRITE (R398): v is the value of a WRITE. -/
def spiRemote (dev a : Nat) (v : Option Word) (d : Dev) : Dev :=
  if !mapped false a then spiAnswer 0x04 a 0 d
  else if d.host.remote.isSome then spiAnswer 0x05 a 0 d
  else if (dev != 63 && !(mapAt d dev).present) || d.ring.stat == .conflict then spiAnswer 0x06 a 0 d
  else
    let f : Flight := { Flight.reset with
      typ := if v.isSome then 6 else 7, addr := dev, kind := 4, body := Word.of a :: v.toList }
    spiAnswer 0x01 a (v.getD 0) { d with
      host.remote := some { dev := dev, addr := a, write := v.isSome, value := v.getD 0 }
      head.tunnel := d.head.tunnel ++ [f] }

/-- Addresses whose reads take a word each (R400). -/
def isWindow (a : Nat) : Bool := a == 0x28 || a == 0x30 || a == 0x34

/-- The words of a BURST in order (R400): the words read, whether one was unmapped, the device after them. -/
def burstWords (a n : Nat) (d : Dev) : List Word × Bool × Dev :=
  (List.range n).foldl (fun (r : List Word × Bool × Dev) i =>
    let x := if isWindow a then a else a + 4 * i
    let v := readReg x r.2.2
    (r.1 ++ [v.1], r.2.1 || !mapped true x, v.2)) ([], false, d)

/-- Each group of 8 words, and a last of fewer, followed by its CRC-8 (R400). -/
def burstGroups (l : List Word) : List Word :=
  (List.range (cdiv l.length 8)).flatMap (fun g =>
    let ws := (l.drop (8 * g)).take 8
    ws ++ [Word.of (crc8Words ws)])

/-- A request whose CRC-8 passes (R396 to R400). -/
def spiRequest (kind dev a : Nat) (w : Word) (d : Dev) : Dev :=
  match kind with
  | 0 => { spiAnswer 0x00 a 0 d with host.lastNop := true }
  | 1 =>
    if dev ≤ 1 then
      (if mapped true a then let r := readReg a d; spiAnswer 0x00 a r.1 r.2 else spiAnswer 0x04 a 0 d)
    else if dev = 63 then spiAnswer 0x03 a 0 d
    else spiRemote dev a none d
  | 2 =>
    if dev ≤ 1 then (if mapped true a then spiAnswer 0x00 a w (hostWrite a w d) else spiAnswer 0x04 a 0 d)
    else spiRemote dev a (some w) d
  | _ =>
    let n := bf w 0 11
    if 1 < dev || n = 0 || 1024 < n then spiAnswer 0x03 a 0 d
    else
      let r := burstWords a n d
      let e := { r.2.2 with host.burst := burstGroups r.1 }
      spiAnswer (if r.2.1 then 0x04 else 0x00) a (Word.of n) e

/-- A transaction of 64 clocks, or a whole BURST, at the head (R395, R396); a CRC failure is counted and raises EV125. -/
def spiTransaction (q : BitVec 64) (d : Dev) : Dev :=
  if !isHead d || !awake d then d
  else
    let v := q.toNat
    let d1 := spiOut d
    let d2 := { d1 with host.lastNop := false, host.burst := [] }
    if crc8 56 (v / 256) != v % 256 then
      spiAnswer 0x02 (v / 2 ^ 40 % 2 ^ 16) 0 (raise 125 { d2 with host.spiCrc := satInc 255 d.host.spiCrc })
    else spiRequest (v / 2 ^ 62) (v / 2 ^ 56 % 64) (v / 2 ^ 40 % 2 ^ 16) (Word.of (v / 256)) d2

/-- SPI_NOP (R396, R397). -/
def execSpiNop (req : BitVec 64) (s : State) : Host.Outcome State Fault Refusal := runDev s (spiTransaction req)

/-- SPI_READ (R396 to R398). -/
def execSpiRead (req : BitVec 64) (s : State) : Host.Outcome State Fault Refusal := runDev s (spiTransaction req)

/-- SPI_WRITE (R396 to R399). -/
def execSpiWrite (req : BitVec 64) (s : State) : Host.Outcome State Fault Refusal := runDev s (spiTransaction req)

/-- SPI_BURST (R396, R400). -/
def execSpiBurst (req : BitVec 64) (s : State) : Host.Outcome State Fault Refusal := runDev s (spiTransaction req)

/-- SPI_SHORT_TRANSACTION (R395, R396). -/
def execSpiShortTransaction (s : State) : Host.Outcome State Fault Refusal :=
  runDev s (fun d => if isHead d && awake d then { spiAnswer 0x07 0 0 d with host.lastNop := false } else d)

/-- REMOTE_ACCESS_DONE (R397, R398). -/
def execRemoteAccessDone (ok : Bool) (value : Word) (s : State) : Host.Outcome State Fault Refusal :=
  runDev s (fun d =>
    if isHead d && awake d && d.host.remote.isSome then
      remoteDone ok value { d with
        head.flights := d.head.flights.filter (fun (f : Flight) => f.kind != 4)
        head.retry := d.head.retry.filter (fun (f : Flight) => f.kind != 4) }
    else d)

/-! ## Mailboxes -/

/-- What the host does at a head that is awake. -/
def atHead (f : Dev → Dev) (d : Dev) : Dev := if isHead d && awake d then f d else d

/-- What happens at any device that is awake. -/
def atDevice (f : Dev → Dev) (d : Dev) : Dev := if awake d then f d else d

/-- A register is read (R397): its RC fields clear. -/
def readAt (a : Nat) (d : Dev) : Dev := (readReg a d).2

/-- MBX_CMD_WIN_WRITE (R408, R409). -/
def execMbxCmdWinWrite (w : Word) (s : State) : Host.Outcome State Fault Refusal := runDev s (atHead (winWrite w))

/-- MBX_SEND (R409 to R411). -/
def execMbxSend (s : State) : Host.Outcome State Fault Refusal := runDev s (atHead sendMessage)

/-- MBX_ABORT (R408). -/
def execMbxAbort (s : State) : Host.Outcome State Fault Refusal := runDev s (atHead abortCompose)

/-- MBX_RSP_WIN_READ (R408). -/
def execMbxRspWinRead (s : State) : Host.Outcome State Fault Refusal := runDev s (atHead (readAt 0x28))

/-- MBX_RSP_NEXT (R408). -/
def execMbxRspNext (s : State) : Host.Outcome State Fault Refusal := runDev s (atHead nextRsp)

/-- MBX_EVT_WIN_READ (R418). -/
def execMbxEvtWinRead (s : State) : Host.Outcome State Fault Refusal := runDev s (atDevice (readAt 0x30))

/-- MBX_STRM_WIN_READ (R418). -/
def execMbxStrmWinRead (s : State) : Host.Outcome State Fault Refusal := runDev s (atDevice (readAt 0x34))

/-! ## Registers -/

/-- MBX_COUNTS_READ (R421). -/
def execMbxCountsRead (s : State) : Host.Outcome State Fault Refusal := runDev s (atDevice (readAt 0x38))

/-- SWEEP_STAT_READ (R423). -/
def execSweepStatRead (s : State) : Host.Outcome State Fault Refusal := runDev s (atHead (readAt 0x58))

/-- TB_STAT_READ (R121). -/
def execTbStatRead (s : State) : Host.Outcome State Fault Refusal := runDev s (atDevice (readAt 0x68))

/-- TRIP_STAT_READ (R215). -/
def execTripStatRead (s : State) : Host.Outcome State Fault Refusal := runDev s (atDevice (readAt 0x70))

/-- LINK_STAT_READ (R354). -/
def execLinkStatRead (s : State) : Host.Outcome State Fault Refusal := runDev s (atDevice (readAt 0x44))

/-- LINK_CTRL_CLR_CNT (R354). -/
def execLinkCtrlClrCnt (s : State) : Host.Outcome State Fault Refusal := runDev s (atDevice clearLinkCounts)

/-- A register write from its source (R397, R398): the host writes the head's over SPI, a REG_WR frame a member's. -/
def fromSource (src : Source) (f : Dev → Dev) (d : Dev) : Dev :=
  match src with
  | .spi => atHead f d
  | .frame _ => if isHead d then d else atDevice f d

/-- LINK_CTRL_PORT_EN (R45, R354, R355). -/
def execLinkCtrlPortEn (src : Source) (w : Word) (s : State) : Host.Outcome State Fault Refusal :=
  runDev s (fromSource src (writeLinkCtrl src w))

/-- FAULT_PIN_CTRL_WRITE (R492, R517). -/
def execFaultPinCtrlWrite (src : Source) (w : Word) (s : State) : Host.Outcome State Fault Refusal :=
  runDev s (fromSource src (writeFaultPin src w))

/-- EVFORCE_WRITE (R404, R496). -/
def execEvforceWrite (bank : Fin 4) (w : Word) (s : State) : Host.Outcome State Fault Refusal :=
  runDev s (atDevice (writeForce bank w))

/-- A write by the host at the head, or by a frame at a member (R397, R401). -/
def registerWrite (src : Source) (addr : Nat) (w : Word) (d : Dev) : Dev :=
  match src with
  | .spi => atHead (fun d => if mapped true addr then hostWrite addr w d else d) d
  | .frame _ => if isHead d then d else atDevice (fun d => if mapped false addr then writeReg src addr w d else d) d

/-- REGISTER_WRITE (R397, R401, R121, R215, R354, R392, R402, R404, R423). -/
def execRegisterWrite (src : Source) (addr : Nat) (w : Word) (s : State) : Host.Outcome State Fault Refusal :=
  runDev s (registerWrite src addr w)

/-! ## The housekeeper -/

/-- HK_RESTART (R417, R30). -/
def execHkRestart (s : State) : Host.Outcome State Fault Refusal := runDev s (atDevice hkDown)

/-- HK_RESTART_DONE (R417). -/
def execHkRestartDone (s : State) : Host.Outcome State Fault Refusal :=
  runDev s (atDevice (fun d => if d.cmd.hkReady then d else hkUp d))

end Sys2Proof.Machine
end

