-- ==== Sys2Proof/Machine/Dispatch.lean ====
section
/-! DEFINITION. The meaning of every command: one arm per row of spec/opcode_table.json. -/

namespace Sys2Proof.Machine

/-- The effect of a command on everything but the queue. -/
def exec (i : Instr) (s : State) : Host.Outcome State Fault Refusal :=
  match i with
  | .vstkPowerOn => Sys2Proof.Machine.execVstkPowerOn s
  | .vstkPowerLoss => Sys2Proof.Machine.execVstkPowerLoss s
  | .vstkLow low => Sys2Proof.Machine.execVstkLow low s
  | .vstkHigh high => Sys2Proof.Machine.execVstkHigh high s
  | .v5Fault outside => Sys2Proof.Machine.execV5Fault outside s
  | .v5Brownout below => Sys2Proof.Machine.execV5Brownout below s
  | .vdFault outside => Sys2Proof.Machine.execVdFault outside s
  | .vdBrownout below => Sys2Proof.Machine.execVdBrownout below s
  | .tjWarn above => Sys2Proof.Machine.execTjWarn above s
  | .tjShutdown above => Sys2Proof.Machine.execTjShutdown above s
  | .oscStarted o => Sys2Proof.Machine.execOscStarted o s
  | .clockCompareDone o count => Sys2Proof.Machine.execClockCompareDone o count s
  | .clockCompareRetry o => Sys2Proof.Machine.execClockCompareRetry o s
  | .v5PowerGood mode => Sys2Proof.Machine.execV5PowerGood mode s
  | .modeSample mode => Sys2Proof.Machine.execModeSample mode s
  | .coreResetRelease => Sys2Proof.Machine.execCoreResetRelease s
  | .pllPLock => Sys2Proof.Machine.execPllPLock s
  | .bootDone => Sys2Proof.Machine.execBootDone s
  | .hfoFail => Sys2Proof.Machine.execHfoFail s
  | .lfoFail => Sys2Proof.Machine.execLfoFail s
  | .xoFail => Sys2Proof.Machine.execXoFail s
  | .pllPUnlock => Sys2Proof.Machine.execPllPUnlock s
  | .clkForced => Sys2Proof.Machine.execClkForced s
  | .safeWireDisagree front asks => Sys2Proof.Machine.execSafeWireDisagree front asks s
  | .safeWireRequest front asks => Sys2Proof.Machine.execSafeWireRequest front asks s
  | .safeHoldRetry => Sys2Proof.Machine.execSafeHoldRetry s
  | .safeHoldExit => Sys2Proof.Machine.execSafeHoldExit s
  | .opVdGood => Sys2Proof.Machine.execOpVdGood s
  | .opTimeout => Sys2Proof.Machine.execOpTimeout s
  | .gateHandshake => Sys2Proof.Machine.execGateHandshake s
  | .gateBusyTimeout => Sys2Proof.Machine.execGateBusyTimeout s
  | .gateBusyRetry => Sys2Proof.Machine.execGateBusyRetry s
  | .sleepCheck cells ax => Sys2Proof.Machine.execSleepCheck cells ax s
  | .wakePin high => Sys2Proof.Machine.execWakePin high s
  | .wakeToneDetect p => Sys2Proof.Machine.execWakeToneDetect p s
  | .sleepWakeAfter => Sys2Proof.Machine.execSleepWakeAfter s
  | .wakeToneEnd p => Sys2Proof.Machine.execWakeToneEnd p s
  | .wakeOutEnd => Sys2Proof.Machine.execWakeOutEnd s
  | .sleepEntry => Sys2Proof.Machine.execSleepEntry s
  | .actRampDone => Sys2Proof.Machine.execActRampDone s
  | .meridian => Sys2Proof.Machine.execMeridian s
  | .syncOutPulseEnd => Sys2Proof.Machine.execSyncOutPulseEnd s
  | .syncInEdge rising => Sys2Proof.Machine.execSyncInEdge rising s
  | .tbPwPhaseWrite v => Sys2Proof.Machine.execTbPwPhaseWrite v s
  | .tbRefTimeout => Sys2Proof.Machine.execTbRefTimeout s
  | .phaseLost => Sys2Proof.Machine.execPhaseLost s
  | .memberTbTimeout => Sys2Proof.Machine.execMemberTbTimeout s
  | .pllMLock => Sys2Proof.Machine.execPllMLock s
  | .pllMUnlock => Sys2Proof.Machine.execPllMUnlock s
  | .convertLeadPoint slots => Sys2Proof.Machine.execConvertLeadPoint slots s
  | .darkLeadPoint slot => Sys2Proof.Machine.execDarkLeadPoint slot s
  | .transit slots => Sys2Proof.Machine.execTransit slots s
  | .transitMarkEnd gpio => Sys2Proof.Machine.execTransitMarkEnd gpio s
  | .apertureEnd tseq => Sys2Proof.Machine.execApertureEnd tseq s
  | .frameEnd => Sys2Proof.Machine.execFrameEnd s
  | .recordComplete tseq => Sys2Proof.Machine.execRecordComplete tseq s
  | .recordWrite raw ovl => Sys2Proof.Machine.execRecordWrite raw ovl s
  | .recordVisible => Sys2Proof.Machine.execRecordVisible s
  | .captureGpioEdge gpio rising => Sys2Proof.Machine.execCaptureGpioEdge gpio rising s
  | .sarConversionDone code => Sys2Proof.Machine.execSarConversionDone code s
  | .auxDelayEnd => Sys2Proof.Machine.execAuxDelayEnd s
  | .auxResultFile => Sys2Proof.Machine.execAuxResultFile s
  | .leatSlotDue => Sys2Proof.Machine.execLeatSlotDue s
  | .leatSlotDone codes => Sys2Proof.Machine.execLeatSlotDone codes s
  | .leatVerifySwitch => Sys2Proof.Machine.execLeatVerifySwitch s
  | .wireCheckPeriod => Sys2Proof.Machine.execWireCheckPeriod s
  | .diagPullEnd readings => Sys2Proof.Machine.execDiagPullEnd readings s
  | .diagRecoverEnd => Sys2Proof.Machine.execDiagRecoverEnd s
  | .testDacSettled => Sys2Proof.Machine.execTestDacSettled s
  | .cmpOutputChange k level => Sys2Proof.Machine.execCmpOutputChange k level s
  | .cmpDeglitchExpiry k => Sys2Proof.Machine.execCmpDeglitchExpiry k s
  | .tripInsertDeferred => Sys2Proof.Machine.execTripInsertDeferred s
  | .tripRx p => Sys2Proof.Machine.execTripRx p s
  | .cmpSettingApply k => Sys2Proof.Machine.execCmpSettingApply k s
  | .cmpCheckRead k level => Sys2Proof.Machine.execCmpCheckRead k level s
  | .balPeriodBoundary => Sys2Proof.Machine.execBalPeriodBoundary s
  | .balStep => Sys2Proof.Machine.execBalStep s
  | .isenseIntervalEnd readings => Sys2Proof.Machine.execIsenseIntervalEnd readings s
  | .balFetOvercurrent n => Sys2Proof.Machine.execBalFetOvercurrent n s
  | .balPlanTimeLimit n => Sys2Proof.Machine.execBalPlanTimeLimit n s
  | .balTimeout => Sys2Proof.Machine.execBalTimeout s
  | .tempStale => Sys2Proof.Machine.execTempStale s
  | .actPwmPeriod b mV => Sys2Proof.Machine.execActPwmPeriod b mV s
  | .actSenseFault b => Sys2Proof.Machine.execActSenseFault b s
  | .actMeanMs b => Sys2Proof.Machine.execActMeanMs b s
  | .d2dBeatRx up typ content damage => Sys2Proof.Machine.execD2dBeatRx up typ content damage s
  | .d2dNakRx up seq => Sys2Proof.Machine.execD2dNakRx up seq s
  | .d2dRetrainDone => Sys2Proof.Machine.execD2dRetrainDone s
  | .d2dHoldRoom => Sys2Proof.Machine.execD2dHoldRoom s
  | .portLos p => Sys2Proof.Machine.execPortLos p s
  | .portLock p => Sys2Proof.Machine.execPortLock p s
  | .frameTiming f => Sys2Proof.Machine.execFrameTiming f s
  | .frameSweep f => Sys2Proof.Machine.execFrameSweep f s
  | .frameCmd f => Sys2Proof.Machine.execFrameCmd f s
  | .framePoll f => Sys2Proof.Machine.execFramePoll f s
  | .frameRegWr f => Sys2Proof.Machine.execFrameRegWr f s
  | .frameRegRd f => Sys2Proof.Machine.execFrameRegRd f s
  | .frameEnum f => Sys2Proof.Machine.execFrameEnum f s
  | .frameDelay f => Sys2Proof.Machine.execFrameDelay f s
  | .frameCensus f => Sys2Proof.Machine.execFrameCensus f s
  | .ringCtlForget f => Sys2Proof.Machine.execRingCtlForget f s
  | .ringCtlSetFold f => Sys2Proof.Machine.execRingCtlSetFold f s
  | .ringCtlExtend f => Sys2Proof.Machine.execRingCtlExtend f s
  | .ringCtlProbeFar f => Sys2Proof.Machine.execRingCtlProbeFar f s
  | .ringCtlFarStat f => Sys2Proof.Machine.execRingCtlFarStat f s
  | .ringCtlUnwrapPrep f => Sys2Proof.Machine.execRingCtlUnwrapPrep f s
  | .ringCtlUnwrap f => Sys2Proof.Machine.execRingCtlUnwrap f s
  | .headFrameStart => Sys2Proof.Machine.execHeadFrameStart s
  | .headFrameReturn r => Sys2Proof.Machine.execHeadFrameReturn r s
  | .headReturnTimeout => Sys2Proof.Machine.execHeadReturnTimeout s
  | .headRetry => Sys2Proof.Machine.execHeadRetry s
  | .sweepDue => Sys2Proof.Machine.execSweepDue s
  | .timingFrameDue => Sys2Proof.Machine.execTimingFrameDue s
  | .foldReturn => Sys2Proof.Machine.execFoldReturn s
  | .turnReturn => Sys2Proof.Machine.execTurnReturn s
  | .armReturnTimeout => Sys2Proof.Machine.execArmReturnTimeout s
  | .beacon p => Sys2Proof.Machine.execBeacon p s
  | .reverseDecide mark => Sys2Proof.Machine.execReverseDecide mark s
  | .breakMarkEnd => Sys2Proof.Machine.execBreakMarkEnd s
  | .farLockSet => Sys2Proof.Machine.execFarLockSet s
  | .farProbeSet => Sys2Proof.Machine.execFarProbeSet s
  | .censusDue => Sys2Proof.Machine.execCensusDue s
  | .awaitTimeout => Sys2Proof.Machine.execAwaitTimeout s
  | .headSilenceEnd => Sys2Proof.Machine.execHeadSilenceEnd s
  | .enumForgetWait => Sys2Proof.Machine.execEnumForgetWait s
  | .enumQuiet => Sys2Proof.Machine.execEnumQuiet s
  | .dupKeepExpiry => Sys2Proof.Machine.execDupKeepExpiry s
  | .fragTimeout => Sys2Proof.Machine.execFragTimeout s
  | .spiNop req => Sys2Proof.Machine.execSpiNop req s
  | .spiRead req => Sys2Proof.Machine.execSpiRead req s
  | .spiWrite req => Sys2Proof.Machine.execSpiWrite req s
  | .spiBurst req => Sys2Proof.Machine.execSpiBurst req s
  | .spiShortTransaction => Sys2Proof.Machine.execSpiShortTransaction s
  | .remoteAccessDone ok value => Sys2Proof.Machine.execRemoteAccessDone ok value s
  | .mbxCmdWinWrite w => Sys2Proof.Machine.execMbxCmdWinWrite w s
  | .mbxSend => Sys2Proof.Machine.execMbxSend s
  | .mbxAbort => Sys2Proof.Machine.execMbxAbort s
  | .mbxRspWinRead => Sys2Proof.Machine.execMbxRspWinRead s
  | .mbxRspNext => Sys2Proof.Machine.execMbxRspNext s
  | .mbxEvtWinRead => Sys2Proof.Machine.execMbxEvtWinRead s
  | .mbxStrmWinRead => Sys2Proof.Machine.execMbxStrmWinRead s
  | .mbxCountsRead => Sys2Proof.Machine.execMbxCountsRead s
  | .sweepStatRead => Sys2Proof.Machine.execSweepStatRead s
  | .tbStatRead => Sys2Proof.Machine.execTbStatRead s
  | .tripStatRead => Sys2Proof.Machine.execTripStatRead s
  | .linkStatRead => Sys2Proof.Machine.execLinkStatRead s
  | .linkCtrlClrCnt => Sys2Proof.Machine.execLinkCtrlClrCnt s
  | .linkCtrlPortEn src w => Sys2Proof.Machine.execLinkCtrlPortEn src w s
  | .faultPinCtrlWrite src w => Sys2Proof.Machine.execFaultPinCtrlWrite src w s
  | .evforceWrite bank w => Sys2Proof.Machine.execEvforceWrite bank w s
  | .registerWrite src addr w => Sys2Proof.Machine.execRegisterWrite src addr w s
  | .hkRestart => Sys2Proof.Machine.execHkRestart s
  | .hkRestartDone => Sys2Proof.Machine.execHkRestartDone s
  | .identify m => Sys2Proof.Machine.execIdentify m s
  | .caps m => Sys2Proof.Machine.execCaps m s
  | .powerState m codes ax => Sys2Proof.Machine.execPowerState m codes ax s
  | .softReset m => Sys2Proof.Machine.execSoftReset m s
  | .cfgSet m => Sys2Proof.Machine.execCfgSet m s
  | .cfgGet m => Sys2Proof.Machine.execCfgGet m s
  | .cfgCommitOtp m => Sys2Proof.Machine.execCfgCommitOtp m s
  | .otpLimitDepart => Sys2Proof.Machine.execOtpLimitDepart s
  | .otpProgramDone ok => Sys2Proof.Machine.execOtpProgramDone ok s
  | .convSetup m => Sys2Proof.Machine.execConvSetup m s
  | .transitPlanLoad m => Sys2Proof.Machine.execTransitPlanLoad m s
  | .transitPlanQuery m => Sys2Proof.Machine.execTransitPlanQuery m s
  | .readCells m => Sys2Proof.Machine.execReadCells m s
  | .historyRead m => Sys2Proof.Machine.execHistoryRead m s
  | .captureArm m => Sys2Proof.Machine.execCaptureArm m s
  | .captureRelease m => Sys2Proof.Machine.execCaptureRelease m s
  | .captureQuery m => Sys2Proof.Machine.execCaptureQuery m s
  | .auxTableLoad m => Sys2Proof.Machine.execAuxTableLoad m s
  | .auxRead m => Sys2Proof.Machine.execAuxRead m s
  | .windowSet m => Sys2Proof.Machine.execWindowSet m s
  | .balSet m => Sys2Proof.Machine.execBalSet m s
  | .balPlan m => Sys2Proof.Machine.execBalPlan m s
  | .activeSet m => Sys2Proof.Machine.execActiveSet m s
  | .eisPlan m => Sys2Proof.Machine.execEisPlan m s
  | .eisRead m => Sys2Proof.Machine.execEisRead m s
  | .tempTableLoad m => Sys2Proof.Machine.execTempTableLoad m s
  | .kernelLoadBegin m => Sys2Proof.Machine.execKernelLoadBegin m s
  | .kernelLoadData m => Sys2Proof.Machine.execKernelLoadData m s
  | .kernelLoadEnd m => Sys2Proof.Machine.execKernelLoadEnd m s
  | .kernelUnload m => Sys2Proof.Machine.execKernelUnload m s
  | .jobStats m => Sys2Proof.Machine.execJobStats m s
  | .enumerate m => Sys2Proof.Machine.execEnumerate m s
  | .censusQuery m => Sys2Proof.Machine.execCensusQuery m s
  | .censusRelease m => Sys2Proof.Machine.execCensusRelease m s
  | .censusRun m => Sys2Proof.Machine.execCensusRun m s
  | .ringStatus m => Sys2Proof.Machine.execRingStatus m s
  | .faultCfg m => Sys2Proof.Machine.execFaultCfg m s
  | .faultRead m => Sys2Proof.Machine.execFaultRead m s
  | .inject m => Sys2Proof.Machine.execInject m s
  | .bistCfg m => Sys2Proof.Machine.execBistCfg m s
  | .bistRead m => Sys2Proof.Machine.execBistRead m s
  | .journalRead m => Sys2Proof.Machine.execJournalRead m s
  | .serviceChallenge m => Sys2Proof.Machine.execServiceChallenge m s
  | .serviceAnswer m => Sys2Proof.Machine.execServiceAnswer m s
  | .serviceClose m => Sys2Proof.Machine.execServiceClose m s
  | .sessionExpiry => Sys2Proof.Machine.execSessionExpiry s
  | .nonceExpiry => Sys2Proof.Machine.execNonceExpiry s
  | .escWindowExpiry k => Sys2Proof.Machine.execEscWindowExpiry k s
  | .escHandlingEnd k => Sys2Proof.Machine.execEscHandlingEnd k s
  | .reactionJournal k => Sys2Proof.Machine.execReactionJournal k s
  | .stretchEnd => Sys2Proof.Machine.execStretchEnd s
  | .faultnStuck => Sys2Proof.Machine.execFaultnStuck s
  | .startupChecksDone fails => Sys2Proof.Machine.execStartupChecksDone fails s
  | .jobDispatch => Sys2Proof.Machine.execJobDispatch s
  | .jobStart e damage => Sys2Proof.Machine.execJobStart e damage s
  | .jobComplete e result => Sys2Proof.Machine.execJobComplete e result s
  | .jobOverrun e => Sys2Proof.Machine.execJobOverrun e s
  | .kernelOverrun e => Sys2Proof.Machine.execKernelOverrun e s
  | .engineTrap e => Sys2Proof.Machine.execEngineTrap e s
  | .engineSteal e => Sys2Proof.Machine.execEngineSteal e s
  | .twinTimeout id => Sys2Proof.Machine.execTwinTimeout id s
  | .engineLoaded e => Sys2Proof.Machine.execEngineLoaded e s
  | .kernelCopy e slot => Sys2Proof.Machine.execKernelCopy e slot s
  | .journalWrite => Sys2Proof.Machine.execJournalWrite s
  | .bistSlot => Sys2Proof.Machine.execBistSlot s
  | .bistSliceDone ok result direct word => Sys2Proof.Machine.execBistSliceDone ok result direct word s
  | .bistBudgetExpiry => Sys2Proof.Machine.execBistBudgetExpiry s
  | .diagNoGapTimeout => Sys2Proof.Machine.execDiagNoGapTimeout s
  | .exciteFetEdge n => Sys2Proof.Machine.execExciteFetEdge n s
  | .opDownVdPowerGood => Sys2Proof.Machine.execOpDownVdPowerGood s
  | .sleepEntryTimeout => Sys2Proof.Machine.execSleepEntryTimeout s

end Sys2Proof.Machine
end

