-- ==== Sys2Proof/Machine/Tick.lean ====
section
/-! DEFINITION. What passes when no command waits: one cycle of CK_PHASE (04_phase_timebase.md R91, R92). -/

namespace Sys2Proof.Machine

/-- One CK_PHASE cycle without a command: CK_PHASE and the accumulator run where the core die runs; elsewhere only
time passes. -/
def idleTick (d : Dev) : Dev := if awake d then effect tickPhase d else { d with now := d.now + 1 }

end Sys2Proof.Machine
end

