-- ==== Sys2Proof/Machine/Step.lean ====
section
/-! DEFINITION. One step: the command at the front of the queue, or one CK_PHASE cycle where none waits. -/

namespace Sys2Proof.Machine

/-- Take the front command and run it with the queue's rest; on an empty queue one CK_PHASE cycle passes
(DESIGN CHOICE, log 2). -/
def step (s : State) : Host.Outcome State Fault Refusal :=
  match s.pending with
  | [] => .next { s with toDev := idleTick s.toDev }
  | i :: rest => exec i { s with pending := rest }

/-- The state with the command a word spells in front of its queue: no row gives bits, so the state stays. -/
def State.withFetchWord (s : State) (nbits w : Nat) : State :=
  match Sys2Proof.decodeTableWord nbits w with
  | some i => { s with pending := i :: s.pending }
  | none => s

end Sys2Proof.Machine
end

