-- ==== Sys2Proof/Safety.lean ====
section
/-! DEFINITION. What counts as a safe run, and the vocabulary of the statements: states in which nothing but the command
itself acts, what a command may change beside its own effect, and an occurrence of an event without a reaction. -/

namespace Sys2Proof.Safety

open Sys2Proof Sys2Proof.Machine

/-- k steps from s all answer a next state. -/
def RunsOn (k : Nat) (s : State) : Prop := ∃ t, Sys2Proof.core.run k s = .next t

/-- The command answers a next state, the queue kept, of which P holds. -/
def Answers (c : Instr) (s : State) (P : Dev → Prop) : Prop :=
  ∃ t : State, exec c s = .next t ∧ t.pending = s.pending ∧ P t.toDev

/-- The safe state of 03_supply_power_clocks.md R86: no FET conducts, AD_G is low, both link drivers are idle. -/
def Quiet (d : Dev) : Prop :=
  d.pins.sb = 0 ∧ d.pins.adG = 0 ∧ d.pins.adGHigh = [0, 0, 0, 0] ∧ d.pins.linkIdleA = true ∧ d.pins.linkIdleB = true

/-- No capture is armed on an event flag (05_cell_conversion.md R152). -/
abbrev Unarmed (d : Dev) : Prop := ∀ x ∈ d.conv.caps, x.state = 1 → x.trig ≠ 3

/-- Nothing waits for the test DAC or for a gap: no verification, no check of the input diagnosis (the run, where one goes on,
is at a cell), no self-test slice (06_aux_path_and_leat.md R174, R176, 16_periodic_self_test.md R508). -/
abbrev DacIdle (d : Dev) : Prop :=
  d.aux.toVerify = [] ∧ d.aux.gapWait = false ∧ (d.aux.running = true → d.aux.target < 73) ∧ d.bist.waiting = none

/-- Nothing but the command itself acts: no Aeddo command executes over several events, none waits for the
housekeeper (13_host_port_and_mailboxes.md R426), no event flag triggers a capture, and nothing waits for the test DAC. -/
abbrev Calm (d : Dev) : Prop := d.cmd.busy = none ∧ d.cmd.waiting = [] ∧ Unarmed d ∧ DacIdle d

/-- A bank driver without what follows from the comparators (08_balancing.md R242). -/
def bankCore (b : Bank) : Bank := { b with interlock := false, applied := 0, excite := false }

/-- b is a but for what follows from the rest of the state: the levels of pins and what is high impedance, what the FETs did
in the interval in progress, the fallback of PHASE timing, the comparator interlock, the notes of an open impedance window,
the end of a TRIP's forwarding, POOL_FREE_MIN, the descriptors of waiting transfers, and UNSWEPT. -/
def Beside (a b : Dev) : Prop :=
  b.banks.map bankCore = a.banks.map bankCore ∧
  b = { a with
    pins := { a.pins with sb := b.pins.sb, alertLow := b.pins.alertLow, linkIdleA := b.pins.linkIdleA,
                          linkIdleB := b.pins.linkIdleB, faultnReadHigh := b.pins.faultnReadHigh,
                          gpioLevel := b.pins.gpioLevel, adG := b.pins.adG, adGHigh := b.pins.adGHigh,
                          gpioHiZ := b.pins.gpioHiZ, syncHiZ := b.pins.syncHiZ, sdoHiZ := b.pins.sdoHiZ,
                          linkHiZ := b.pins.linkHiZ }
    bal := { a.bal with held := b.bal.held, onAll := b.bal.onAll, offAll := b.bal.offAll, fallback := b.bal.fallback }
    banks := b.banks
    eis := { a.eis with fetHeld := b.eis.fetHeld, win := b.eis.win, banksOn := b.eis.banksOn }
    trip := { a.trip with forwarding := b.trip.forwarding, fwdPorts := b.trip.fwdPorts }
    eng := { a.eng with freeMin := b.eng.freeMin, linkHeld := b.eng.linkHeld, copyHeld := b.eng.copyHeld }
    link := { a.link with unswept := b.link.unswept } }

/-- An occurrence of EVk leads to no reaction: the source exists on the part (00_scope.md R9), and it is an info source, its
FAULT_ESC has REACTION NONE, it is severe already, or its COUNT is not reached (15_faults_and_sluices.md R479, R482,
R484). -/
abbrev Plain (d : Dev) (k : Nat) : Prop :=
  srcAbsent d.part k = false ∧
    (isInfo k = true ∨ escReaction d k = 0 ∨ (esc d k).state = 2 ∨ (esc d k).count + 1 < escCount d k)

/-- b is a after one occurrence of EVk that leads to no reaction: its flag, its record where EVE asks for one, its counter,
FAULTN's stretcher; nothing else but what follows from them (15_faults_and_sluices.md R477, R482, R491). -/
def Noted (k : Nat) (a b : Dev) : Prop :=
  b.host.evf = mset a.host.evf k true ∧
  (mbit a.host.eve k = false → b.host.evtRecs = a.host.evtRecs ∧ b.host.evt = a.host.evt) ∧
  (∀ i, i ≠ k → esc b i = esc a i) ∧
  Beside { a with
    host := { a.host with evf := b.host.evf, evt := b.host.evt, evtRecs := b.host.evtRecs, evtRseq := b.host.evtRseq,
                          evtDrop := b.host.evtDrop }
    fault := { a.fault with esc := b.fault.esc, stretch := b.fault.stretch, latch := b.fault.latch } } b

/-- The device with the safe state forced and SAFE_HOLD entered with cause c (03_supply_power_clocks.md R86, R87): drivers off,
the core die held in reset at its OP-L voltage, the cause latched; what the core die was doing ends with it. -/
def holdOf (c : Cause) (a : Dev) : Dev :=
  { a with
    power := { a.power with safeForced := true, safeHold := true, coreReset := true, cause := c,
                            vdOk := a.power.vdOk && a.power.op == .opL, op := .opL, opPrev := .opL, opTarget := none,
                            vdTargetMv := 800, goal := none, leaving := none, ramping := false }
    clk := { a.clk with pllP := false, gateReqs := [], waitGate := none }
    pins := { a.pins with sb := 0, linkIdleA := true, linkIdleB := true, syncOut := false }
    banks := a.banks.map (fun b => { b with on := false, applied := 0, excite := false })
    aux := { a.aux with user := .idle, txEntry := none, txNext := [], slotOf := none, pulling := false, recovering := false,
                        dacUser := .unused, dacSettled := false }
    cmp := { a.cmp with check := none, checkStep := 0 } }

/-- t is a after entry to SAFE_HOLD with cause c: holdOf, then the comparators that are armed in SAFE_HOLD are armed
(07_comparators_and_trip.md R188); nothing else but what follows from them. -/
def HeldBy (c : Cause) (a t : Dev) : Prop := Quiet t ∧ Beside (rearm (holdOf c a)) t

/-- A whole frame reaches a member that forwards the ring's stream, on its head-side port (11_burza_link.md R329 to R335,
12_ring_membership.md R359). -/
def arrives (d : Dev) (f : Frame) : Bool :=
  awake d && !isHead d && portUp d f.port && isHeadSide d f && !d.ring.returning && d.ring.gate &&
    !(d.ring.mode == .gated || d.ring.mode == .unattached || d.ring.mode == .await) && f.crcOk && f.damagedAt == 0 &&
    !headerError f

/-! ## Messages -/

/-- A command message with this CODE is the next that the device executes: awake, its housekeeper running, not about to
leave for SLEEP or SHIP; its CRC-32 is right, no bit is set that only responses or later versions set, it is no broadcast
where its command takes none, no response to it is cached, and its SEQ follows (13_host_port_and_mailboxes.md R405 to R414,
14_aeddo_command_reference.md R427). -/
def takes (d : Dev) (code : Nat) (bcast : Bool) (m : Msg) : Bool :=
  awake d && d.cmd.hkReady && d.power.leaving.isNone && crc32 (msgWords code m).dropLast == m.crc &&
    !(m.rsp || m.head || m.gap) && m.rsv == 0 && (bcast || !m.bcast) && (cached d m.seq.toNat code).isNone &&
    !seqGap d m.seq.toNat

/-- t is a with a response message sent, or none where it is not asked for: the head's goes to its response mailbox and ends
the command, a member's waits for POLL, and a member sends none to a broadcast (13_host_port_and_mailboxes.md R405, R409,
R410, R412). -/
def Sent (code : Nat) (m : Msg) (silent : Bool) (ws : List Word) (a t : Dev) : Prop :=
  let out := if silent then [] else [ws]
  Beside { a with
    cmd := { a.cmd with out := a.cmd.out ++ (if isHead a || m.bcast then [] else out.map (Resp.mk a.ring.addr)) }
    host := { a.host with
      rsps := a.host.rsps ++ (if isHead a then out.map (Resp.mk 1) else [])
      outst := if isHead a then dropFirst (fun (o : Outst) =>
          o.target == (if m.bcast then 63 else 1) && o.seq == m.seq.toNat && o.code == code) a.host.outst
        else a.host.outst
      submitted := if isHead a then a.host.submitted - (m.body.length + 2) else a.host.submitted } } t

/-- The response to a message, without SEQ_GAP (13_host_port_and_mailboxes.md R405, R407; ACCEPT words of a broadcast at the
head, 14_aeddo_command_reference.md R431). -/
def rspOf (code : Nat) (m : Msg) (st : Status) (data : List Word) (a : Dev) : List Word :=
  rspWords (ownAddr a) code m.seq.toNat false false 0 st (withAccept a m.bcast code m.seq.toNat data)

/-- t is a after the command of the message is answered: its SEQ counted, its response cached and sent, unless it is QUIET
and succeeds (13_host_port_and_mailboxes.md R405, R413, R414, 14_aeddo_command_reference.md R431). -/
def Replied (code : Nat) (m : Msg) (st : Status) (data : List Word) (a t : Dev) : Prop :=
  Sent code m (m.quiet && st.code == 0) (rspOf code m st data a)
    { a with cmd := { a.cmd with
        expSeq := some ((m.seq.toNat + 1) % 256)
        cache := (⟨m.seq.toNat, code, rspOf code m st data a⟩ :: a.cmd.cache).take 8 } } t

/-- A command that goes on over several events. -/
def begunOf (code : Nat) (m : Msg) (arg : Nat) : Busy :=
  { code := code, seq := m.seq.toNat, quiet := m.quiet, bcast := m.bcast, gap := false, arg := arg, len := m.body.length + 2, copies := [] }

/-- t is a after the command of the message has begun and goes on over several events; its response comes at its end
(13_host_port_and_mailboxes.md R413, R414). -/
def Begun (code : Nat) (m : Msg) (arg : Nat) (a t : Dev) : Prop :=
  Beside { a with cmd := { a.cmd with expSeq := some ((m.seq.toNat + 1) % 256), busy := some (begunOf code m arg) } } t

/-- The table "Command summary": every command message with its CODE, the LENGTHs its layout takes, and whether it may be a
broadcast, is the head's only, and needs a service session (14_aeddo_command_reference.md R433). -/
def summary (m : Msg) (codes ax : List Nat) : List (Instr × Cmd0) :=
  [(.identify m, ⟨0x01, lenIs 2, false, false, false⟩), (.caps m, ⟨0x02, lenIs 2, false, false, false⟩),
   (.powerState m codes ax, ⟨0x03, lenIs 3, true, false, false⟩), (.softReset m, ⟨0x04, lenIs 3, true, false, false⟩),
   (.cfgSet m, ⟨0x10, lenIs (3 + 2 * bf (req m 1) 0 8), true, false, false⟩),
   (.cfgGet m, ⟨0x11, lenIs (3 + bf (req m 1) 0 8), false, false, false⟩),
   (.cfgCommitOtp m, ⟨0x12, lenIs 3, false, false, true⟩), (.convSetup m, ⟨0x20, lenIs 4, true, false, false⟩),
   (.transitPlanLoad m, ⟨0x21, lenIs (4 + 3 * bf (req m 1) 0 5), true, false, false⟩),
   (.transitPlanQuery m, ⟨0x21, lenIs (4 + 3 * bf (req m 1) 0 5), true, false, false⟩),
   (.readCells m, ⟨0x22, lenIs 3, false, false, false⟩), (.historyRead m, ⟨0x23, lenIs 5, false, false, false⟩),
   (.captureArm m, ⟨0x24, lenIs 5, false, false, false⟩), (.captureRelease m, ⟨0x24, lenIs 5, false, false, false⟩),
   (.captureQuery m, ⟨0x24, lenIs 5, false, false, false⟩),
   (.auxTableLoad m, ⟨0x28, lenIs (3 + bf (req m 1) 0 8), true, false, false⟩),
   (.auxRead m, ⟨0x29, lenIs 4, false, false, false⟩), (.windowSet m, ⟨0x30, lenIs 6, true, false, false⟩),
   (.balSet m, ⟨0x38, lenIs (3 + mcount (BitVec.ofNat 24 (bf (req m 1) 0 24))), false, false, false⟩),
   (.balPlan m, ⟨0x39, lenIs (3 + 3 * mcount (BitVec.ofNat 24 (bf (req m 1) 0 24))), false, false, false⟩),
   (.activeSet m, ⟨0x3A, lenIs (3 + mcount (BitVec.ofNat 4 (bf (req m 1) 0 4))), false, false, false⟩),
   (.eisPlan m, ⟨0x40, lenIs (6 + 2 * bf (req m 1) 24 4), true, false, false⟩),
   (.eisRead m, ⟨0x41, lenIs 3, false, false, false⟩), (.tempTableLoad m, ⟨0x42, lenIs 20, true, false, false⟩),
   (.kernelLoadBegin m, ⟨0x48, kerLen, true, false, false⟩), (.kernelLoadData m, ⟨0x48, kerLen, true, false, false⟩),
   (.kernelLoadEnd m, ⟨0x48, kerLen, true, false, false⟩), (.kernelUnload m, ⟨0x48, kerLen, true, false, false⟩),
   (.jobStats m, ⟨0x49, lenIs 3, false, false, false⟩), (.enumerate m, ⟨0x50, lenIs 3, false, true, false⟩),
   (.censusQuery m, ⟨0x51, lenIs 3, false, true, false⟩), (.censusRelease m, ⟨0x51, lenIs 3, false, true, false⟩),
   (.censusRun m, ⟨0x51, lenIs 3, false, true, false⟩), (.ringStatus m, ⟨0x52, lenIs 2, false, false, false⟩),
   (.faultCfg m, ⟨0x58, lenIs (3 + 2 * bf (req m 1) 0 8), true, false, false⟩),
   (.faultRead m, ⟨0x59, lenIs 3, false, false, false⟩), (.inject m, ⟨0x5A, lenIs 4, false, false, true⟩),
   (.bistCfg m, ⟨0x5C, lenIs 5, true, false, false⟩), (.bistRead m, ⟨0x5D, lenIs 3, false, false, false⟩),
   (.journalRead m, ⟨0x60, lenIs 4, false, false, false⟩), (.serviceChallenge m, serviceCmd), (.serviceAnswer m, serviceCmd),
   (.serviceClose m, ⟨0x62, lenIs 2, false, false, false⟩)]

/-- The journal has room for the entries of a command: Q27 holds far fewer than 500, a descriptor is free
(10_engines_and_flumes.md R295, R296, 14_aeddo_command_reference.md R427). -/
abbrev JournalFree (d : Dev) : Prop := d.jrn.q27.length ≤ 300 ∧ 0 < freeCount d

/-! ## Levels -/

/-- The pins and the notes that follow from the rest of the state are what it asks for: ALERTN (13_host_port_and_mailboxes.md
R403), the FETs (08_balancing.md R223 to R225), the bank drivers and their PWM words (R238, R242, R249), the link drivers
(02_pins_and_package.md R45, 03_supply_power_clocks.md R86), the GPIO functions (02_pins_and_package.md R47, R50), what is high
impedance (R38), UNSWEPT (11_burza_link.md R342), POOL_FREE_MIN (10_engines_and_flumes.md R317); and in the safe state all is
quiet (03_supply_power_clocks.md R86). -/
def LevelsHold (d : Dev) : Prop :=
  d.pins.alertLow = (isHead d && awake d && (eventSum d &&& d.host.irqEn.toNat) != 0) ∧
  d.pins.sb = fetsNow d ∧
  (∀ b, b < 4 → mbit d.pins.adG b =
    ((bank d b).on && !(bank d b).interlock && !mbit d.fault.fencedBank b && !d.power.safeForced)) ∧
  d.pins.adGHigh = (List.range 4).map (fun b => if mbit d.pins.adG b then pwmHigh (bank d b).applied else 0) ∧
  d.pins.linkIdleA = (!awake d || d.power.safeForced || !portUp d .A || d.head.idle) ∧
  d.pins.linkIdleB = (!awake d || d.power.safeForced || !portUp d .B || d.head.idle) ∧
  d.pins.linkHiZ = decide (d.power.pstate = .off) ∧
  d.pins.syncHiZ = decide (d.power.pstate = .off ∨ d.power.pstate = .ship ∨ d.power.pstate = .sleep) ∧
  (∀ p, p < 4 → mbit d.pins.gpioLevel p = gpioNow d (p + 1)) ∧
  (∀ p, p < 4 → mbit d.pins.gpioHiZ p = !gpioDriven d (p + 1)) ∧
  (d.pins.faultnReadHigh = true → faultnLow d = true) ∧
  d.link.unswept = unsweptNow d ∧
  d.eng.freeMin ≤ freeCount d ∧
  (d.part.hasBanks = true → d.banks.length = 4 → ∀ b, b < 4 → (bank d b).interlock = bankLevels d b) ∧
  (d.power.safeForced = true → Quiet d)

end Sys2Proof.Safety
end

