-- ==== Sys2Proof/WellFormed.lean ====
section
/-! DEFINITION. What a command's operands must satisfy to name something that exists on the chip. -/

namespace Sys2Proof

/-- The fields of a link frame lie in their widths (11_burza_link.md R327). -/
def Frame.wf (f : Frame) : Bool :=
  decide (f.typ < 16) && decide (f.seq < 256) && decide (f.addr < 64) && decide (f.rty < 4) && decide (f.len < 1024) &&
    decide (f.damagedAt < 5)

/-- A command message's LENGTH, the body and two words more, is at most 256 words (13_host_port_and_mailboxes.md R405). -/
def Msg.wf (m : Msg) : Bool := decide (m.body.length + 2 ≤ 256)

/-- A list of transit slots: present slots, ascending (04_phase_timebase.md R111). -/
def slotsWf (l : List Nat) : Bool := l.all (fun i => decide (i < 16)) && decide (l.Pairwise (· < ·))

/-- A cell number of the largest part (00_scope.md R4). -/
def cellWf (n : Nat) : Bool := decide (1 ≤ n) && decide (n ≤ 24)

/-- A command is well formed. -/
def Instr.wf : Instr → Bool
  | .vstkPowerOn => true
  | .vstkPowerLoss => true
  | .vstkLow _ => true
  | .vstkHigh _ => true
  | .v5Fault _ => true
  | .v5Brownout _ => true
  | .vdFault _ => true
  | .vdBrownout _ => true
  | .tjWarn _ => true
  | .tjShutdown _ => true
  | .oscStarted _ => true
  | .clockCompareDone _ _ => true
  | .clockCompareRetry _ => true
  | .v5PowerGood _ => true
  | .modeSample _ => true
  | .coreResetRelease => true
  | .pllPLock => true
  | .bootDone => true
  | .hfoFail => true
  | .lfoFail => true
  | .xoFail => true
  | .pllPUnlock => true
  | .clkForced => true
  | .safeWireDisagree _ _ => true
  | .safeWireRequest _ _ => true
  | .safeHoldRetry => true
  | .safeHoldExit => true
  | .opVdGood => true
  | .opTimeout => true
  | .gateHandshake => true
  | .gateBusyTimeout => true
  | .gateBusyRetry => true
  | .sleepCheck _ _ => true
  | .wakePin _ => true
  | .wakeToneDetect _ => true
  | .sleepWakeAfter => true
  | .wakeToneEnd _ => true
  | .wakeOutEnd => true
  | .sleepEntry => true
  | .actRampDone => true
  | .meridian => true
  | .syncOutPulseEnd => true
  | .syncInEdge _ => true
  | .tbPwPhaseWrite _ => true
  | .tbRefTimeout => true
  | .phaseLost => true
  | .memberTbTimeout => true
  | .pllMLock => true
  | .pllMUnlock => true
  | .convertLeadPoint slots => slotsWf slots
  | .darkLeadPoint slot => decide (slot < 16)
  | .transit slots => slotsWf slots
  | .transitMarkEnd gpio => (gpio == 1 || gpio == 2)
  | .apertureEnd _ => true
  | .frameEnd => true
  | .recordComplete _ => true
  | .recordWrite raw _ => decide (raw.length = 25)
  | .recordVisible => true
  | .captureGpioEdge gpio _ => (gpio == 1 || gpio == 2)
  | .sarConversionDone _ => true
  | .auxDelayEnd => true
  | .auxResultFile => true
  | .leatSlotDue => true
  | .leatSlotDone codes => decide (codes.length = 4)
  | .leatVerifySwitch => true
  | .wireCheckPeriod => true
  | .diagPullEnd _ => true
  | .diagRecoverEnd => true
  | .testDacSettled => true
  | .cmpOutputChange _ _ => true
  | .cmpDeglitchExpiry _ => true
  | .tripInsertDeferred => true
  | .tripRx _ => true
  | .cmpSettingApply _ => true
  | .cmpCheckRead _ _ => true
  | .balPeriodBoundary => true
  | .balStep => true
  | .isenseIntervalEnd readings => decide (readings.length = 24)
  | .balFetOvercurrent n => cellWf n
  | .balPlanTimeLimit n => cellWf n
  | .balTimeout => true
  | .tempStale => true
  | .actPwmPeriod _ _ => true
  | .actSenseFault _ => true
  | .actMeanMs _ => true
  | .d2dBeatRx _ typ _ _ => decide (typ < 16)
  | .d2dNakRx _ seq => decide (seq < 16)
  | .d2dRetrainDone => true
  | .d2dHoldRoom => true
  | .portLos _ => true
  | .portLock _ => true
  | .frameTiming f => f.wf
  | .frameSweep f => f.wf
  | .frameCmd f => f.wf
  | .framePoll f => f.wf
  | .frameRegWr f => f.wf
  | .frameRegRd f => f.wf
  | .frameEnum f => f.wf
  | .frameDelay f => f.wf
  | .frameCensus f => f.wf
  | .ringCtlForget f => f.wf
  | .ringCtlSetFold f => f.wf
  | .ringCtlExtend f => f.wf
  | .ringCtlProbeFar f => f.wf
  | .ringCtlFarStat f => f.wf
  | .ringCtlUnwrapPrep f => f.wf
  | .ringCtlUnwrap f => f.wf
  | .headFrameStart => true
  | .headFrameReturn r => decide (r.damaged < 3) && decide (r.typ < 16) && decide (r.seq < 256) && decide (r.addr < 64)
  | .headReturnTimeout => true
  | .headRetry => true
  | .sweepDue => true
  | .timingFrameDue => true
  | .foldReturn => true
  | .turnReturn => true
  | .armReturnTimeout => true
  | .beacon _ => true
  | .reverseDecide _ => true
  | .breakMarkEnd => true
  | .farLockSet => true
  | .farProbeSet => true
  | .censusDue => true
  | .awaitTimeout => true
  | .headSilenceEnd => true
  | .enumForgetWait => true
  | .enumQuiet => true
  | .dupKeepExpiry => true
  | .fragTimeout => true
  | .spiNop _ => true
  | .spiRead _ => true
  | .spiWrite _ => true
  | .spiBurst _ => true
  | .spiShortTransaction => true
  | .remoteAccessDone _ _ => true
  | .mbxCmdWinWrite _ => true
  | .mbxSend => true
  | .mbxAbort => true
  | .mbxRspWinRead => true
  | .mbxRspNext => true
  | .mbxEvtWinRead => true
  | .mbxStrmWinRead => true
  | .mbxCountsRead => true
  | .sweepStatRead => true
  | .tbStatRead => true
  | .tripStatRead => true
  | .linkStatRead => true
  | .linkCtrlClrCnt => true
  | .linkCtrlPortEn _ _ => true
  | .faultPinCtrlWrite _ _ => true
  | .evforceWrite _ _ => true
  | .registerWrite _ _ _ => true
  | .hkRestart => true
  | .hkRestartDone => true
  | .identify m => m.wf
  | .caps m => m.wf
  | .powerState m _ _ => m.wf
  | .softReset m => m.wf
  | .cfgSet m => m.wf
  | .cfgGet m => m.wf
  | .cfgCommitOtp m => m.wf
  | .otpLimitDepart => true
  | .otpProgramDone _ => true
  | .convSetup m => m.wf
  | .transitPlanLoad m => m.wf
  | .transitPlanQuery m => m.wf
  | .readCells m => m.wf
  | .historyRead m => m.wf
  | .captureArm m => m.wf
  | .captureRelease m => m.wf
  | .captureQuery m => m.wf
  | .auxTableLoad m => m.wf
  | .auxRead m => m.wf
  | .windowSet m => m.wf
  | .balSet m => m.wf
  | .balPlan m => m.wf
  | .activeSet m => m.wf
  | .eisPlan m => m.wf
  | .eisRead m => m.wf
  | .tempTableLoad m => m.wf
  | .kernelLoadBegin m => m.wf
  | .kernelLoadData m => m.wf
  | .kernelLoadEnd m => m.wf
  | .kernelUnload m => m.wf
  | .jobStats m => m.wf
  | .enumerate m => m.wf
  | .censusQuery m => m.wf
  | .censusRelease m => m.wf
  | .censusRun m => m.wf
  | .ringStatus m => m.wf
  | .faultCfg m => m.wf
  | .faultRead m => m.wf
  | .inject m => m.wf
  | .bistCfg m => m.wf
  | .bistRead m => m.wf
  | .journalRead m => m.wf
  | .serviceChallenge m => m.wf
  | .serviceAnswer m => m.wf
  | .serviceClose m => m.wf
  | .sessionExpiry => true
  | .nonceExpiry => true
  | .escWindowExpiry _ => true
  | .escHandlingEnd _ => true
  | .reactionJournal _ => true
  | .stretchEnd => true
  | .faultnStuck => true
  | .startupChecksDone _ => true
  | .jobDispatch => true
  | .jobStart _ _ => true
  | .jobComplete _ _ => true
  | .jobOverrun _ => true
  | .kernelOverrun _ => true
  | .engineTrap _ => true
  | .engineSteal _ => true
  | .twinTimeout _ => true
  | .engineLoaded _ => true
  | .kernelCopy _ _ => true
  | .journalWrite => true
  | .bistSlot => true
  | .bistSliceDone _ _ _ _ => true
  | .bistBudgetExpiry => true
  | .diagNoGapTimeout => true
  | .exciteFetEdge n => cellWf n
  | .opDownVdPowerGood => true
  | .sleepEntryTimeout => true
end Sys2Proof
end

