-- ==== Sys2Proof/Certificates/Slice0/Obligations.lean ====
section
/-! DEFINITION. The statements about the block, family by family. -/

open Sys2Proof Sys2Proof.Machine Sys2Proof.Safety

/-- For every command c and state, a step of a state with c in front of its queue is exec of c on the state with the
queue's rest (the queue is the model's own, log 2). [00_scope.md; 13_host_port_and_mailboxes.md] -/
def Obligations.StepRunsFrontCommand : Prop :=
  ∀ (c : Instr) (rest : List Instr) (s : State), s.pending = c :: rest → step s = exec c { s with pending := rest }

/-- Every command answers a next state and keeps the queue, a refused one too: the block answers it and goes on. On an
empty queue a step answers a next state with an empty queue; where the core die does not run, only the count of
CK_PHASE cycles moves on. That a step of an empty queue is one cycle is the model's choice (log 2). [00_scope.md
section Hierarchy and addressing; 04_phase_timebase.md section The phase accumulator; 14_aeddo_command_reference.md
section How commands execute] -/
def Obligations.EveryStepAnswersNext : Prop :=
  (∀ (c : Instr) (s : State), ∃ t, exec c s = .next t ∧ t.pending = s.pending) ∧
  ∀ s : State, s.pending = [] →
    (∃ t, step s = .next t ∧ t.pending = []) ∧
    (awake s.toDev = false → step s = .next { s with now := s.now + 1 })

/-- On a calm block with no self-test slice running. Awake, and where the source has no reaction: VSTK below 9.0 V raises
EV104, above 142 V EV105 and a die above 125 C EV108, where the condition was not noted before; V5 outside its window
raises EV106 where V5 is produced, VD outside its window EV107 where no operating-point transition is in progress. The
end of a condition only clears it, and a condition noted already is only kept. A V5 monitor row changes nothing where
V5 is not produced, a VD row nothing during a transition. An occurrence changes the flag, the record, its counter and
the stretcher, and nothing else. [03_supply_power_clocks.md section Stack supply and internal rails;
03_supply_power_clocks.md table Supply and thermal monitors; 15_faults_and_sluices.md section Occurrences and units] -/
def Obligations.MonitorsRaiseTheirEvents : Prop :=
  ∀ s : State, Calm s.toDev → s.bist.slice = none →
    (awake s.toDev = true → Plain s.toDev 104 → s.power.vstkLow = false →
      Answers (.vstkLow true) s (Noted 104 { s.toDev with power.vstkLow := true })) ∧
    Answers (.vstkLow false) s (Beside { s.toDev with power.vstkLow := false }) ∧
    (s.power.pstate ≠ .off → s.power.vstkLow = true → Answers (.vstkLow true) s (Beside { s.toDev with power.vstkLow := true })) ∧
    (awake s.toDev = true → Plain s.toDev 105 → s.power.vstkHigh = false →
      Answers (.vstkHigh true) s (Noted 105 { s.toDev with power.vstkHigh := true })) ∧
    Answers (.vstkHigh false) s (Beside { s.toDev with power.vstkHigh := false }) ∧
    (s.power.pstate ≠ .off → s.power.vstkHigh = true → Answers (.vstkHigh true) s (Beside { s.toDev with power.vstkHigh := true })) ∧
    (awake s.toDev = true → s.power.vaOn = true → Plain s.toDev 106 →
      Answers (.v5Fault true) s (Noted 106 { s.toDev with power.v5Good := false })) ∧
    (v5Present s.toDev = true → Answers (.v5Fault false) s (Beside { s.toDev with power.v5Good := true })) ∧
    (∀ b, v5Present s.toDev = false → Answers (.v5Fault b) s (Beside s.toDev)) ∧
    (awake s.toDev = true → Plain s.toDev 107 → s.power.opTarget = none →
      Answers (.vdFault true) s (Noted 107 { s.toDev with power.vdOk := false })) ∧
    (vdPresent s.toDev = true → s.power.opTarget = none →
      Answers (.vdFault false) s (Beside { s.toDev with power.vdOk := true })) ∧
    (∀ b, s.power.opTarget ≠ none → Answers (.vdFault b) s (Beside s.toDev)) ∧
    (awake s.toDev = true → Plain s.toDev 108 → s.power.tjWarn = false →
      Answers (.tjWarn true) s (Noted 108 { s.toDev with power.tjWarn := true })) ∧
    Answers (.tjWarn false) s (Beside { s.toDev with power.tjWarn := false }) ∧
    (s.power.tjWarn = true → Answers (.tjWarn true) s (Beside { s.toDev with power.tjWarn := true }))

/-- On a calm block that is starting or awake and not in SAFE_HOLD, each of these enters SAFE_HOLD with its cause
(HeldBy): a V5 brown-out where V5 is produced, a VD brown-out where VD is, a die above 150 C, the failure of HFO or
LFO where it is not off, of the crystal where it is the PLL_P reference, of PLL_P where it is locked, a request or a
disagreement of a safe-wire pair where the core die runs. In OFF, SHIP, SLEEP and in a hold in force the same rows
only note the condition, but that an LFO failure in SLEEP begins the start-up and enters SAFE_HOLD with the same
cause. The ends of the conditions only clear them. Where V5 or VD is not produced, the source is off, not selected or
not locked, or the core die does not run, the row changes nothing. [03_supply_power_clocks.md section Source failure,
safe state and SAFE_HOLD; 03_supply_power_clocks.md table Clock monitors; 03_supply_power_clocks.md table Supply and
thermal monitors; 07_comparators_and_trip.md section Comparators and their settings] -/
def Obligations.FailuresEnterSafeHold : Prop :=
  ∀ (s : State) (front : Bool), Calm s.toDev →
    let low : Prop := s.power.pstate = .off ∨ s.power.pstate = .ship ∨ s.power.pstate = .sleep
    let wire (asks : Bool) : Dev := { s.toDev with
      power := { s.power with safeWireF := if front then asks else s.power.safeWireF
                              safeWireC := if front then s.power.safeWireC else asks } }
    (¬ low → s.power.safeHold = false →
      (s.power.vaOn = true → Answers (.v5Brownout true) s
        (HeldBy .v5Brownout { s.toDev with power := { s.power with v5Brown := true, v5Good := false } })) ∧
      (vdPresent s.toDev = true → Answers (.vdBrownout true) s
        (HeldBy .vdBrownout { s.toDev with power := { s.power with vdBrown := true, vdOk := false } })) ∧
      Answers (.tjShutdown true) s (HeldBy .tjShutdown { s.toDev with power.tjShut := true }) ∧
      (s.clk.hfo ≠ .off → Answers .hfoFail s (HeldBy .hfoFail { s.toDev with clk.hfo := .failed })) ∧
      (s.clk.lfo ≠ .off → Answers .lfoFail s (HeldBy .lfoFail { s.toDev with clk.lfo := .failed })) ∧
      (s.clk.pllRef = .xo → Answers .xoFail s (HeldBy .xoFail { s.toDev with clk.xo := .failed })) ∧
      (s.clk.pllP = true → Answers .pllPUnlock s (HeldBy .pllPUnlock { s.toDev with clk.pllP := false })) ∧
      (coreRuns s.toDev = true → Answers (.safeWireRequest front true) s (HeldBy .safeWire (wire true)) ∧
        Answers (.safeWireDisagree front true) s (HeldBy .safeWire (wire true)))) ∧
    (low ∨ s.power.safeHold = true →
      (v5Present s.toDev = true → Answers (.v5Brownout true) s
        (Beside { s.toDev with power := { s.power with v5Brown := true, v5Good := false } })) ∧
      (vdPresent s.toDev = true → Answers (.vdBrownout true) s
        (Beside { s.toDev with power := { s.power with vdBrown := true, vdOk := false } })) ∧
      Answers (.tjShutdown true) s (Beside { s.toDev with power.tjShut := true }) ∧
      (s.clk.hfo ≠ .off → Answers .hfoFail s (Beside { s.toDev with clk.hfo := .failed })) ∧
      (s.clk.lfo ≠ .off → s.power.pstate ≠ .sleep → Answers .lfoFail s (Beside { s.toDev with clk.lfo := .failed })) ∧
      (s.clk.pllRef = .xo → Answers .xoFail s (Beside { s.toDev with clk.xo := .failed })) ∧
      (s.clk.pllP = true → Answers .pllPUnlock s (Beside { s.toDev with clk.pllP := false })) ∧
      (s.power.safeHold = true → Answers (.safeWireRequest front true) s (Beside (wire true)) ∧
        Answers (.safeWireDisagree front true) s (Beside (wire true)))) ∧
    (s.power.pstate = .sleep → s.power.safeHold = false → s.clk.lfo ≠ .off →
      Answers .lfoFail s (HeldBy .lfoFail (beginStart .lfoFail { s.toDev with clk.lfo := .failed }))) ∧
    (v5Present s.toDev = true → Answers (.v5Brownout false) s (Beside { s.toDev with power.v5Brown := false })) ∧
    (v5Present s.toDev = false → ∀ b, Answers (.v5Brownout b) s (Beside s.toDev)) ∧
    (vdPresent s.toDev = true → Answers (.vdBrownout false) s (Beside { s.toDev with power.vdBrown := false })) ∧
    (vdPresent s.toDev = false → ∀ b, Answers (.vdBrownout b) s (Beside s.toDev)) ∧
    Answers (.tjShutdown false) s (Beside { s.toDev with power.tjShut := false }) ∧
    (s.clk.hfo = .off → Answers .hfoFail s (Beside s.toDev)) ∧
    (s.clk.lfo = .off → Answers .lfoFail s (Beside s.toDev)) ∧
    (s.clk.pllRef ≠ .xo → Answers .xoFail s (Beside s.toDev)) ∧
    (s.clk.pllP = false → Answers .pllPUnlock s (Beside s.toDev)) ∧
    (coreRuns s.toDev = true ∨ s.power.safeHold = true → Answers (.safeWireRequest front false) s (Beside (wire false)) ∧
      Answers (.safeWireDisagree front false) s (Beside (wire false))) ∧
    (coreRuns s.toDev = false → s.power.safeHold = false → ∀ asks, Answers (.safeWireRequest front asks) s (Beside s.toDev) ∧
      Answers (.safeWireDisagree front asks) s (Beside s.toDev))

/-- On a calm block: the retry of a hold starts HFO again, the LFO where it failed and the crystal where it is the cause,
and takes the count of failed comparisons back. The hold ends where HFO and LFO are judged stable, VA is on, V5 and VD
are not in brown-out, no die is too hot, no safe-wire pair asks for it, the third SAFE_STATE restart of 10 s has seen
its WAKE or VSTK edge, and three MODE samples are kept: the start-up goes on from step 7 with the cause and the role
kept, as coreRestart says; the power registers are the ones listed, the clocks, the host interface, the commands and
the configuration are at reset, the timebase too with the head in FREE and a member in ACQUIRE; comparators, TRIP
latches, OTP words, the journal written and RING_MAP stay, the entries of Q27 are lost, an attached member is
UNATTACHED. Where one of the conditions fails, or outside SAFE_HOLD, nothing happens. [03_supply_power_clocks.md
section Source failure, safe state and SAFE_HOLD; 03_supply_power_clocks.md table Supply and thermal monitors;
15_faults_and_sluices.md section Reactions; 02_pins_and_package.md section The MODE strap] -/
def Obligations.SafeHoldEnds : Prop :=
  ∀ s : State, Calm s.toDev →
    let ends : Prop := s.power.safeHold = true ∧ s.clk.hfo = .stable ∧ s.clk.lfo = .stable ∧ s.power.vaOn = true ∧
      s.power.v5Brown = false ∧ s.power.vdBrown = false ∧ s.power.tjShut = false ∧ s.power.safeWireF = false ∧
      s.power.safeWireC = false ∧ (s.power.tripThird = true → s.power.wakeSeen = true) ∧ s.power.modeSamples.length = 3
    (s.power.safeHold = true → Answers .safeHoldRetry s (Beside { s.toDev with
      clk := { s.clk with hfo := .starting, pairTries := 0, retryDue := none
                          lfo := if s.power.cause = .lfoFail ∨ s.clk.lfo = .failed then .starting else s.clk.lfo
                          xo := if s.power.cause = .xoFail then .starting else s.clk.xo } })) ∧
    (s.power.safeHold = false → Answers .safeHoldRetry s (Beside s.toDev)) ∧
    (ends → Answers .safeHoldExit s (fun t => Beside (coreRestart s.toDev) t ∧
      t.power = { s.power with pstate := .starting, stepNo := 7, safeHold := false, safeForced := false, coreReset := false,
                               tripThird := false, wakeSeen := false, opTarget := none, goal := none, leaving := none,
                               ramping := false, v5Good := true, vdOk := true, op := .opL, vdTargetMv := 800 } ∧
      t.clk = Clocks.reset ∧ t.host = HostIf.reset ∧ t.cmd = Cmd.reset ∧ t.cfg = [] ∧
      t.tb = { Timebase.reset with state := if isHead s.toDev then .free else .acquire } ∧
      t.cmp = s.cmp ∧ t.trip.localLatch = s.trip.localLatch ∧ t.trip.rxLatch = s.trip.rxLatch ∧ t.trip.tripn = s.trip.tripn ∧
      t.jrn.entries = s.jrn.entries ∧ t.jrn.q27 = [] ∧ t.otp.valid = s.otp.valid ∧ t.otp.uid = s.otp.uid ∧
      t.ring.map = s.ring.map ∧ t.ring.mode = (if s.ring.mode = .gated then .gated else .unattached) ∧
      t.fault.fencedCh = 0 ∧ t.fault.safeSrc = s.fault.safeSrc)) ∧
    (¬ ends → Answers .safeHoldExit s (Beside s.toDev))

/-- On a calm block in OFF, VSTK rising begins the start: step 1, cause POR, the always-on rail on, HFO and LFO started
(an LFO that is stable runs on), the gates open, FAULTN's STARTUP and LATCH set. In every other state it changes
nothing. VSTK falling is OFF from any state, with a command busy or not: the device is enterOff of what it was; the
timebase, conversion, sequencer, comparators, TRIP path, balancing, banks, impedance, die-to-die bus, link, ring,
head, host interface, commands, self-test, session, journal and configuration are at reset, every oscillator is off,
and the part, the UID, the hashes, the secret and the generations programmed in OTP stay. [03_supply_power_clocks.md
table Power state transitions; 03_supply_power_clocks.md table Start-up from OFF; 15_faults_and_sluices.md section
FAULTN] -/
def Obligations.PowerOnAndLoss : Prop :=
  (∀ s : State, Calm s.toDev → s.power.pstate = .off → Answers .vstkPowerOn s (Beside { s.toDev with
      power := { s.power with pstate := .starting, stepNo := 1, cause := .por, alwaysOn := true, vdRetention := false }
      clk := { s.clk with hfo := .starting, lfo := if s.clk.lfo = .stable then .stable else .starting, pairTries := 0,
                          retryDue := none, closedGates := [], gateReqs := [], waitGate := none }
      fault := { s.fault with startup := true, latch := true } })) ∧
  (∀ s : State, Calm s.toDev → s.power.pstate ≠ .off → Answers .vstkPowerOn s (Beside s.toDev)) ∧
  (∀ s : State, Answers .vstkPowerLoss s (fun t => Beside (enterOff s.toDev) t ∧
      t.power.pstate = .off ∧ t.power.v5Good = false ∧ t.power.vaOn = false ∧ t.power.vdOk = false ∧ t.power.alwaysOn = false ∧
      t.clk = { Clocks.reset with hfo := .off, lfo := .off, boot := false } ∧ t.tb = Timebase.reset ∧ t.conv = Conv.reset ∧
      t.aux = Aux.reset ∧ t.cmp = Cmp.reset ∧ t.trip.localLatch = false ∧ t.trip.rxLatch = false ∧ t.bal.duty = List.replicate 24 0 ∧
      (∀ b, b < 4 → (bank t b).on = false) ∧ t.eis.plan = none ∧ t.d2d = D2d.reset ∧ t.ring = Ring.reset ∧ t.head = Head.reset ∧
      t.host = HostIf.reset ∧ t.cmd = Cmd.reset ∧ t.bist = Bist.reset ∧ t.cfg = [] ∧ t.jrn = Journal.reset ∧ t.sess = Session.reset ∧
      t.part = s.part ∧ t.otp.uid = s.otp.uid ∧ t.otp.valid = s.otp.valid ∧ t.otp.gens = (otpAfterReset s.toDev).gens ∧
      t.otp.custHash = s.otp.custHash ∧ t.otp.vendorHash = s.otp.vendorHash ∧ t.otp.secret = s.otp.secret))

/-- On a calm block: an oscillator that is starting and has counted 4096 of its cycles is started, otherwise nothing
happens. HFO and LFO both running and no repetition waiting: in a start before step 7 a comparison within 3 % of the
expected count judges both stable (step 6), one outside counts as failed and is to be repeated, the third failed one
enters SAFE_HOLD with cause HFO_FAIL; in SAFE_HOLD a good one judges both stable, a bad one fails HFO. Later and awake
the same comparison is the monitor: a good one changes nothing, a bad one enters SAFE_HOLD with the source's cause.
Awake outside SAFE_HOLD a started crystal within 3 % of XO_FREQ_KHZ is stable and takes PLL_P over where CLK_XO
selects it and HFO was the reference; outside it counts as failed and is to be repeated, at the third failure it has
failed and EV99 is raised. The repetition that waits begins; another changes nothing. [03_supply_power_clocks.md
section Clocks; 03_supply_power_clocks.md section Source failure, safe state and SAFE_HOLD] -/
def Obligations.OscillatorsAreJudged : Prop :=
  ∀ s : State, Calm s.toDev →
    let step (k : Nat) : Nat := if s.power.pstate = .starting ∧ s.power.safeHold = false then max s.power.stepNo k else s.power.stepNo
    let good (n e : Nat) : Prop := 97 * e ≤ 100 * n ∧ 100 * n ≤ 103 * e
    let ready : Prop := (s.clk.hfo = .started ∨ s.clk.hfo = .stable) ∧ (s.clk.lfo = .started ∨ s.clk.lfo = .stable) ∧ s.clk.retryDue = none
    (s.clk.hfo = .starting → Answers (.oscStarted .hfo) s (Beside { s.toDev with clk.hfo := .started, power.stepNo := step 2 })) ∧
    (s.clk.lfo = .starting → Answers (.oscStarted .lfo) s (Beside { s.toDev with clk.lfo := .started, power.stepNo := step 5 })) ∧
    (s.clk.xo = .starting → Answers (.oscStarted .xo) s (Beside { s.toDev with clk.xo := .started })) ∧
    (∀ o, (match o with | .hfo => s.clk.hfo | .lfo => s.clk.lfo | .xo => s.clk.xo) ≠ .starting →
      Answers (.oscStarted o) s (Beside s.toDev)) ∧
    (∀ o n, (o = .hfo ∨ o = .lfo) →
      (s.power.pstate = .starting → s.power.stepNo < 7 → s.power.safeHold = false → ready →
        (good n (lfoExpect s.toDev) → Answers (.clockCompareDone o n) s (Beside { s.toDev with
          clk := { s.clk with hfo := .stable, lfo := .stable, pairTries := 0 }, power.stepNo := max s.power.stepNo 6 })) ∧
        (¬ good n (lfoExpect s.toDev) → s.clk.pairTries < 2 → Answers (.clockCompareDone o n) s (Beside { s.toDev with
          clk := { s.clk with pairTries := s.clk.pairTries + 1, retryDue := some o } })) ∧
        (¬ good n (lfoExpect s.toDev) → 2 ≤ s.clk.pairTries → Answers (.clockCompareDone o n) s
          (HeldBy .hfoFail { s.toDev with clk := { s.clk with hfo := .failed, pairTries := 0 } }))) ∧
      (s.power.safeHold = true → ready →
        (good n (lfoExpect s.toDev) → Answers (.clockCompareDone o n) s (Beside { s.toDev with
          clk := { s.clk with hfo := .stable, lfo := .stable, pairTries := 0 }
          power.stepNo := if s.power.pstate = .starting then max s.power.stepNo 6 else s.power.stepNo })) ∧
        (¬ good n (lfoExpect s.toDev) → Answers (.clockCompareDone o n) s (Beside { s.toDev with clk.hfo := .failed }))) ∧
      ((s.power.safeHold = true ∨ (s.power.pstate = .starting ∧ s.power.stepNo < 7)) → ¬ ready →
        Answers (.clockCompareDone o n) s (Beside s.toDev)) ∧
      (awake s.toDev = true → s.power.safeHold = false →
        (good n (lfoExpect s.toDev) → Answers (.clockCompareDone o n) s (Beside s.toDev)) ∧
        (¬ good n (lfoExpect s.toDev) → Answers (.clockCompareDone o n) s
          (HeldBy (if o = .lfo then .lfoFail else .hfoFail) s.toDev)))) ∧
    (∀ n, awake s.toDev = true → s.power.safeHold = false → s.clk.xo = .started → s.clk.retryDue ≠ some .xo →
      (good n (itemN s.toDev 0x0A06) → Answers (.clockCompareDone .xo n) s (Beside { s.toDev with
        clk := { s.clk with xo := .stable, xoTries := 0
                            pllRef := if item s.toDev 0x0A07 = 1 ∧ s.clk.pllRef = .hfo then .xo else s.clk.pllRef } })) ∧
      (¬ good n (itemN s.toDev 0x0A06) → s.clk.xoTries < 2 → Answers (.clockCompareDone .xo n) s (Beside { s.toDev with
        clk := { s.clk with xoTries := s.clk.xoTries + 1, retryDue := some .xo } })) ∧
      (¬ good n (itemN s.toDev 0x0A06) → 2 ≤ s.clk.xoTries → Plain s.toDev 99 →
        Answers (.clockCompareDone .xo n) s (Noted 99 { s.toDev with clk := { s.clk with xo := .failed, xoTries := 0 } }))) ∧
    (∀ o, s.clk.retryDue = some o → Answers (.clockCompareRetry o) s (Beside { s.toDev with clk.retryDue := none })) ∧
    (∀ o, s.clk.retryDue ≠ some o → Answers (.clockCompareRetry o) s (Beside s.toDev))

/-- On a calm block. V5 power-good starts VA in a start where it is off (step 3), takes the first MODE sample where none
is kept and begins the wake tone that is to go on; where VA is on it notes V5 good and no brown-out; elsewhere
nothing. In a start the second MODE sample is kept; the third latches the majority as the role (step 4); a sample
outside a start, with none kept or with three changes nothing. The core die leaves reset on the boot clock (step 7) in
a start before step 7 outside SAFE_HOLD, once V5 is good, three MODE samples are kept and both clocks are stable, with
VD at 0.80 V, a head's timebase in FREE and a member's in ACQUIRE, its time from 0; else nothing happens. PLL_P locks
CK_CORE (step 8) at step 7 with the core die out of reset; else nothing happens. [03_supply_power_clocks.md table
Start-up from OFF; 02_pins_and_package.md section The MODE strap; 03_supply_power_clocks.md section Wake;
04_phase_timebase.md section Timebase states] -/
def Obligations.StartUpSteps : Prop :=
  ∀ s : State, Calm s.toDev →
    (∀ mode, s.power.pstate = .starting → s.power.vaOn = false → Answers (.v5PowerGood mode) s (Beside { s.toDev with
      power := { s.power with v5Good := true, vaOn := true, stepNo := max s.power.stepNo 3, toneRelay := none
                              modeSamples := if s.power.modeSamples = [] then [mode] else s.power.modeSamples
                              toneTx := match s.power.toneRelay with
                                | some p => s.power.toneTx.filter (· != p) ++ [p]
                                | none => s.power.toneTx } })) ∧
    (∀ mode, v5Present s.toDev = true →
      Answers (.v5PowerGood mode) s (Beside { s.toDev with power := { s.power with v5Good := true, v5Brown := false } })) ∧
    (∀ mode, s.power.pstate ≠ .starting → v5Present s.toDev = false → Answers (.v5PowerGood mode) s (Beside s.toDev)) ∧
    (∀ a m, s.power.pstate = .starting → s.power.modeSamples = [a] →
      Answers (.modeSample m) s (Beside { s.toDev with power.modeSamples := [a, m] })) ∧
    (∀ a b m, s.power.pstate = .starting → s.power.modeSamples = [a, b] → Answers (.modeSample m) s (Beside { s.toDev with
      power := { s.power with modeSamples := [a, b, m], stepNo := max s.power.stepNo 4
                              role := (a && b) || (a && m) || (b && m) } })) ∧
    (∀ m, (s.power.pstate ≠ .starting ∨ s.power.modeSamples = [] ∨ 3 ≤ s.power.modeSamples.length) →
      Answers (.modeSample m) s (Beside s.toDev)) ∧
    (let release : Prop := s.power.pstate = .starting ∧ s.power.stepNo < 7 ∧ s.power.safeHold = false ∧ s.power.v5Good = true ∧
       s.power.modeSamples.length = 3 ∧ s.clk.hfo = .stable ∧ s.clk.lfo = .stable
     (release → Answers .coreResetRelease s (Beside { s.toDev with
        power := { s.power with stepNo := 7, vdOk := true, op := .opL, vdTargetMv := 800, coreReset := false }
        clk := { s.clk with boot := true, pllP := false }
        tb := { s.tb with state := if isHead s.toDev then .free else .acquire }
        jrn := { s.jrn with timeMs := 0, timeAt := s.now, synced := false, rate := 98304000 } })) ∧
     (¬ release → Answers .coreResetRelease s (Beside s.toDev))) ∧
    (let locks : Prop := s.power.pstate = .starting ∧ s.power.stepNo = 7 ∧ s.power.coreReset = false
     (locks → Answers .pllPLock s (Beside { s.toDev with
        clk := { s.clk with pllP := true, boot := false }, power := { s.power with stepNo := 8 } })) ∧
     (¬ locks → Answers .pllPLock s (Beside s.toDev)))

/-- On a calm block at step 8 of a start with cause POR whose core die is out of reset, with no VALID OTP generation, no
retention image, no session ended by a reset and no SAFE_STATE reaction behind it, the configuration at its reset
values: BOOT_DONE is step 9, STANDBY with the other power registers kept but that a sleep-check violation is handled,
the housekeeper ready with its other registers kept, STARTUP and LATCH set, the configuration at its reset values, the
sequencer with its reset table, no OTP generation in use. Before step 8, in reset and outside a start nothing happens.
[03_supply_power_clocks.md table Start-up from OFF; 15_faults_and_sluices.md section FAULTN;
17_journal_otp_security.md section Configuration generations; 06_aux_path_and_leat.md section The sequencer table] -/
def Obligations.EndOfBootIsStandby : Prop :=
  ∀ s : State, Calm s.toDev →
    (s.power.pstate = .starting → s.power.stepNo = 8 → s.power.coreReset = false → s.power.cause = .por →
      s.power.retained = [] → s.power.retainedGpio = [] → (∀ g, g < 4 → genState s.toDev g ≠ 1) → s.sess.ended = 0 →
      s.fault.safeReact = false → s.cfg = [] →
      Answers .bootDone s (fun t => t.power = { s.power with pstate := .standby, stepNo := 9, sleepViol := false } ∧
        t.cmd = { s.cmd with hkReady := true } ∧ t.fault.startup = true ∧ t.fault.latch = true ∧ t.cfg = [] ∧
        t.aux.table = resetAuxTable ∧ t.otp.used = none)) ∧
    (s.power.pstate ≠ .starting ∨ s.power.stepNo ≠ 8 ∨ s.power.coreReset = true → Answers .bootDone s (Beside s.toDev))

/-- On a calm awake block with no impedance plan and no content in the core die's receive buffer. Going up with a goal, VD
power-good changes the divider, ends the transition and enters the goal: from an ACTIVE state it only changes the
state, from STANDBY conversion starts as convStart says; without a transition that goes up and a goal nothing happens.
A time-out of a transition that goes up ends it, restores the previous VD target, drops the goal and raises EV103; in
other cases it changes nothing. Going down, power-good ends the transition; with none in progress it notes VD good; of
a transition that goes up it changes nothing. A transition to STANDBY that waits for the active commands begins once
every driver that is on has ramped to 0, with no driver exciting and no slice running: the drivers turn off,
conversion stops as convStop says, the divider changes at once and VD's target is 0.80 V. While a driver still ramps,
or with none to wait for, nothing happens. [03_supply_power_clocks.md section Operating points;
03_supply_power_clocks.md section Power states; 08_balancing.md section Active bank drivers; 01_architecture.md
section The die-to-die bus] -/
def Obligations.OperatingPointTransitions : Prop :=
  ∀ s : State, Calm s.toDev → awake s.toDev = true → s.eis.plan = none → s.d2d.rxBuf = [] →
    (∀ t p, s.power.opTarget = some t → s.power.goal = some p → s.power.opUp = true → s.power.leaving = none →
      (p = .activeM ∨ p = .activeH) →
      let up : Dev := { s.toDev with power := { s.power with op := t, opTarget := none, goal := none, pstate := p, vdOk := true } }
      ((s.power.pstate = .activeM ∨ s.power.pstate = .activeH) → Answers .opVdGood s (Beside up)) ∧
      (s.power.pstate = .standby → Answers .opVdGood s (Beside (convStart up)))) ∧
    (s.power.opTarget = none ∨ s.power.goal = none ∨ s.power.opUp = false → Answers .opVdGood s (Beside s.toDev)) ∧
    (s.power.opTarget ≠ none → s.power.opUp = true → Plain s.toDev 103 →
      Answers .opTimeout s (Noted 103 { s.toDev with
        power := { s.power with opTarget := none, goal := none, vdTargetMv := vdOf s.power.opPrev } })) ∧
    (s.power.opTarget = none ∨ s.power.opUp = false → Answers .opTimeout s (Beside s.toDev)) ∧
    (s.power.opTarget ≠ none → s.power.opUp = false →
      Answers .opDownVdPowerGood s (Beside { s.toDev with power := { s.power with opTarget := none, vdOk := true } })) ∧
    (s.power.opTarget = none → Answers .opDownVdPowerGood s (Beside { s.toDev with power.vdOk := true })) ∧
    (s.power.opTarget ≠ none → s.power.opUp = true → Answers .opDownVdPowerGood s (Beside s.toDev)) ∧
    (s.power.ramping = true → (∀ b ∈ s.banks, b.on = false ∨ b.applied = 0) → (∀ b ∈ s.banks, b.excite = false) →
      s.banks.length = 4 → s.power.goal = some .standby → s.bist.slice = none →
      (s.power.pstate = .activeM ∨ s.power.pstate = .activeH) → s.power.leaving = none →
      Answers .actRampDone s (Beside (convStop { s.toDev with
        power := { s.power with ramping := false, pstate := .standby, opPrev := s.power.op, op := .opL, vdOk := false,
                                opTarget := some .opL, opUp := false, vdTargetMv := 800, goal := none }
        banks := s.banks.map (fun (b : Bank) => { b with on := false, applied := 0, excite := false }) }))) ∧
    (s.power.ramping = false ∨ (∃ b ∈ s.banks, b.on = true ∧ b.applied ≠ 0) → Answers .actRampDone s (Beside s.toDev))

/-- On a calm block with no impedance plan: the handshake closes the gate that waits; where it was the last the device is
about to leave for its goal and conversion stops as convStop says, where the block of the next gate is busy too that
gate waits; with no gate waiting nothing happens. A time-out leaves the gate open and counts, the fifth takes every
gate back to what it was before and drops the goal. A retry of the close in front makes it wait where its block is
still busy, and closes it, with its retries to count anew, where it is idle; with no refused close in front it changes
nothing. [03_supply_power_clocks.md section Gating tree; 03_supply_power_clocks.md section Power states;
14_aeddo_command_reference.md section System commands] -/
def Obligations.GatesOfAnEntryClose : Prop :=
  ∀ s : State, Calm s.toDev → s.eis.plan = none →
    let shut (g : Gate) : List Gate := if s.clk.closedGates.contains g then s.clk.closedGates else s.clk.closedGates ++ [g]
    let left (g : Gate) (p : PState) : Dev := convStop { s.toDev with
      clk := { s.clk with closedGates := shut g, waitGate := none, gateTries := 0, gateReqs := [] }
      power := { s.power with goal := none, leaving := some p } }
    (∀ g p, s.clk.waitGate = some g → s.clk.gateReqs = [(false, g)] → s.power.goal = some p →
      Answers .gateHandshake s (Beside (left g p))) ∧
    (∀ g h t, s.clk.waitGate = some g → s.clk.gateReqs = (false, g) :: (false, h) :: t → (closeGate h (closeOne g s.toDev)).2 = .busy →
      Answers .gateHandshake s (Beside { s.toDev with
        clk := { s.clk with closedGates := shut g, waitGate := some h, gateTries := 0, gateReqs := (false, h) :: t } })) ∧
    (s.clk.waitGate = none → Answers .gateHandshake s (Beside s.toDev) ∧ Answers .gateBusyTimeout s (Beside s.toDev)) ∧
    (s.clk.waitGate ≠ none → s.clk.gateTries < 4 →
      Answers .gateBusyTimeout s (Beside { s.toDev with
        clk := { s.clk with waitGate := none, gateTries := s.clk.gateTries + 1 } })) ∧
    (s.clk.waitGate ≠ none → 4 ≤ s.clk.gateTries →
      Answers .gateBusyTimeout s (Beside { s.toDev with
        clk := { s.clk with closedGates := s.clk.savedGates, gateReqs := [], waitGate := none, gateTries := 0 },
        power := { s.power with goal := none } })) ∧
    (∀ g t, s.clk.waitGate = none → s.clk.gateReqs = (false, g) :: t → gateBusy s.toDev g = true →
      Answers .gateBusyRetry s (Beside { s.toDev with clk.waitGate := some g })) ∧
    (∀ g p, s.clk.waitGate = none → s.clk.gateReqs = [(false, g)] → gateBusy s.toDev g = false → gateClosed s.toDev g = false →
      gateLocked s.toDev g = false → childOpen s.toDev g = false → s.power.goal = some p →
      Answers .gateBusyRetry s (Beside (left g p))) ∧
    (s.clk.waitGate ≠ none ∨ s.clk.gateReqs = [] → Answers .gateBusyRetry s (Beside s.toDev))

/-- On a calm block a start begins (beginStart) with its cause: in SLEEP by the WAKE pin, by a tone on a port, by a
violation of the sleep check (WAKE driven, a tone begun on port A, FAULTN held) and by the sleep timer where
SLEEP_WAKE_AFTER is not 0; in SHIP by the pin and by tones as SHIP_WAKE_MASK enables them; a tone is to be sent on at
the other port. A tone is ignored while one is being sent and for 10 ms after, and in every state but SLEEP and SHIP;
the pin falling changes nothing, rising it is noted where a third SAFE_STATE restart waits for it. A check without a
violation, and rows of sleep outside SLEEP, change nothing. The end of a tone that is sent ends it and begins its 10
ms; of one that is not, nothing happens. The end of the WAKE pulse ends it. [03_supply_power_clocks.md section Wake;
03_supply_power_clocks.md table Start causes; 15_faults_and_sluices.md section Reactions; 03_supply_power_clocks.md
table Start-up from OFF] -/
def Obligations.WakeSources : Prop :=
  ∀ s : State, Calm s.toDev →
    let pinned : Dev := { s.toDev with power.wakeSeen := s.power.wakeSeen || (s.power.safeHold && s.power.tripThird) }
    let shipWake (i : Nat) : Bool := (imageItem s.toDev 0x0A08).toNat.testBit i
    let tone (p : Port) : Dev :=
      beginStart (match p with | .A => .toneA | .B => .toneB) { s.toDev with power.toneRelay := some p.other }
    let wakes (i : Nat) : Prop := s.power.pstate = .sleep ∨ (s.power.pstate = .ship ∧ shipWake i = true)
    (wakes 0 → Answers (.wakePin true) s (Beside (beginStart .wakePin pinned))) ∧
    (¬ wakes 0 → Answers (.wakePin true) s (Beside pinned)) ∧
    Answers (.wakePin false) s (Beside s.toDev) ∧
    (∀ p : Port, s.power.toneUntil ≤ s.now → s.power.toneTx = [] → wakes (p.num + 1) →
      Answers (.wakeToneDetect p) s (Beside (tone p))) ∧
    (∀ p : Port, s.now < s.power.toneUntil ∨ s.power.toneTx ≠ [] ∨ ¬ wakes (p.num + 1) →
      Answers (.wakeToneDetect p) s (Beside s.toDev)) ∧
    (∀ cells ax, s.power.pstate = .sleep → sleepViolation s.toDev (imageItem s.toDev) s.power.sleepMask cells ax = true →
      Answers (.sleepCheck cells ax) s (Beside (beginStart .sleepCheck { s.toDev with
        power := { s.power with sleepViol := true, wakeOut := true, toneTx := s.power.toneTx.filter (· != .A) ++ [.A] } }))) ∧
    (∀ cells ax, s.power.pstate ≠ .sleep ∨ sleepViolation s.toDev (imageItem s.toDev) s.power.sleepMask cells ax = false →
      Answers (.sleepCheck cells ax) s (Beside s.toDev)) ∧
    (s.power.pstate = .sleep → imageItem s.toDev 0x0A05 ≠ 0 → Answers .sleepWakeAfter s (Beside (beginStart .sleepTimer s.toDev))) ∧
    (s.power.pstate ≠ .sleep ∨ imageItem s.toDev 0x0A05 = 0 → Answers .sleepWakeAfter s (Beside s.toDev)) ∧
    (∀ p, p ∈ s.power.toneTx → Answers (.wakeToneEnd p) s (Beside { s.toDev with
      power := { s.power with toneTx := s.power.toneTx.filter (· != p), toneUntil := s.now + 3840000 } })) ∧
    (∀ p, p ∉ s.power.toneTx → Answers (.wakeToneEnd p) s (Beside s.toDev)) ∧
    Answers .wakeOutEnd s (Beside { s.toDev with power.wakeOut := false })

/-- With a departure accepted, with a command busy or not, the end of the response and its time-out both enter the state
asked for: the device is enterLow of what it was; the timebase, conversion, sequencer, commands, host interface and
configuration are at reset, the HFO is off and the LFO runs in SLEEP only, the items of the retention image and the
sleep mask are kept, the GPIO claims of input, output and FAULT_COPY survive and the others are given up, the part,
the UID and the programmed generations stay. In SHIP the journal is lost, in SLEEP it stays and its time is
unsynchronised. On a calm block with no departure accepted nothing happens. [03_supply_power_clocks.md section Power
states; 02_pins_and_package.md section GPIO functions and pin claims; 17_journal_otp_security.md section What is
recorded; 17_journal_otp_security.md section Service sessions] -/
def Obligations.EntryToSleepAndShip : Prop :=
  ∀ (s : State) (c : Instr), (c = .sleepEntry ∨ c = .sleepEntryTimeout) →
    (∀ p, s.power.leaving = some p → (p = .sleep ∨ p = .ship) → Answers c s (fun t => Beside (enterLow p s.toDev) t ∧
      t.power.pstate = p ∧ t.power.leaving = none ∧ t.power.v5Good = false ∧ t.power.safeHold = false ∧ t.clk.hfo = .off ∧
      t.clk.lfo = (if p = .sleep then .stable else .off) ∧ t.tb = Timebase.reset ∧
      t.conv = Conv.reset ∧ t.aux = Aux.reset ∧ t.cmd = Cmd.reset ∧ t.host = HostIf.reset ∧ t.cfg = [] ∧ t.part = s.part ∧
      t.otp.uid = s.otp.uid ∧ t.power.retained.map (fun e => e.1) = imageIds (writeAll (endSession 4 s.toDev)) ∧
      t.power.retainedGpio = s.pins.gpioOwner.map (fun f => if f = 1 ∨ f = 2 ∨ f = 5 then f else 0) ∧
      t.pins.gpioOwner = t.power.retainedGpio ∧
      (p = .ship → t.jrn = Journal.reset) ∧ (p = .sleep → t.jrn.synced = false ∧
        t.jrn.entries = (writeAll (endSession 4 s.toDev)).jrn.entries))) ∧
    (s.power.leaving = none → Calm s.toDev → Answers c s (Beside s.toDev))

/-- On a calm awake block with no command waiting and no CONTINUOUS frame in progress, where acc + INC + c stays below
2^48, c the correction still to be slewed limited to INC/64 either way: a step adds INC and c to the phase
accumulator, takes c from the correction, notes where the correction is used up that the first error is slewed out,
and counts one cycle of time; nothing else changes but what follows from it. On a block that is not awake, calm or
not, such a step only counts the cycle. [04_phase_timebase.md section The phase accumulator] -/
def Obligations.PhaseAccumulatorAdvances : Prop :=
  ∀ s : State, s.pending = [] →
    (let c := clampInt (-((s.tb.inc / 64 : Nat) : Int)) ((s.tb.inc / 64 : Nat) : Int) s.tb.corr
     Calm s.toDev → awake s.toDev = true → s.conv.frameAt = none → (s.tb.acc : Int) + s.tb.inc + c < 2 ^ 48 →
     ∃ t : State, step s = .next t ∧ t.pending = [] ∧ (t.tb.acc : Int) = s.tb.acc + s.tb.inc + c ∧
      Beside { s.toDev with
        now := s.now + 1
        tb := { s.tb with acc := ((s.tb.acc : Int) + s.tb.inc + c).toNat, corr := s.tb.corr - c
                          slewing := s.tb.slewing && s.tb.corr != c } } t.toDev) ∧
    (awake s.toDev = false → step s = .next { s with toDev := { s.toDev with now := s.now + 1 } })

/-- On a calm awake block with INC not 0, no plan, N, conversion change, impedance plan or balance anchor waiting for the
meridian, transit mode, PLL_M unlocked and plain mode: the meridian comes after the fewest cycles in which the
accumulator reaches 2^48, keeping what lies beyond; the correction used on the way is taken off. PERIOD_CNT takes the
value a timing block gave, or counts modulo 2^32, and where its renumbering is due becomes the next multiple of the
SYNC_DIV of the LOCKED declaration, else the meridians to it count down; meridians are counted up to 1000 where they
are being counted; a TB_FREE_FREQ that waits in FREE gives INC, outside FREE it is dropped; the lead points of the
CONVERT slots are computed anew; a head with SYNC_OUT_EN raises SYNC_OUT in periods that SYNC_OUT_DIV divides. Not
awake, or with INC 0, nothing happens. The end of a SYNC_OUT pulse lowers the pin; with no pulse nothing happens.
[04_phase_timebase.md section The phase accumulator; 04_phase_timebase.md section Timebase states;
04_phase_timebase.md section Registers, items and events; 04_phase_timebase.md section The ephemeris] -/
def Obligations.MeridianCountsPeriods : Prop :=
  ∀ s : State, Calm s.toDev →
    (awake s.toDev = true → s.tb.inc ≠ 0 → s.tb.multNext = none → s.tb.loads = [] → s.conv.waiting = false → s.conv.mode = 0 →
      s.eis.plan = none → s.eis.next = none → s.bal.anchorDue = false → s.tb.pllmLock = false → s.conv.apl = 0 → s.conv.frameAt = none →
      let k := cyclesToWrap s.toDev
      let c := slewIn k s.toDev
      let p0 := match s.tb.stepTo with
        | some v => v % 2 ^ 32
        | none => (s.tb.period + 1) % 2 ^ 32
      let m := max 1 s.tb.renumMod
      let p := match s.tb.renumAt with
        | some n => if n ≤ 1 then (p0 + (m - p0 % m) % m) % 2 ^ 32 else p0
        | none => p0
      let inc := if s.tb.freqNext = true ∧ s.tb.state = .free then incOf (itemN s.toDev 0x0602) else s.tb.inc
      let pulse := isHead s.toDev && itemN s.toDev 0x0608 == 1 && p % itemN s.toDev 0x0609 == 0
      Answers .meridian s (Beside (setLeads { s.toDev with
        now := s.now + k
        tb := { s.tb with acc := ((s.tb.acc : Int) + (k * s.tb.inc : Nat) + c).toNat % 2 ^ 48, corr := s.tb.corr - c
                          slewing := s.tb.slewing && s.tb.corr != c, period := p, stepTo := none, freqNext := false, inc := inc
                          renumAt := (match s.tb.renumAt with
                            | some n => if n ≤ 1 then none else some (n - 1)
                            | none => none)
                          flyCount := if s.tb.flyCounting then min 1000 (s.tb.flyCount + 1) else s.tb.flyCount
                          syncPulse := s.tb.syncPulse || pulse }
        pins := { s.pins with syncOut := s.pins.syncOut || pulse } }))) ∧
    ((awake s.toDev = false ∨ s.tb.inc = 0) → Answers .meridian s (Beside s.toDev)) ∧
    (s.tb.syncPulse = true → Answers .syncOutPulseEnd s (Beside { s.toDev with
      pins := { s.pins with syncOut := false }, tb := { s.tb with syncPulse := false } })) ∧
    (s.tb.syncPulse = false → Answers .syncOutPulseEnd s (Beside s.toDev))

/-- On a calm block. An edge that is not the selected one, on a member, with another TB_SOURCE, or while not awake changes
nothing. With n = SYNC_DIV, t the cycles since the reference edge, e the phase error: an edge is good where t, if
there is a reference, is 7680 n to 38400000 n and, in LOCKED, e is within an eighth of a period. A bad one is counted
in REF_REJECT (to 255) and in the run; where t is too long it becomes the reference; the fourth of a run in LOCKED
enters FLYWHEEL with EV112, where that has no reaction. A good one ends the run and becomes the reference: in ACQUIRE
the first is only counted, the second sets INC from n periods in t cycles, and the correction to the whole error; in
FLYWHEEL it begins ACQUIRE. A later one in ACQUIRE or LOCKED moves INC and the correction by the loop's two terms over
the cycles since the last accepted edge (not while the first error is being slewed out), and where an error or period
is out of 0.1 % the good run begins again; 64 periods of a good run in ACQUIRE declare LOCKED with EV112 (in plain
mode, N in its band): N is asked anew and the renumbering is set where n exceeds 1. [04_phase_timebase.md section
Reference sources on the head; 04_phase_timebase.md section Timebase states] -/
def Obligations.SyncInReferences : Prop :=
  ∀ s : State, Calm s.toDev →
    let mine (r : Bool) : Prop := isHead s.toDev = true ∧ awake s.toDev = true ∧ itemN s.toDev 0x0601 = 1 ∧ r = (itemN s.toDev 0x0604 == 0)
    let n := itemN s.toDev 0x0603
    let c : Int := ((s.tb.acc : Int) - (2 + itemN s.toDev 0x0606) * s.tb.inc).fdiv (2 ^ 16)
    let e := sext 32 ((c - itemN s.toDev 0x0605) % 2 ^ 32).toNat
    let long : Bool := match s.tb.refAt with
      | some t0 => decide (38400000 * n < s.now - t0)
      | none => false
    let short : Bool := match s.tb.refAt with
      | some t0 => decide (s.now - t0 < 7680 * n)
      | none => false
    let bad : Prop := long = true ∨ short = true ∨ (s.tb.state = .locked ∧ (e < -2 ^ 29 ∨ 2 ^ 29 < e))
    let noted : Timebase := { s.tb with rejRun := 0, refAt := some s.now, lastAcc := some s.now, accN := s.tb.accN + 1 }
    let later (t0 : Nat) : Timebase :=
      let x := if s.tb.slewing then noted
        else { noted with corr := rdiv (-e * 2 ^ 16) (2 ^ itemN s.toDev 0x0607)
                          inc := ((s.tb.inc : Int) + rdiv (-e * 2 ^ 16) (2 ^ (2 * itemN s.toDev 0x0607) * (s.now - s.tb.lastAcc.getD 0 : Nat))).toNat }
      if smallError e && smallPeriod n (s.now - t0) s.tb.inc then x else { x with goodFrom := some s.tb.period }
    let locks (t0 : Nat) : Prop := s.tb.state = .acquire ∧
      ∃ g, (later t0).goodFrom = some g ∧ 64 ≤ (s.tb.period + 2 ^ 32 - g) % 2 ^ 32
    (∀ r, ¬ mine r → Answers (.syncInEdge r) s (Beside s.toDev)) ∧
    (∀ r, mine r → bad →
      let rej : Timebase := { s.tb with refReject := satInc 255 s.tb.refReject, rejRun := s.tb.rejRun + 1
                                        refAt := if long then some s.now else s.tb.refAt }
      (s.tb.state ≠ .locked ∨ s.tb.rejRun < 3 → Answers (.syncInEdge r) s (Beside { s.toDev with tb := rej })) ∧
      (s.tb.state = .locked → 3 ≤ s.tb.rejRun → Plain s.toDev 112 → Answers (.syncInEdge r) s (Noted 112 { s.toDev with
        tb := { rej with state := .flywheel, headState := 3, flyCounting := true, flyCount := if s.tb.flyCounting then s.tb.flyCount else 0
                         rejRun := 0, goodBlocks := 0 } }))) ∧
    (∀ r, mine r → ¬ bad → s.tb.state = .acquire → s.tb.accN = 0 → Answers (.syncInEdge r) s (Beside { s.toDev with tb := noted })) ∧
    (∀ r t0, mine r → ¬ bad → s.tb.state = .acquire → s.tb.accN = 1 → s.tb.refAt = some t0 →
      Answers (.syncInEdge r) s (Beside { s.toDev with tb := { noted with
        inc := (rdiv ((n : Int) * 2 ^ 48) (s.now - t0 : Nat)).toNat, corr := shortWay (-e * 2 ^ 16), slewing := e != 0
        goodFrom := some s.tb.period } })) ∧
    (∀ r, mine r → ¬ bad → s.tb.state = .flywheel → Answers (.syncInEdge r) s (Beside { s.toDev with tb := { noted with
        state := .acquire, headState := 1, accN := 1, goodFrom := none, acqAt := s.tb.period, wordsAt := [], goodBlocks := 0 } })) ∧
    (∀ r t0, mine r → ¬ bad → (s.tb.state = .locked ∨ (s.tb.state = .acquire ∧ 2 ≤ s.tb.accN)) → s.tb.refAt = some t0 →
      (¬ locks t0 → Answers (.syncInEdge r) s (Beside { s.toDev with tb := later t0 })) ∧
      (locks t0 → s.conv.apl = 0 → multInBand s.tb.mult (later t0).inc = true → Plain s.toDev 112 →
        Answers (.syncInEdge r) s (Noted 112 { s.toDev with tb := { later t0 with
          state := .locked, headState := 2, flyCounting := false, flyCount := 0, phaseLost := false, rejRun := 0
          multNext := some (plainMult (later t0).inc)
          renumAt := if n ≤ 1 then s.tb.renumAt else some (max 1 (min n ((c - e).fdiv (2 ^ 32) + n).toNat))
          renumMod := if n ≤ 1 then s.tb.renumMod else n } })))

/-- On a calm block, a phase word on a member or with another TB_SOURCE changes nothing. With e the phase error of the
head's accumulator against the word: it is rejected where TB_PW_FREQ is below 1000 or above 5000000, or in LOCKED
where e exceeds an eighth of a period: counted in REF_REJECT and in the run; the fourth of a run in LOCKED enters
FLYWHEEL with EV112, where that has no reaction. An accepted one begins ACQUIRE first where the state was FLYWHEEL; it
sets INC from TB_PW_FREQ and the correction to the shorter way back by e, ends the run, counts, joins the words of the
last 64 periods, and where e exceeds 0.1 % begins the good run anew. In ACQUIRE for 64 periods with two such words
and, where the good run began anew, 64 periods since, LOCKED is declared with EV112 and N asked anew. N is taken to be
in its band, or PLL_M unlocked in plain mode; the declaration in plain mode. [04_phase_timebase.md section Reference
sources on the head; 04_phase_timebase.md section Timebase states] -/
def Obligations.PhaseWordSetsIncrement : Prop :=
  ∀ (s : State) (v : Word), Calm s.toDev →
    let mine : Prop := isHead s.toDev = true ∧ itemN s.toDev 0x0601 = 2
    let f := s.tb.pwFreq.toNat
    let e := sext 32 (((phaseNow s.toDev : Int) - v.toNat) % 2 ^ 32).toNat
    let since (x : Nat) := (s.tb.period + 2 ^ 32 - x) % 2 ^ 32
    let bad : Prop := f < 1000 ∨ 5000000 < f ∨ (s.tb.state = .locked ∧ (e < -2 ^ 29 ∨ 2 ^ 29 < e))
    let from_ : Timebase := if s.tb.state = .flywheel then { s.tb with
        state := .acquire, headState := 1, accN := 0, rejRun := 0, goodFrom := none, acqAt := s.tb.period, wordsAt := [], goodBlocks := 0 }
      else s.tb
    let taken : Timebase := { from_ with
      rejRun := 0, lastAcc := some s.now, refAt := some s.now, accN := from_.accN + 1, inc := incOf f, corr := shortWay (-e * 2 ^ 16)
      wordsAt := from_.wordsAt.filter (fun p => since p < 64) ++ [s.tb.period]
      goodFrom := if smallError e then from_.goodFrom else some s.tb.period }
    let locks : Prop := taken.state = .acquire ∧ 64 ≤ since taken.acqAt ∧ 2 ≤ taken.wordsAt.length ∧
      ∀ g, taken.goodFrom = some g → 64 ≤ since g
    (¬ mine → Answers (.tbPwPhaseWrite v) s (Beside s.toDev)) ∧
    (mine → bad → (s.tb.state ≠ .locked ∨ s.tb.rejRun < 3) →
      Answers (.tbPwPhaseWrite v) s (Beside { s.toDev with
        tb := { s.tb with refReject := satInc 255 s.tb.refReject, rejRun := s.tb.rejRun + 1 } })) ∧
    (mine → bad → s.tb.state = .locked → 3 ≤ s.tb.rejRun → Plain s.toDev 112 →
      Answers (.tbPwPhaseWrite v) s (Noted 112 { s.toDev with
        tb := { s.tb with refReject := satInc 255 s.tb.refReject, state := .flywheel, headState := 3, flyCounting := true
                          flyCount := if s.tb.flyCounting then s.tb.flyCount else 0, rejRun := 0, goodBlocks := 0 } })) ∧
    (mine → ¬ bad → ¬ locks → (multInBand s.tb.mult (incOf f) = true ∨ (s.tb.pllmLock = false ∧ s.conv.apl = 0)) →
      Answers (.tbPwPhaseWrite v) s (Beside { s.toDev with tb := taken })) ∧
    (mine → ¬ bad → locks → s.conv.apl = 0 → (multInBand s.tb.mult (incOf f) = true ∨ s.tb.pllmLock = false) → Plain s.toDev 112 →
      Answers (.tbPwPhaseWrite v) s (Noted 112 { s.toDev with
        tb := { taken with state := .locked, headState := 2, flyCounting := false, flyCount := 0, phaseLost := false
                           multNext := some (plainMult (incOf f)) } }))

/-- On a calm block, where the source has no reaction: a locked head without an accepted event for its limit, and a locked
member without a timing block for 2 ms, enter FLYWHEEL, count meridians from 0 (or on, where they are being counted),
and raise EV112; elsewhere the head's time-out changes nothing and the member's only ends the run of good blocks.
PHASE_LOST at 1000 counted meridians, not set yet, sets it and raises EV110; else nothing happens.
[04_phase_timebase.md section Timebase states; 04_phase_timebase.md section Reference sources on the head;
04_phase_timebase.md section Distribution to members] -/
def Obligations.ReferenceLossEntersFlywheel : Prop :=
  ∀ s : State, Calm s.toDev →
    let fly : Timebase := { s.tb with state := .flywheel, flyCounting := true, flyCount := if s.tb.flyCounting then s.tb.flyCount else 0
                                      rejRun := 0, goodBlocks := 0 }
    (isHead s.toDev = true → s.tb.state = .locked → Plain s.toDev 112 →
      Answers .tbRefTimeout s (Noted 112 { s.toDev with tb := { fly with headState := 3 } })) ∧
    ((isHead s.toDev = false ∨ s.tb.state ≠ .locked) → Answers .tbRefTimeout s (Beside s.toDev)) ∧
    (isHead s.toDev = false → s.tb.state = .locked → Plain s.toDev 112 →
      Answers .memberTbTimeout s (Noted 112 { s.toDev with tb := fly })) ∧
    ((isHead s.toDev = true ∨ s.tb.state ≠ .locked) →
      Answers .memberTbTimeout s (Beside { s.toDev with tb.goodBlocks := 0 })) ∧
    (s.tb.flyCounting = true → s.tb.flyCount = 1000 → s.tb.phaseLost = false → Plain s.toDev 110 →
      Answers .phaseLost s (Noted 110 { s.toDev with tb.phaseLost := true })) ∧
    ((s.tb.flyCounting = false ∨ s.tb.flyCount ≠ 1000 ∨ s.tb.phaseLost = true) → Answers .phaseLost s (Beside s.toDev))

/-- On a calm block: PLL_M locks where it is unlocked and N times f_ext lies in 4 to 10 MHz: every channel's settling
count is loaded, the frame grid waits to be anchored and APL_RANGE clears; else nothing happens. Its loss, where it
was locked, loads the counts again and raises EV101 on a part without a reaction. [04_phase_timebase.md section
Modulator clock; 05_cell_conversion.md section Settling] -/
def Obligations.ModulatorClockLocks : Prop :=
  ∀ s : State, Calm s.toDev →
    (s.tb.pllmLock = false → multInBand s.tb.mult s.tb.inc = true →
      Answers .pllMLock s (Beside { s.toDev with
        tb := { s.tb with pllmLock := true }
        conv := { s.conv with aplRange := false, anchored := false, frameAt := none
                              settle := List.replicate 25 (if s.conv.fir = 1 then 5 else 3) } })) ∧
    ((s.tb.pllmLock = true ∨ multInBand s.tb.mult s.tb.inc = false) → Answers .pllMLock s (Beside s.toDev)) ∧
    (s.tb.pllmLock = true → Plain s.toDev 101 →
      Answers .pllMUnlock s (Noted 101 { s.toDev with
        tb := { s.tb with pllmLock := false }
        conv := { s.conv with anchored := false, frameAt := none
                              settle := List.replicate 25 (if s.conv.fir = 1 then 5 else 3) } })) ∧
    (s.tb.pllmLock = false → Answers .pllMUnlock s (Beside s.toDev))

/-- On a calm block. Let it convert: ACTIVE, transit mode, the head or a member with its first timing block, no settings
waiting. Lead points act in the order given, each as leadSlot says of the channels that were busy before: of a slot
that a replaced plan is owed, the owed transit is served; an empty slot, no CONVERT, one that does not fire in the
period of its lead point or whose lead point, or its DARK's, lay before its plan's switch, does nothing; else
apertures start on its enabled channels that are free, the lead notes these and the busy ones, the place in the
modulator stream and the settings in force, and the oldest open dark window of the slot is marked served. A DARK
slot's lead point, the slot enabled, its CONVERT firing and not before the switch, opens a dark window, sets the FETs
that the windows hold, and pulses its marks; where one of these fails it does nothing. Where the block does not
convert neither row does anything. [04_phase_timebase.md section The ephemeris; 05_cell_conversion.md section Frames,
apertures and weightings; 08_balancing.md section Dark windows] -/
def Obligations.LeadPointsStartApertures : Prop :=
  ∀ s : State, Calm s.toDev →
    let converts : Prop := active s.toDev = true ∧ s.conv.mode = 0 ∧ (isHead s.toDev = true ∨ s.tb.loaded = true)
    let held : BitVec 25 := mof 25 ((List.range 25).filter (fun c => nth s.conv.busy c 0 != 0))
    let opens (x c : Slot) : Prop :=
      let a := (leadPoints s.toDev (x.arg.toNat % 16) c).2
      x.action = 3 ∧ x.en = true ∧ c.action = 1 ∧ slotFires c (leadPeriod s.toDev a) = true ∧
        beforeSwitch s.toDev c (leadPeriod s.toDev a) a = false
    let starts (i : Nat) (x : Slot) (quiet : Bool) (d : Dev) : Dev :=
      let want := x.arg &&& enabledNow d
      { d with
        conv := { d.conv with
          busy := (List.range 25).map (fun c => if mbit (want &&& ~~~ held) c then 1 else nth d.conv.busy c 0)
          apStart := d.conv.apStart ++ [{ slot := i, modAt := d.conv.modCount, phase := x.phase, mark := x.mark
                                          started := want &&& ~~~ held, busy := want &&& held, quiet := quiet
                                          mult := apertureMult d, inc := d.tb.inc, dec := d.conv.dec, fir := d.conv.fir == 1
                                          cal := d.conv.cal }] }
        tb := { d.tb with darkNow := modFirst (fun (e : Nat × Bool × BitVec 25) => quiet && e.1 == i && !e.2.1)
                            (fun e => some (e.1, true, e.2.2)) d.tb.darkNow } }
    (converts → (s.conv.waiting = false ∨ s.conv.atMeridian = true) →
      (∀ slots, Answers (.convertLeadPoint slots) s (Beside (slots.foldl (fun d i => leadSlot held i d) s.toDev))) ∧
      (∀ i e, s.tb.owed.find? (fun (y : Nat × Slot) => y.1 == i) = some e → Answers (.convertLeadPoint [i]) s (Beside
        (starts i e.2 true { s.toDev with tb.owed := modFirst (fun (y : Nat × Slot) => y.1 == i) (fun _ => none) s.tb.owed }))) ∧
      (∀ i, s.tb.owed.find? (fun (y : Nat × Slot) => y.1 == i) = none →
        (slotAt s.toDev i = none → Answers (.convertLeadPoint [i]) s (Beside s.toDev)) ∧
        (∀ x, slotAt s.toDev i = some x →
          let a := leadPoints s.toDev i x
          let p := leadPeriod s.toDev a.1
          let fires : Prop := x.action = 1 ∧ slotFires x p = true ∧ beforeSwitch s.toDev x p a.1 = false ∧
            (servedDark s.toDev i = true → beforeSwitch s.toDev x p a.2 = false)
          (fires → Answers (.convertLeadPoint [i]) s (Beside (starts i x (servedDark s.toDev i) s.toDev))) ∧
          (¬ fires → Answers (.convertLeadPoint [i]) s (Beside s.toDev))))) ∧
    (¬ converts → ∀ slots, Answers (.convertLeadPoint slots) s (Beside s.toDev)) ∧
    (∀ i x c, slotAt s.toDev i = some x → slotAt s.toDev (x.arg.toNat % 16) = some c →
      (converts → opens x c → Answers (.darkLeadPoint i) s (Beside (pulseMarks x.mark { s.toDev with
        tb := { s.tb with darkNow := s.tb.darkNow ++ [(x.arg.toNat % 16, false, c.arg)] }
        bal := { s.bal with dark := darkFets { s.toDev with tb.darkNow := s.tb.darkNow ++ [(x.arg.toNat % 16, false, c.arg)] } } }))) ∧
      (¬ (converts ∧ opens x c) → Answers (.darkLeadPoint i) s (Beside s.toDev))) ∧
    (∀ i, slotAt s.toDev i = none → Answers (.darkLeadPoint i) s (Beside s.toDev)) ∧
    (∀ i x, slotAt s.toDev i = some x → slotAt s.toDev (x.arg.toNat % 16) = none → Answers (.darkLeadPoint i) s (Beside s.toDev))

/-- On a calm awake block, the head or a member with its first timing block. The CONVERT slots whose lead points acted,
acting in one cycle, none with busy channels that no other of them started and without marks, make one record in
flight with the next TSEQ, the period, the phase, the masks, the settings of the first lead and the flags of this
instant, and use their leads up; with one slot whose busy channels are not started the record names them late,
LATE_CNT counts and EV113 is raised, where it has no reaction. With no lead waiting: a slot that is empty, does not
fire, or is CONVERT or DARK does nothing; an AUX, CAPTURE or EXCITE slot that fires acts as its operation says where
that leaves EV113 alone: an AUX entry is started or queued where the SAR is free for it, and is skipped, counted and
raises EV113 where it is busy; a CAPTURE armed for transits is triggered at the last visible record, one triggered or
frozen already counts and raises EV113, another does nothing; EXCITE without a plan, or with a suspended one, does
nothing. Not awake, or before the first timing block, nothing happens. The end of a mark lowers the pin that
TRANSIT_OUT holds, and does nothing where no pulse runs or another holds it. [04_phase_timebase.md section The
ephemeris; 05_cell_conversion.md section Frames, apertures and weightings; 05_cell_conversion.md section History;
06_aux_path_and_leat.md section The sequencer table; 09_impedance.md section Excitation] -/
def Obligations.TransitsAct : Prop :=
  ∀ s : State, Calm s.toDev →
    let ready : Prop := awake s.toDev = true ∧ (isHead s.toDev = true ∨ s.tb.loaded = true)
    let recordOf (l : Lead) (ls : List Lead) : Rec :=
      let started := ls.foldl (fun m x => m ||| x.started) (0 : BitVec 25)
      { Rec.reset with
        tseq := s.conv.tseq, period := s.tb.period, phase := l.phase, slot := l.slot
        slots := (ls.filter (fun x => x.quiet)).map (fun x => x.slot)
        quiet := ls.foldl (fun m x => if x.quiet then m ||| x.started else m) (0 : BitVec 25)
        named := started, late := (ls.foldl (fun m x => m ||| x.busy) (0 : BitVec 25)) &&& ~~~ started
        fly := flyNow s.toDev, fir := l.fir, complete := started == 0, modAt := some l.modAt, firedAt := s.now, warn := s.aux.warn
        mult := l.mult, inc := l.inc, dec := l.dec, cal := l.cal, epoch := s.conv.epoch, shuntOn := mbit s.conv.enable 24 }
    let recorded (l : Lead) (ls : List Lead) : Conv := { s.conv with
      tseq := (s.conv.tseq + 1) % 2 ^ 32, flight := s.conv.flight ++ [recordOf l ls]
      apStart := ls.foldl (fun t y => modFirst (fun (x : Lead) => x == y) (fun _ => none) t) s.conv.apStart }
    let lateNow (d : Dev) : Dev := { d with tb := { d.tb with lateCnt := satInc 65535 d.tb.lateCnt } }
    (ready → ∀ slots l rest, (∀ i ∈ slots, ∃ x, slotAt s.toDev i = some x ∧ x.action = 1) →
      slots.filterMap (fun i => s.conv.apStart.find? (fun (l : Lead) => l.slot == i)) = l :: rest →
      (∀ y ∈ l :: rest, y.mark = 0) →
      ((recordOf l (l :: rest)).late = 0 → Answers (.transit slots) s (Beside { s.toDev with conv := recorded l (l :: rest) })) ∧
      ((recordOf l (l :: rest)).late ≠ 0 → Plain s.toDev 113 →
        Answers (.transit slots) s (Noted 113 (lateNow { s.toDev with conv := recorded l (l :: rest) })))) ∧
    (ready → s.conv.apStart = [] →
      (∀ i, (∀ x, slotAt s.toDev i = some x → slotFires x s.tb.period = false ∨ x.action = 0 ∨ x.action = 1 ∨ x.action = 3 ∨ 6 ≤ x.action) →
        Answers (.transit [i]) s (Beside s.toDev)) ∧
      (∀ i x, slotAt s.toDev i = some x → slotFires x s.tb.period = true → x.mark = 0 →
        let e := x.arg.toNat % 64
        let c := x.arg.toNat % 4
        (x.action = 2 →
          (sarBusy s.toDev = false → s.aux.txEntry = none → Answers (.transit [i]) s (Beside { s.toDev with
            aux := { s.aux with txEntry := some e, txSum := 0, txCount := 0, user := .transit, convAt := s.now
                                slotPending := s.aux.slotPending || s.aux.user == .leat, slotOf := none, slotVerify := false } })) ∧
          (sarBusy s.toDev = false → s.aux.txEntry ≠ none → Answers (.transit [i]) s (Beside { s.toDev with
            aux := { s.aux with txNext := s.aux.txNext ++ [e] } })) ∧
          (sarBusy s.toDev = true → Plain s.toDev 113 → Answers (.transit [i]) s (Noted 113 (lateNow { s.toDev with
            aux := { s.aux with lateEntries := if s.aux.lateEntries.contains e then s.aux.lateEntries else s.aux.lateEntries ++ [e] } })))) ∧
        (x.action = 4 →
          ((capAt s.toDev c).state = 1 → (capAt s.toDev c).trig = 0 → s.conv.live = [] → s.conv.caps.length = 4 →
            (∀ k, k < 4 → (capAt s.toDev k).state ≠ 2) →
            Answers (.transit [i]) s (Beside { s.toDev with
              conv := { s.conv with caps := s.conv.caps.modify c (fun y => { y with
                state := 2, trigTseq := (s.conv.tseq + 2 ^ 32 - 1) % 2 ^ 32 }) } })) ∧
          ((capAt s.toDev c).state = 2 ∨ (capAt s.toDev c).state = 3 → Plain s.toDev 113 →
            Answers (.transit [i]) s (Noted 113 (lateNow s.toDev))) ∧
          ((capAt s.toDev c).state = 0 ∨ ((capAt s.toDev c).state = 1 ∧ (capAt s.toDev c).trig ≠ 0) →
            Answers (.transit [i]) s (Beside s.toDev))) ∧
        (x.action = 5 → (s.eis.plan = none ∨ s.eis.state = .suspended) → Answers (.transit [i]) s (Beside s.toDev)))) ∧
    (¬ ready → ∀ slots, Answers (.transit slots) s (Beside s.toDev)) ∧
    (∀ g, (mbit s.tb.markPulse (g - 1) = true → gpioHolder s.toDev g = 4 →
        Answers (.transitMarkEnd g) s (Beside { s.toDev with tb := { s.tb with markPulse := mset s.tb.markPulse (g - 1) false } })) ∧
      ((mbit s.tb.markPulse (g - 1) = false ∨ gpioHolder s.toDev g ≠ 4) → Answers (.transitMarkEnd g) s (Beside s.toDev)))

/-- On a calm block: the end of an aperture, of a record in flight that has not ended, frees the channels of the record
and closes one dark window of each of its slots; else nothing happens. A CONTINUOUS frame's end while ACTIVE makes one
record in flight with the next TSEQ, the frame's instant, the enabled channels, the flags of its centre and the
settings in force; settings that wait for it and do not alter N then take effect, frames counting from here, and where
the grid is anchored the next frame begins; without a frame, not ACTIVE, or in transit mode nothing happens. The last
modulator bit of a record completes it. The oldest record in flight, once written, becomes visible behind the visible
ones, the oldest that no capture pins going where the depth is reached, and leaves the flight; where it has no CLIP
sample, no comparator is undecided or in its band, no capture waits for its POST record, no bank runs, no impedance
plan is in force, no custom generator runs, no cell is planned and the audit and statistics counts are not full, those
counts are all else that changes. A record not written, or none, changes nothing. [05_cell_conversion.md section
Frames, apertures and weightings; 05_cell_conversion.md section Sampling modes; 05_cell_conversion.md section History] -/
def Obligations.AperturesFramesAndRecords : Prop :=
  ∀ s : State, Calm s.toDev →
    (∀ n r, s.conv.flight.find? (fun (r : Rec) => r.tseq == n) = some r →
      (r.apEnd = false → Answers (.apertureEnd n) s (Beside (closeDark r.slots { s.toDev with conv := { s.conv with
        flight := s.conv.flight.map (fun (y : Rec) => if y.tseq = n then { y with apEnd := true } else y)
        busy := (List.range 25).map (fun c => if mbit r.named c then 0 else nth s.conv.busy c 0) } }))) ∧
      (r.apEnd = true → Answers (.apertureEnd n) s (Beside s.toDev))) ∧
    (∀ n, s.conv.flight.find? (fun (r : Rec) => r.tseq == n) = none → Answers (.apertureEnd n) s (Beside s.toDev)) ∧
    (∀ f, s.conv.frameAt = some f → active s.toDev = true → s.conv.mode = 1 →
      let flags := s.conv.centred.getD (flyNow s.toDev, s.aux.warn)
      let r : Rec := { Rec.reset with
        tseq := s.conv.tseq, period := f.1, phase := f.2, cont := true, named := enabledNow s.toDev, fly := flags.1, warn := flags.2
        fir := s.conv.fir == 1, firedAt := s.conv.centreAt, mult := apertureMult s.toDev, inc := s.tb.inc
        modAt := some s.conv.frameMod, apEnd := true, shuntOn := mbit s.conv.enable 24
        dec := s.conv.dec, cal := s.conv.cal, epoch := s.conv.epoch, complete := enabledNow s.toDev == 0 }
      let d1 : Dev := { s.toDev with conv := { s.conv with
        tseq := (s.conv.tseq + 1) % 2 ^ 32, flight := s.conv.flight ++ [r], frameNo := s.conv.frameNo + 1 } }
      let next (d : Dev) : Dev := if d.conv.anchored then beginFrame d else d
      ((s.conv.waiting = false ∨ s.conv.atMeridian = true) → Answers .frameEnd s (Beside (next d1))) ∧
      (s.conv.waiting = true → s.conv.atMeridian = false → convAltersN s.toDev = false → Answers .frameEnd s (Beside
        (next (convTake { d1 with conv.anchorAt := frameEdge d1 (2 * d1.conv.frameNo), conv.frameNo := 0 }))))) ∧
    ((s.conv.frameAt = none ∨ active s.toDev = false ∨ s.conv.mode ≠ 1) → Answers .frameEnd s (Beside s.toDev)) ∧
    (∀ n, Answers (.recordComplete n) s (Beside { s.toDev with
      conv.flight := s.conv.flight.map (fun (r : Rec) => if r.tseq = n then { r with complete := true } else r) })) ∧
    (∀ r rest, s.conv.flight = r :: rest → r.written = true →
      let seen := showRecord r { s.toDev with conv.flight := rest }
      let run := active s.toDev && !(enabledChans s.toDev).isEmpty
      Answers .recordVisible s (fun t => t.conv.live = seen.conv.live ∧ t.conv.flight = rest ∧ t.conv.visSince = true) ∧
      ((∀ c, c < 25 → recWord r c = 0x80000000 ∨ bit (recWord r c) 5 = false) → s.cmp.undecided = 0 → s.cmp.inband = 0 →
        (∀ c, c < 4 → (capAt s.toDev c).state ≠ 2) → (∀ b, b < 4 → (bank s.toDev b).on = false) → s.eis.plan = none →
        (∀ k, k < 4 → (kernelAt s.toDev k).genOn = false) → plannedCells s.toDev = [] → s.eng.auditCnt + 1 < 32 → s.eng.statsCnt + 1 < 64 →
        Answers .recordVisible s (Beside { seen with eng := { s.eng with
          auditCnt := if run then s.eng.auditCnt + 1 else s.eng.auditCnt
          statsCnt := if run then s.eng.statsCnt + 1 else s.eng.statsCnt, balCnt := 0 } }))) ∧
    (∀ r rest, s.conv.flight = r :: rest → r.written = false → Answers .recordVisible s (Beside s.toDev)) ∧
    (s.conv.flight = [] → Answers .recordVisible s (Beside s.toDev))

/-- On a calm block the assembler writes the first record in flight not yet written, once it is complete: it marks it
written under its TSEQ with 25 sample words; beside the record, the previous samples, the settling counts, the leat
means since them and the memory words overwritten nothing changes. Not complete, or none to write, nothing happens. A
channel that the record neither names nor has late holds 0x80000000. A late one, not fenced, repeats the channel's
previous word with LATE set, SETTLING and bit 1 clear and FLYWHEEL the record's; with no previous sample it is value 0
with SETTLING, LATE and that FLYWHEEL. Where trims, user gain and offset, temperature compensation and sensed balance
currents are zero, a named cell, not late, fenced, settling or overloaded, whose weighed value is k LSB within the
range and whose record carries no flag, holds k in bits 31 to 8 and no flag. [05_cell_conversion.md section Value
range and calibration; 05_cell_conversion.md section The sample word; 05_cell_conversion.md section Frames, apertures
and weightings] -/
def Obligations.RecordsAreWrittenFromSamples : Prop :=
  ∀ (s : State) (raw : List Int) (ovl : BitVec 25), Calm s.toDev →
    (∀ r, s.conv.flight.find? (fun (r : Rec) => !r.written) = some r → r.complete = true →
      Answers (.recordWrite raw ovl) s (fun t => ∃ w : Rec, w.written = true ∧ w.tseq = r.tseq ∧ w.words.length = 25 ∧
        Beside { s.toDev with
          conv := { s.conv with flight := s.conv.flight.map (fun (y : Rec) => if y.tseq = r.tseq then w else y)
                                prev := t.conv.prev, settle := t.conv.settle }
          aux := { s.aux with leatSince := t.aux.leatSince }
          fault := { s.fault with sramBad := t.fault.sramBad } } t ∧
        (∀ c, c < 25 → mbit r.named c = false → mbit r.late c = false → recWord w c = 0x80000000) ∧
        (∀ c, c < 25 → mbit r.late c = true → mbit s.fault.fencedCh c = false →
          let p := nth s.conv.prev c 0x80000000
          recWord w c = (if p = 0x80000000 then Word.of (0x84 + b2n r.fly * 8)
            else (p &&& 0xFFFFFF71) ||| Word.of (4 + b2n r.fly * 8))) ∧
        (∀ (c : Nat) (k : Int), c < 24 → mbit r.named c = true → mbit r.late c = false → mbit s.fault.fencedCh c = false →
          settlingNow s.toDev r c = false → r.fly = false → mbit r.warn c = false → s.bal.sensed = [] →
          nth r.cal.gain c 0 = 0 → nth r.cal.ofs c 0 = 0 → r.cal.tcomp = 0 → nth s.otp.gTrim c 0 = 0 → nth s.otp.oTrim c 0 = 0 →
          weighed raw ovl c s.toDev r = (1000 * k, false) → -1200000 ≤ k → k ≤ 5800000 →
          recWord w c = BitVec.ofInt 32 (k * 256)))) ∧
    (∀ r, s.conv.flight.find? (fun (r : Rec) => !r.written) = some r → r.complete = false →
      Answers (.recordWrite raw ovl) s (Beside s.toDev)) ∧
    (s.conv.flight.find? (fun (r : Rec) => !r.written) = none → Answers (.recordWrite raw ovl) s (Beside s.toDev))

/-- On a calm block with four captures, an edge of a pin that CAPTURE_IN holds triggers every capture armed on that pin
and edge: TRIGGERED at the last visible record's TSEQ, one before the next where none is visible; where the POST
record of no capture is then visible nothing else changes. Where one capture alone is armed on it, none is TRIGGERED,
a record is visible and its POST is 0, it is FROZEN at once with the span and the valid count of the records still
held, and EV114 is raised, where it has no reaction. An edge of a pin without that function changes nothing.
[05_cell_conversion.md section History; 02_pins_and_package.md section GPIO] -/
def Obligations.CaptureTriggersOnGpioEdge : Prop :=
  ∀ (s : State) (rising : Bool), Calm s.toDev → s.conv.caps.length = 4 →
    (∀ g, g ≠ 0 → gpioHolder s.toDev g = 3 →
      let hit (x : Capture) : Prop := x.state = 1 ∧ x.trig = g ∧ x.edge = !rising
      let at_ := match latestRec s.toDev with
        | some r => r.tseq
        | none => (s.conv.tseq + 2 ^ 32 - 1) % 2 ^ 32
      let d1 : Dev := { s.toDev with conv := { s.conv with caps := s.conv.caps.map (fun x =>
        if x.state = 1 ∧ x.trig = g ∧ x.edge = !rising then { x with state := 2, trigTseq := at_ } else x) } }
      (freezeDue d1 = d1 → Answers (.captureGpioEdge g rising) s (Beside d1)) ∧
      (∀ c, c < 4 → hit (capAt s.toDev c) → (∀ k, k < 4 → k ≠ c → ¬ hit (capAt s.toDev k)) →
        (∀ k, k < 4 → (capAt s.toDev k).state ≠ 2) → (capAt s.toDev c).post = 0 → latestRec s.toDev ≠ none → Plain s.toDev 114 →
        let first := (at_ + 2 ^ 32 + 1 - (capAt s.toDev c).pre % 2 ^ 32) % 2 ^ 32
        let last := at_ % 2 ^ 32
        let kept := s.conv.live.filter (fun (r : Rec) => r.epoch == s.conv.epoch && inSpan first last r.tseq)
        Answers (.captureGpioEdge g rising) s (Noted 114 { s.toDev with conv := { s.conv with caps := s.conv.caps.modify c (fun x =>
          { x with state := 3, trigTseq := at_, last := last, truncated := false, epoch := s.conv.epoch
                   first := (match kept with
                     | r :: _ => r.tseq
                     | [] => last)
                   preValid := (kept.filter (fun (r : Rec) => !serialLater r.tseq at_)).length }) } }))) ∧
    (∀ g, (g = 0 ∨ gpioHolder s.toDev g ≠ 3) → Answers (.captureGpioEdge g rising) s (Beside s.toDev))

/-- On a calm block outside a retrain and a transition. Awake, a conversion of a loop or transit entry short of its count
adds its code and counts; the last one writes AUX_RESULT: the mean in 12.4 rounded, the entry, VALID, OVR where the
previous result was unread, LATE, OUT, TRANSIT and SLOW; the sources TEMP_FRONT, TEMP_CORE and VSTK hand their value
on; then the loop goes to the next entry or its DELAY, a transit entry to the one that waits, and the SAR takes its
next work (sarWork). A result that was unread counts in AUX_OVR_CNT and raises EV116, one outside its window raises
EV120, where the source has no reaction and not both at once. With no such work in progress, or not awake, nothing
happens. Awake, the end of a DELAY ends it at the next position and an idle SAR takes work; else nothing happens. The
housekeeper, while it runs, files a valid result with the period and clears VALID; else nothing happens.
[06_aux_path_and_leat.md section The sequencer table; 06_aux_path_and_leat.md section The result register;
06_aux_path_and_leat.md section Windows and results] -/
def Obligations.SequencerConvertsAndFiles : Prop :=
  ∀ s : State, Calm s.toDev → s.d2d.retrain = false → s.power.opTarget = none →
    let users (w : Word) (v : Nat) (d : Dev) : Dev :=
      match entrySrc w with
      | 0x2B => { d with conv := { d.conv with tempFront := v }, bal := { d.bal with tempStale := false } }
      | 0x2C => { d with aux := { d.aux with tempCore := v } }
      | 0x28 => { d with aux := { d.aux with vstkCode := v } }
      | _ => d
    let ovr := bit s.aux.result 9
    let out (e sum : Nat) : Bool :=
      let w := auxEntry s.toDev e
      let v := meanCode sum (entryReps w)
      let lim := itemN s.toDev (0x0210 + bf w 8 3)
      bf w 8 3 != 0 && (decide (v < lim % 2 ^ 16) || decide (lim / 2 ^ 16 < v))
    let filed (e sum : Nat) (transit : Bool) (d : Dev) : Dev :=
      let w := auxEntry s.toDev e
      let v := meanCode sum (entryReps w)
      users w v { d with aux := { d.aux with
        result := Word.of (v * 2 ^ 16 + e * 2 ^ 10 + 512 + b2n ovr * 256 + b2n (s.aux.lateEntries.contains e) * 128 +
          b2n (out e sum) * 64 + b2n transit * 32 + b2n (bit w 12) * 16)
        lateEntries := s.aux.lateEntries.filter (· != e)
        ovrCnt := if ovr then satInc 65535 s.aux.ovrCnt else s.aux.ovrCnt } }
    let outcome (e sum : Nat) (c : Instr) (b : Dev) : Prop :=
      (ovr = false → out e sum = false → Answers c s (Beside b)) ∧
      (ovr = true → out e sum = false → Plain s.toDev 116 → Answers c s (Noted 116 b)) ∧
      (ovr = false → out e sum = true → Plain s.toDev 120 → Answers c s (Noted 120 b))
    (∀ code : BitVec 12, awake s.toDev = true → s.aux.user = .loop →
      let e := s.aux.pos
      let n := entryReps (auxEntry s.toDev e)
      (s.aux.count + 1 < n → Answers (.sarConversionDone code) s (Beside (sarWork { s.toDev with
        aux := { s.aux with sum := s.aux.sum + code.toNat, count := s.aux.count + 1 } }))) ∧
      (n ≤ s.aux.count + 1 → outcome e (s.aux.sum + code.toNat) (.sarConversionDone code)
        (sarWork (let d := filed e (s.aux.sum + code.toNat) false { s.toDev with aux := { s.aux with sum := 0, count := 0 } }
                  if bf (auxEntry s.toDev e) 13 8 = 0 then { d with aux.pos := e + 1 } else { d with aux.delaying := true })))) ∧
    (∀ (code : BitVec 12) (e : Nat), awake s.toDev = true → s.aux.user = .transit → s.aux.txEntry = some e →
      let n := entryReps (auxEntry s.toDev e)
      (s.aux.txCount + 1 < n → Answers (.sarConversionDone code) s (Beside (sarWork { s.toDev with
        aux := { s.aux with txSum := s.aux.txSum + code.toNat, txCount := s.aux.txCount + 1 } }))) ∧
      (n ≤ s.aux.txCount + 1 → outcome e (s.aux.txSum + code.toNat) (.sarConversionDone code)
        (sarWork (filed e (s.aux.txSum + code.toNat) true { s.toDev with
          aux := { s.aux with txEntry := s.aux.txNext.head?, txNext := s.aux.txNext.drop 1, txSum := 0, txCount := 0 } })))) ∧
    (∀ code : BitVec 12, (awake s.toDev = false ∨ s.aux.user = .idle ∨ s.aux.user = .leat ∨ (s.aux.user = .transit ∧ s.aux.txEntry = none)) →
      Answers (.sarConversionDone code) s (Beside s.toDev)) ∧
    (awake s.toDev = true → s.aux.delaying = true → Answers .auxDelayEnd s (Beside (sarKick { s.toDev with
      aux := { s.aux with delaying := false, pos := s.aux.pos + 1 } }))) ∧
    ((awake s.toDev = false ∨ s.aux.delaying = false) → Answers .auxDelayEnd s (Beside s.toDev)) ∧
    (bit s.aux.result 9 = true → s.cmd.hkReady = true → Answers .auxResultFile s (Beside { s.toDev with
      aux := { s.aux with last := aset s.aux.last (bf s.aux.result 10 6) ⟨s.aux.result, s.tb.period⟩
                          result := s.aux.result &&& 0xFFFFFDFF } })) ∧
    ((bit s.aux.result 9 = false ∨ s.cmd.hkReady = false) → Answers .auxResultFile s (Beside s.toDev))

/-- On a calm block outside a retrain and a transition. ACTIVE, a leat slot due becomes pending, an idle SAR taking work,
or slips and is counted where one is; not ACTIVE nothing happens. Awake, with a slot of cell n in progress: a slot
done files the sum of its four codes and adds it to the mean since the last sample; fenced, paused for its
verification or without a reference that is all; within tolerance it clears CHECK_WARN and the confirmation; outside
it sets them and raises EV117 (no reaction), and the first such asks for the verification, which starts where the test
DAC is free (serveDac). Of a verification, two codes through the divider against two direct ones: it ends and frees
the DAC, and beyond the tolerance excludes the leat, ends the confirmation and raises EV118 (no reaction). The SAR
then takes its next work. With no slot in progress, or not awake, nothing happens. The divider's switch of a
verification and the settling of the DAC mark it settled for its user; a PATH or AX_PATH check goes to its second code
first, then bypasses its resistor; else nothing happens. [06_aux_path_and_leat.md section Leat cross-check;
06_aux_path_and_leat.md section Substitution; 06_aux_path_and_leat.md section The test DAC] -/
def Obligations.LeatSlotsCompareAndVerify : Prop :=
  ∀ s : State, Calm s.toDev → s.d2d.retrain = false → s.power.opTarget = none →
    (active s.toDev = true → s.aux.slotPending = true →
      Answers .leatSlotDue s (Beside { s.toDev with aux.leatSlip := satInc 65535 s.aux.leatSlip })) ∧
    (active s.toDev = true → s.aux.slotPending = false →
      Answers .leatSlotDue s (Beside (sarKick { s.toDev with aux.slotPending := true }))) ∧
    (active s.toDev = false → Answers .leatSlotDue s (Beside s.toDev)) ∧
    (∀ (codes : List (BitVec 12)) (n : Nat), awake s.toDev = true → s.aux.user = .leat → s.aux.slotOf = some n →
      s.aux.slotVerify = false →
      let sum := ((codes.take 4).map BitVec.toNat).sum
      let since := nth s.aux.leatSince (n - 1) (0, 0)
      let read : Aux := { s.aux with slotOf := none, leatLast := s.aux.leatLast.set (n - 1) sum
                                     leatSince := s.aux.leatSince.set (n - 1) (since.1 + sum, since.2 + 1) }
      let off (vp : Rat) : Rat := rabs (leatUv s.toDev n ((sum : Rat) / 4) - vp)
      let failed : Aux := { read with warn := mset s.aux.warn (n - 1) true, confirm := mset s.aux.confirm (n - 1) true }
      ((chFenced s.toDev n = true ∨ leatPaused s.toDev n = true ∨ leatRef s.toDev n = none) →
        Answers (.leatSlotDone codes) s (Beside (sarWork { s.toDev with aux := read }))) ∧
      (∀ vp, chFenced s.toDev n = false → leatPaused s.toDev n = false → leatRef s.toDev n = some vp →
        (off vp ≤ leatTol s.toDev vp → Answers (.leatSlotDone codes) s (Beside (sarWork { s.toDev with
          aux := { read with warn := mset s.aux.warn (n - 1) false, confirm := mset s.aux.confirm (n - 1) false } }))) ∧
        (leatTol s.toDev vp < off vp → Plain s.toDev 117 → mbit s.aux.warn (n - 1) = true →
          Answers (.leatSlotDone codes) s (Noted 117 (sarWork { s.toDev with aux := failed }))) ∧
        (leatTol s.toDev vp < off vp → Plain s.toDev 117 → mbit s.aux.warn (n - 1) = false →
          Answers (.leatSlotDone codes) s (Noted 117 (serveDac (sarWork { s.toDev with aux := { failed with toVerify := [(n, vp)] } })))))) ∧
    (∀ (codes : List (BitVec 12)) (n : Nat), awake s.toDev = true → s.aux.user = .leat → s.aux.slotOf = some n →
      s.aux.slotVerify = true →
      let c (i : Nat) : Rat := (nth ((codes.take 4).map BitVec.toNat) i 0 : Nat)
      let off := rabs (leatUv s.toDev n ((c 0 + c 1) / 2) - dacUv ((c 2 + c 3) / 2))
      let done : Aux := { s.aux with slotOf := none, slotVerify := false, verify := none, verifyOn := false, dacUser := .unused
                                     dacSettled := false, bypass := false }
      (off ≤ leatTol s.toDev s.aux.verifyVp → Answers (.leatSlotDone codes) s (Beside (sarWork { s.toDev with aux := done }))) ∧
      (leatTol s.toDev s.aux.verifyVp < off → Plain s.toDev 118 → Answers (.leatSlotDone codes) s (Noted 118 (sarWork { s.toDev with
        aux := { done with excluded := mset s.aux.excluded (n - 1) true, confirm := mset s.aux.confirm (n - 1) false } })))) ∧
    (∀ codes, (awake s.toDev = false ∨ s.aux.user ≠ .leat ∨ s.aux.slotOf = none) → Answers (.leatSlotDone codes) s (Beside s.toDev)) ∧
    (awake s.toDev = true → s.aux.verify ≠ none → s.aux.dacUser = .leat → Answers .leatVerifySwitch s (Beside { s.toDev with
      aux := { s.aux with verifyOn := true, dacSettled := true } })) ∧
    ((awake s.toDev = false ∨ s.aux.verify = none ∨ s.aux.dacUser ≠ .leat) → Answers .leatVerifySwitch s (Beside s.toDev)) ∧
    (awake s.toDev = true →
      (s.aux.dacUser ≠ .unused → s.aux.dacUser ≠ .diag → Answers .testDacSettled s (Beside { s.toDev with aux.dacSettled := true })) ∧
      (s.aux.dacUser = .diag → s.aux.diagStep = 0 → Answers .testDacSettled s (Beside { s.toDev with
        aux := { s.aux with diagStep := 1, dacCode := if s.aux.target ≤ 72 then 744 else 465, dacSettled := false } })) ∧
      (s.aux.dacUser = .diag → s.aux.diagStep ≠ 0 → Answers .testDacSettled s (Beside { s.toDev with
        aux := { s.aux with diagStep := 2, bypass := true, dacSettled := true } }))) ∧
    ((awake s.toDev = false ∨ s.aux.dacUser = .unused) → Answers .testDacSettled s (Beside s.toDev))

/-- On a calm block. Awake with WIRE_PERIOD not 0 and no run going on, the period starts a run at the first eligible
target, none where there is none, and notes the AX inputs that the table names; else nothing happens. Awake, the end
of a pull (for PATH and AX_PATH after both codes) judges the target on its readings: its bit shows the outcome, it
recovers, the DAC is freed where the check had it, and a failure raises EV119, where that has no reaction; else
nothing happens. Awake, the end of a recovery enables the disturbed channels that are converted with their settling
counts and goes on with the next eligible target, or ends the run; else nothing happens. A waiting check then begins
where its mode lets it (serveDac). On a block that is calm but for a check that waits for its gap: the time-out, awake
in transit mode with a target up to PATH, lets the check begin; an OPEN_C or OPEN_SB check that is still eligible and
finds no gap begins with its cells disabled. Where no check waits, nothing happens. [06_aux_path_and_leat.md section
Input diagnosis; 06_aux_path_and_leat.md section The test DAC] -/
def Obligations.InputDiagnosisRuns : Prop :=
  ∀ s : State,
    (Calm s.toDev →
      (awake s.toDev = true → itemN s.toDev 0x0209 ≠ 0 → s.aux.running = false →
        let d1 : Dev := { s.toDev with aux := { s.aux with
          running := true, axAtStart := mof 16 ((s.aux.table.map entrySrc).filter (· < 16)) } }
        Answers .wireCheckPeriod s (Beside (match (List.range 89).find? (fun i => decide (0 ≤ i) && diagEligible d1 i) with
          | some i => serveDac { d1 with aux.target := i, aux.gapWait := true, aux.noGap := false }
          | none => { d1 with aux.running := false, aux.gapWait := false, aux.noGap := false, aux.target := 0 }))) ∧
      ((awake s.toDev = false ∨ itemN s.toDev 0x0209 = 0 ∨ s.aux.running = true) → Answers .wireCheckPeriod s (Beside s.toDev)) ∧
      (∀ readings, awake s.toDev = true → s.aux.pulling = true → (s.aux.target < 49 ∨ 2 ≤ s.aux.diagStep) →
        let f := diagFails s.toDev readings
        let d1 := diagBit s.aux.target f { s.toDev with aux := { s.aux with pulling := false, recovering := true } }
        let d2 := if s.aux.dacUser = .diag then
          { d1 with aux.dacUser := .unused, aux.dacSettled := false, aux.bypass := false } else d1
        (f = false → Answers (.diagPullEnd readings) s (Beside d2)) ∧
        (f = true → Plain s.toDev 119 → Answers (.diagPullEnd readings) s (Noted 119 d2))) ∧
      (∀ readings, (awake s.toDev = false ∨ s.aux.pulling = false ∨ (49 ≤ s.aux.target ∧ s.aux.diagStep < 2)) →
        Answers (.diagPullEnd readings) s (Beside s.toDev)) ∧
      (awake s.toDev = true → s.aux.recovering = true →
        let back := (mlist s.conv.disabledDiag).filter (fun c => mbit s.conv.enable c)
        Answers .diagRecoverEnd s (Beside (serveDac (diagNext (s.aux.target + 1) (back.foldl (fun d c => enableChannel c d)
          { s.toDev with aux.recovering := false, conv.disabledDiag := 0 }))))) ∧
      ((awake s.toDev = false ∨ s.aux.recovering = false) → Answers .diagRecoverEnd s (Beside s.toDev)) ∧
      Answers .diagNoGapTimeout s (Beside s.toDev)) ∧
    (s.cmd.busy = none → s.cmd.waiting = [] → Unarmed s.toDev → s.aux.toVerify = [] → s.bist.waiting = none → s.aux.gapWait = true →
      awake s.toDev = true → s.aux.running = true → s.conv.mode = 0 → s.aux.target ≤ 72 →
      Answers .diagNoGapTimeout s (Beside (serveDac { s.toDev with aux.noGap := true })) ∧
      (s.aux.target ≤ 48 → s.aux.recovering = false → diagEligible s.toDev s.aux.target = true →
        gapNow s.toDev (targetCells s.toDev s.aux.target) = false →
        Answers .diagNoGapTimeout s (Beside { s.toDev with
          aux := { s.aux with pulling := true, gapWait := false, noGap := false, diagStep := 0, bypass := false }
          conv := { s.conv with disabledDiag := mof 24 ((targetCells s.toDev s.aux.target).map (· - 1)) } })))

/-- On a calm block outside a retrain and a transition, room in the hold buffer. A change of a powered comparator's output
is noted with its instant; it is effective at the deglitch's expiry, at once without a deglitch, and, for one
reconnected by a check reading without a deglitch, then. Effective means: unarmed, isolated for a check, or at its
level, nothing; else the level follows, the rise or fall flag is set, a rise of a cell comparator ends INIT_IN_BAND, a
rise of a WAKE class sets WAKE and its class, the edge record is written with the output's instant, a cell
comparator's level moves TRIPN (followTrip), an AX input's side is noted, and a rise raises the comparator's event,
where that has no reaction; while the core die is in reset there is no record and no event. With TRIPN low before, the
rise of an armed cell comparator asserts it with LOCAL_LATCH and sets FAULTN's stretcher and LATCH. An unchanged
output, or a comparator that is not powered, changes nothing. [07_comparators_and_trip.md section Edges, records and
events; 07_comparators_and_trip.md section The trip path; 07_comparators_and_trip.md section Comparators and their
settings; 15_faults_and_sluices.md section FAULTN] -/
def Obligations.ComparatorLevelsAndTrip : Prop :=
  ∀ (s : State) (k : Fin 64), Calm s.toDev → s.d2d.retrain = false → s.power.opTarget = none → holdFull s.toDev = false →
    let effective (c : Instr) (d : Dev) : Prop :=
      let hi := mbit d.cmp.raw k
      let at_ := (akey d.cmp.rawAt k).getD (d.tb.period, phaseNow d)
      let wakes := hi && (itemN d 0x030A).testBit (cmpClass k)
      let d1 : Dev := { d with
        cmp := { d.cmp with level := mset d.cmp.level k hi
                            rise := if hi then mset d.cmp.rise k true else d.cmp.rise
                            fall := if hi then d.cmp.fall else mset d.cmp.fall k true
                            inband := if hi ∧ k.val < 48 then mset d.cmp.inband k false else d.cmp.inband }
        power := { d.power with wakeOut := d.power.wakeOut || wakes }
        trip := { d.trip with wakeClass := if wakes then mset d.trip.wakeClass (cmpClass k) true else d.trip.wakeClass } }
      let d2 := if d.power.coreReset then d1 else edgeRecord k hi false at_.1 (Word.of at_.2) d1
      let d3 := if k.val < 48 then followTrip d2 else noteAxSide k d2
      ((mbit d.cmp.armed k = false ∨ isolated d k = true ∨ mbit d.cmp.level k = hi) → Answers c s (Beside d)) ∧
      (mbit d.cmp.armed k = true → isolated d k = false → mbit d.cmp.level k ≠ hi →
        ((hi = false ∨ d.power.coreReset = true) → Answers c s (Beside d3)) ∧
        (hi = true → d.power.coreReset = false → Plain s.toDev k → Answers c s (Noted k d3)))
    (cmpPowered s.toDev = true →
      effective (.cmpDeglitchExpiry k) s.toDev ∧
      (∀ level, mbit s.cmp.raw k ≠ level →
        let d : Dev := { s.toDev with cmp := { s.cmp with
          raw := mset s.cmp.raw k level, rawAt := aset s.cmp.rawAt k (s.tb.period, phaseNow s.toDev) } }
        (nth s.cmp.dgl (cmpClass k) 0 ≠ 0 → Answers (.cmpOutputChange k level) s (Beside d)) ∧
        (nth s.cmp.dgl (cmpClass k) 0 = 0 → effective (.cmpOutputChange k level) d)) ∧
      (∀ level, isolated s.toDev k = true → nth s.cmp.dgl (cmpClass k) 0 = 0 →
        effective (.cmpCheckRead k level) (checkOn k { s.toDev with
          cmp.checkBad := s.cmp.checkBad || !checkPasses s.toDev k level }))) ∧
    (awake s.toDev = true → s.power.coreReset = false → k.val < 48 → mbit s.cmp.raw k = true → mbit s.cmp.armed k = true →
      isolated s.toDev k = false → mbit s.cmp.level k = false → s.trip.tripn = false → Plain s.toDev k →
      Answers (.cmpDeglitchExpiry k) s (fun t => mbit t.cmp.level k = true ∧ mbit t.cmp.rise k = true ∧ mbit t.host.evf k = true ∧
        t.trip.tripn = true ∧ t.trip.localLatch = true ∧ t.fault.stretch = true ∧ t.fault.latch = true)) ∧
    (∀ level, mbit s.cmp.raw k = level → Answers (.cmpOutputChange k level) s (Beside s.toDev)) ∧
    (cmpPowered s.toDev = false → (∀ level, Answers (.cmpOutputChange k level) s (Beside s.toDev)) ∧
      Answers (.cmpDeglitchExpiry k) s (Beside s.toDev))

/-- On a calm block. Awake, applying a comparator's settings takes its threshold and its class's hysteresis and deglitch
from the items, and no other threshold; not awake nothing happens. A reading of the comparator under check, the test
DAC settled, counts as bad where it is not the inverse of its level after the swap, high at an odd tie level, low at
an even one; after the swap the check goes on at the same DAC level; after a tie level that is not the last it goes to
the next one, whose DAC code is set and not settled, the comparator connected; after the last (the second, of an AX
window the fourth) it ends. This is so with a deglitch set, after the swap, and where the comparator is unarmed or at
its output. A reading for a comparator that is not isolated changes nothing. [07_comparators_and_trip.md section
Comparators and their settings; 07_comparators_and_trip.md section Checking a comparator; 16_periodic_self_test.md
section Kinds and units] -/
def Obligations.ComparatorSettingsAndChecks : Prop :=
  ∀ (s : State) (k : Fin 64), Calm s.toDev →
    (awake s.toDev = true → Answers (.cmpSettingApply k) s (Beside { s.toDev with cmp := { s.cmp with
      th := s.cmp.th.set k (if k.val < 24 then (itemN s.toDev (0x0311 + k), 0) else if k.val < 48 then (itemN s.toDev (0x0331 + (k - 24)), 0)
        else (itemN s.toDev (0x0351 + (k - 48)) % 2 ^ 12, itemN s.toDev (0x0351 + (k - 48)) / 2 ^ 16))
      hys := s.cmp.hys.set (cmpClass k) (itemN s.toDev (nth [0x0303, 0x0304, 0x0308] (cmpClass k) 0))
      dgl := s.cmp.dgl.set (cmpClass k) (itemN s.toDev (nth [0x0305, 0x0306, 0x0309] (cmpClass k) 0)) } })) ∧
    (awake s.toDev = false → Answers (.cmpSettingApply k) s (Beside s.toDev)) ∧
    (∀ level, s.cmp.check = some k.val → s.aux.dacSettled = true →
      (nth s.cmp.dgl (cmpClass k) 0 ≠ 0 ∨ s.cmp.checkStep = 0 ∨ mbit s.cmp.armed k = false ∨ mbit s.cmp.level k = mbit s.cmp.raw k) →
      let good := if s.cmp.checkStep = 0 then level != swapLevel s.toDev k else level == (s.cmp.checkStep % 2 == 1)
      let last := if k.val < 48 then 2 else 4
      let read : Cmp := { s.cmp with checkBad := s.cmp.checkBad || !good }
      (s.cmp.checkStep = 0 → Answers (.cmpCheckRead k level) s (Beside { s.toDev with cmp := { read with checkStep := 1 } })) ∧
      (0 < s.cmp.checkStep → s.cmp.checkStep < last → Answers (.cmpCheckRead k level) s (Beside { s.toDev with
        cmp := { read with checkStep := s.cmp.checkStep + 1 }
        aux := { s.aux with dacCode := tieCode s.toDev k (s.cmp.checkStep + 1), dacSettled := false } })) ∧
      (last ≤ s.cmp.checkStep → Answers (.cmpCheckRead k level) s (Beside { s.toDev with
        cmp := { read with check := none, checkStep := 0 } }))) ∧
    (∀ level, (s.cmp.check ≠ some k.val ∨ s.aux.dacSettled = false) → Answers (.cmpCheckRead k level) s (Beside s.toDev))

/-- On a calm block. With the comparators powered, a TRIP sets RX_LATCH with its port and instant, the port added where it
comes within 12 cycles of the first one latched and else left; outside the safe state, where there is a port to
forward by, the forwarding is noted; on the head, and on a member with TRIP_RX_FAULTN, FAULTN's stretcher runs and
LATCH is set. Not powered, nothing happens. A deferred insertion, outside the safe state, leaves by the trip ports and
counts once up to 255; with no trip port it is given up. With none deferred, or in the safe state, nothing happens.
[07_comparators_and_trip.md section The trip path; 15_faults_and_sluices.md section FAULTN] -/
def Obligations.ReceivedTripsAreLatchedAndForwarded : Prop :=
  ∀ s : State, Calm s.toDev →
    (∀ p : Port, cmpPowered s.toDev = true →
      let bit_ : BitVec 2 := if p = .A then 1 else 2
      let goes : Bool := !s.power.safeForced && !(fwdTo p s.toDev).isEmpty
      let trip : Trip := { s.trip with
        rxLatch := true
        rxPort := if s.trip.rxLatch = false then bit_ else if s.now ≤ s.trip.rxAt + 12 then s.trip.rxPort ||| bit_ else s.trip.rxPort
        rxAt := if s.trip.rxLatch then s.trip.rxAt else s.now
        forwarding := s.trip.forwarding || goes
        fwdAt := if goes then s.now else s.trip.fwdAt }
      ((isHead s.toDev = true ∨ itemN s.toDev 0x030B = 1) → Answers (.tripRx p) s (Beside { s.toDev with
        trip := trip, fault := { s.fault with stretch := true, latch := true } })) ∧
      (isHead s.toDev = false → itemN s.toDev 0x030B ≠ 1 → Answers (.tripRx p) s (Beside { s.toDev with trip := trip }))) ∧
    (∀ p, cmpPowered s.toDev = false → Answers (.tripRx p) s (Beside s.toDev)) ∧
    (s.trip.deferred = true → s.power.safeForced = false →
      (tripPorts s.toDev ≠ [] → Answers .tripInsertDeferred s (Beside { s.toDev with
        trip := { s.trip with deferred := false, outPorts := portMask (tripPorts s.toDev), insertCnt := satInc 255 s.trip.insertCnt } })) ∧
      (tripPorts s.toDev = [] → Answers .tripInsertDeferred s (Beside { s.toDev with trip.deferred := false }))) ∧
    ((s.trip.deferred = false ∨ s.power.safeForced = true) → Answers .tripInsertDeferred s (Beside s.toDev))

/-- On a calm block. Awake, a balance period's boundary counts BP, takes BAL_START, BAL_STAGGER and each duty times the
derate factor rounded down, shows the factor, holds excitation where it is below 1, uses PHASE timing where it can be
used and is anchored or in use, and begins step 0; a step below 255 moves on by one. A step begins with the cap judged
afresh: the FETs that it refuses are held and counted. Awake, a stale temperature is noted. Elsewhere these rows
change nothing. [08_balancing.md section Duty and timing; 08_balancing.md section What holds a FET off;
08_balancing.md section The current cap] -/
def Obligations.BalancePeriodsAndSteps : Prop :=
  ∀ s : State, Calm s.toDev →
    let begun (k : Nat) (d : Dev) : Dev :=
      let d1 : Dev := { d with bal.step := k, bal.capHeld := 0 }
      let r := capRefused d1 0 (admitOrder d1)
      { d1 with bal.capHeld := mof 24 (r.map (· - 1)), bal.capSteps := satAdd (2 ^ 32 - 1) d.bal.capSteps r.length }
    let f := derateNum s.toDev
    let phase := itemN s.toDev 0x0401 = 1 && !phaseBarred s.toDev && (s.bal.phaseTiming || !s.bal.anchorDue)
    (awake s.toDev = true → Answers .balPeriodBoundary s (Beside (begun 0 { s.toDev with bal := { s.bal with
      bp := s.bal.bp + 1, startNow := itemN s.toDev 0x0403, staggerNow := itemN s.toDev 0x0404
      dutyNow := s.bal.duty.map (fun x => x * f / 256000), derate := 256 * f / 256000, excHeld := decide (f < 256000)
      phaseTiming := phase
      fallback := itemN s.toDev 0x0401 = 1 && !phase && (s.bal.fallback || phaseBarred s.toDev) } }))) ∧
    (awake s.toDev = true → s.bal.step < 255 → Answers .balStep s (Beside (begun (s.bal.step + 1) s.toDev))) ∧
    ((awake s.toDev = false ∨ 255 ≤ s.bal.step) → Answers .balStep s (Beside s.toDev)) ∧
    (awake s.toDev = true → Answers .tempStale s (Beside { s.toDev with bal.tempStale := true })) ∧
    (awake s.toDev = false → Answers .balPeriodBoundary s (Beside s.toDev) ∧ Answers .tempStale s (Beside s.toDev))

/-- On a calm awake block. Outside a retrain and a transition an interval's end takes the readings as senseData says,
where EV121 has no reaction: each present cell's, at most 4095, is shown; a FET that was on throughout takes it as its
estimate; the eighth reading in a row of one that was on, below BAL_OPEN_MA, sets FAULT_OPEN where it was clear. In a
retrain the interval waits in the hold buffer without the groups that find no room, in a transition in the receive
buffer. An overcurrent of a present cell's FET not yet latched latches it and the FET does not conduct; where EV121
has no reaction, its occurrence is all else; else nothing happens. A present cell's plan at its time limit ends: duty
0, BAL_DONE set, its claim released, an entry of origin FIRMWARE made; without a plan nothing happens. On a calm block
that is not awake interval and overcurrent change nothing. [08_balancing.md section FET faults; 08_balancing.md
section Balancing commands; 08_balancing.md section Currents; 01_architecture.md section The hold buffer and a
retrain] -/
def Obligations.SenseReadingsAndFetFaults : Prop :=
  ∀ s : State, Calm s.toDev →
    (∀ readings : List Nat, awake s.toDev = true →
      let i : SenseInt := ⟨s.now, (List.range s.part.cells).map (fun j => nth readings j 0),
        if s.d2d.retrain then droppedBeats (s.part.cells / 4) (32 - holdSize s.toDev) else 0, s.bal.onAll, s.bal.offAll⟩
      let d1 : Dev := { s.toDev with bal := { s.bal with onAll := s.pins.sb, offAll := ~~~ s.pins.sb } }
      (s.d2d.retrain = false → s.power.opTarget = none → escReaction s.toDev 121 = 0 →
        Answers (.isenseIntervalEnd readings) s (fun t => Beside (senseData i d1) t ∧
          ∀ n, cellPresent s.toDev n = true → nth t.bal.sense (n - 1) 0 = min 4095 (nth readings (n - 1) 0) ∧
            (mbit s.bal.onAll (n - 1) = true → s.bal.est.length = 24 →
              nth t.bal.est (n - 1) none = some (min 4095 (nth readings (n - 1) 0))) ∧
            (mbit s.bal.onAll (n - 1) = true → nth s.bal.openRun (n - 1) 0 = 7 →
              min 4095 (nth readings (n - 1) 0) < itemN s.toDev 0x0408 * 10 → mbit t.bal.faultOpen (n - 1) = true))) ∧
      (s.d2d.retrain = true → Answers (.isenseIntervalEnd readings) s (Beside { d1 with
        d2d := { s.d2d with hold := s.d2d.hold ++ [.sense i] } })) ∧
      (s.d2d.retrain = false → s.power.opTarget ≠ none → Answers (.isenseIntervalEnd readings) s (Beside { d1 with
        d2d := { s.d2d with rxBuf := s.d2d.rxBuf ++ [.sense i] } }))) ∧
    (∀ n, awake s.toDev = true → cellPresent s.toDev n = true → mbit s.bal.faultOc (n - 1) = false →
      Answers (.balFetOvercurrent n) s (fun t => mbit t.bal.faultOc (n - 1) = true ∧ mbit t.pins.sb (n - 1) = false ∧
        (Plain s.toDev 121 → Noted 121 { s.toDev with bal.faultOc := mset s.bal.faultOc (n - 1) true } t))) ∧
    (∀ n, (awake s.toDev = false ∨ cellPresent s.toDev n = false ∨ mbit s.bal.faultOc (n - 1) = true) →
      Answers (.balFetOvercurrent n) s (Beside s.toDev)) ∧
    (∀ n, cellPresent s.toDev n = true → nth s.bal.plans (n - 1) none ≠ none →
      Answers (.balPlanTimeLimit n) s (Beside (jchange (fwCtx 3) (0x0480 + n) (Word.of (nth s.bal.duty (n - 1) 0)) 0
        { s.toDev with bal := { s.bal with
          duty := s.bal.duty.set (n - 1) 0, plans := s.bal.plans.set (n - 1) none, done := mset s.bal.done (n - 1) true
          owner := if nth s.bal.owner (n - 1) 0 = 0x38 then s.bal.owner.set (n - 1) 0 else s.bal.owner } }))) ∧
    (∀ n, (cellPresent s.toDev n = false ∨ nth s.bal.plans (n - 1) none = none) → Answers (.balPlanTimeLimit n) s (Beside s.toDev)) ∧
    (∀ readings, awake s.toDev = false → Answers (.isenseIntervalEnd readings) s (Beside s.toDev))

/-- On a calm block with the timer running and BAL_TIMEOUT_S not 0: TIMEOUT is set, the timer stops, every present cell of
BAL_SET without a plan has duty 0 and is released, every other keeps duty and owner, every driver of ACTIVE_SET has
command 0, every other keeps its command; beside these and the journal entries nothing changes. With the timer stopped
or BAL_TIMEOUT_S 0 nothing happens. [08_balancing.md section Balancing commands] -/
def Obligations.BalanceTimeoutClearsCommands : Prop :=
  ∀ s : State, Calm s.toDev →
    (s.bal.timerOn = true → itemN s.toDev 0x0407 ≠ 0 → Answers .balTimeout s (fun t =>
      (∀ n, cellPresent s.toDev n = true → nth s.bal.owner (n - 1) 0 = 0x38 → nth s.bal.plans (n - 1) none = none →
        nth t.bal.duty (n - 1) 0 = 0 ∧ nth t.bal.owner (n - 1) 0 = 0) ∧
      (∀ n, 1 ≤ n → (cellPresent s.toDev n = false ∨ nth s.bal.owner (n - 1) 0 ≠ 0x38 ∨ nth s.bal.plans (n - 1) none ≠ none) →
        nth t.bal.duty (n - 1) 0 = nth s.bal.duty (n - 1) 0 ∧ nth t.bal.owner (n - 1) 0 = nth s.bal.owner (n - 1) 0) ∧
      (∀ b, b < 4 → (bank t b).cmd = if (bank s.toDev b).owner = 0x3A then 0 else (bank s.toDev b).cmd) ∧
      t.banks.map (fun x => { bankCore x with cmd := 0 }) = s.banks.map (fun x => { bankCore x with cmd := 0 }) ∧
      Beside { s.toDev with
        bal := { s.bal with timeout := true, timerOn := false, duty := t.bal.duty, owner := t.bal.owner, plans := t.bal.plans }
        banks := t.banks, jrn := t.jrn } t ∧ ∀ n, nth t.bal.plans n none = nth s.bal.plans n none)) ∧
    ((s.bal.timerOn = false ∨ itemN s.toDev 0x0407 = 0) → Answers .balTimeout s (Beside s.toDev))

/-- On a calm block, for a bank. Awake, with bank drivers, on and not fenced, a PWM period applies the next command, keeps
the reading with its instant and counts readings out of 250 to 4750 mV in a row up to 4; excitation notes muted tones
and shows them as LIMIT; a driver of ACTIVE_SET with command 0 that has reached it outside a ramp before a power state
turns off and is released. Without a comparator interlock arising, the applied command is that one; without
excitation, interlock and such a ramp it is within ACT_SLEW of the last, toward the set command. A driver on with 4
such readings stops with FAULT_SENSE and raises EV122 (no reaction). Awake with bank drivers, 1 ms shows the mean of
its readings and judges it: outside ACT_ERR_MA of the applied command, on, not fenced and not ramping counts a run;
the tenth stops the driver with FAULT_ERR and EV122 (no reaction). Else these rows change nothing. An edge of an
excited FET in excitation of a plan follows its tone's half unless a tone is muted; of another FET it changes nothing.
[08_balancing.md section Active bank drivers; 08_balancing.md section Excitation commands; 09_impedance.md section
Excitation] -/
def Obligations.BankDriversRampAndFault : Prop :=
  ∀ (s : State) (b : Fin 4), Calm s.toDev →
    let x := bank s.toDev b
    let upd (f : Bank → Bank) (d : Dev) : Dev := { d with banks := d.banks.modify b f }
    let stopped (f : Bank → Bank) : Dev :=
      upd (fun y => { f y with on := false, applied := 0, excite := false }) s.toDev
    let d0 := if x.excite then noteMuted s.toDev else s.toDev
    let a := nextApplied d0 b x
    let off := !x.excite && x.cmd = 0 && a = 0 && x.owner == 0x3A && !s.power.ramping
    let mean := meanMeas s.toDev x
    let e := mean * 100 - meanRef x
    let lim : Int := itemN s.toDev 0x0432 * 1000
    let bad := x.on && !bankFenced s.toDev (b + 1) && !ramping x && (decide (lim < e) || decide (e < -lim))
    let meant (y : Bank) : Bank := { y with iMeas := mean, appSum := 0, appCnt := 0, refMean := x.excite
                                            devRun := if bad then (x.devRun + 1) % 10 else 0 }
    (∀ mV, s.part.hasBanks = true → awake s.toDev = true → x.on = true → bankFenced s.toDev (b + 1) = false → s.banks.length = 4 →
      Answers (.actPwmPeriod b mV) s (fun t =>
        Beside (upd (fun y => { y with
          applied := a, badRun := if mV < 250 ∨ 4750 < mV then min 4 (x.badRun + 1) else 0
          seen := ((s.now, senseCurrent s.toDev mV) :: x.seen).take 16384
          appSum := x.appSum + a, appCnt := x.appCnt + 1, refMean := x.refMean || x.excite
          limit := x.limit || (x.excite && d0.eis.muted != 0)
          on := !off, owner := if off then 0 else x.owner }) d0) t ∧
        (bankLevels s.toDev b = false → (bank t b).applied = a))) ∧
    (x.interlock = false → x.excite = false → s.power.ramping = false →
      let m : Int := itemN s.toDev 0x0431 * 250
      a = x.applied + clampInt (-m) m (x.cmd * 1000 - x.applied)) ∧
    (∀ mV, (s.part.hasBanks = false ∨ awake s.toDev = false ∨ x.on = false ∨ bankFenced s.toDev (b + 1) = true) →
      Answers (.actPwmPeriod b mV) s (Beside s.toDev)) ∧
    (s.part.hasBanks = true → x.on = true → 4 ≤ x.badRun → Plain s.toDev 122 →
      Answers (.actSenseFault b) s (Noted 122 (stopped (fun y => { y with faultSense := true, badRun := 0 })))) ∧
    ((s.part.hasBanks = false ∨ x.on = false ∨ x.badRun < 4) → Answers (.actSenseFault b) s (Beside s.toDev)) ∧
    (s.part.hasBanks = true → awake s.toDev = true →
      ((bad = false ∨ x.devRun < 9) → Answers (.actMeanMs b) s (Beside (upd meant s.toDev))) ∧
      (bad = true → 9 ≤ x.devRun → Plain s.toDev 122 →
        Answers (.actMeanMs b) s (Noted 122 (stopped (fun y => { meant y with faultErr := true }))))) ∧
    ((s.part.hasBanks = false ∨ awake s.toDev = false) → Answers (.actMeanMs b) s (Beside s.toDev)) ∧
    (∀ n p, s.eis.plan = some p → cellPresent s.toDev n = true → fetExcited s.toDev n = true → mbit s.eis.fetsOn (n - 1) = true →
      let d1 := noteMuted s.toDev
      Answers (.exciteFetEdge n) s (Beside { d1 with
        bal.exciteOn := mset s.bal.exciteOn (n - 1) (fetOnHalf s.toDev p n && d1.eis.muted == 0) })) ∧
    (∀ n, (s.eis.plan = none ∨ cellPresent s.toDev n = false ∨ fetExcited s.toDev n = false ∨ mbit s.eis.fetsOn (n - 1) = false) →
      Answers (.exciteFetEdge n) s (Beside s.toDev))

/-- On a calm block. The dispatcher takes from the safety class where a job waits there, else from the first class whose
head has been passed over 256 times, else from the lowest class with a job. Awake, that head goes to the candidate
engine with the lowest load, the lowest number on a tie, as placeOn says (a twin beside its waiting partner only where
two engines can take one): it leaves every class flume, joins the engine's flume behind jobs of its own or a higher
class, before lower ones; other engines stay. No job, no candidate, or not awake: nothing happens. Awake, an engine in
service that runs nothing takes the head of its flume, no memory word being bad: read unchanged with its kernel's
generation it runs from now (runDesc); with another generation it is freed; changed with a CRC that holds it runs as
read; with a CRC that fails it is lost (crcLost), counted in DESC_CRC_CNT, and EV85 raised (no reaction; no impedance
plan, no engine DRAINING). Else a start changes nothing. [10_engines_and_flumes.md section From generator to engine;
10_engines_and_flumes.md section Engines; 10_engines_and_flumes.md section The job descriptor] -/
def Obligations.JobsAreDispatchedAndStarted : Prop :=
  ∀ s : State, Calm s.toDev →
    let head (c : Nat) : Option Desc := (nth s.eng.classes c []).head?.bind (desc s.toDev)
    (∀ c x, c < 8 → head c = some x → (∀ i, i < c → head i = none) →
      ((c = 0 ∨ ∀ i y, i < 8 → head i = some y → y.passed < 256) → dispatchClass s.toDev = some c)) ∧
    (∀ c y, c < 8 → head 0 = none → head c = some y → 256 ≤ y.passed →
      (∀ i z, i < c → head i = some z → z.passed < 256) → dispatchClass s.toDev = some c) ∧
    (∀ (c : Nat) (x : Desc) (e : Nat), awake s.toDev = true → dispatchClass s.toDev = some c → head c = some x →
      (pairWaits s.toDev x = false ∨ 2 ≤ (candidates s.toDev x).length) →
      e ∈ candidates s.toDev x →
      (∀ f ∈ candidates s.toDev x, engineLoad s.toDev e ≤ engineLoad s.toDev f ∧
        (engineLoad s.toDev f ≤ engineLoad s.toDev e → e ≤ f)) →
      Answers .jobDispatch s (fun t => Beside (placeOn x c e s.toDev) t ∧
        t.eng.classes = s.eng.classes.map (fun l => l.filter (· != x.id)) ∧
        ((∀ a ∈ (eng s.toDev e).flume, ∃ y, desc s.toDev a = some y ∧ y.cls ≤ x.cls) →
          (eng t e).flume = (eng s.toDev e).flume ++ [x.id]) ∧
        ((∀ a ∈ (eng s.toDev e).flume, ∃ y, desc s.toDev a = some y ∧ x.cls < y.cls) →
          (eng t e).flume = x.id :: (eng s.toDev e).flume) ∧
        (∀ f, f ≠ e → eng t f = eng s.toDev f))) ∧
    ((awake s.toDev = false ∨ dispatchClass s.toDev = none ∨ ∃ c x, dispatchClass s.toDev = some c ∧ head c = some x ∧
        (candidates s.toDev x = [] ∨ (pairWaits s.toDev x = true ∧ (candidates s.toDev x).length < 2))) →
      Answers .jobDispatch s (Beside s.toDev)) ∧
    (∀ (e : Fin 16) (x : Desc) (damage : BitVec 256), awake s.toDev = true → inService (eng s.toDev e) = true →
      (eng s.toDev e).running = none → (eng s.toDev e).flume.head?.bind (desc s.toDev) = some x → s.fault.sramBad = [] →
      let d1 := modEng e (fun y => { y with flume := y.flume.filter (· != x.id) }) s.toDev
      let y := if damage = 0 then x else descOfImage (descImage x ^^^ damage) x
      let good := damage = 0 ∨ imageGood (descImage x ^^^ damage) = true
      (good → y.gen = currentGen s.toDev y.kernel → Answers (.jobStart e damage) s (fun t =>
        Beside (runDesc e y (modDesc x.id (fun _ => y) d1)) t ∧ (eng t e).running = some x.id ∧ (eng t e).startAt = s.now ∧
        (eng t e).flume = (eng s.toDev e).flume.filter (· != x.id))) ∧
      (good → y.gen ≠ currentGen s.toDev y.kernel → s.eis.plan = none → (∀ f, f < 16 → (eng s.toDev f).state ≠ .draining) →
        Answers (.jobStart e damage) s (Beside (freeDesc x.id d1))) ∧
      (¬ good → s.eis.plan = none → (∀ f, f < 16 → (eng s.toDev f).state ≠ .draining) → x.role ≠ 3 → Plain s.toDev 85 →
        Answers (.jobStart e damage) s (Noted 85 (crcLost x { d1 with eng.descCrc := satInc 255 s.eng.descCrc })))) ∧
    (∀ (e : Fin 16) damage, (awake s.toDev = false ∨ inService (eng s.toDev e) = false ∨ (eng s.toDev e).running ≠ none ∨
        (eng s.toDev e).flume.head?.bind (desc s.toDev) = none) → Answers (.jobStart e damage) s (Beside s.toDev))

/-- On a calm block with no source set to SAFE_STATE. A running job that completes leaves its engine free with JOBS one
higher and its result in the data area (leaveRun); a single job then has its kernel's effect (singleDone), a twin's
half is written and compared (twinDone), an arbiter decides (arbiterDone), on what the operand gives or the ROM kernel
computes; the engine rescues a job and what waited for the end goes on. With no impedance plan: a STATS job of its
generation shows its results and frees its descriptor; a twin whose partner has not written keeps its half; equal
halves free both descriptors; differing ones create an arbiter where the pool grants it and an engine that ran neither
is in service. An engine that runs no job changes nothing. A half written whose partner has not, or is gone, drops the
pair at the time-out (dropTwin); with no plan and a partner that does not run both descriptors are free, UNRESOLVED
counts and EV81 is set. Any other descriptor's time-out changes nothing. [10_engines_and_flumes.md section Twins;
10_engines_and_flumes.md section ROM kernels; 10_engines_and_flumes.md table "Engine states"] -/
def Obligations.JobsEndAndTwinsAreCompared : Prop :=
  ∀ s : State, Calm s.toDev → (∀ k, k < 128 → escReaction s.toDev k ≠ 5) →
    (∀ (e : Fin 16) (x : Desc) (r : List Word), (eng s.toDev e).running.bind (desc s.toDev) = some x →
      let d1 := leaveRun e x r (stopRun e s.toDev)
      let d2 := if x.role = 0 then singleDone x d1
        else if x.role = 3 then arbiterDone x (safetyResult s.toDev x r) d1 else twinDone x (safetyResult s.toDev x r) d1
      Answers (.jobComplete e r) s (Beside (serveWindows (drainOut (rescue e d2))))) ∧
    (∀ (e : Fin 16) (x : Desc) (r : List Word), s.eis.plan = none → (eng s.toDev e).running = some x.id → desc s.toDev x.id = some x →
      Answers (.jobComplete e r) s (fun t => (eng t e).running = none ∧ (eng t e).jobs = ((eng s.toDev e).jobs + 1) % 2 ^ 32 ∧
        (x.role = 0 → x.kernel = 2 → x.gen = currentGen s.toDev 2 → desc t x.id = none ∧
          t.eng.statsRes = some (x.win, (List.range 25).map (fun c =>
            if (enabledChans s.toDev).contains c then chanStats (jobRecs s.toDev x) c else []))) ∧
        (∀ y, x.role = 1 → r ≠ [] → desc s.toDev x.twin = some y → y.twin = x.id → x.twin ≠ x.id → y.role = 2 →
          (y.half = none → (desc t x.id).map (fun z => z.half) = some (some (r.map BitVec.toNat)) ∧ desc t y.id = some y) ∧
          (y.half = some (r.map BitVec.toNat) → desc t x.id = none ∧ desc t y.id = none) ∧
          (∀ h, y.half = some h → h ≠ r.map BitVec.toNat → 16 < freeCount s.toDev →
            (∃ f, f < 16 ∧ inService (eng s.toDev f) = true ∧ x.partner ≠ some f ∧ y.partner ≠ some f) →
            ∃ z ∈ t.eng.pool, z.role = 3 ∧ z.twin = x.id ∧ z.kernel = x.kernel ∧ z.cls = 0)))) ∧
    (∀ (e : Fin 16) r, (eng s.toDev e).running.bind (desc s.toDev) = none → Answers (.jobComplete e r) s (Beside s.toDev)) ∧
    (∀ (x : Desc) (id : Nat), desc s.toDev id = some x →
      let gone : Prop := (x.role = 1 ∨ x.role = 2) ∧ x.half ≠ none ∧
        (x.twin = id ∨ ∀ y, desc s.toDev x.twin = some y → y.twin = id → (y.role = 1 ∨ y.role = 2) → y.half = none)
      (gone → Answers (.twinTimeout id) s (Beside (serveWindows (drainOut (dropTwin x s.toDev))))) ∧
      (∀ y, gone → s.eis.plan = none → desc s.toDev x.twin = some y → isRunning s.toDev x.twin = false →
        Answers (.twinTimeout id) s (fun t => desc t id = none ∧ desc t x.twin = none ∧
          t.eng.unresolved = satInc 255 s.eng.unresolved ∧ mbit t.host.evf 81 = true)) ∧
      (¬ gone → Answers (.twinTimeout id) s (Beside s.toDev))) ∧
    (∀ id, desc s.toDev id = none → Answers (.twinTimeout id) s (Beside s.toDev))

/-- On a calm block with no impedance plan, no engine DRAINING and no source set to SAFE_STATE. For an engine that runs a
job: an overrun of a ROM kernel or a trap of any job abandons it (abandonJob), counts for the engine and raises EV83
or EV82, where that leads to no reaction; the engine is then free, the job returns to the head of its class flume with
RETRY set the first time, the second time a single job is freed. An overrun of a custom kernel discards its job,
counts in a row for the kernel, the eighth stopping its generator, and raises EV84 (no reaction); a single job is
freed. An overrun row on an engine whose job is of the other sort, and any of the rows on an engine that runs nothing,
changes nothing. [10_engines_and_flumes.md section Faults in the array; 10_engines_and_flumes.md section Custom
kernels; 15_faults_and_sluices.md section Event catalogue] -/
def Obligations.EngineFaultsAbandonTheirJob : Prop :=
  ∀ (s : State) (e : Fin 16), Calm s.toDev → s.eis.plan = none → (∀ f, f < 16 → (eng s.toDev f).state ≠ .draining) →
    (∀ k, k < 128 → escReaction s.toDev k ≠ 5) →
    (∀ x : Desc, (eng s.toDev e).running = some x.id → desc s.toDev x.id = some x →
      (x.kernel < 0x80 → Plain s.toDev 83 → Answers (.jobOverrun e) s (Noted 83
        (modEng e (fun y => { y with overruns := satInc 255 y.overruns }) (abandonJob e true s.toDev)))) ∧
      (Plain s.toDev 82 → Answers (.engineTrap e) s (Noted 82
        (modEng e (fun y => { y with traps := satInc 255 y.traps }) (abandonJob e true s.toDev)))) ∧
      (∀ k : Fin 4, x.kernel = 0x80 + k.val → Plain s.toDev 84 → Answers (.kernelOverrun e) s (Noted 84 (modKernel k (fun y =>
        { y with overRun := min 8 (y.overRun + 1), genOn := y.genOn && decide (y.overRun + 1 < 8) }) (abandonJob e false s.toDev)))) ∧
      (s.eng.classes.length = 8 → x.cls < 8 →
        (eng (abandonJob e true s.toDev) e).running = none ∧
        (x.retry = false → (nth (abandonJob e true s.toDev).eng.classes x.cls []).head? = some x.id ∧
          desc (abandonJob e true s.toDev) x.id = some { x with retry := true }) ∧
        (x.retry = true → x.role = 0 → desc (abandonJob e true s.toDev) x.id = none) ∧
        (x.role = 0 → desc (abandonJob e false s.toDev) x.id = none)) ∧
      (0x80 ≤ x.kernel → Answers (.jobOverrun e) s (Beside s.toDev)) ∧
      (x.kernel < 0x80 → Answers (.kernelOverrun e) s (Beside s.toDev))) ∧
    ((eng s.toDev e).running = none →
      Answers (.jobOverrun e) s (Beside s.toDev) ∧ Answers (.engineTrap e) s (Beside s.toDev) ∧
      Answers (.kernelOverrun e) s (Beside s.toDev))

/-- On a calm block. Awake, an ACTIVE engine with nothing to do takes the first job that it may take from the last 4 of
the longest flume of another ACTIVE engine (stealFrom, victims) and counts a steal; of the only other flume with jobs
it takes the last, if a single one. With none to take, work of its own, not ACTIVE or not awake nothing happens. Where
the core runs and no source is set to SAFE_STATE, a LOADING engine becomes ACTIVE (setEngState) with every installed
kernel and its code, its copies no longer waiting; in another state, or where the core does not run, nothing happens.
An engine in service between jobs takes a copy that Q30 holds, and generators whose kernel every engine in service
holds start (startGens); without such a copy nothing happens. [10_engines_and_flumes.md section Work stealing;
10_engines_and_flumes.md section Engines; 10_engines_and_flumes.md section Custom kernels] -/
def Obligations.EnginesStealAndLoad : Prop :=
  ∀ (s : State) (e : Fin 16), Calm s.toDev →
    let thief : Prop := awake s.toDev = true ∧ (eng s.toDev e).state = .active ∧ (eng s.toDev e).running = none ∧ (eng s.toDev e).flume = []
    (∀ (f : Nat) (x : Desc), thief → (victims s.toDev e).findSome? (stealFrom s.toDev e) = some (f, x) →
      Answers (.engineSteal e) s (Beside (notePartner x e (modEng e (fun y => { y with flume := [x.id], steals := satInc 65535 y.steals })
        (modEng f (fun y => { y with flume := y.flume.filter (· != x.id) }) s.toDev))))) ∧
    (∀ (f : Nat) (x : Desc), thief → (eng s.toDev f).state = .active → f < 16 → f ≠ e.val → (eng s.toDev f).flume.getLast? = some x.id →
      (∀ g, g < 16 → g ≠ f → (eng s.toDev g).flume = []) → desc s.toDev x.id = some x → x.role = 0 →
      (victims s.toDev e).findSome? (stealFrom s.toDev e) = some (f, x)) ∧
    ((¬ thief ∨ (victims s.toDev e).findSome? (stealFrom s.toDev e) = none) → Answers (.engineSteal e) s (Beside s.toDev)) ∧
    (coreRuns s.toDev = true → (eng s.toDev e).state = .loading → (∀ k, k < 128 → escReaction s.toDev k ≠ 5) →
      let held := mof 4 ((List.range 4).filter (fun k => (kernelAt s.toDev k).loaded))
      Answers (.engineLoaded e) s (Beside (setEngState e .active (modEng e (fun y => { y with kernels := held, code := codeOf s.toDev held })
        { s.toDev with eng.copies := s.eng.copies.filter (fun c => c.1 != e) })))) ∧
    ((coreRuns s.toDev = false ∨ (eng s.toDev e).state ≠ .loading) → Answers (.engineLoaded e) s (Beside s.toDev)) ∧
    (∀ k : Fin 4,
      let ready : Prop := inService (eng s.toDev e) = true ∧ (eng s.toDev e).running = none ∧ (e.val, k.val) ∈ s.eng.copies.take s.eng.copyHeld
      let m := mset (eng s.toDev e).kernels k true
      (ready → Answers (.kernelCopy e k) s (Beside (startGens (modEng e (fun y => { y with kernels := m, code := codeOf s.toDev m })
        { s.toDev with eng.copies := s.eng.copies.erase (e.val, k.val) })))) ∧
      (¬ ready → Answers (.kernelCopy e k) s (Beside s.toDev)))

/-- On a calm block with no source set to SAFE_STATE. The window of a source that is no info source and counts returns it
to IDLE with count 0; any other window changes nothing. Handling of a severe source ends once its minimum pulse is
over and its entry is written: IDLE, count 0; an engine that failed its self-test and is OUT loads once EV126 is not
severe; else it goes on unchanged. A reaction's entry is written, with origin FAULT_REACTION, awake and with the
housekeeper running; else it waits. The stretcher's end ends every pulse. FAULTN read high while driven low raises
EV127, a forced clock of a running core EV96 (neither with a reaction); else neither does anything. Start-up checks
end once, awake, while STARTUP holds and no critical check has failed: each listed failure that such a check can give
(of an engine the part has, a comparator that is armed) makes its message, its entry with origin BIST and EV126;
STARTUP is released unless one is critical (ROM, compare, trim), and a last message tells how many failed. One failure
of no unit is given in full. Else nothing changes. [15_faults_and_sluices.md section Escalation;
15_faults_and_sluices.md section FAULTN; 15_faults_and_sluices.md section Start-up checks; 03_supply_power_clocks.md
table "Clocks"] -/
def Obligations.EscalationTimersAndReactionEntries : Prop :=
  ∀ (s : State) (k : Fin 128), Calm s.toDev → (∀ i, i < 128 → escReaction s.toDev i ≠ 5) →
    (isInfo k = false → (esc s.toDev k).state = 1 → Answers (.escWindowExpiry k) s (fun t =>
      esc t k = { esc s.toDev k with state := 0, count := 0 } ∧ (∀ i, i ≠ k.val → esc t i = esc s.toDev i) ∧
      Beside { s.toDev with fault := { s.fault with esc := t.fault.esc } } t)) ∧
    (isInfo k = true ∨ (esc s.toDev k).state ≠ 1 → Answers (.escWindowExpiry k) s (Beside s.toDev)) ∧
    ((esc s.toDev k).state = 2 → (esc s.toDev k).pulse = false → (esc s.toDev k).journal = none →
      Answers (.escHandlingEnd k) s (fun t => Beside (freeFailed (endHandling k s.toDev)) t ∧
        (s.bist.failHold = none → esc t k = { esc s.toDev k with state := 0, count := 0 } ∧
          (∀ i, i ≠ k.val → esc t i = esc s.toDev i) ∧ Beside { s.toDev with fault := { s.fault with esc := t.fault.esc } } t) ∧
        (∀ e, e < 16 → s.bist.failHold = some e → (eng s.toDev e).state = .out → (k.val = 126 ∨ (esc s.toDev 126).state ≠ 2) →
          t.bist.failHold = none ∧ (eng t e).state = .loading))) ∧
    (((esc s.toDev k).state ≠ 2 ∨ (esc s.toDev k).pulse = true ∨ (esc s.toDev k).journal ≠ none) →
      Answers (.escHandlingEnd k) s (Beside s.toDev)) ∧
    (∀ it old new r, (esc s.toDev k).journal = some (it, old, new, r) → awake s.toDev = true → s.cmd.hkReady = true →
      Answers (.reactionJournal k) s (fun t => esc t k = { esc s.toDev k with journal := none } ∧
        (∀ i, i ≠ k.val → esc t i = esc s.toDev i) ∧
        t.jrn.q27 = s.jrn.q27 ++ [{ time := timeMs s.toDev % 2 ^ 40, unsynced := !s.jrn.synced, origin := 4, item := it,
                                    old := old, new := new, ctxA := k.val, ctxB := r }] ∧
        Beside { s.toDev with fault := { s.fault with esc := t.fault.esc }, jrn := { s.jrn with q27 := t.jrn.q27 } } t)) ∧
    (awake s.toDev = false ∨ s.cmd.hkReady = false ∨ (esc s.toDev k).journal = none →
      Answers (.reactionJournal k) s (Beside s.toDev)) ∧
    (s.fault.stretch = true → Answers .stretchEnd s (fun t => t.fault.stretch = false ∧
      (∀ i, esc t i = { esc s.toDev i with pulse := false }) ∧
      Beside { s.toDev with fault := { s.fault with esc := t.fault.esc, stretch := false } } t)) ∧
    (s.fault.stretch = false → Answers .stretchEnd s (Beside s.toDev)) ∧
    (awake s.toDev = true → faultnLow s.toDev = true → Plain s.toDev 127 → Answers .faultnStuck s (fun t =>
      t.pins.faultnReadHigh = true ∧ Noted 127 s.toDev t)) ∧
    (awake s.toDev = false ∨ faultnLow s.toDev = false → Answers .faultnStuck s (Beside s.toDev)) ∧
    (coreRuns s.toDev = true → Plain s.toDev 96 → Answers .clkForced s (Noted 96 s.toDev)) ∧
    (coreRuns s.toDev = false → Answers .clkForced s (Beside s.toDev)) ∧
    (awake s.toDev = true → s.fault.startup = true → s.fault.critical = false →
      (∀ fails, let l := fails.filter (checkMade s.toDev)
        let bad := l.any (fun f => f.1 == 2 || f.1 == 4 || (f.1 == 3 && decide (f.2 < 128)))
        Answers (.startupChecksDone fails) s (fun t => t.fault.startup = bad ∧ t.fault.critical = bad ∧
          Beside (qmsg 0x0C 0 l.length (forEach l checkFails { s.toDev with fault.startup := bad, fault.critical := bad })) t)) ∧
      (s.eng.msgs.length < 32 → 0 < freeCount s.toDev → Answers (.startupChecksDone []) s (Beside { s.toDev with
        fault := { s.fault with startup := false, critical := false }, eng := { s.eng with msgs := s.eng.msgs ++ [msgWord 0x0C 0 0] } })) ∧
      (∀ src addr, src ≠ 5 → src ≠ 8 → s.eng.msgs.length < 31 → 64 < freeCount s.toDev → Plain s.toDev 126 →
        Answers (.startupChecksDone [(src, addr)]) s (fun t =>
          t.fault.startup = decide (src = 2 ∨ src = 4 ∨ (src = 3 ∧ addr < 128)) ∧ mbit t.host.evf 126 = true ∧
          t.eng.msgs = s.eng.msgs ++ [msgWord src 1 addr, msgWord 0x0C 0 1] ∧
          (∃ e : Entry, t.jrn.q27 = s.jrn.q27 ++ [e] ∧ e.origin = 6 ∧ e.ctxA = 0xFF ∧ e.item = 0x0BF7 ∧ e.old = 0 ∧
            e.new = msgWord src 1 addr)))) ∧
    (awake s.toDev = false ∨ s.fault.startup = false ∨ s.fault.critical = true → ∀ l, Answers (.startupChecksDone l) s (Beside s.toDev))

/-- On a calm block with no source set to SAFE_STATE, five kinds. In ACTIVE with a rate and no slice running, a slot first
ends a complete coverage cycle (cycleEnd), then: an engine withdrawn for its test that is OUT gets its slice, or is
DEFERRED and loads. With none, the next kind of the rotation that is enabled with a unit due takes the turn; none:
nothing more. Its first due unit is DEFERRED where barred (counted, LAST 4, its message), waits where its kind needs
the test DAC and that is in use, else begins its slice. An engine turn is deferred where the supply moves, the budget
is short or the withdrawal is refused, else the engine of pickEngine is withdrawn (DRAINING, or OUT if idle) and the
turn passes to the next kind. Not in ACTIVE, at rate 0 or in a slice, a slot changes nothing. The end of a slice of
kind k frees the slot: PASS (LAST 1, fail count kept) where every comparison agrees, a converter reading lies within
10 mV + 0.5 % of the direct one, a comparator's readings were right; else FAIL (failSlice): LAST 2, counted, an entry
with origin BIST, EV126. The budget's expiry leaves LAST 3, counted, but a comparator's check with a wrong reading
FAILs. With no slice neither does anything. [16_periodic_self_test.md section Scheduling; 16_periodic_self_test.md
section Outcomes; 16_periodic_self_test.md section Kinds and units; 10_engines_and_flumes.md section Engines] -/
def Obligations.SelfTestSlotsAndSlices : Prop :=
  ∀ s : State, Calm s.toDev → (∀ i, i < 128 → escReaction s.toDev i ≠ 5) → s.bist.kinds.length = 5 →
    let d := cycleEnd s.toDev
    let falls : Prop := active s.toDev = true ∧ itemN s.toDev 0x0903 ≠ 0 ∧ s.bist.slice = none
    (¬ falls → Answers .bistSlot s (Beside s.toDev)) ∧
    (falls → engineReady d = none → nextKind d d.bist.rot = none → Answers .bistSlot s (Beside (cycleEnd d))) ∧
    (∀ k u l, falls → engineReady d = none → nextKind d d.bist.rot = some k → k ≠ 1 → dueUnits d k = u :: l →
      let d1 := { d with bist.rot := (k + 1) % 5 }
      let claimed : Prop := (k = 2 ∨ k = 3) ∧ s.aux.dacUser ≠ .unused
      (sliceBarred d1 k u = true → Answers .bistSlot s (fun t => Beside (cycleEnd (deferSlice k u d1)) t ∧
        t.bist.slice = none ∧ t.bist.rot = (k + 1) % 5 ∧ t.bist.deferred = satInc 65535 s.bist.deferred ∧ (kindAt t k).last = 4)) ∧
      (sliceBarred d1 k u = false → claimed → Answers .bistSlot s (Beside { d1 with
        bist.waiting := some (k, u, s.now + (384 * ((itemN s.toDev 0x0901 : Rat) - sliceNeed d1 k u)).floor.toNat) })) ∧
      (sliceBarred d1 k u = false → ¬ claimed → Answers .bistSlot s (fun t => Beside (beginSlice k u d1) t ∧
        t.bist.slice = some (k, u) ∧ t.bist.rot = (k + 1) % 5 ∧ (kindAt t k).next = u + 1))) ∧
    (∀ e, falls → engineReady d = none → nextKind d d.bist.rot = some 1 → pickEngine d = some e →
      let d1 := { d with bist.rot := 2 }
      let d2 := drainOut (setEngState e .draining { d1 with bist.withdrawn := some e })
      let unfit : Prop := s.power.opTarget ≠ none ∨ s.power.vdOk = false ∨ (itemN s.toDev 0x0901 : Rat) < sliceNeed d 1 e ∨
        withdrawRefused d = true
      (unfit → Answers .bistSlot s (fun t => Beside (cycleEnd (deferSlice 1 e d1)) t ∧ t.eng.engines = s.eng.engines ∧
        t.bist.deferred = satInc 65535 s.bist.deferred ∧ (kindAt t 1).last = 4)) ∧
      (¬ unfit → Answers .bistSlot s (fun t => t.bist.withdrawn = some e ∧
        ((eng t e).state = .draining ∨ (eng t e).state = .out) ∧
        Beside (cycleEnd ((nextKind d2 2).elim d2 (fun k => takeTurn k d2))) t))) ∧
    (∀ e, falls → engineReady d = some e →
      let d1 := { d with bist.rot := 2 }
      (sliceBarred d1 1 e = false → Answers .bistSlot s (fun t => t.bist.slice = some (1, e) ∧ Beside (beginSlice 1 e d1) t)) ∧
      (sliceBarred d1 1 e = true → Answers .bistSlot s (fun t => t.bist.withdrawn = none ∧
        t.bist.deferred = satInc 65535 s.bist.deferred ∧
        Beside (cycleEnd (setEngState e .loading { deferSlice 1 e d1 with bist.withdrawn := none })) t))) ∧
    (∀ k u, s.bist.slice = some (k, u) → k < 5 →
      (∀ ok (result direct : Int) word,
        let pass : Prop := ok = true ∧
          (k = 2 → (result - direct).natAbs ≤ 10000 + (if u % 2 = 0 then 1000000 else 4000000) / 200) ∧
          (k = 3 → s.cmp.checkBad = false)
        (pass → Answers (.bistSliceDone ok result direct word) s (fun t => t.bist.slice = none ∧ (kindAt t k).last = 1 ∧
          (kindAt t k).fails = (kindAt s.toDev k).fails ∧ Beside (cycleEnd (freeFailed (returnUnit k u false
            (modKind k (fun x => { x with last := 1, unit := sliceUnit k u }) s.toDev)))) t)) ∧
        (¬ pass → Answers (.bistSliceDone ok result direct word) s (fun t => t.bist.slice = none ∧ (kindAt t k).last = 2 ∧
          (kindAt t k).fails = satInc 65535 (kindAt s.toDev k).fails ∧ mbit t.host.evf 126 = true ∧
          (∃ e : Entry, e ∈ t.jrn.q27 ∧ e.origin = 6 ∧ e.ctxA = k ∧ e.item = 0x0BF7) ∧
          Beside (cycleEnd (freeFailed (failSlice k u
            (decide (20000 < (direct - (if u % 2 = 0 then 1000000 else 4000000)).natAbs)) word s.toDev))) t))) ∧
      (¬ (k = 3 ∧ s.cmp.checkBad = true) → Answers .bistBudgetExpiry s (fun t => t.bist.slice = none ∧ (kindAt t k).last = 3 ∧
        (kindAt t k).incomplete = satInc 65535 (kindAt s.toDev k).incomplete ∧ Beside (cycleEnd (cutSlice s.toDev)) t)) ∧
      (k = 3 → s.cmp.checkBad = true → Answers .bistBudgetExpiry s (fun t => t.bist.slice = none ∧ (kindAt t k).last = 2 ∧
        mbit t.host.evf 126 = true ∧ Beside (cycleEnd (failSlice k u false 0 s.toDev)) t))) ∧
    (s.bist.slice = none → (∀ ok result direct word, Answers (.bistSliceDone ok result direct word) s (Beside s.toDev)) ∧
      Answers .bistBudgetExpiry s (Beside s.toDev))

/-- With no command waiting, no capture armed on events, nothing waiting for the test DAC and no source set to SAFE_STATE.
While the core runs, the journal's writer moves the entry at the head of Q27 into the journal at the next index,
chained to the last; of 8192 entries the oldest goes; WRAPS counts (to 65535) at each multiple of 8192. Core at rest
or nothing waiting: no change. While CFG_COMMIT_OTP programs a generation: a limit left, a bad readback, or a word
that cannot be read leaves the block programmed and RETIRED, journalled, and answers ERR_CHECK; a good readback makes
it VALID and answers OK with the generation and its CRC-32. The head's answer to a command that asks for one, with no
copies, is given in full. With no such programming nothing changes. With no command executing: an open session's
expiry ends it with an entry of cause 1 and cancels armed injections; else nothing changes; a nonce's expiry discards
the nonce. [17_journal_otp_security.md section The journal; 17_journal_otp_security.md section Configuration
generations; 17_journal_otp_security.md section Service sessions; 14_aeddo_command_reference.md section Journal and
service commands] -/
def Obligations.JournalOtpAndSessionEvents : Prop :=
  ∀ s : State, s.cmd.waiting = [] → Unarmed s.toDev → DacIdle s.toDev → (∀ i, i < 128 → escReaction s.toDev i ≠ 5) →
    (∀ e l, s.cmd.busy = none → coreRuns s.toDev = true → s.jrn.q27 = e :: l →
      Answers .journalWrite s (fun t => t.jrn.q27 = l ∧ t.jrn.next = (s.jrn.next + 1) % 2 ^ 32 ∧
        t.jrn.prev = entryWords e s.jrn.next s.jrn.prev ∧
        t.jrn.entries = (s.jrn.entries ++ [t.jrn.prev]).drop (if s.jrn.entries.length < 8192 then 0 else 1) ∧
        t.jrn.wraps = (if s.jrn.next ≠ 0 ∧ s.jrn.next % 8192 = 0 then satInc 65535 s.jrn.wraps else s.jrn.wraps) ∧
        Beside { s.toDev with
          jrn := { s.jrn with q27 := t.jrn.q27, next := t.jrn.next, prev := t.jrn.prev, entries := t.jrn.entries, wraps := t.jrn.wraps }
          fault := { s.fault with sramBad := t.fault.sramBad } } t ∧
        (∀ w ∈ t.fault.sramBad, w ∈ s.fault.sramBad))) ∧
    (s.cmd.busy = none → (coreRuns s.toDev = false ∨ s.jrn.q27 = []) → Answers .journalWrite s (Beside s.toDev)) ∧
    (∀ (g : Fin 4) blk b, s.otp.burning = some (g.val, blk) → s.cmd.busy = some b → b.code = 0x12 →
      s.otp.gens.length = 4 → s.otp.valid.length = 4 → s.otp.retired.length = 4 →
      let full : Prop := isHead s.toDev = true ∧ b.bcast = false ∧ b.copies = []
      let r := otpRead (128 + 32 * g) 32 { s.toDev with otp.gens := s.otp.gens.set g blk }
      Answers .otpLimitDepart s (fun t => t.otp.burning = none ∧ nth t.otp.gens g [] = blk ∧ nth t.otp.retired g 0 = 0x5A5A5A5A00000000 ∧
        t.otp.valid = s.otp.valid ∧ t.cmd.busy = none ∧
        (full → t.host.rsps = s.host.rsps ++ [⟨1, rspWords 1 0x12 b.seq b.gap false 0 stCHECK []⟩]) ∧
        Beside (commitFails g blk s.toDev) t) ∧
      (∀ ok, (ok = false ∨ r.2 ≠ []) → Answers (.otpProgramDone ok) s (fun t => t.otp.burning = none ∧ nth t.otp.gens g [] = blk ∧
        nth t.otp.retired g 0 = 0x5A5A5A5A00000000 ∧ t.otp.valid = s.otp.valid ∧ t.cmd.busy = none ∧ Beside (commitFails g blk r.1) t)) ∧
      (r.2 = [] → Answers (.otpProgramDone true) s (fun t =>
        t.otp.burning = none ∧ nth t.otp.gens g [] = blk ∧ t.otp.retired = s.otp.retired ∧
        nth t.otp.valid g 0 = BitVec.ofNat 64 (0xA5A5A5A5 * 2 ^ 32 + (crc32 blk).toNat) ∧ t.cmd.busy = none ∧
        (full → b.quiet = false → s.fault.otpBad = [] →
          t.host.rsps = s.host.rsps ++ [⟨1, rspWords 1 0x12 b.seq b.gap false 0 stOK [Word.of g, crc32 blk]⟩]) ∧
        (∃ e : Entry, e ∈ t.jrn.q27 ∧ e.item = 0x0BF5 ∧ e.new = crc32 blk) ∧
        Beside (finishBusy stOK [Word.of g, crc32 blk] (validateGen (commitCtx r.1) g blk (burnBlock g blk r.1))) t))) ∧
    ((s.otp.burning = none ∨ busyWith s.toDev 0x12 = false) → s.cmd.busy = none → Answers .otpLimitDepart s (Beside s.toDev) ∧
      (∀ ok, Answers (.otpProgramDone ok) s (Beside s.toDev))) ∧
    (s.cmd.busy = none → s.sess.isOpen = true → Answers .sessionExpiry s (fun t =>
      (∃ e : Entry, t.jrn.q27 = s.jrn.q27 ++ [e] ∧ e.origin = 3 ∧ e.ctxA = 8 ∧ e.item = 0x0BF2 ∧ e.old = 0x01000000 ∧ e.new = 0) ∧
      Beside { s.toDev with sess := { s.sess with isOpen := false }, fault := { s.fault with inject := [], otpBad := [] }
                            jrn := { s.jrn with q27 := t.jrn.q27 } } t)) ∧
    (s.cmd.busy = none → s.sess.isOpen = false → Answers .sessionExpiry s (Beside s.toDev)) ∧
    (s.cmd.busy = none → Answers .nonceExpiry s (Beside { s.toDev with sess.nonce := none }))

/-- On a calm block with no source set to SAFE_STATE. Not awake, in a retrain, or with nothing that the direction may send
(sendBeat: no NAK due, 15 beats outstanding, a TYPE that does not go that way, no room to hold it), a beat changes
nothing. Else it has the effect of beatRx; with no injection armed: new content of no damage in step enters the replay
buffer, moves both SEQ on by one, clears the NAK and the count of failures; outside a transition TYPE 2 and higher is
held by its TYPE, others staying, TYPE 1 reaches the decimators; upward content waits in the receive buffer during a
transition. A damaged beat whose CRC fails is discarded, EV94 raised and a NAK with the expected SEQ due; the third
failure of one SEQ raises EV95 and starts both lanes at SEQ 0 in a retrain. A NAK, awake outside a retrain and of a
SEQ below 16, makes what was sent from it on outstanding and to be sent again; else it changes nothing. A retrain's
end leaves it, sends held content again, beats' content as new beats in order, and issues open requests again; outside
a retrain it changes nothing. Room in the hold buffer sends latched edges and lets the SAR go on; where it is full
nothing happens. [01_architecture.md section Die-to-die connection; 15_faults_and_sluices.md section Event catalogue] -/
def Obligations.BeatsAreDeliveredOrReplayed : Prop :=
  ∀ (s : State) (up : Bool), Calm s.toDev → (∀ i, i < 128 → escReaction s.toDev i ≠ 5) →
    (∀ typ content damage,
      (awake s.toDev = false ∨ s.d2d.retrain = true ∨ sendBeat up typ content s.toDev = none →
        Answers (.d2dBeatRx up typ content damage) s (Beside s.toDev)) ∧
      (typ = 15 → (lane s.toDev (!up)).nak = none → sendBeat up typ content s.toDev = none) ∧
      (typ ≠ 15 → (lane s.toDev up).resend = [] → (15 ≤ (lane s.toDev up).unacked ∨ ((lane s.toDev up).queue = [] ∧
          (typeGoes up typ = false ∨ (up = true ∧ 2 ≤ typ ∧ holdFull s.toDev = true)))) → sendBeat up typ content s.toDev = none) ∧
      (∀ x, awake s.toDev = true → s.d2d.retrain = false → sendBeat up typ content s.toDev = some x →
        Answers (.d2dBeatRx up typ content damage) s (fun t => Beside (beatRx up typ content damage s.toDev) t ∧
          (s.fault.inject = [] → damage = 0 → typ ≠ 15 → (lane s.toDev up).resend = [] → (lane s.toDev up).queue = [] →
            (lane s.toDev up).rxSeq = (lane s.toDev up).txSeq → (lane s.toDev up).txSeq < 16 →
            (lane t up).rxSeq = ((lane s.toDev up).rxSeq + 1) % 16 ∧ (lane t up).txSeq = ((lane s.toDev up).txSeq + 1) % 16 ∧
            (lane t up).unacked = (lane s.toDev up).unacked + 1 ∧ (lane t up).replay.getLast? = some x.1 ∧
            (lane t up).nak = none ∧ (lane t up).fails = 0 ∧ (lane t up).discarding = false ∧
            (s.power.opTarget = none → 2 ≤ typ → akey t.d2d.delivered typ = some content ∧
              (∀ ty, ty ≠ typ → akey t.d2d.delivered ty = akey s.d2d.delivered ty) ∧ t.conv.mods = s.conv.mods) ∧
            (s.power.opTarget = none → typ = 1 → t.d2d.delivered = s.d2d.delivered ∧ t.conv.mods = (BitVec.ofNat 25 (content.toNat >>> 25) ::
              BitVec.ofNat 25 content.toNat :: s.conv.mods).take (8 * decR s.conv.dec)) ∧
            (s.power.opTarget ≠ none → up = true → typ ≠ 0 →
              t.d2d.rxBuf = s.d2d.rxBuf ++ [.raw (lane s.toDev up).txSeq typ content] ∧ t.d2d.delivered = s.d2d.delivered)) ∧
          (s.fault.inject = [] → beatGood (x.1 ^^^ damage) = false →
            let n := (lane s.toDev up).fails + (if beatType x.1 ≠ 15 ∧ beatSeq x.1 = (lane s.toDev up).rxSeq then 1 else 0)
            t.d2d.delivered = s.d2d.delivered ∧ mbit t.host.evf 94 = true ∧
            (n < 3 → t.d2d.retrain = false ∧ (lane t up).nak = some (lane s.toDev up).rxSeq ∧ (lane t up).discarding = true ∧
              (lane t up).fails = n ∧ (lane t up).rxSeq = (lane s.toDev up).rxSeq ∧ t.conv.mods = s.conv.mods) ∧
            (3 ≤ n → t.d2d.retrain = true ∧ mbit t.host.evf 95 = true ∧ t.conv.mods = [] ∧
              (∀ u, lane t u = { Lane.reset with rxReg := (lane t u).rxReg })))))) ∧
    (∀ seq, awake s.toDev = true → s.d2d.retrain = false → seq < 16 → Answers (.d2dNakRx up seq) s (fun t =>
      let n := ((lane s.toDev up).txSeq + 16 - seq) % 16
      lane t up = { lane s.toDev up with unacked := n, nak := none
                                         resend := (lane s.toDev up).replay.drop ((lane s.toDev up).replay.length - n) } ∧
      lane t (!up) = lane s.toDev (!up) ∧ (up = false → t.d2d.hold = s.d2d.hold) ∧
      (∀ h ∈ t.d2d.hold, h ∈ s.d2d.hold) ∧ Beside { s.toDev with d2d := { s.d2d with up := t.d2d.up, down := t.d2d.down, hold := t.d2d.hold } } t)) ∧
    (∀ seq, awake s.toDev = false ∨ s.d2d.retrain = true ∨ 16 ≤ seq → Answers (.d2dNakRx up seq) s (Beside s.toDev)) ∧
    (s.d2d.retrain = true → Answers .d2dRetrainDone s (fun t => t.d2d.retrain = false ∧ t.d2d.down.queue = s.d2d.issued ∧
      t.d2d.issued = [] ∧ Beside (serveSlice (serveDac (forEach s.d2d.hold sendAgain { s.toDev with
        d2d.retrain := false, d2d.hold := [], d2d.down.queue := s.d2d.issued, d2d.issued := [] }))) t ∧
      (∀ l : List (Nat × BitVec 52), s.d2d.hold = l.map (fun e => .raw 0 e.1 e.2) → t.d2d.hold = [] ∧
        t.d2d.up.queue = s.d2d.up.queue ++ l ∧ Beside { s.toDev with d2d := t.d2d } t))) ∧
    (s.d2d.retrain = false → Answers .d2dRetrainDone s (Beside s.toDev)) ∧
    (holdFull s.toDev = true → Answers .d2dHoldRoom s (Beside s.toDev)) ∧
    (holdFull s.toDev = false → Answers .d2dHoldRoom s (Beside (sarKick { forEach s.d2d.latched
        (fun e d => sendEdge e.1 e.2.1 false e.2.2.1 e.2.2.2 d) { s.toDev with d2d.latched := [] } with d2d.sarWait := false }))) ∧
    (holdFull s.toDev = false → s.d2d.latched = [] → s.aux.user ≠ .idle →
      Answers .d2dHoldRoom s (Beside { s.toDev with d2d.sarWait := false }))

/-- On a calm block with no source set to SAFE_STATE. Awake, loss of signal on a port that is expected to receive has the
effect of losOn: LOCK cleared, LOS set, EV66; a NORMAL member begins its break mark and decision, an ARM, REVERSED or
FOLD one is UNATTACHED; the head of a closed ring is WRAPPED with EV73, one that enumerates is disturbed. Elsewhere it
changes nothing. A lock, awake on a port in use, sets LOCK, and a member with PLL_P on another reference takes RCK
again where the port is its head-side port or it has none; else nothing. A pending break decision makes a member
REVERSED after a mark, else a FOLD with port B ahead and EV73; the head waits for its census after a mark, else knows
the arm as empty (armFound). A break mark's end ends it; the head asks for a census on port A. A held return pass ends
with what waits for it: AWAIT, or NORMAL with the delays kept unless JOINED; a turned one opens the headgate of a
claimed member; an arm's awaited one ends without. A beacon on a port in use without lock is sent on while GATED or
UNATTACHED. The far flags are set at a fold whose far port is in use, on a member or on the head of an empty arm.
AWAIT ends in REVERSED. The time of kept replies drops them with the claim, that of fragments the fragments. In every
other case nothing changes. [11_burza_link.md section Segments; 12_ring_membership.md section Positions and modes;
12_ring_membership.md section Wrap; 12_ring_membership.md section Restoration and joining; 11_burza_link.md section
Directed and broadcast frames] -/
def Obligations.PortsAndPassesFollowTheRing : Prop :=
  ∀ s : State, Calm s.toDev → (∀ i, i < 128 → escReaction s.toDev i ≠ 5) →
    (∀ p, awake s.toDev = true → expectedRx s.toDev p = true → Answers (.portLos p) s (fun t =>
      Beside (losOn p s.toDev) t ∧ mbit t.host.evf 66 = true ∧ lockOf t p = false ∧
      (p = .A → t.link.losA = true ∧ t.link.losB = s.link.losB) ∧ (p = .B → t.link.losB = true ∧ t.link.losA = s.link.losA) ∧
      (isHead s.toDev = false → s.ring.mode = .normal → t.ring.marking = true ∧ t.ring.reversePend = true ∧ t.ring.mode = .normal) ∧
      (isHead s.toDev = false → s.ring.mode ≠ .normal → t.ring.mode = .unattached ∧ t.ring.returning = false ∧ t.ring.turning = false) ∧
      (isHead s.toDev = true → s.ring.stat = .closed → p = .A → t.ring.stat = .wrapped ∧ t.ring.marking = true ∧
        t.ring.reversePend = true ∧ t.head.flights = [] ∧ mbit t.host.evf 73 = true) ∧
      (isHead s.toDev = true → s.ring.stat = .enumerating → t.ring.disturbed = true ∧ t.ring.stat = .enumerating))) ∧
    (∀ p, awake s.toDev = false ∨ expectedRx s.toDev p = false → Answers (.portLos p) s (Beside s.toDev)) ∧
    (∀ p, awake s.toDev = true → portUp s.toDev p = true → Answers (.portLock p) s (fun t => lockOf t p = true ∧
      t.clk.pllRef = (if isHead s.toDev = false ∧ (headSide s.toDev = some p ∨ headSide s.toDev = none) then .rck else s.clk.pllRef) ∧
      Beside { setLock p true s.toDev with clk.pllRef := t.clk.pllRef } t)) ∧
    (∀ p, awake s.toDev = false ∨ portUp s.toDev p = false → Answers (.portLock p) s (Beside s.toDev)) ∧
    (s.ring.reversePend = true →
      (isHead s.toDev = false → Answers (.reverseDecide true) s (Beside { s.toDev with ring.reversePend := false, ring.mode := .reversed }) ∧
        Answers (.reverseDecide false) s (fun t => mbit t.host.evf 73 = true ∧ t.ring.mode = .fold ∧ t.ring.foldB = true ∧
          (Plain s.toDev 73 → Noted 73 { s.toDev with ring.reversePend := false, ring.mode := .fold, ring.foldB := true } t))) ∧
      (isHead s.toDev = true → Answers (.reverseDecide true) s (Beside { s.toDev with ring.reversePend := false }) ∧
        Answers (.reverseDecide false) s (Beside (armFound [] { s.toDev with ring.reversePend := false, ring.marking := false })))) ∧
    (s.ring.reversePend = false → ∀ m, Answers (.reverseDecide m) s (Beside s.toDev)) ∧
    (s.ring.marking = true →
      (isHead s.toDev = false → Answers .breakMarkEnd s (Beside { s.toDev with ring.marking := false })) ∧
      (isHead s.toDev = true → Answers .breakMarkEnd s (Beside { s.toDev with
        ring.marking := false, ring.reversePend := false
        head.ringFrames := s.head.ringFrames ++ [ringFrame 9 63 (some .A) (Word.of (s.ring.epoch * 2 ^ 16))] }))) ∧
    (s.ring.marking = false → Answers .breakMarkEnd s (Beside s.toDev)) ∧
    (s.ring.foldPass = true →
      let d := { s.toDev with ring.foldPass := false, ring.passBuf := [] }
      (s.ring.afterPass = 1 → Answers .foldReturn s (Beside { d with ring.mode := .await, ring.afterPass := 0 })) ∧
      (s.ring.afterPass = 2 → Answers .foldReturn s (Beside { d with
        ring.mode := .normal, ring.foldB := false, ring.headPort := none, ring.afterPass := 0
        ring.valA := s.ring.valA && !s.ring.unwrapJoined, ring.valB := s.ring.valB && !s.ring.unwrapJoined })) ∧
      (s.ring.afterPass ≠ 1 → s.ring.afterPass ≠ 2 → Answers .foldReturn s (Beside d))) ∧
    (s.ring.foldPass = false → Answers .foldReturn s (Beside s.toDev)) ∧
    (s.ring.turning = true → Answers .turnReturn s (Beside { s.toDev with
      ring.turning := false, ring.probing := false, ring.gate := s.ring.gate || decide (s.ring.addr ≠ 0) })) ∧
    (s.ring.turning = false → Answers .turnReturn s (Beside s.toDev)) ∧
    (s.ring.returning = true → Answers .armReturnTimeout s (Beside { s.toDev with ring.returning := false, ring.afterPass := 0 })) ∧
    (s.ring.returning = false → Answers .armReturnTimeout s (Beside s.toDev)) ∧
    (∀ p,
      let sent : Prop := awake s.toDev = true ∧ isHead s.toDev = false ∧ portUp s.toDev p = true ∧
        (s.ring.mode = .gated ∨ s.ring.mode = .unattached) ∧ lockOf s.toDev p = false
      (sent → Answers (.beacon p) s (Beside { s.toDev with ring.beacons := mset s.ring.beacons p.num true })) ∧
      (¬ sent → Answers (.beacon p) s (Beside s.toDev))) ∧
    (
      let far : Prop := awake s.toDev = true ∧
        ((isHead s.toDev = false ∧ s.ring.mode = .fold ∧ portUp s.toDev (if s.ring.foldB then .A else .B) = true) ∨
         (isHead s.toDev = true ∧ s.ring.stat = .wrapped ∧
          ((s.ring.foldAAddr = 1 ∧ portUp s.toDev .A = true) ∨ (s.ring.foldBAddr = 1 ∧ portUp s.toDev .B = true))))
      (far → Answers .farLockSet s (Beside { s.toDev with ring.farLock := true }) ∧
        Answers .farProbeSet s (Beside { s.toDev with ring.farProbe := true })) ∧
      (¬ far → Answers .farLockSet s (Beside s.toDev) ∧ Answers .farProbeSet s (Beside s.toDev))) ∧
    (s.ring.mode = .await → Answers .awaitTimeout s (Beside { s.toDev with ring.mode := .reversed })) ∧
    (s.ring.mode ≠ .await → Answers .awaitTimeout s (Beside s.toDev)) ∧
    Answers .dupKeepExpiry s (Beside { s.toDev with link.kept := none, link.ackKept := none, ring.claimed := none }) ∧
    Answers .fragTimeout s (Beside { s.toDev with cmd.partMsg := [], cmd.partSeq := none, cmd.partNext := 0 })

/-- On a calm block with no source set to SAFE_STATE. A frame of the eight types TIMING to CENSUS has the effect of
onFrame with the action of its row (a complete message with an unknown code is answered at once). Not awake or on a
port not in use, it changes nothing. At a head, a whole frame that it did not originate is a conflict: idle drivers,
EV76. A whole frame that reaches a member from its head side: its timing block, with a valid delay, sets LAST and INC;
the first loads phase and period, a later one leaves the error to be corrected. A sweep frame that names the member
gets its slot and ALIVE, another none; a directed CMD is stored and answered L_ACCEPT, a fragment kept, with 4 in hand
L_BUSY, a retry L_DUP; a broadcast one is stored with the ACK pair; POLL gives the next fragment, L_EMPTY without one;
REG_WR writes and REG_RD reads the register; DELAY is turned; a CENSUS or REG_WR to all gets the ACK pair. One for
another address is not acted on. A frame damaged before its CRC, or whose CRC-24 fails, is not acted on: no reply,
timing as it was, no good block; the latter counts and raises EV64. [11_burza_link.md section Frames; 11_burza_link.md
section Directed and broadcast frames; 11_burza_link.md section Sweeps; 04_phase_timebase.md section Distribution to
members; 13_host_port_and_mailboxes.md section Sending commands; 12_ring_membership.md section Enumeration] -/
def Obligations.MemberFramesAreAnswered : Prop :=
  ∀ (s : State) (f : Frame), Calm s.toDev → (∀ i, i < 128 → escReaction s.toDev i ≠ 5) →
    Answers (.frameTiming f) s (Beside (onFrame 1 (fun _ d => d) f s.toDev)) ∧
    Answers (.frameSweep f) s (Beside (onFrame (if f.typ = 3 then 3 else 2) fillSlot f s.toDev)) ∧
    Answers (.frameCmd f) s (Beside (flushUnknown (onFrame 4 takeCmd f s.toDev))) ∧
    Answers (.framePoll f) s (Beside (onFrame 5 takePoll f s.toDev)) ∧
    Answers (.frameRegWr f) s (Beside (onFrame 6 takeRegWr f s.toDev)) ∧
    Answers (.frameRegRd f) s (Beside (onFrame 7 takeRegRd f s.toDev)) ∧
    Answers (.frameDelay f) s (Beside (onFrame 10 takeDelay f s.toDev)) ∧
    Answers (.frameCensus f) s (Beside (onFrame 9 takeCensus f s.toDev)) ∧
    (∀ c ∈ [Instr.frameTiming f, .frameSweep f, .frameCmd f, .framePoll f, .frameRegWr f, .frameRegRd f, .frameDelay f, .frameCensus f],
      (awake s.toDev = false ∨ portUp s.toDev f.port = false → Answers c s (Beside s.toDev)) ∧
      (awake s.toDev = true → portUp s.toDev f.port = true → isHead s.toDev = true → f.own = false → s.fault.conflict = false →
        f.damagedAt = 0 → f.crcOk = true → Answers c s (fun t =>
          t.ring.stat = .conflict ∧ t.head.idle = true ∧ t.fault.conflict = true ∧ mbit t.host.evf 76 = true)) ∧
      (arrives s.toDev { f with crcOk := true, damagedAt := 0 } = true → (f.damagedAt = 1 ∨ f.damagedAt = 3 ∨ f.crcOk = false) →
        Answers c s (fun t => t.link.reply = s.link.reply ∧ t.cmd.waiting = [] ∧ t.cmd.out = s.cmd.out ∧ t.tb.acc = s.tb.acc ∧
          t.tb.period = s.tb.period ∧ t.tb.inc = s.tb.inc ∧ t.tb.goodBlocks = 0 ∧ t.link.slotOut = s.link.slotOut ∧
          t.link.alive = s.link.alive ∧ t.host.irqEn = s.host.irqEn ∧ t.ring = s.ring ∧
          (f.damagedAt = 0 ∨ f.damagedAt = 2 ∨ f.damagedAt = 4 → t.link.crcCnt = satInc 255 s.link.crcCnt ∧ mbit t.host.evf 64 = true)))) ∧
    (arrives s.toDev f = true → s.fault.inject = [] →
      (f.typ = 1 → ∀ dl, portDelay s.toDev f.port = some dl → Answers (.frameTiming f) s (fun t =>
        let inc := bf f.tsWord2 0 30 * 64
        let v := f.tsPeriod.toNat * 2 ^ 48 + f.tsPhase.toNat * 2 ^ 16 + dl * inc
        t.tb.lastAcc = some s.now ∧ t.tb.headState = bf f.tsWord2 30 2 ∧ t.tb.tsPortB = (f.port == .B) ∧
        t.link.lastHeader = frameHeader f ∧ t.tb.inc = inc ∧ t.tb.loaded = true ∧
        (s.tb.loaded = false → t.tb.acc = v % 2 ^ 48 ∧ t.tb.period = v / 2 ^ 48 % 2 ^ 32 ∧ t.tb.corr = 0) ∧
        (s.tb.loaded = true → t.tb.acc = s.tb.acc ∧ t.tb.period = s.tb.period ∧
          t.tb.corr = shortWay ((v : Int) - ((s.tb.period * 2 ^ 48 + s.tb.acc : Nat) : Int))))) ∧
      (f.typ = 2 ∨ f.typ = 3 →
        (bf (nth f.body 0 0) 10 6 + 1 ≤ s.ring.addr → s.ring.addr ≤ bf (nth f.body 0 0) 10 6 + f.len → Answers (.frameSweep f) s (fun t =>
          t.link.alive = (s.link.alive + 1) % 16 ∧ t.link.slotOut.length = (if f.typ = 3 then 28 else 15) ∧
          (sweptRec s.toDev = none → t.link.slotOut.take 2 = if f.typ = 3 then [0, 0] else [0xFFFFFFFF, 0xFFFFFFFF]))) ∧
        (s.ring.addr ≠ 0 → (s.ring.addr ≤ bf (nth f.body 0 0) 10 6 ∨ bf (nth f.body 0 0) 10 6 + f.len < s.ring.addr) →
          Answers (.frameSweep f) s (fun t => t.link.alive = s.link.alive ∧ t.link.slotOut = s.link.slotOut))) ∧
      (∀ ws last ix, f.typ = 4 → ix < 256 → f.seq < 256 → ws ≠ [] → ws.length ≤ 64 →
        f.body = Word.of (f.seq * 2 ^ 24 + ix * 2 ^ 16 + b2n last * 2 ^ 15 + ws.length) :: ws →
        (f.bcast = false → f.addr = s.ring.addr → f.rty = 0 → ix = 0 → s.cmd.out.length < 4 →
          (last = true → knownCodes.contains (bf (nth ws 0 0) 24 8) = true → Answers (.frameCmd f) s (fun t =>
            t.cmd.waiting = [(false, ws)] ∧ t.link.reply = [replyWord f.addr f.seq 1])) ∧
          (last = false → Answers (.frameCmd f) s (fun t => t.cmd.waiting = [] ∧ t.cmd.partMsg = ws ∧ t.cmd.partSeq = some f.seq ∧
            t.cmd.partNext = 1 ∧ t.link.reply = [replyWord f.addr f.seq 1]))) ∧
        (f.bcast = true → f.rty = 0 → ix = 0 → s.cmd.out.length < 4 → last = true →
          knownCodes.contains (bf (nth ws 0 0) 24 8) = true → Answers (.frameCmd f) s (fun t =>
            t.cmd.waiting = [(true, ws)] ∧ t.link.ackPair = true ∧ t.link.ackKept = some f.seq)) ∧
        (f.bcast = false → f.addr = s.ring.addr → f.rty = 0 → ix = 0 → 4 ≤ s.cmd.out.length → Answers (.frameCmd f) s (fun t =>
          t.cmd.waiting = [] ∧ t.link.reply = [replyWord f.addr f.seq 3]))) ∧
      (f.bcast = false → f.addr = s.ring.addr → f.addr < 64 → f.seq < 256 → 0 < f.rty →
        s.link.kept = some (f.seq, f.typ, [replyWord f.addr f.seq 1]) →
        ∀ c ∈ [Instr.frameCmd f, .frameRegWr f, .frameDelay f], (c = .frameCmd f → f.typ = 4) → (c = .frameRegWr f → f.typ = 6) →
          (c = .frameDelay f → f.typ = 10) → Answers c s (fun t => t.cmd.waiting = [] ∧ t.host.irqEn = s.host.irqEn ∧
            t.link.reply = [replyWord f.addr f.seq 2] ∧ t.link.retryCnt = satInc 255 s.link.retryCnt)) ∧
      (f.typ = 5 → f.addr = s.ring.addr → f.rty = 0 →
        let nw := bf (nth f.body 0 0) 0 9
        (s.cmd.out = [] → Answers (.framePoll f) s (fun t => t.cmd.out = [] ∧
          let ws := replyWord f.addr f.seq 5 :: 0 :: List.replicate nw 0
          t.link.reply = ws ++ [rcrcWord ws])) ∧
        (∀ r l, s.cmd.out = r :: l →
          let part := (r.words.drop s.cmd.outPos).take nw
          Answers (.framePoll f) s (fun t => nth t.link.reply 0 0 = replyWord f.addr f.seq 1 ∧ t.cmd.pollSeq = some f.seq ∧
            (t.link.reply.drop 2).take part.length = part ∧ t.link.reply.length = nw + 3 ∧
            (r.words.length ≤ s.cmd.outPos + nw → t.cmd.out = l ∧ t.cmd.outPos = 0) ∧
            (s.cmd.outPos + nw < r.words.length → t.cmd.out = s.cmd.out ∧ t.cmd.outPos = s.cmd.outPos + nw)))) ∧
      (f.typ = 6 → f.rty = 0 → bf (nth f.body 0 0) 0 16 = 0x18 → (f.bcast = true ∨ f.addr = s.ring.addr) →
        Answers (.frameRegWr f) s (fun t => t.host.irqEn = BitVec.ofNat 9 (nth f.body 1 0).toNat ∧
          (f.bcast = false → t.link.reply = [replyWord f.addr f.seq 1]) ∧ (f.bcast = true → t.link.ackPair = true) ∧
          (t.host.irqEn ≠ s.host.irqEn → ∃ e ∈ t.jrn.q27, e.origin = 2 ∧ e.ctxB = f.seq ∧ e.item = 0xC006 ∧
            e.new = Word.of t.host.irqEn.toNat))) ∧
      (f.typ = 7 → f.addr = s.ring.addr → f.rty = 0 → bf (nth f.body 0 0) 0 16 = 0 → Answers (.frameRegRd f) s (fun t =>
        let ws := [replyWord f.addr f.seq 1, idWord s.toDev]
        t.link.reply = ws ++ [rcrcWord ws])) ∧
      (f.typ = 10 → f.bcast = false → f.addr = s.ring.addr → f.rty = 0 → f.addr ≠ 1 → Answers (.frameDelay f) s (fun t =>
        t.link.reply = [replyWord f.addr f.seq 1] ∧ t.ring.turning = true)) ∧
      (f.typ = 9 → f.rty = 0 → Answers (.frameCensus f) s (fun t => t.link.ackPair = true ∧ t.link.ackKept = some f.seq)) ∧
      (f.bcast = false → f.addr ≠ s.ring.addr → ∀ c ∈ [Instr.frameCmd f, .framePoll f, .frameRegWr f, .frameRegRd f, .frameDelay f],
        Answers c s (fun t => t.link.reply = s.link.reply ∧ t.cmd.waiting = [] ∧ t.cmd.out = s.cmd.out ∧ t.host.irqEn = s.host.irqEn)))

/-- On a calm block with no source set to SAFE_STATE. An ENUM, and a RING_CTL of each operation, has the effect of onFrame
with the action of its row; not awake or on a port not in use it changes nothing. A whole first ENUM at a member that
has no address: on the right port with a NEXT from 2 to 62 it gives NEXT, PASS_ID and the mode (REVERSED on port B,
else ARM or NORMAL as ARM_STATE), CLAIMED in the reply; else the reply says no claim; both are turned. With the
headgate open, a PASS_ID of another pass makes the member forget its membership, its own leaves it. A RING_CTL that
reaches an enumerated member, directed to it or to all, for the first time: a directed one is answered with three
words and turned; ARM_STATE is adopted, NORMAL becoming ARM; FORGET ends membership; SET_FOLD folds with the arrival
port ahead; EXTEND ends a fold as ARM or REVERSED; PROBE_FAR is noted at a fold, else nothing; FAR_STAT clears the
flags; UNWRAP_PREP and UNWRAP wait for the return pass on an arm and act at once in NORMAL: AWAIT, or NORMAL with the
delays kept unless JOINED. One directed elsewhere leaves addr, gate, fold and flags. [12_ring_membership.md section
Enumeration; 12_ring_membership.md table "RING_CTL operations"; 12_ring_membership.md section Restoration and joining] -/
def Obligations.MembershipFramesChangeTheMember : Prop :=
  ∀ (s : State) (f : Frame), Calm s.toDev → (∀ i, i < 128 → escReaction s.toDev i ≠ 5) →
    Answers (.frameEnum f) s (Beside (onFrame 8 takeEnum f s.toDev)) ∧
    Answers (.ringCtlForget f) s (Beside (onFrame 11 (takeRingCtl 1 (fun _ d => forget d)) f s.toDev)) ∧
    Answers (.ringCtlSetFold f) s (Beside (onFrame 11 (takeRingCtl 2 setFold) f s.toDev)) ∧
    Answers (.ringCtlExtend f) s (Beside (onFrame 11 (takeRingCtl 3 (fun _ d => extendArm d)) f s.toDev)) ∧
    Answers (.ringCtlProbeFar f) s (Beside (onFrame 11 (takeRingCtl 4
      (fun _ d => if d.ring.mode = .fold then { d with ring.probing := true } else d)) f s.toDev)) ∧
    Answers (.ringCtlFarStat f) s (Beside (onFrame 11 (takeRingCtl 5
      (fun _ d => { d with ring.farLock := false, ring.farProbe := false })) f s.toDev)) ∧
    Answers (.ringCtlUnwrapPrep f) s (Beside (onFrame 11 (takeRingCtl 6 (fun _ d => atReturn 1 d)) f s.toDev)) ∧
    Answers (.ringCtlUnwrap f) s (Beside (onFrame 11 (takeRingCtl 7
      (fun f d => atReturn 2 { d with ring.unwrapJoined := bit (nth f.body 0 0) 26 })) f s.toDev)) ∧
    (awake s.toDev = false ∨ portUp s.toDev f.port = false →
      ∀ c ∈ [Instr.frameEnum f, .ringCtlForget f, .ringCtlSetFold f, .ringCtlExtend f, .ringCtlProbeFar f, .ringCtlFarStat f,
        .ringCtlUnwrapPrep f, .ringCtlUnwrap f], Answers c s (Beside s.toDev)) ∧
    (awake s.toDev = true → isHead s.toDev = false → portUp s.toDev f.port = true → f.crcOk = true → f.damagedAt = 0 →
      headerError f = false → f.typ = 8 → f.rty = 0 → s.ring.returning = false →
      let w := nth f.body 0 0
      let mine : Prop := bit w 31 = (f.port == .B) ∧ 2 ≤ bf w 0 6 ∧ bf w 0 6 ≤ 62
      (s.ring.gate = false → s.ring.mode ≠ .await → mine → Answers (.frameEnum f) s (fun t =>
        t.ring.addr = bf w 0 6 ∧ t.ring.passId = bf w 16 8 ∧ t.ring.claimed = some f.seq ∧
        t.ring.turning = true ∧ t.ring.gate = false ∧
        t.ring.mode = (if f.port = .B then .reversed else if s.ring.armState then .arm else .normal) ∧
        nth t.link.reply 0 0 = replyWord (bf w 0 6) f.seq 1 ∧
        nth t.link.reply 1 0 = Word.of (s.part.cells * 2 ^ 24 + s.part.engines * 2 ^ 19 + f.port.num * 2 + 1) ∧
        t.link.reply.length = 3)) ∧
      (s.ring.gate = false → ¬ mine → Answers (.frameEnum f) s (fun t =>
        t.ring.addr = s.ring.addr ∧ t.ring.passId = s.ring.passId ∧ t.ring.turning = true ∧ t.ring.gate = false ∧
        nth t.link.reply 0 0 = replyWord s.ring.addr f.seq 1 ∧
        nth t.link.reply 1 0 = Word.of (s.part.cells * 2 ^ 24 + s.part.engines * 2 ^ 19 + f.port.num * 2))) ∧
      (s.ring.gate = true → bf w 16 8 ≠ s.ring.passId → Answers (.frameEnum f) s (fun t =>
        t.ring.addr = 0 ∧ t.ring.gate = false ∧ t.ring.mode = .gated ∧ t.ring.valA = false ∧ t.ring.valB = false ∧
        t.link.reply = s.link.reply)) ∧
      (s.ring.gate = true → bf w 16 8 = s.ring.passId → Answers (.frameEnum f) s (fun t =>
        t.ring.addr = s.ring.addr ∧ t.ring.gate = true ∧ t.link.reply = s.link.reply))) ∧
    (arrives s.toDev f = true → f.typ = 11 → f.rty = 0 → (f.bcast = true ∨ f.addr = s.ring.addr) →
      let w := nth f.body 0 0
      let told (t : Dev) : Prop := (f.bcast = false → t.link.reply.length = 3 ∧ nth t.link.reply 0 0 = replyWord s.ring.addr f.seq 1) ∧
        (f.bcast = true → t.link.ackPair = true ∧ t.link.reply = s.link.reply)
      let mode0 : RingMode := if bit w 27 = true ∧ s.ring.mode = .normal then .arm else s.ring.mode
      (ringOp f = 1 → Answers (.ringCtlForget f) s (fun t => told t ∧ t.ring.addr = 0 ∧ t.ring.gate = false ∧ t.ring.mode = .gated ∧
        t.ring.valA = false ∧ t.ring.valB = false)) ∧
      (ringOp f = 2 → Answers (.ringCtlSetFold f) s (fun t => told t ∧ t.ring.mode = .fold ∧ t.ring.foldB = (f.port == .B) ∧
        t.ring.addr = s.ring.addr ∧ (f.bcast = false → t.ring.turning = true))) ∧
      (ringOp f = 3 → Answers (.ringCtlExtend f) s (fun t => told t ∧
        (s.ring.mode = .fold → t.ring.mode = (if s.ring.foldB then .reversed else .arm) ∧ t.ring.foldB = false) ∧
        (s.ring.mode ≠ .fold → t.ring.mode = mode0 ∧ t.ring.foldB = s.ring.foldB))) ∧
      (ringOp f = 4 → Answers (.ringCtlProbeFar f) s (fun t => told t ∧ t.ring.mode = mode0 ∧
        t.ring.probing = (if s.ring.mode = .fold then true else s.ring.probing))) ∧
      (ringOp f = 5 → Answers (.ringCtlFarStat f) s (fun t => told t ∧ t.ring.mode = mode0 ∧ t.ring.farLock = false ∧
        t.ring.farProbe = false)) ∧
      (ringOp f = 6 → Answers (.ringCtlUnwrapPrep f) s (fun t => told t ∧
        (mode0 ≠ .normal → t.ring.afterPass = 1 ∧ t.ring.mode = mode0) ∧
        (mode0 = .normal → t.ring.afterPass = 0 ∧ t.ring.mode = .await))) ∧
      (ringOp f = 7 → Answers (.ringCtlUnwrap f) s (fun t => told t ∧ t.ring.unwrapJoined = bit w 26 ∧
        (mode0 ≠ .normal → t.ring.afterPass = 2 ∧ t.ring.mode = mode0) ∧
        (mode0 = .normal → t.ring.afterPass = 0 ∧ t.ring.mode = .normal ∧ t.ring.valA = (s.ring.valA && !bit w 26) ∧
          t.ring.valB = (s.ring.valB && !bit w 26))))) ∧
    (arrives s.toDev f = true → f.typ = 11 → f.bcast = false → f.addr ≠ s.ring.addr →
      ∀ c ∈ [Instr.ringCtlForget f, .ringCtlSetFold f, .ringCtlExtend f, .ringCtlProbeFar f, .ringCtlFarStat f, .ringCtlUnwrapPrep f,
        .ringCtlUnwrap f], Answers c s (fun t => t.ring.addr = s.ring.addr ∧ t.ring.gate = s.ring.gate ∧
          t.ring.foldB = s.ring.foldB ∧ t.ring.farLock = s.ring.farLock ∧ t.ring.farProbe = s.ring.farProbe ∧
          t.link.reply = s.link.reply))

/-- With no command waiting and none executing but ENUMERATE, no capture armed on events, nothing waiting for the test DAC
and no source set to SAFE_STATE. A head that may send on a free link starts, in this order: a sweep part that is due;
nothing while a retry waits; the first ring frame, where it ends before the next part is due; a tunnelled frame that
may start and fits; else a TIMING frame that is due. In a closed ring without an armed injection a ring frame leaves
with the next SEQ, header, timing block and payload, and a due sweep of one part as that part with its number. Else
nothing happens. A return, at an awake head, has the effect of takeReturn; one of no frame that is away, or on a port
not in use, changes nothing; a remote read ends with its value and OK; the last part of a sweep publishes it with each
member's slot. The time-out of the oldest frame has the effect of returnTimeout, none with none away; a register read
round a closed ring is queued for its retry, or breaks the ring (EV73) where port A has no lock or a frame was lost
before. A retry starts with its SEQ, counted in RETRY_CNT, where no part is due and it fits; else it waits.
[11_burza_link.md section Directed and broadcast frames; 11_burza_link.md section Sweeps; 12_ring_membership.md
section Wrap; 11_burza_link.md section Frames] -/
def Obligations.HeadFramesLeaveAndReturn : Prop :=
  ∀ s : State, s.cmd.waiting = [] → Unarmed s.toDev → DacIdle s.toDev → (∀ b, s.cmd.busy = some b → b.code = 0x50) →
    (∀ i, i < 128 → escReaction s.toDev i ≠ 5) →
    let d := s.toDev
    let free : Prop := canSend d = true ∧ linkFree d = true
    (free → partDue d = true → Answers .headFrameStart s (Beside (flushUnknown (startPart d)))) ∧
    (free → partDue d = false → s.head.retry ≠ [] → Answers .headFrameStart s (Beside d)) ∧
    (∀ f l, free → partDue d = false → s.head.retry = [] → s.head.ringFrames = f :: l →
      (fits d f = true → Answers .headFrameStart s (Beside (flushUnknown (startFrame f { d with head.ringFrames := l })))) ∧
      (fits d f = false → Answers .headFrameStart s (Beside (startTiming d)))) ∧
    (free → partDue d = false → s.head.retry = [] → s.head.ringFrames = [] →
      Answers .headFrameStart s (Beside (flushUnknown (startTunnel d)))) ∧
    (¬ free → Answers .headFrameStart s (Beside d)) ∧
    (∀ f l, free → s.ring.stat = .closed → s.fault.inject = [] → partDue d = false → s.head.retry = [] →
      s.head.ringFrames = f :: l → fits d f = true → f.rty = 0 → f.via = none → Answers .headFrameStart s (fun t =>
        t.head.ringFrames = l ∧ t.head.seq = (s.head.seq + 1) % 256 ∧
        t.head.flights = s.head.flights ++ [{ f with seq := s.head.seq, out := 1, bad := 0, got := none, pairs := 0 }] ∧
        (s.head.seq % 128 ≠ 0 → nth t.head.txFrame 1 0 = headerWord f.typ s.head.seq f.addr (f.addr == 63)
          (nth s.head.almWord (s.head.seq % 128) false) 0 (flightLen f)) ∧
        nth t.head.txFrame 2 0 = Word.of (phaseNow d) ∧ nth t.head.txFrame 3 0 = Word.of s.tb.period ∧
        t.head.txFrame.drop 5 = f.body)) ∧
    (free → s.ring.stat = .closed → s.fault.inject = [] → s.head.sweepParts = [] → itemN d 0x0701 = 1 → s.head.sweepDue = true →
      s.head.partsOut = 0 → itemN d 0x0702 = 0 → 1 ≤ itemN d 0x0704 → itemN d 0x0704 ≤ 32 → Answers .headFrameStart s (fun t =>
        t.head.sweepDue = false ∧ t.head.sweepNo = (s.head.sweepNo + 1) % 2 ^ 16 ∧ t.host.fill.no = s.head.sweepNo ∧
        t.head.flights = s.head.flights ++ [{ Flight.reset with typ := 2, seq := s.head.seq, out := 1, first := 1, slots := itemN d 0x0704
                                                                body := [Word.of (s.head.sweepNo * 2 ^ 16 + 2 ^ 10)] }])) ∧
    (∀ r, isHead d = true → awake d = true → Answers (.headFrameReturn r) s (Beside (flushUnknown (takeReturn r d)))) ∧
    (∀ r, (isHead d = false ∨ awake d = false ∨ portUp d r.port = false ∨
        ∀ f ∈ s.head.flights, f.typ = r.typ → f.seq = r.seq → mbit f.out r.port.num = false) →
      Answers (.headFrameReturn r) s (Beside d)) ∧
    (∀ (r : FrameReturn) f q, isHead d = true → awake d = true → s.ring.stat = .closed → s.ring.disturbed = false → portUp d .A = true →
      s.head.flights = [f] → f.typ = r.typ → f.seq = r.seq → f.out = 1 → r.port = .A → r.crcOk = true →
      r.damaged = 0 → f.bad = 0 → r.addr = f.addr → f.addr ≠ 63 → s.ring.enumStep = 0 →
      (f.kind = 4 → f.typ = 7 → r.reply = some 1 → s.host.remote = some q → q.write = false → Answers (.headFrameReturn r) s (fun t =>
        t.head.flights = [] ∧ t.host.remote = none ∧ t.host.remoteRes = some (0x80, q.addr, nth r.words 0 0))) ∧
      (∀ a alive ws, f.kind = 0 → f.typ ≠ 8 → s.head.partsOut = 1 → s.head.sweepParts = [] → s.host.swHold = false → 2 ≤ a → a ≤ 62 →
        (mapAt d a).present = true → f.first + 1 ≤ a → a ≤ f.first + f.slots → r.slots = [(a, true, alive, ws)] → alive < 16 →
        Answers (.headFrameReturn r) s (fun t => t.head.flights = [] ∧ t.head.partsOut = 0 ∧ t.host.swNew = true ∧
          t.host.front.no = s.host.fill.no ∧ akey t.host.front.entries a = some (entryHead s.host.fill.no alive false :: ws)))) ∧
    (isHead d = true → awake d = true → Answers .headReturnTimeout s (Beside (flushUnknown (returnTimeout d)))) ∧
    (isHead d = false ∨ awake d = false ∨ s.head.flights = [] → Answers .headReturnTimeout s (Beside d)) ∧
    (∀ f l, isHead d = true → awake d = true → s.ring.stat = .closed → s.ring.enumStep = 0 → s.head.flights = f :: l →
      f.kind = 4 → f.typ = 7 → f.rty < 2 → f.got = none → f.addr ≠ 63 →
      (s.link.lockA = true → nth s.ring.lostPasses 0 0 = 0 → Answers .headReturnTimeout s (fun t =>
        t.head.flights = l ∧ t.head.retry = s.head.retry ++ [{ f with out := 0 }] ∧ t.ring.stat = .closed)) ∧
      ((s.link.lockA = false ∨ 1 ≤ nth s.ring.lostPasses 0 0) → Answers .headReturnTimeout s (fun t =>
        t.head.flights = [] ∧ t.head.retry = [] ∧ t.ring.stat = .wrapped ∧ mbit t.host.evf 73 = true))) ∧
    (∀ f l, free → s.head.retry = f :: l → partDue d = false → fits d f = true →
      Answers .headRetry s (Beside (flushUnknown (startFrame { f with rty := f.rty + 1 }
        { d with head.retry := l, link.retryCnt := satInc 255 s.link.retryCnt })))) ∧
    (∀ f l, free → s.head.retry = f :: l → partDue d = false → fits d f = true → s.ring.stat = .closed → f.via = none →
      s.fault.inject = [] →
      Answers .headRetry s (fun t => t.head.retry = l ∧ t.head.seq = s.head.seq ∧ t.link.retryCnt = satInc 255 s.link.retryCnt ∧
        t.head.flights = s.head.flights ++ [{ f with rty := f.rty + 1, out := 1, bad := 0, got := none, pairs := 0 }])) ∧
    ((¬ free ∨ s.head.retry = [] ∨ partDue d = true ∨ ∀ f ∈ s.head.retry.head?, fits d f = false) → Answers .headRetry s (Beside d))

/-- With no command waiting and none executing but ENUMERATE, no capture armed on events, nothing waiting for the test
DAC. At a head that may send: a sweep that falls due is noted with its time where SWEEP_EN is 1 and the ring neither
enumerates nor is FAILED or in CONFLICT; a TIMING frame is noted; a census of a CLOSED or WRAPPED ring is queued, with
the RING_EPOCH, unless one is. The end of the silence of an awake head lets it send, and where the ring is IDLE with
ENUM_AUTO 1 begins an enumeration (startEnum): ENUMERATING at its first wait, the next PASS_ID, FORGET to all queued,
no sweep and no frame left. While enumerating, the wait after FORGET is followed by the claims: ENUM on port B for
address 2 is the only frame queued; the quiet wait by a new attempt: counted to 63, the next PASS_ID, FORGET queued.
In every other case each of these changes nothing. [12_ring_membership.md section Enumeration; 12_ring_membership.md
section Census; 11_burza_link.md section Directed and broadcast frames; 12_ring_membership.md section A second head;
11_burza_link.md section Sweeps] -/
def Obligations.HeadRingWorkGoesOn : Prop :=
  ∀ s : State, s.cmd.waiting = [] → Unarmed s.toDev → DacIdle s.toDev → (∀ b, s.cmd.busy = some b → b.code = 0x50) →
    let d := s.toDev
    let sweeps : Prop := canSend d = true ∧ s.ring.stat ≠ .enumerating ∧ s.ring.stat ≠ .failed ∧ s.ring.stat ≠ .conflict ∧ itemN d 0x0701 = 1
    let counts : Prop := canSend d = true ∧ (s.ring.stat = .closed ∨ s.ring.stat = .wrapped) ∧ (∀ f ∈ s.head.ringFrames, f.typ ≠ 9)
    let quiet : Prop := isHead d = true ∧ awake d = true ∧ s.ring.silent = true
    (sweeps → Answers .sweepDue s (Beside { d with head.sweepDue := true, head.sweepAt := s.now })) ∧
    (¬ sweeps → Answers .sweepDue s (Beside d)) ∧
    (canSend d = true → Answers .timingFrameDue s (Beside { d with head.timingDue := true })) ∧
    (canSend d = false → Answers .timingFrameDue s (Beside d)) ∧
    (counts → Answers .censusDue s (Beside { d with
      head.ringFrames := s.head.ringFrames ++ [ringFrame 9 63 none (Word.of (s.ring.epoch * 2 ^ 16))] })) ∧
    (¬ counts → Answers .censusDue s (Beside d)) ∧
    (quiet → s.ring.stat = .idle → itemN d 0x0710 = 1 → Answers .headSilenceEnd s (fun t =>
      Beside (startEnum { d with ring.silent := false }) t ∧ t.ring.silent = false ∧ t.ring.stat = .enumerating ∧ t.ring.enumStep = 1 ∧
      t.ring.passId = (s.ring.passId + 1) % 256 ∧ t.head.ringFrames = [ringFrame 11 63 none (Word.of (2 ^ 28))] ∧
      t.head.flights = [] ∧ t.head.retry = [] ∧ t.head.tunnel = [] ∧ t.head.sweepParts = [])) ∧
    (quiet → (s.ring.stat ≠ .idle ∨ itemN d 0x0710 ≠ 1) → Answers .headSilenceEnd s (Beside { d with ring.silent := false })) ∧
    (¬ quiet → Answers .headSilenceEnd s (Beside d)) ∧
    (s.ring.stat = .enumerating → s.ring.enumStep = 1 → Answers .enumForgetWait s (Beside { d with
      ring.enumStep := 2, head.flights := [], head.retry := []
      head.ringFrames := [ringFrame 8 0 (some .B) (Word.of (s.ring.passId * 2 ^ 16 + 2))] })) ∧
    ((s.ring.stat ≠ .enumerating ∨ s.ring.enumStep ≠ 1) → Answers .enumForgetWait s (Beside d)) ∧
    (s.ring.stat = .enumerating → s.ring.enumStep = 4 → Answers .enumQuiet s (fun t =>
      Beside (beginAttempt { d with ring.attempts := satInc 63 s.ring.attempts }) t ∧ t.ring.enumStep = 1 ∧
      t.ring.attempts = satInc 63 s.ring.attempts ∧ t.ring.passId = (s.ring.passId + 1) % 256 ∧
      t.head.ringFrames = s.head.ringFrames ++ [ringFrame 11 63 none (Word.of (2 ^ 28))])) ∧
    ((s.ring.stat ≠ .enumerating ∨ s.ring.enumStep ≠ 4) → Answers .enumQuiet s (Beside d))

/-- On a calm block with no source set to SAFE_STATE. At an awake head, whatever the transaction, SDO carries the previous
answer, after a NOP a remote result where there is one. A request with a good CRC-8 has the effect of spiRequest (a
complete message with an unknown code is answered at once): NOP answers S_OK and takes the remote result; READ of a
mapped local register its value, its read-clear fields clearing, of another S_ADDR; WRITE of a mapped local register
writes it (hostWrite), else S_ADDR; READ of all is S_OP; READ or WRITE of a member, WRITE of all: unmapped S_ADDR, one
pending S_BUSY, absent or CONFLICT S_LINK, else it becomes the pending access, queued as REG_RD or REG_WR, S_PENDING;
BURST of 1 to 1024 local words gives them with a CRC-8 after each 8, S_ADDR where one is unmapped, else S_OP. A bad
CRC-8 is counted, raises EV125 and answers S_CRC; a short transaction S_SHORT. A remote access's end leaves its result
and frees its frames, without one nothing. Elsewhere than at an awake head nothing happens.
[13_host_port_and_mailboxes.md section SPI transactions; 13_host_port_and_mailboxes.md table "SPI request";
13_host_port_and_mailboxes.md table "SSTAT"] -/
def Obligations.SpiTransactionsAnswerNext : Prop :=
  ∀ (s : State) (q : BitVec 64), Calm s.toDev → (∀ i, i < 128 → escReaction s.toDev i ≠ 5) →
    let kind := q.toNat / 2 ^ 62
    let dev := q.toNat / 2 ^ 56 % 64
    let a := q.toNat / 2 ^ 40 % 2 ^ 16
    let w := Word.of (q.toNat / 256)
    let good : Prop := crc8 56 (q.toNat / 256) = q.toNat % 256
    let o := { spiOut s.toDev with host.lastNop := false, host.burst := [] }
    let answered (t : Dev) (st : Nat) (v : Word) : Prop := t.host.sstat = st ∧ t.host.rAddr = a ∧ t.host.rData = v
    (isHead s.toDev = false ∨ awake s.toDev = false →
      ∀ c ∈ [Instr.spiNop q, .spiRead q, .spiWrite q, .spiBurst q, .spiShortTransaction], Answers c s (Beside s.toDev)) ∧
    (isHead s.toDev = true → awake s.toDev = true →
      (∀ c ∈ [Instr.spiNop q, .spiRead q, .spiWrite q, .spiBurst q],
        (good → Answers c s (Beside (flushUnknown (spiRequest kind dev a w o)))) ∧
        (¬ good → Answers c s (fun t => answered t 2 0 ∧ t.host.spiCrc = satInc 255 s.host.spiCrc ∧ mbit t.host.evf 125 = true ∧
          Beside (spiAnswer 2 a 0 (raise 125 { o with host.spiCrc := satInc 255 s.host.spiCrc })) t)) ∧
        Answers c s (fun t =>
          (s.host.lastNop = false ∨ s.host.remoteRes = none → t.host.sdo = spiWord s.host.sstat s.host.rAddr s.host.rData) ∧
          (∀ st b v, s.host.lastNop = true → s.host.remoteRes = some (st, b, v) → t.host.sdo = spiWord st b v))) ∧
      (good → kind = 0 → Answers (.spiNop q) s (fun t => answered t 0 0 ∧ t.host.lastNop = true ∧
        t.host.remoteRes = (if s.host.lastNop then none else s.host.remoteRes) ∧
        Beside { s.toDev with host := { s.host with sdo := t.host.sdo, lastNop := true, burst := [], sstat := 0, rAddr := a, rData := 0
                                                    remoteRes := t.host.remoteRes } } t)) ∧
      (good → kind = 1 →
        (dev ≤ 1 → mapped true a = true → Answers (.spiRead q) s (fun t => answered t 0 (regWord o a) ∧
          Beside (spiAnswer 0 a (regWord o a) (afterRead a o)) t)) ∧
        (dev ≤ 1 → mapped true a = false → Answers (.spiRead q) s (fun t => answered t 4 0 ∧ Beside (spiAnswer 4 a 0 o) t)) ∧
        (dev = 63 → Answers (.spiRead q) s (fun t => answered t 3 0 ∧ Beside (spiAnswer 3 a 0 o) t))) ∧
      (good → kind = 2 → dev ≤ 1 →
        (mapped true a = true → Answers (.spiWrite q) s (Beside (flushUnknown (spiAnswer 0 a w (hostWrite a w o))))) ∧
        (a = 0x18 → Answers (.spiWrite q) s (fun t => answered t 0 w ∧ t.host.irqEn = BitVec.ofNat 9 w.toNat)) ∧
        (mapped true a = false → Answers (.spiWrite q) s (fun t => answered t 4 0 ∧ Beside (spiAnswer 4 a 0 o) t))) ∧
      (∀ (c : Instr) (wr : Bool), (c = .spiRead q ∧ kind = 1 ∧ wr = false ∧ dev ≠ 63) ∨ (c = .spiWrite q ∧ kind = 2 ∧ wr = true) →
        good → 2 ≤ dev →
        (mapped false a = false → Answers c s (fun t => answered t 4 0 ∧ Beside (spiAnswer 4 a 0 o) t)) ∧
        (mapped false a = true → s.host.remote ≠ none → Answers c s (fun t => answered t 5 0 ∧ Beside (spiAnswer 5 a 0 o) t)) ∧
        (mapped false a = true → s.host.remote = none →
          ((dev ≠ 63 ∧ (mapAt s.toDev dev).present = false) ∨ s.ring.stat = .conflict) →
          Answers c s (fun t => answered t 6 0 ∧ Beside (spiAnswer 6 a 0 o) t)) ∧
        (mapped false a = true → s.host.remote = none → (dev = 63 ∨ (mapAt s.toDev dev).present = true) → s.ring.stat ≠ .conflict →
          Answers c s (Beside (spiAnswer 1 a (if wr then w else 0) { o with
            host.remote := some { dev := dev, addr := a, write := wr, value := if wr then w else 0 }
            head.tunnel := s.head.tunnel ++ [{ Flight.reset with typ := if wr then 6 else 7, addr := dev, kind := 4
                                                                 body := Word.of a :: (if wr then [w] else []) }] })))) ∧
      (good → kind = 3 →
        (2 ≤ dev ∨ w.toNat % 2048 = 0 ∨ 1024 < w.toNat % 2048 → Answers (.spiBurst q) s (fun t => answered t 3 0 ∧
          Beside (spiAnswer 3 a 0 o) t)) ∧
        (dev ≤ 1 → 1 ≤ w.toNat % 2048 → w.toNat % 2048 ≤ 1024 →
          let r := burstWords a (w.toNat % 2048) o
          Answers (.spiBurst q) s (fun t => answered t (if r.2.1 then 4 else 0) (Word.of (w.toNat % 2048)) ∧
            t.host.burst = burstGroups r.1 ∧
            Beside (spiAnswer t.host.sstat a t.host.rData { r.2.2 with host.burst := t.host.burst }) t)) ∧
        (dev ≤ 1 → w.toNat % 2048 = 1 → mapped true a = true → Answers (.spiBurst q) s (fun t => answered t 0 1 ∧
          t.host.burst = [regWord o a, Word.of (crc8Words [regWord o a])]))) ∧
      Answers .spiShortTransaction s (Beside { s.toDev with host := { s.host with sstat := 7, rAddr := 0, rData := 0, lastNop := false } })) ∧
    (∀ r ok v, isHead s.toDev = true → awake s.toDev = true → s.host.remote = some r → Answers (.remoteAccessDone ok v) s (Beside { s.toDev with
      host.remote := none
      host.remoteRes := some (if ok then 0x80 else 0x86, r.addr, if r.write then r.value else v)
      head.flights := s.head.flights.filter (fun (f : Flight) => f.kind != 4)
      head.retry := s.head.retry.filter (fun (f : Flight) => f.kind != 4)
      head.tunnel := s.head.tunnel.filter (fun (f : Flight) => f.kind != 4) })) ∧
    (isHead s.toDev = false ∨ awake s.toDev = false ∨ s.host.remote = none →
      ∀ ok v, Answers (.remoteAccessDone ok v) s (Beside s.toDev))

/-- On a calm block. At an awake head: a word is appended to the message being composed, in a full mailbox OVF is set.
SEND judges in order (sendCheck): overflow or a count that is not LEN, ERR_LENGTH, reason 7; LEN outside 2 to 256,
reason 6; a target neither the head, all, nor PRESENT, ERR_STATE, reason 4; for another than the head a ring that
enumerates, is FAILED or in CONFLICT, BUSY, reason 5; 32 commands outstanding or 4 of a device, BUSY, reason 1. A
refused message is discarded and answered by the head with status and reason. One accepted becomes outstanding; for
the head itself it goes to the housekeeper (with an unknown code it is answered at once), else its fragments are
queued. ABORT discards what is composed. A read of the response window takes a word, at the last the next response
becomes current; with none nothing; NEXT skips one; SWEEP_STAT clears NEW and REPL. Of any awake block: a read of a
record window takes a word; the read-clear fields of MBX_COUNTS, TB_STAT, TRIP_STAT and LINK_STAT clear as they are
read, LINK_CTRL.CLR_CNT clears LINK_STAT's. Elsewhere nothing happens. [13_host_port_and_mailboxes.md section Mailbox
messages; 13_host_port_and_mailboxes.md section Event and stream mailboxes; 13_host_port_and_mailboxes.md section
Direct register map] -/
def Obligations.MailboxesHoldMessagesAndRecords : Prop :=
  ∀ s : State, Calm s.toDev →
    let host : Prop := isHead s.toDev = true ∧ awake s.toDev = true
    (host →
      (∀ w, s.host.composed.length + s.host.submitted < 256 →
        Answers (.mbxCmdWinWrite w) s (Beside { s.toDev with host.composed := s.host.composed ++ [w] })) ∧
      (∀ w, 256 ≤ s.host.composed.length + s.host.submitted →
        Answers (.mbxCmdWinWrite w) s (Beside { s.toDev with host.ovf := true })) ∧
      (let h := nth s.host.composed 0 0
       let len := bf h 0 10
       let tgt := s.host.target
       let o : Outst := { Outst.reset with
         target := tgt, seq := bf h 16 8, code := bf h 24 8, quiet := bit h 13, len := s.host.composed.length
         words := if tgt = 1 then [] else s.host.composed, polls := if tgt = 63 then s.host.composed else [] }
       let clear := { s.toDev with host.composed := [], host.ovf := false }
       let sent := { clear with host.outst := s.host.outst ++ [o], host.submitted := s.host.submitted + s.host.composed.length }
       (s.host.ovf = true → sendCheck s.toDev = some (7, stLENGTH)) ∧
       (s.host.ovf = false → (len < 2 ∨ 256 < len) → sendCheck s.toDev = some (6, stLENGTH)) ∧
       (s.host.ovf = false → 2 ≤ len → len ≤ 256 →
         (s.host.composed.length ≠ len → sendCheck s.toDev = some (7, stLENGTH)) ∧
         (s.host.composed.length = len →
           (tgt ≠ 1 → tgt ≠ 63 → (tgt < 2 ∨ (mapAt s.toDev tgt).present = false) → sendCheck s.toDev = some (4, stSTATE)) ∧
           ((tgt = 63 ∨ (2 ≤ tgt ∧ (mapAt s.toDev tgt).present = true)) → ringServes s.toDev = false →
             sendCheck s.toDev = some (5, stBUSY)) ∧
           ((tgt = 1 ∨ ((tgt = 63 ∨ (2 ≤ tgt ∧ (mapAt s.toDev tgt).present = true)) ∧ ringServes s.toDev = true)) →
             sendCheck s.toDev = (if atLimit s.toDev tgt then some (1, stBUSY) else none)))) ∧
       (∀ e, sendCheck s.toDev = some e → Answers .mbxSend s (Beside { clear with
         host.rsps := s.host.rsps ++ [⟨1, rspWords 1 (bf h 24 8) (bf h 16 8) false true e.1 e.2 []⟩] })) ∧
       (sendCheck s.toDev = none → tgt = 1 → Answers .mbxSend s (Beside (flushUnknown { sent with
         cmd.waiting := [(false, s.host.composed)] }))) ∧
       (sendCheck s.toDev = none → tgt = 1 → knownCodes.contains (bf h 24 8) = true → Answers .mbxSend s (Beside { sent with
         cmd.waiting := [(false, s.host.composed)] })) ∧
       (sendCheck s.toDev = none → tgt ≠ 1 → Answers .mbxSend s (Beside { sent with
         head.tunnel := s.head.tunnel ++ [{ Flight.reset with typ := 4, addr := tgt, kind := 2, tag := bf h 16 8 * 256 + bf h 24 8 }] }))) ∧
      Answers .mbxAbort s (Beside { s.toDev with host.composed := [], host.ovf := false }) ∧
      (∀ r l, s.host.rsps = r :: l → s.host.rspPos + 1 < r.words.length →
        Answers .mbxRspWinRead s (Beside { s.toDev with host.rspPos := s.host.rspPos + 1 })) ∧
      (∀ r l, s.host.rsps = r :: l → r.words.length ≤ s.host.rspPos + 1 →
        Answers .mbxRspWinRead s (Beside { s.toDev with host.rsps := l, host.rspPos := 0 })) ∧
      (s.host.rsps = [] → Answers .mbxRspWinRead s (Beside s.toDev)) ∧
      Answers .mbxRspNext s (Beside { s.toDev with host.rsps := s.host.rsps.drop 1, host.rspPos := 0 }) ∧
      Answers .sweepStatRead s (Beside { s.toDev with host.swNew := false, host.swRepl := 0 })) ∧
    (¬ host → (∀ w, Answers (.mbxCmdWinWrite w) s (Beside s.toDev)) ∧
      ∀ c ∈ [Instr.mbxSend, .mbxAbort, .mbxRspWinRead, .mbxRspNext, .sweepStatRead], Answers c s (Beside s.toDev)) ∧
    (awake s.toDev = true →
      Answers .mbxEvtWinRead s (Beside { s.toDev with host.evt := s.host.evt.drop 1, host.evtRecs := takeRec s.host.evtRecs }) ∧
      Answers .mbxStrmWinRead s (Beside { s.toDev with host.strm := s.host.strm.drop 1, host.strmRecs := takeRec s.host.strmRecs }) ∧
      Answers .mbxCountsRead s (Beside { s.toDev with host := { s.host with evtDrop := 0, spiCrc := 0, msgCrc := 0, seqGaps := 0 } }) ∧
      Answers .tbStatRead s (Beside { s.toDev with tb := { s.tb with refReject := 0, lateCnt := 0 } }) ∧
      Answers .tripStatRead s (Beside { s.toDev with trip.insertCnt := 0 }) ∧
      Answers .linkStatRead s (Beside { s.toDev with link := { s.link with crcCnt := 0, violCnt := 0, retryCnt := 0 } }) ∧
      Answers .linkCtrlClrCnt s (Beside { s.toDev with link := { s.link with crcCnt := 0, violCnt := 0, retryCnt := 0 } })) ∧
    (awake s.toDev = false → ∀ c ∈ [Instr.mbxEvtWinRead, .mbxStrmWinRead, .mbxCountsRead, .tbStatRead, .tripStatRead, .linkStatRead,
      .linkCtrlClrCnt], Answers c s (Beside s.toDev))

/-- With nothing waiting for the test DAC, no capture armed on events and no source set to SAFE_STATE. A register is
written at an awake head over SPI, at an awake member by a REG_WR frame; from the other source, or not awake, a write
changes nothing. On a calm block: LINK_CTRL writes CLR_CNT and the enables, each with its entry where it changes
(writeLinkCtrl): disabling a port clears its LOCK; disabling the receiving port is refused and noted. FAULT_PIN_CTRL
takes FORCE, AUTO and STRETCH, at least 5, with an entry where they change, and clears LATCH where nothing holds it. A
mapped register takes what hostWrite or writeReg gives (a message sent with an unknown code is answered at once): a 1
clears bits of EVF, HK_RESTARTED, LOS and EN_REFUSED; IRQ_EN and EVE take their bits; the SEL of the head's RING_MAP
selects; read-only and unmapped registers ignore it. EVFORCE makes each event named occur, lowest first (raiseForced),
its flag set where the part has its source; one without reaction is only noted. A housekeeper restart takes the
housekeeper away; its end brings it back: HK_RESTARTED, HK_RESTARTS counted to 255, a message, EV124, and what waited
goes on. [13_host_port_and_mailboxes.md section Direct register map; 11_burza_link.md section Registers, items and
events; 15_faults_and_sluices.md table "FAULT_PIN_CTRL"; 15_faults_and_sluices.md section Injection;
13_host_port_and_mailboxes.md section Housekeeper restart; 00_scope.md section Variants] -/
def Obligations.RegisterWritesAndForcedEvents : Prop :=
  ∀ (s : State) (w : Word), Unarmed s.toDev → DacIdle s.toDev → (∀ i, i < 128 → escReaction s.toDev i ≠ 5) →
    (∀ (src : Source) (a : Nat),
      let mine : Prop := awake s.toDev = true ∧ (if src = .spi then isHead s.toDev = true else isHead s.toDev = false)
      let org : Nat := if src = .spi then 0 else 2
      Calm s.toDev →
      (¬ mine → ∀ c ∈ [Instr.linkCtrlPortEn src w, .faultPinCtrlWrite src w, .registerWrite src a w], Answers c s (Beside s.toDev)) ∧
      (mine →
        Answers (.linkCtrlPortEn src w) s (Beside (writeLinkCtrl src w s.toDev)) ∧
        (bit w 0 = true → bit w 1 = false → s.link.enA = true → s.link.enB = true → receivePort s.toDev = some .A →
          Answers (.linkCtrlPortEn src w) s (fun t => t.link.enA = true ∧ t.link.enB = false ∧ t.link.lockB = false ∧
            t.link.lockA = s.link.lockA ∧ (bit w 2 = true → t.link.crcCnt = 0 ∧ t.link.violCnt = 0 ∧ t.link.retryCnt = 0) ∧
            (∃ e : Entry, t.jrn.q27 = s.jrn.q27 ++ [e] ∧ e.item = 0xC010 ∧ e.old = 2 ∧ e.new = 0 ∧ e.origin = org))) ∧
        (bit w 2 = false → bit w 0 = false → bit w 1 = true → s.link.enA = true → s.link.enB = true → receivePort s.toDev = some .A →
          Answers (.linkCtrlPortEn src w) s (Beside { s.toDev with link.enRefused := true })) ∧
        Answers (.faultPinCtrlWrite src w) s (fun t => t.fault.stretch10us = max 5 (bf w 8 8) ∧
          t.fault.force = bit w 1 ∧ t.fault.auto = bit w 0 ∧
          t.fault.latch = (s.fault.latch && (!bit w 2 || (faultLive s.toDev || s.fault.startup || s.fault.stretch))) ∧
          Beside { s.toDev with fault := { s.fault with stretch10us := t.fault.stretch10us, force := t.fault.force, auto := t.fault.auto
                                                        latch := t.fault.latch }, jrn := { s.jrn with q27 := t.jrn.q27 } } t ∧
          (t.fault.stretch10us = s.fault.stretch10us → t.fault.force = s.fault.force → t.fault.auto = s.fault.auto →
            t.fault.latch = s.fault.latch → t.jrn.q27 = s.jrn.q27)) ∧
        Answers (.registerWrite src a w) s (Beside (if src = .spi then
            (if mapped true a then flushUnknown (hostWrite a w s.toDev) else s.toDev)
          else if mapped false a then writeReg src a w s.toDev else s.toDev)) ∧
        (∀ b : Fin 4, Answers (.registerWrite src (0x100 + 4 * b) w) s (Beside { s.toDev with
          host.evf := s.host.evf &&& ~~~ (BitVec.ofNat 128 (w.toNat * 2 ^ (32 * b.val))) })) ∧
        Answers (.registerWrite src 0x10 w) s (Beside { s.toDev with cmd.hkRestarted := s.cmd.hkRestarted && !bit w 28 }) ∧
        Answers (.registerWrite src 0x44 w) s (Beside { s.toDev with link := { s.link with
          losA := s.link.losA && !bit w 29, losB := s.link.losB && !bit w 28, enRefused := s.link.enRefused && !bit w 25 } }) ∧
        Answers (.registerWrite src 0x18 w) s (fun t => t.host.irqEn = BitVec.ofNat 9 w.toNat ∧
          Beside { s.toDev with host := { s.host with irqEn := t.host.irqEn }, jrn := { s.jrn with q27 := t.jrn.q27 } } t) ∧
        (∀ i, i < 32 → Answers (.registerWrite src 0x110 w) s (fun t =>
          mbit t.host.eve i = (bit w i && !srcAbsent s.part i))) ∧
        Answers (.registerWrite src 0x48 w) s (Beside (if isHead s.toDev then { s.toDev with ring.sel := bf w 26 6 } else s.toDev)) ∧
        (∀ r ∈ [0x00, 0x04, 0x08, 0x0C, 0x14, 0x30, 0x34, 0x38, 0x4C, 0x54, 0x68, 0x6C, 0x74, 0x78, 0x90, 0x94, 0xA8, 0xB0, 0xB4, 0xB8],
          Answers (.registerWrite src r w) s (Beside s.toDev)))) ∧
    (∀ b : Fin 4, Calm s.toDev →
      (awake s.toDev = true → Answers (.evforceWrite b w) s (fun t =>
        Beside (forEach (mlist w) (fun i d => raiseForced (32 * b + i) d) s.toDev) t ∧
        (∀ i, i < 32 → bit w i = true → srcAbsent s.part (32 * b + i) = false → mbit t.host.evf (32 * b + i) = true))) ∧
      (∀ i, awake s.toDev = true → i < 32 → w = one 32 i → Plain s.toDev (32 * b + i) →
        Answers (.evforceWrite b w) s (Noted (32 * b + i) s.toDev)) ∧
      (awake s.toDev = false ∨ w = 0 → Answers (.evforceWrite b w) s (Beside s.toDev))) ∧
    (awake s.toDev = true → Answers .hkRestart s (Beside (longEnds { s.toDev with cmd.hkReady := false }))) ∧
    (awake s.toDev = true → s.cmd.busy = none → Answers .hkRestart s (Beside { s.toDev with cmd.hkReady := false })) ∧
    (awake s.toDev = true → s.cmd.hkReady = false → Answers .hkRestartDone s (fun t => Beside (longEnds (hkUp s.toDev)) t ∧
      t.cmd.hkReady = true ∧ t.cmd.hkRestarted = true ∧ t.cmd.hkRestarts = satInc 255 s.cmd.hkRestarts ∧ mbit t.host.evf 124 = true ∧
      (s.cmd.busy = none → s.cmd.waiting = [] → s.eng.packWait = [] → s.eng.msgs.length < 32 → 0 < freeCount s.toDev → Plain s.toDev 124 →
        t.eng.msgs = s.eng.msgs ++ [msgWord 4 5 (satInc 255 s.cmd.hkRestarts)]))) ∧
    (Calm s.toDev → awake s.toDev = false → Answers .hkRestart s (Beside s.toDev)) ∧
    (Calm s.toDev → (awake s.toDev = false ∨ s.cmd.hkReady = true) → Answers .hkRestartDone s (Beside s.toDev))

/-- On a calm device with no lockstep injection pending: IDENTIFY and CAPS without operands answer OK with their words and
change nothing else; an IDENTIFY with reserved header bits set is ERR_RANGE. For every row of the table "Command
summary": asleep nothing happens; while the housekeeper restarts the message waits; a bad CRC-32 is counted, raises
EV125 (without a reaction), is answered ERR_CRC and neither cached nor executed; RSP, HEAD or SEQ_GAP set is answered
ERR_RANGE; a cached SEQ and CODE is answered DUPLICATE with the cached words; a LENGTH that the row does not give is
ERR_LENGTH; a broadcast where the row allows none, a head-only command at a member, and any command of a device about
to leave for SLEEP or SHIP is ERR_STATE; one that needs a session without one ERR_AUTH. Nothing else changes in these
(at a bad CRC-32: items, journal and power stay). An IDENTIFY whose SEQ does not follow is answered with SEQ_GAP set;
the gap is counted and raises EV125. [13_host_port_and_mailboxes.md section Mailbox messages;
14_aeddo_command_reference.md section How commands execute; 14_aeddo_command_reference.md table "Command summary";
14_aeddo_command_reference.md table "IDENTIFY"; 14_aeddo_command_reference.md table "CAPS"] -/
def Obligations.MessagesFollowTheProtocol : Prop :=
  ∀ (s : State) (m : Msg) (codes ax : List Nat), Calm s.toDev → (∀ i ∈ s.fault.inject, i.1 ≠ 4) →
    (takes s.toDev 0x01 false m = true → m.body = [] → Answers (.identify m) s (Replied 0x01 m stOK
      [Word.of (partCode s.part * 2 ^ 16 + 0xB130 + (if isHead s.toDev then 8 else 0)), 0x03020300,
       Word.of (causeCode s.power.cause * 2 ^ 24 + (if isHead s.toDev then 2 ^ 23 else 0) + pstateCode s.toDev * 2 ^ 20 +
         (if isHead s.toDev then 1 else s.ring.addr)),
       Word.of (s.otp.uid.toNat % 2 ^ 32), Word.of (s.otp.uid.toNat / 2 ^ 32), s.part.cap0, s.part.cap1,
       Word.of (genEmpty s.toDev * 2 ^ 8 + s.otp.used.getD 0xFF)] s.toDev)) ∧
    (takes s.toDev 0x02 false m = true → m.body = [] → Answers (.caps m) s (Replied 0x02 m stOK
      [s.part.cap0, s.part.cap1, Word.of (historyDepth s.part * 2 ^ 16 + historyDepth s.part / 8),
       Word.of (s.part.pool * 2 ^ 16 + weir s.toDev), 0x10040404, 0x01000100] s.toDev)) ∧
    (m.rsv ≠ 0 → awake s.toDev = true → s.cmd.hkReady = true → s.power.leaving = none →
      crc32 (msgWords 0x01 m).dropLast = m.crc → (m.rsp || m.head || m.gap) = false → cached s.toDev m.seq.toNat 0x01 = none →
      seqGap s.toDev m.seq.toNat = false → m.bcast = false → m.body = [] →
      Answers (.identify m) s (Replied 0x01 m stRANGE [] s.toDev)) ∧
    (∀ p ∈ summary m codes ax,
      (awake s.toDev = false → Answers p.1 s (Beside s.toDev)) ∧
      (awake s.toDev = true → s.cmd.hkReady = false → Answers p.1 s
        (Beside { s.toDev with cmd := { s.cmd with waiting := [(m.bcast, msgWords p.2.code m)] } })) ∧
      (awake s.toDev = true → s.cmd.hkReady = true →
        (crc32 (msgWords p.2.code m).dropLast ≠ m.crc → Plain s.toDev 125 → Answers p.1 s (fun t =>
          t.host.msgCrc = satInc 255 s.host.msgCrc ∧ mbit t.host.evf 125 = true ∧ t.cmd.cache = s.cmd.cache ∧
          t.cmd.expSeq = s.cmd.expSeq ∧ t.cmd.busy = none ∧ t.cfg = s.cfg ∧ t.jrn = s.jrn ∧ t.power = s.power ∧
          t.host.rsps = s.host.rsps ++
            (if isHead s.toDev then [⟨1, rspOf p.2.code m (st 0x09) [] s.toDev⟩] else []) ∧
          t.cmd.out = s.cmd.out ++
            (if isHead s.toDev || m.bcast then [] else [⟨s.ring.addr, rspOf p.2.code m (st 0x09) [] s.toDev⟩]))) ∧
        (crc32 (msgWords p.2.code m).dropLast = m.crc → (m.rsp || m.head || m.gap) = true → Answers p.1 s
          (Sent p.2.code m false (rspOf p.2.code m stRANGE [] s.toDev) s.toDev)) ∧
        (∀ x, crc32 (msgWords p.2.code m).dropLast = m.crc → (m.rsp || m.head || m.gap) = false →
          cached s.toDev m.seq.toNat p.2.code = some x → Answers p.1 s
          (Sent p.2.code m false (dupWords (ownAddr s.toDev) x.words) s.toDev))) ∧
      (takes { s.toDev with power := { s.power with leaving := none } } p.2.code true m = true →
        (p.2.lenOk m = false → Answers p.1 s (Replied p.2.code m stLENGTH [] s.toDev)) ∧
        (p.2.lenOk m = true →
          ((m.bcast && !p.2.bcast) || (p.2.head && !isHead s.toDev) || s.power.leaving.isSome) = true →
          Answers p.1 s (Replied p.2.code m stSTATE [] s.toDev)) ∧
        (p.2.lenOk m = true → (m.bcast && !p.2.bcast) = false → s.power.leaving = none → p.2.session = true →
          s.sess.isOpen = false → Answers p.1 s (Replied p.2.code m stAUTH [] s.toDev)))) ∧
    (∀ e, takes { s.toDev with cmd := { s.cmd with expSeq := none } } 0x01 false m = true → m.body = [] →
      s.cmd.expSeq = some e → e ≠ m.seq.toNat → Plain s.toDev 125 → Answers (.identify m) s (fun t =>
        t.host.seqGaps = satInc 255 s.host.seqGaps ∧ mbit t.host.evf 125 = true ∧
        t.cmd.expSeq = some ((m.seq.toNat + 1) % 256) ∧
        (∃ x : Cached, t.cmd.cache.head? = some x ∧ x.seq = m.seq.toNat ∧ x.code = 0x01 ∧
          bit (nth x.words 0 0) 12 = true ∧ bf (nth x.words 1 0) 24 8 = 0)))

/-- On a calm device that takes the message, its LENGTH right, the journal free: CFG_SET with a bad COUNT is ERR_RANGE;
else its list is written whole (setItems, where nothing is left waiting) and answers how many items changed, or is
refused with its index and item. Item 0x0305 in range is written with an entry where it changes; an unknown ID, or a
second entry out of range, refuses all. CFG_GET gives each ID with its value and clears read-clear items; an absent
item is ERR_ABSENT, an unknown ID or bad COUNT ERR_RANGE. CONV_SETUP and WINDOW_SET whose items pass their checks
write them; an absent channel, a reserved bit or a failed check refuses them. CFG_COMMIT_OTP in a session, GEN the
lowest EMPTY generation, within limits, begins to program it; none EMPTY is ERR_OTP_FULL, another GEN or outside
limits ERR_STATE. POWER_STATE for the present state is answered at once; what its checks refuse is refused; else the
transition begins (goTo), answered at its end; from STANDBY to ACTIVE-H it first raises VD. SOFT_RESET with the own
address (63 in a broadcast), no VALID generation in OTP, sets RST_CAUSE, ends captures, plans, duties, port and
channel fences and the session, and keeps the state, the ring, the period count and the kept journal; another CONFIRM
is ERR_RANGE. [14_aeddo_command_reference.md section Configuration commands; 14_aeddo_command_reference.md section
System commands; 14_aeddo_command_reference.md section How commands execute; 05_cell_conversion.md section Conversion
items; 07_comparators_and_trip.md section Registers and items; 17_journal_otp_security.md section Configuration
generations] -/
def Obligations.ConfigurationMessagesWriteItems : Prop :=
  ∀ (s : State) (m : Msg) (codes ax : List Nat), Calm s.toDev → JournalFree s.toDev →
    (takes s.toDev 0x10 true m = true → m.body.length = 1 + 2 * cfgCount m →
      (countOk m = false → Answers (.cfgSet m) s (Replied 0x10 m stRANGE [0xFF000000, 0] s.toDev)) ∧
      (countOk m = true →
        (let r := setItems (cmdCtx s.toDev 0x10 m.seq.toNat) (cfgPairs m) s.toDev
         (r.st.code = 0 → Calm r.dev → r.dev.jrn.q27.length ≤ 500 → Answers (.cfgSet m) s
           (Replied 0x10 m stOK [Word.of (r.index * 2 ^ 24 + r.item), Word.of r.changed] r.dev)) ∧
         (r.st.code ≠ 0 → r.forced = false → Answers (.cfgSet m) s
           (Replied 0x10 m r.st [Word.of (r.index * 2 ^ 24 + r.item), 0] s.toDev))))) ∧
    (∀ v : Word, takes s.toDev 0x10 true m = true → m.body = [1, 0x0305, v] → v.toNat ≤ 16 → jointCheck s.toDev s.toDev = none →
      Answers (.cfgSet m) s (fun t => item t 0x0305 = v.toNat ∧
        Replied 0x10 m stOK [0xFF000000, if item s.toDev 0x0305 = v.toNat then 0 else 1]
          (putItem (cmdCtx s.toDev 0x10 m.seq.toNat) 0x0305 v.toNat s.toDev) t)) ∧
    (∀ id v : Word, takes s.toDev 0x10 true m = true → m.body = [1, id, v] → itemOf id.toNat = none →
      Answers (.cfgSet m) s (Replied 0x10 m stRANGE [Word.of (2 ^ 24 + id.toNat % 2 ^ 16), 0] s.toDev)) ∧
    (∀ v u : Word, takes s.toDev 0x10 true m = true → m.body = [2, 0x0305, v, 0x0306, u] → v.toNat ≤ 16 → 16 < u.toNat →
      Answers (.cfgSet m) s (Replied 0x10 m stRANGE [0x02000306, 0] s.toDev)) ∧
    (∀ ids : List Word, takes s.toDev 0x11 false m = true → m.body = Word.of ids.length :: ids → 1 ≤ ids.length → ids.length ≤ 126 →
      (ids.all (fun w => (itemOf w.toNat).isSome && !itemAbsent s.part w.toNat) = true →
        Answers (.cfgGet m) s (Replied 0x11 m stOK (ids.flatMap (fun w => [w, itemRead s.toDev w.toNat]))
          (forEach ids (fun w d => itemClear w.toNat d) s.toDev))) ∧
      (ids.any (fun w => (itemOf w.toNat).isSome && itemAbsent s.part w.toNat) = true →
        Answers (.cfgGet m) s (Replied 0x11 m stABSENT [] s.toDev)) ∧
      (ids.any (fun w => (itemOf w.toNat).isSome && itemAbsent s.part w.toNat) = false → ids.any (fun w => (itemOf w.toNat).isNone) = true →
        Answers (.cfgGet m) s (Replied 0x11 m stRANGE [] s.toDev))) ∧
    (takes s.toDev 0x11 false m = true → m.body.length = 1 + cfgCount m → countOk m = false →
      Answers (.cfgGet m) s (Replied 0x11 m stRANGE [] s.toDev)) ∧
    (∀ g, takes s.toDev 0x12 false m = true → m.body = [Word.of g] → g < 4 → s.sess.isOpen = true →
      (emptyGen s.toDev = some g → otpLimitsOk s.toDev = true → (encodeGen (commitList s.toDev)).isSome = true →
        Answers (.cfgCommitOtp m) s
          (Begun 0x12 m g { s.toDev with otp.burning := (encodeGen (commitList s.toDev)).map (fun blk => (g, blk)) })) ∧
      (emptyGen s.toDev = none → Answers (.cfgCommitOtp m) s (Replied 0x12 m stOTPFULL [] s.toDev)) ∧
      (∀ e, emptyGen s.toDev = some e → (e ≠ g ∨ otpLimitsOk s.toDev = false) →
        Answers (.cfgCommitOtp m) s (Replied 0x12 m stSTATE [] s.toDev))) ∧
    (∀ w, takes s.toDev 0x03 true m = true → m.body = [w] →
      (w = Word.of (pstateCode s.toDev) →
        Answers (.powerState m codes ax) s (Replied 0x03 m stOK [Word.of (pstateCode s.toDev)] s.toDev)) ∧
      (∀ e, w ≠ Word.of (pstateCode s.toDev) → powerCheck s.toDev w codes ax = some e → e.code ≠ 0 →
        Answers (.powerState m codes ax) s (Replied 0x03 m e [] s.toDev)) ∧
      (∀ p, w ≠ Word.of (pstateCode s.toDev) → powerCheck s.toDev w codes ax = none → stateOfCode (bf w 0 3) = some p →
        Calm (goTo p s.toDev).1 →
        ((goTo p s.toDev).2 = none → Answers (.powerState m codes ax) s (Begun 0x03 m (bf w 0 3) (goTo p s.toDev).1)) ∧
        ((goTo p s.toDev).2 = some stOK → Answers (.powerState m codes ax) s
          (Replied 0x03 m stOK [Word.of (pstateCode (goTo p s.toDev).1)] (goTo p s.toDev).1)))) ∧
    (takes s.toDev 0x03 true m = true → m.body = [5] → s.power.pstate = .standby → s.power.op = .opL → s.bist.slice = none →
      Answers (.powerState m codes ax) s (Begun 0x03 m 5 { s.toDev with
        power := { s.power with goal := some .activeH, opPrev := .opL, opTarget := some .opH, opUp := true
                                vdOk := false, vdTargetMv := 1100 } })) ∧
    (∀ w, takes s.toDev 0x04 true m = true → m.body = [w] →
      (w = (if m.bcast then 63 else Word.of (ownAddr s.toDev)) → ownAddr s.toDev < 64 → (∀ g, g < 4 → genState s.toDev g ≠ 1) →
        s.power.retained = [] → Answers (.softReset m) s (fun t => t.power.cause = .softReset ∧
          t.conv.caps = List.replicate 4 Capture.reset ∧ t.tb.slots = List.replicate 16 none ∧ t.tb.loads = [] ∧
          t.bal.duty = List.replicate 24 0 ∧ t.bal.plans = List.replicate 24 none ∧ t.fault.fencedCh = 0 ∧
          t.fault.fencedPort = 0 ∧ t.sess.isOpen = false ∧ t.power.pstate = s.power.pstate ∧ t.ring = s.ring ∧
          t.tb.period = s.tb.period ∧ t.jrn.entries = s.jrn.entries ∧
          (∃ x, t.cmd.cache.head? = some x ∧ x.code = 0x04 ∧ bf (nth x.words 1 0) 24 8 = 0))) ∧
      (w ≠ (if m.bcast then 63 else Word.of (ownAddr s.toDev)) → ownAddr s.toDev < 64 →
        Answers (.softReset m) s (Replied 0x04 m stRANGE [] s.toDev))) ∧
    (takes s.toDev 0x20 true m = true → m.body.length = 2 →
      (maskAbsent s.toDev 0x0101 (req m 1) = true → Answers (.convSetup m) s (Replied 0x20 m stABSENT [] s.toDev)) ∧
      (maskAbsent s.toDev 0x0101 (req m 1) = false → 2 ^ 25 ≤ (req m 1).toNat ∨ req m 2 &&& ~~~ 0xFF7F ≠ 0 →
        Answers (.convSetup m) s (Replied 0x20 m stRANGE [] s.toDev)) ∧
      ((req m 1).toNat < 2 ^ 25 → req m 2 &&& ~~~ 0xFF7F = 0 → maskAbsent s.toDev 0x0101 (req m 1) = false →
        (let r := setItems (cmdCtx s.toDev 0x20 m.seq.toNat) (convList m) s.toDev
         (r.st.code ≠ 0 → Answers (.convSetup m) s (Replied 0x20 m r.st [] s.toDev)) ∧
         (r.st.code = 0 → Answers (.convSetup m) s (fun t =>
             itemN t 0x0101 = (req m 1).toNat ∧ itemN t 0x0102 = bf (req m 2) 0 1 ∧ itemN t 0x0103 = bf (req m 2) 1 3 ∧
             itemN t 0x0104 = bf (req m 2) 4 1 ∧ itemN t 0x0105 = bf (req m 2) 8 8 ∧ itemN t 0x0106 = bf (req m 2) 5 1 ∧
             itemN t 0x0107 = bf (req m 2) 6 1 ∧
             t.cmd.cache.head? = some ⟨m.seq.toNat, 0x20, rspOf 0x20 m stOK [itemRead t 0x0150] s.toDev⟩))))) ∧
    (takes s.toDev 0x30 true m = true → m.body.length = 4 →
      (maskAbsent s.toDev 0x0301 (req m 1) = true → Answers (.windowSet m) s (Replied 0x30 m stABSENT [] s.toDev)) ∧
      (maskAbsent s.toDev 0x0301 (req m 1) = false →
        2 ^ 26 ≤ (req m 1).toNat ∨ req m 2 &&& ~~~ 0x03FF03FF ≠ 0 ∨ 2 ^ 16 ≤ (req m 3).toNat ∨ req m 4 &&& ~~~ 0x0FFF0FFF ≠ 0 →
        Answers (.windowSet m) s (Replied 0x30 m stRANGE [] s.toDev)) ∧
      ((req m 1).toNat < 2 ^ 26 → req m 2 &&& ~~~ 0x03FF03FF = 0 → (req m 3).toNat < 2 ^ 16 → req m 4 &&& ~~~ 0x0FFF0FFF = 0 →
        maskAbsent s.toDev 0x0301 (req m 1) = false →
        (let r := setItems (cmdCtx s.toDev 0x30 m.seq.toNat) (windowList m) s.toDev
         (r.st.code ≠ 0 → Answers (.windowSet m) s (Replied 0x30 m r.st [] s.toDev)) ∧
         (r.st.code = 0 → Answers (.windowSet m) s (fun d =>
             (∀ i, i < 24 → (req m 1).getLsbD i = true →
               ((req m 1).getLsbD 24 = true → itemN d (0x0311 + i) = bf (req m 2) 0 10) ∧
               ((req m 1).getLsbD 25 = true → itemN d (0x0331 + i) = bf (req m 2) 16 10)) ∧
             (∀ i, i < 24 → (req m 1).getLsbD i = false → itemN d (0x0311 + i) = itemN s.toDev (0x0311 + i) ∧
               itemN d (0x0331 + i) = itemN s.toDev (0x0331 + i)) ∧
             (∀ i, i < 16 → (req m 3).getLsbD i = true → itemN d (0x0351 + i) = (req m 4).toNat) ∧
             (∀ i, i < 16 → (req m 3).getLsbD i = false → itemN d (0x0351 + i) = itemN s.toDev (0x0351 + i)) ∧
             d.cmd.cache.head? = some ⟨m.seq.toNat, 0x30, rspOf 0x30 m stOK [] s.toDev⟩)))))

/-- On a calm device that takes the message, its LENGTH right, the journal free: TRANSIT_PLAN LOAD that planCheck passes
lets the plan wait for its meridian in place of one of that number, the slots in force unchanged, and answers the
slots; what planCheck refuses is refused; QUERY answers the slots, reserved bits or another OP ERR_RANGE, entries or
START ERR_STATE. READ_CELLS answers the latest record's TSEQ, log and named channels, with statistics where asked; an
absent channel ERR_ABSENT, a reserved bit ERR_RANGE, before the first record ERR_STATE. HISTORY_READ creates a
HIST_PACK job over the records from FIRST on and waits for it, ERR_QFULL counted where none is granted; nothing to
read ERR_RANGE. CAPTURE_ARM takes the lowest free capture (armCapture) where armCheck passes; RELEASE frees one, QUERY
shows it; of a free one ERR_STATE; an absent EVENT ERR_ABSENT, a reserved bit or OP 3 ERR_RANGE. AUX_TABLE_LOAD lets a
table wait, journals it; bad fields ERR_RANGE, absent cells ERR_ABSENT, too short for a slot ERR_CONFLICT. AUX_READ
answers the named entries, one beyond the table ERR_RANGE. [14_aeddo_command_reference.md section Measurement
commands; 14_aeddo_command_reference.md section Auxiliary and comparator commands; 04_phase_timebase.md section The
ephemeris; 05_cell_conversion.md section History; 06_aux_path_and_leat.md section The sequencer table;
10_engines_and_flumes.md section ROM kernels] -/
def Obligations.MeasurementMessagesReadAndArm : Prop :=
  ∀ (s : State) (m : Msg), Calm s.toDev → JournalFree s.toDev → s.conv.caps.length = 4 →
    let w := req m 1
    let w2 := req m 2
    (takes s.toDev 0x21 true m = true → m.body.length = 2 + 3 * bf w 0 5 →
      (bf w 30 2 = 0 → planCheck s.toDev m (planForm s.toDev m) = none → Answers (.transitPlanLoad m) s (fun t =>
        t.tb.loads = s.tb.loads.filter (fun (l : PlanLoad) => l.plan != bf w 28 2) ++
          [{ plan := bf w 28 2, start := w2.toNat, slots := planForm s.toDev m }] ∧
        t.tb.slots = s.tb.slots ∧
        Replied 0x21 m stOK (planData t (bf w 28 2))
          (planLoadIn (cmdCtx s.toDev 0x21 m.seq.toNat) m (planForm s.toDev m) s.toDev) t)) ∧
      (∀ e, bf w 30 2 = 0 → planCheck s.toDev m (planForm s.toDev m) = some e → e.code ≠ 0 →
        Answers (.transitPlanLoad m) s (Replied 0x21 m e [] s.toDev)) ∧
      (bf w 30 2 = 1 → w &&& ~~~ 0xF0000000 = 0 → w2 = 0 → Answers (.transitPlanQuery m) s
        (Replied 0x21 m stOK (planData s.toDev (bf w 28 2)) s.toDev)) ∧
      (bf w 30 2 = 1 → w &&& ~~~ 0xF000001F = 0 → reservedSet m = false → (bf w 0 5 ≠ 0 ∨ w2 ≠ 0) →
        Answers (.transitPlanQuery m) s (Replied 0x21 m stSTATE [] s.toDev)) ∧
      ((2 ≤ bf w 30 2 ∨ bf w 30 2 = 1 ∧ (w &&& ~~~ 0xF000001F ≠ 0 ∨ reservedSet m = true)) →
        Answers (.transitPlanQuery m) s (Replied 0x21 m stRANGE [] s.toDev))) ∧
    (takes s.toDev 0x22 false m = true → m.body.length = 1 →
      (maskAbsent s.toDev 0x0101 w = true → Answers (.readCells m) s (Replied 0x22 m stABSENT [] s.toDev)) ∧
      (maskAbsent s.toDev 0x0101 w = false → w &&& ~~~ 0x81FFFFFF ≠ 0 →
        Answers (.readCells m) s (Replied 0x22 m stRANGE [] s.toDev)) ∧
      (maskAbsent s.toDev 0x0101 w = false → w &&& ~~~ 0x81FFFFFF = 0 →
        (s.conv.visSince = false ∨ latestRec s.toDev = none → Answers (.readCells m) s (Replied 0x22 m stSTATE [] s.toDev)) ∧
        (∀ r, s.conv.visSince = true → latestRec s.toDev = some r → Answers (.readCells m) s (Replied 0x22 m stOK
          (Word.of r.tseq :: logWords r ++ ((List.range 25).filter (bit w)).map (fun c => nth r.words c 0x80000000) ++
            (if bit w 31 then ((List.range 25).filter (bit w)).flatMap (statWords s.toDev) ++
              [(s.eng.statsRes.map (fun x => Word.of x.1)).getD 0x80000000] else [])) s.toDev)))) ∧
    (takes s.toDev 0x23 false m = true → m.body.length = 3 →
      let per := ((List.range 25).filter (bit w2)).length + (if bit w2 31 then 2 else 0)
      let n := (req m 3).toNat
      (maskAbsent s.toDev 0x0101 w2 = true → Answers (.historyRead m) s (Replied 0x23 m stABSENT [] s.toDev)) ∧
      (maskAbsent s.toDev 0x0101 w2 = false →
        (w2 &&& ~~~ 0x81FFFFFF ≠ 0 ∨ n = 0 ∨ 2 ^ 16 ≤ n ∨ per = 0 ∨ recOf s.toDev w.toNat = none) →
        Answers (.historyRead m) s (Replied 0x23 m stRANGE [] s.toDev)) ∧
      (∀ r, maskAbsent s.toDev 0x0101 w2 = false → w2 &&& ~~~ 0x81FFFFFF = 0 → 1 ≤ n → n < 2 ^ 16 → 1 ≤ per →
        recOf s.toDev w.toNat = some r →
        (granted s.toDev 5 1 = true → Answers (.historyRead m) s (fun t =>
          let x := (t.eng.pool.getLast?).getD Desc.reset
          t.eng.pool = s.eng.pool ++ [x] ∧
          x.kernel = 6 ∧ x.cls = 5 ∧ x.win = w.toNat ∧ x.arg = w2.toNat ∧
          x.len = min n (min (recsFrom s.toDev r).length (251 / per)) ∧
          t.cmd.busy = some (begunOf 0x23 m x.id) ∧ t.cmd.cache = s.cmd.cache)) ∧
        (granted s.toDev 5 1 = false → Answers (.historyRead m) s (Replied 0x23 m stQFULL [] (refuseJob 5 s.toDev))))) ∧
    (takes s.toDev 0x24 false m = true → m.body.length = 3 →
      (capAbsent s.toDev m = true → Answers (.captureArm m) s (Replied 0x24 m stABSENT [] s.toDev)) ∧
      (capAbsent s.toDev m = false → (bf w 30 2 = 3 ∨ w &&& ~~~ 0xF701007F ≠ 0) →
        Answers (.captureArm m) s (Replied 0x24 m stRANGE [] s.toDev)) ∧
      (capAbsent s.toDev m = false → w &&& ~~~ 0xF701007F = 0 →
        (∀ c, bf w 30 2 = 0 → armCheck s.toDev m = none → [0, 1, 2, 3].find? (fun c => (capAt s.toDev c).state == 0) = some c →
          Answers (.captureArm m) s (fun t =>
            Replied 0x24 m stOK (capData t c) (armCapture m s.toDev).1 t ∧ (armCapture m s.toDev).2 = c ∧
            (capAt t c).pre = w2.toNat ∧ (capAt t c).post = (req m 3).toNat ∧ (capAt t c).trig = bf w 24 3 ∧
            (capAt t c).event = bf w 0 7 ∧ (bf w 24 3 ≤ 3 → (capAt t c).state = 1) ∧
            (bf w 24 3 = 4 → 2 ≤ (capAt t c).state) ∧
            (∀ i, i ≠ c → capAt t i = capAt s.toDev i))) ∧
        (∀ e, bf w 30 2 = 0 → armCheck s.toDev m = some e → e.code ≠ 0 →
          Answers (.captureArm m) s (Replied 0x24 m e [] s.toDev)) ∧
        ((capAt s.toDev (bf w 28 2)).state ≠ 0 →
          (bf w 30 2 = 1 → Answers (.captureRelease m) s (fun t =>
            capAt t (bf w 28 2) = Capture.reset ∧ (∀ i, i ≠ bf w 28 2 → capAt t i = capAt s.toDev i) ∧
            Replied 0x24 m stOK [Word.of (bf w 28 2 * 2 ^ 30), 0, 0, 0, 0] (releaseCapture (bf w 28 2) s.toDev) t)) ∧
          (bf w 30 2 = 2 → Answers (.captureQuery m) s
            (Replied 0x24 m stOK (capData s.toDev (bf w 28 2)) s.toDev))) ∧
        ((capAt s.toDev (bf w 28 2)).state = 0 →
          (bf w 30 2 = 1 → Answers (.captureRelease m) s (Replied 0x24 m stSTATE [] s.toDev)) ∧
          (bf w 30 2 = 2 → Answers (.captureQuery m) s (Replied 0x24 m stSTATE [] s.toDev))))) ∧
    (takes s.toDev 0x28 true m = true → m.body.length = 1 + bf w 0 8 →
      let l := m.body.drop 1
      let wrong := l.any (fun x => decide (0x30 < entrySrc x) || bf x 0 8 != 0)
      let lacks := l.any (fun x => decide (0x10 ≤ entrySrc x) && decide (entrySrc x ≤ 0x27) && !cellPresent s.toDev (entrySrc x - 0x0F))
      ((w &&& ~~~ 0xFF ≠ 0 ∨ 64 < l.length ∨ wrong = true) → Answers (.auxTableLoad m) s (Replied 0x28 m stRANGE [] s.toDev)) ∧
      (w &&& ~~~ 0xFF = 0 → l.length ≤ 64 → wrong = false →
        (lacks = true → Answers (.auxTableLoad m) s (Replied 0x28 m stABSENT [] s.toDev)) ∧
        (lacks = false → l.length < auxSlotsNeed s.toDev →
          Answers (.auxTableLoad m) s (Replied 0x28 m (stCONFLICT 1 0x21) [] s.toDev)) ∧
        (lacks = false → auxSlotsNeed s.toDev ≤ l.length → Answers (.auxTableLoad m) s (Replied 0x28 m stOK [Word.of l.length]
          (jchange (cmdCtx s.toDev 0x28 m.seq.toNat) 0x02F0 (recordOf (auxTableSet s.toDev)) (recordOf l)
            (sarKick { s.toDev with aux.nextTable := some l })))))) ∧
    (takes s.toDev 0x29 false m = true → m.body.length = 2 →
      let es := (List.range 32).filter (bit w) ++ ((List.range 32).filter (bit w2)).map (· + 32)
      (es.all (fun e => decide (e < (auxTableSet s.toDev).length)) = true → Answers (.auxRead m) s
        (Replied 0x29 m stOK (es.flatMap (auxReadWords s.toDev)) s.toDev)) ∧
      (es.all (fun e => decide (e < (auxTableSet s.toDev).length)) = false → Answers (.auxRead m) s
        (Replied 0x29 m stRANGE [] s.toDev)))

/-- On a calm device that takes the message, its LENGTH right, the journal free, the lists of cells and banks whole:
BAL_SET that balCheck passes gives each named cell its duty, claimed by BAL_SET or released at 0, ends its plan,
clears its FET fault latch, starts the timer again; BAL_PLAN gives each its duty and plan, BAL_Q from 0; other cells
stay. ACTIVE_SET that activeCheck passes gives each named bank its command and claim, off and released at 0, starts
the timer again; other banks stay. A check that fails gives its refusal, nothing else. EIS_PLAN with SOURCE 0 lets
none wait for the next meridian; one that eisCheck passes lets its plan wait, the plan in force stays; what it refuses
is refused. EIS_READ answers the results of its cells and indices, more than 42 ERR_RANGE, an absent cell ERR_ABSENT;
TEMP_TABLE_LOAD writes a table in range whose points strictly rise or fall, else ERR_RANGE. Without impedance the last
three are ERR_ABSENT. [08_balancing.md section Balancing commands; 08_balancing.md section Active bank drivers;
14_aeddo_command_reference.md section Balancing commands; 14_aeddo_command_reference.md section Impedance and engine
commands; 09_impedance.md section Plans; 09_impedance.md section Internal temperature] -/
def Obligations.BalancingAndImpedanceMessages : Prop :=
  ∀ (s : State) (m : Msg), Calm s.toDev → JournalFree s.toDev → s.bal.duty.length = 24 → s.bal.owner.length = 24 →
    s.bal.plans.length = 24 → s.bal.q.length = 24 → s.banks.length = 4 →
    let w := req m 1
    (takes s.toDev 0x38 false m = true → m.body.length = 1 + (balCells m).length →
      (balCheck s.toDev m (setDuties m) false = none → Answers (.balSet m) s (fun t =>
        (∀ e ∈ setDuties m, nth t.bal.duty (e.1 - 1) 0 = e.2 ∧ nth t.bal.plans (e.1 - 1) none = none ∧
          mbit t.bal.faultOc (e.1 - 1) = false ∧ (e.2 ≠ 0 → nth t.bal.owner (e.1 - 1) 0 = 0x38) ∧
          (e.2 = 0 → nth t.bal.owner (e.1 - 1) 0 ≠ 0x38)) ∧
        (∀ n, 1 ≤ n → n ≤ 24 → n ∉ balCells m → nth t.bal.duty (n - 1) 0 = nth s.bal.duty (n - 1) 0 ∧
          nth t.bal.owner (n - 1) 0 = nth s.bal.owner (n - 1) 0 ∧ nth t.bal.plans (n - 1) none = nth s.bal.plans (n - 1) none) ∧
        t.bal.timeout = false ∧ (t.bal.timerOn = true ↔ itemN s.toDev 0x0407 ≠ 0) ∧
        t.cmd.cache.head? = some ⟨m.seq.toNat, 0x38, rspOf 0x38 m stOK [Word.of (balHeldMask t)] s.toDev⟩)) ∧
      (∀ e, balCheck s.toDev m (setDuties m) false = some e → e.code ≠ 0 →
        Answers (.balSet m) s (Replied 0x38 m e [] s.toDev))) ∧
    (takes s.toDev 0x39 false m = true → m.body.length = 1 + 3 * (balCells m).length →
      let c := balCheck s.toDev m ((balCells m).zipIdx.map (fun e => (e.1, (planOf m e.2).1)))
        ((balCells m).zipIdx.any (fun e => planFieldBad m e.2))
      (c = none → Answers (.balPlan m) s (fun t =>
        (∀ e ∈ (balCells m).zipIdx, nth t.bal.duty (e.1 - 1) 0 = bf (req m (2 + 3 * e.2)) 16 9 ∧
          nth t.bal.plans (e.1 - 1) none = some { vStop := bf (req m (2 + 3 * e.2)) 0 16, qT := (req m (3 + 3 * e.2)).toNat,
                                                  limit := bf (req m (4 + 3 * e.2)) 0 16, run := 0 } ∧
          nth t.bal.q (e.1 - 1) 0 = 0) ∧
        (∀ n, 1 ≤ n → n ≤ 24 → n ∉ balCells m → nth t.bal.duty (n - 1) 0 = nth s.bal.duty (n - 1) 0 ∧
          nth t.bal.plans (n - 1) none = nth s.bal.plans (n - 1) none ∧ nth t.bal.q (n - 1) 0 = nth s.bal.q (n - 1) 0) ∧
        t.cmd.cache.head? = some ⟨m.seq.toNat, 0x39, rspOf 0x39 m stOK [Word.of (balHeldMask t)] s.toDev⟩)) ∧
      (∀ e, c = some e → e.code ≠ 0 → Answers (.balPlan m) s (Replied 0x39 m e [] s.toDev))) ∧
    (takes s.toDev 0x3A false m = true → m.body.length = 1 + mcount (BitVec.ofNat 4 (bf w 0 4)) →
      (activeCheck s.toDev m (activeList m) = none → Answers (.activeSet m) s (fun t =>
        (∀ e ∈ activeList m, (bank t e.1).cmd = e.2 ∧ (bank t e.1).owner = (if e.2 = 0 then 0 else 0x3A) ∧
          (bank t e.1).on = !(decide (e.2 = 0))) ∧
        (∀ b, b < 4 → b ∉ (activeList m).map (fun e => e.1) → bankCore (bank t b) = bankCore (bank s.toDev b)) ∧
        t.bal.timeout = false ∧ (t.bal.timerOn = true ↔ itemN s.toDev 0x0407 ≠ 0) ∧ t.bal.duty = s.bal.duty ∧
        t.cmd.cache.head? = some ⟨m.seq.toNat, 0x3A, rspOf 0x3A m stOK [Word.of (bankHeldMask t)] s.toDev⟩)) ∧
      (∀ e, activeCheck s.toDev m (activeList m) = some e → e.code ≠ 0 →
        Answers (.activeSet m) s (Replied 0x3A m e [] s.toDev)) ∧
      (s.part.hasBanks = false → Answers (.activeSet m) s (Replied 0x3A m stABSENT [] s.toDev))) ∧
    (takes s.toDev 0x40 true m = true → m.body.length = 4 + 2 * eisNfreq m →
      (s.part.freqs ≠ 0 → eisSource m = 0 → Answers (.eisPlan m) s (Replied 0x40 m stOK [Word.of (eisCode s.toDev * 2 ^ 30)]
        (eisAccept (cmdCtx s.toDev 0x40 m.seq.toNat) none s.toDev))) ∧
      (s.part.freqs ≠ 0 → eisSource m ≠ 0 → eisCheck s.toDev m (eisForm m) = none → Answers (.eisPlan m) s (fun t =>
        t.eis.next = some (some (eisForm m)) ∧ (eisForm m).block = m.body ∧ t.eis.plan = s.eis.plan ∧
        t.cmd.cache.head? = some ⟨m.seq.toNat, 0x40, rspOf 0x40 m stOK (eisData s.toDev (some (eisForm m))) s.toDev⟩)) ∧
      (∀ e, s.part.freqs ≠ 0 → eisSource m ≠ 0 → eisCheck s.toDev m (eisForm m) = some e → e.code ≠ 0 →
        Answers (.eisPlan m) s (Replied 0x40 m e [] s.toDev)) ∧
      (s.part.freqs = 0 → Answers (.eisPlan m) s (Replied 0x40 m stABSENT [] s.toDev))) ∧
    (takes s.toDev 0x41 false m = true → m.body.length = 1 →
      let cells := (List.range 24).filter (bit w)
      let ks := (List.range 8).filter (fun k => bit w (24 + k))
      ((s.part.freqs = 0 ∨ cells.any (fun i => decide (s.part.cells ≤ i)) = true) →
        Answers (.eisRead m) s (Replied 0x41 m stABSENT [] s.toDev)) ∧
      (s.part.freqs ≠ 0 → cells.all (fun i => decide (i < s.part.cells)) = true →
        (cells.length * ks.length ≤ 42 → Answers (.eisRead m) s
          (Replied 0x41 m stOK (cells.flatMap (fun i => ks.flatMap (fun k =>
            (akey s.eis.results (8 * i + k)).getD [0, Word.of ((i + 1) * 2 ^ 27 + k * 2 ^ 24), 0, 0, 0, 0x80000000]))) s.toDev)) ∧
        (42 < cells.length * ks.length → Answers (.eisRead m) s (Replied 0x41 m stRANGE [] s.toDev)))) ∧
    (takes s.toDev 0x42 true m = true → m.body.length = 18 →
      let k := bf w 24 8
      let pts := tablePoints m.body
      let good : Prop := k ≤ 1 ∧ w &&& ~~~ 0xFFFF0000 = 0 ∧ 50 ≤ (req m 2).toNat ∧ (req m 2).toNat ≤ 4000000 ∧
        pts.all (fun x => decide (-5000 ≤ x.2) && decide (x.2 ≤ 15000)) = true ∧
        (pts.Pairwise (fun x y => x.1 < y.1) ∨ pts.Pairwise (fun x y => y.1 < x.1))
      (s.part.freqs = 0 → Answers (.tempTableLoad m) s (Replied 0x42 m stABSENT [] s.toDev)) ∧
      (s.part.freqs ≠ 0 → good → Answers (.tempTableLoad m) s (Replied 0x42 m stOK []
        (jchange (cmdCtx s.toDev 0x42 m.seq.toNat) (0x05F1 + k) (recordOf (nth s.eis.temp k [])) (recordOf m.body)
          { s.toDev with eis.temp := s.eis.temp.set k m.body }))) ∧
      (s.part.freqs ≠ 0 → ¬ good → Answers (.tempTableLoad m) s (Replied 0x42 m stRANGE [] s.toDev)))

/-- On a calm device that takes the message, its LENGTH right, the journal free, OTP without faults, four kernel slots:
BEGIN stages an image for a free slot, of a loaded one ERR_CONFLICT; DATA stages words from its offset and answers how
many are staged, without a BEGIN ERR_STATE, past the length ERR_RANGE; END of a whole, signed image within its limits
installs it and answers its kernel number and CRC-32, an incomplete one is ERR_CHECK, a badly signed one ERR_AUTH, one
outside its limits ERR_RANGE, all three discarded; UNLOAD frees a slot at once where no job of it runs, waits where
one does, of an empty slot ERR_STATE; another OP, or a reserved bit, ERR_RANGE. JOB_STATS answers its block, and
clears the counters where asked; a reserved bit ERR_RANGE. At the head ENUMERATE begins to enumerate (startEnum), is
BUSY while one runs, ERR_STATE in CONFLICT, req 1 not 0 ERR_RANGE; CENSUS QUERY answers the members, RELEASE frees a
reserved address, of another ERR_STATE, RUN queues a CENSUS frame where the ring is CLOSED and none waits (pushCensus
elsewhere); OP 3 or a reserved bit ERR_RANGE. [10_engines_and_flumes.md section Custom kernels;
10_engines_and_flumes.md section Job statistics; 14_aeddo_command_reference.md section Ring commands;
12_ring_membership.md section Enumeration; 12_ring_membership.md section Census; 14_aeddo_command_reference.md section
Impedance and engine commands] -/
def Obligations.EngineAndRingMessages : Prop :=
  ∀ (s : State) (m : Msg), Calm s.toDev → JournalFree s.toDev → s.eng.kernels.length = 4 → s.fault.otpBad = [] → s.otp.bad = [] →
    let w := req m 1
    let k := bf w 22 2
    (takes s.toDev 0x48 true m = true → kerLen m = true →
      (bf w 24 8 = 1 → w &&& ~~~ 0xFFC00000 = 0 →
        ((kernelAt s.toDev k).loaded = false → Answers (.kernelLoadBegin m) s (Replied 0x48 m stOK [0]
          (modKernel k (fun x => { x with staging := some (req m 2).toNat, staged := [] }) s.toDev))) ∧
        ((kernelAt s.toDev k).loaded = true →
          Answers (.kernelLoadBegin m) s (Replied 0x48 m (stCONFLICT 1 0x48) [] s.toDev))) ∧
      (((bf w 24 8 = 0 ∨ 5 ≤ bf w 24 8) ∨ bf w 24 8 = 1 ∧ w &&& ~~~ 0xFFC00000 ≠ 0) →
        Answers (.kernelLoadBegin m) s (Replied 0x48 m stRANGE [] s.toDev)) ∧
      (bf w 24 8 = 2 → w &&& ~~~ 0xFFC0FFFF = 0 →
        let ws := m.body.drop 1
        (∀ n, (kernelAt s.toDev k).staging = some n → bf w 0 16 + ws.length ≤ n → Answers (.kernelLoadData m) s (fun t =>
          (∀ i, i < ws.length → akey (kernelAt t k).staged (bf w 0 16 + i) = some (nth ws i 0)) ∧
          (∀ o, o < bf w 0 16 ∨ bf w 0 16 + ws.length ≤ o →
            akey (kernelAt t k).staged o = akey (kernelAt s.toDev k).staged o) ∧
          (∀ j, j ≠ k → kernelAt t j = kernelAt s.toDev j) ∧
          t.cmd.cache.head? = some ⟨m.seq.toNat, 0x48, rspOf 0x48 m stOK [Word.of (kernelAt t k).staged.length] s.toDev⟩)) ∧
        (∀ n, (kernelAt s.toDev k).staging = some n → n < bf w 0 16 + ws.length →
          Answers (.kernelLoadData m) s (Replied 0x48 m stRANGE [] s.toDev)) ∧
        ((kernelAt s.toDev k).staging = none → Answers (.kernelLoadData m) s (Replied 0x48 m stSTATE [] s.toDev))) ∧
      (bf w 24 8 = 2 → w &&& ~~~ 0xFFC0FFFF ≠ 0 → Answers (.kernelLoadData m) s (Replied 0x48 m stRANGE [] s.toDev)) ∧
      (bf w 24 8 = 3 → w &&& ~~~ 0xFFC00000 = 0 →
        (∀ l, kerImage (kernelAt s.toDev k) = some l →
          let signed := kerSigned l (kerHash (bf (nth l 1 0) 16 8) s.toDev).2
          (signed = true → kerBad s.toDev l = false → Answers (.kernelLoadEnd m) s (fun t =>
            (kernelAt t k).loaded = true ∧ (kernelAt t k).image = l ∧ (kernelAt t k).staging = none ∧
            t.cmd.cache.head? = some ⟨m.seq.toNat, 0x48, rspOf 0x48 m stOK [Word.of (0x80 + k), crc32 l] s.toDev⟩)) ∧
          (signed = true → kerBad s.toDev l = true →
            Answers (.kernelLoadEnd m) s (Replied 0x48 m stRANGE [] (kerDiscard k s.toDev))) ∧
          (signed = false → Answers (.kernelLoadEnd m) s (Replied 0x48 m stAUTH [] (kerDiscard k s.toDev)))) ∧
        (kerImage (kernelAt s.toDev k) = none →
          Answers (.kernelLoadEnd m) s (Replied 0x48 m stCHECK [] (kerDiscard k s.toDev)))) ∧
      (bf w 24 8 = 3 → w &&& ~~~ 0xFFC00000 ≠ 0 → Answers (.kernelLoadEnd m) s (Replied 0x48 m stRANGE [] s.toDev)) ∧
      (bf w 24 8 = 4 → w &&& ~~~ 0xFFC00000 = 0 →
        ((kernelAt s.toDev k).loaded = true → kernelRuns s.toDev (0x80 + k) = false → (s.eng.pool.map (fun x => x.id)).Nodup →
          Answers (.kernelUnload m) s (fun t => (kernelAt t k).loaded = false ∧ (kernelAt t k).genOn = false ∧
            t.cmd.busy = none ∧ (t.eng.pool.all (fun x => x.kernel != 0x80 + k)) = true ∧
            (t.cmd.cache.head?.any (fun x => x.code == 0x48 && bf (nth x.words 1 0) 24 8 == 0)) = true)) ∧
        ((kernelAt s.toDev k).loaded = true → kernelRuns s.toDev (0x80 + k) = true →
          Answers (.kernelUnload m) s (fun t => (kernelAt t k).genOn = false ∧ (kernelAt t k).unloading = true ∧
            t.cmd.busy = some (begunOf 0x48 m k) ∧ t.cmd.cache = s.cmd.cache)) ∧
        ((kernelAt s.toDev k).loaded = false → Answers (.kernelUnload m) s (Replied 0x48 m stSTATE [] s.toDev))) ∧
      (bf w 24 8 = 4 → w &&& ~~~ 0xFFC00000 ≠ 0 → Answers (.kernelUnload m) s (Replied 0x48 m stRANGE [] s.toDev))) ∧
    (takes s.toDev 0x49 false m = true → m.body.length = 1 →
      (w = 0 → Answers (.jobStats m) s (Replied 0x49 m stOK (statsBlock s.toDev) s.toDev)) ∧
      (w = 1 → Answers (.jobStats m) s (fun t => Replied 0x49 m stOK (statsBlock s.toDev) (clearStats s.toDev) t ∧
        t.eng.counts = List.replicate 8 ClassCnt.reset ∧ t.eng.clearedAt = s.now ∧ t.eng.pool = s.eng.pool ∧
        (∀ e ∈ t.eng.engines, e.jobs = 0 ∧ e.steals = 0 ∧ e.busy = 0 ∧ e.traps = 0))) ∧
      (w ≠ 0 → w ≠ 1 → Answers (.jobStats m) s (Replied 0x49 m stRANGE [] s.toDev))) ∧
    (takes s.toDev 0x50 false m = true → m.body.length = 1 → isHead s.toDev = true →
      (w = 0 → s.ring.stat ≠ .enumerating → s.ring.stat ≠ .conflict → Answers (.enumerate m) s (fun t =>
        Begun 0x50 m 0 (startEnum s.toDev) t ∧ t.ring.stat = .enumerating ∧ t.ring.attempts = 1 ∧ t.cmd.cache = s.cmd.cache)) ∧
      (w = 0 → s.ring.stat = .enumerating → Answers (.enumerate m) s (Replied 0x50 m stBUSY [] s.toDev)) ∧
      (w = 0 → s.ring.stat = .conflict → Answers (.enumerate m) s (Replied 0x50 m stSTATE [] s.toDev)) ∧
      (w ≠ 0 → Answers (.enumerate m) s (Replied 0x50 m stRANGE [] s.toDev))) ∧
    (takes s.toDev 0x51 false m = true → m.body.length = 1 → isHead s.toDev = true → s.ring.map.length = 63 →
      (bf w 0 2 = 3 ∨ w &&& ~~~ 0x3F03 ≠ 0 → Answers (.censusQuery m) s (Replied 0x51 m stRANGE [] s.toDev)) ∧
      (w &&& ~~~ 0x3F03 = 0 →
        (bf w 0 2 = 0 → Answers (.censusQuery m) s (Replied 0x51 m stOK (censusData s.toDev) s.toDev)) ∧
        (bf w 0 2 = 1 → (mapAt s.toDev (bf w 8 6)).reserved = true → Answers (.censusRelease m) s (fun t =>
          mapAt t (bf w 8 6) = MapEntry.reset ∧ (∀ a, a ≠ bf w 8 6 → mapAt t a = mapAt s.toDev a) ∧
          t.cmd.cache.head? = some ⟨m.seq.toNat, 0x51, rspOf 0x51 m stOK (censusData t) s.toDev⟩)) ∧
        (bf w 0 2 = 1 → (mapAt s.toDev (bf w 8 6)).reserved = false →
          Answers (.censusRelease m) s (Replied 0x51 m stSTATE [] s.toDev)) ∧
        (bf w 0 2 = 2 → s.ring.stat = .closed → s.head.ringFrames = [] → Answers (.censusRun m) s (Replied 0x51 m stOK
          (censusData s.toDev) { s.toDev with head.ringFrames := [censusFrame s.toDev none] })) ∧
        (bf w 0 2 = 2 → Answers (.censusRun m) s (Replied 0x51 m stOK (censusData (pushCensus s.toDev)) (pushCensus s.toDev)))))

/-- On a calm device that takes the message, its LENGTH right, the journal free, no source set to SAFE_STATE: FAULT_CFG
whose entries pass writes them, starts the counters of sources not severe again, carries out FCOPY; an absent source
ERR_ABSENT, a reserved bit or more than 126 entries ERR_RANGE, a refused item or pin as its check says. FAULT_READ
answers a word a source, clears what it returns, takes the oldest messages where asked; out of range ERR_RANGE. INJECT
in a session arms a link or bus injection (or OTP check bits) with an entry, inverts a compare cycle and so restarts
the housekeeper, or inverts SRAM check bits at once; what injectCheck refuses is refused. BIST_CFG whose items pass
writes them; BIST_READ answers the kinds and clears where asked, a reserved bit ERR_RANGE; JOURNAL_READ 1 to 41
entries from FIRST on, read through their SRAM words, else ERR_RANGE. CHALLENGE answers four words of a fresh nonce;
after failures too early BUSY, in a session ERR_STATE. ANSWER (OTP without faults) with the right MAC opens a session
with an entry, with a wrong one ERR_AUTH, counted; without a nonce ERR_STATE. A reserved bit or another OP is
ERR_RANGE. CLOSE ends a session with an entry, without one ERR_STATE. [14_aeddo_command_reference.md section Fault and
self-test commands; 14_aeddo_command_reference.md section Journal and service commands; 15_faults_and_sluices.md
section Injection; 15_faults_and_sluices.md section Escalation; 16_periodic_self_test.md section Items and results;
17_journal_otp_security.md section Service sessions; 17_journal_otp_security.md section The journal] -/
def Obligations.FaultAndServiceMessages : Prop :=
  ∀ (s : State) (m : Msg), Calm s.toDev → JournalFree s.toDev → s.fault.esc.length = 128 → (∀ i, i < 128 → escReaction s.toDev i ≠ 5) →
    let w := req m 1
    let w2 := req m 2
    (takes s.toDev 0x58 true m = true → m.body.length = 1 + 2 * bf w 0 8 →
      let absent := (escList m).any (fun x => srcAbsent s.part (x.1.toNat - 0x0800))
      let r := setItems (cmdCtx s.toDev 0x58 m.seq.toNat) (escList m) s.toDev
      (absent = true → Answers (.faultCfg m) s (Replied 0x58 m stABSENT [] s.toDev)) ∧
      (absent = false → (w &&& ~~~ 0x3FF ≠ 0 ∨ 126 < bf w 0 8 ∨ escReserved m = true) →
        Answers (.faultCfg m) s (Replied 0x58 m stRANGE [] s.toDev)) ∧
      (absent = false → w &&& ~~~ 0x3FF = 0 → bf w 0 8 ≤ 126 → escReserved m = false →
        (r.st.code ≠ 0 → Answers (.faultCfg m) s (Replied 0x58 m r.st [] s.toDev)) ∧
        (∀ e, r.st.code = 0 → fcopyCheck s.toDev m = some e → e.code ≠ 0 →
          Answers (.faultCfg m) s (Replied 0x58 m e [] s.toDev)) ∧
        (r.st.code = 0 → fcopyCheck s.toDev m = none → r.dev.jrn.q27.length ≤ 500 → Answers (.faultCfg m) s (fun t =>
          Replied 0x58 m stOK [Word.of r.changed] (fcopyDo m r.dev) t ∧
          (∀ x ∈ escList m, item t x.1.toNat = storedValue x.1.toNat x.2 ∧ (isInfo (x.1.toNat - 0x0800) = false →
            (esc s.toDev (x.1.toNat - 0x0800)).state ≠ 2 →
              (esc t (x.1.toNat - 0x0800)).state = 0 ∧ (esc t (x.1.toNat - 0x0800)).count = 0)) ∧
          (∀ k, k < 128 → (escList m).all (fun x => x.1.toNat != 0x0800 + k) = true → esc t k = esc s.toDev k))))) ∧
    (takes s.toDev 0x59 false m = true → m.body.length = 1 →
      (w &&& ~~~ 0x80007F7F = 0 → 1 ≤ bf w 8 7 → bf w 0 7 + bf w 8 7 ≤ 128 → Answers (.faultRead m) s (fun t =>
        t.cmd.cache.head? = some ⟨m.seq.toNat, 0x59, rspOf 0x59 m stOK
          ((List.range (bf w 8 7)).map (fun i => faultWord s.toDev (bf w 0 7 + i)) ++
            (if bit w 31 then Word.of (min s.eng.msgs.length (252 - bf w 8 7)) :: s.eng.msgs.take (252 - bf w 8 7) else [])) s.toDev⟩ ∧
        t.eng.msgs = (if bit w 31 then s.eng.msgs.drop (252 - bf w 8 7) else s.eng.msgs) ∧
        (∀ i, i < bf w 8 7 → if isInfo (bf w 0 7 + i) then (esc t (bf w 0 7 + i)).count = 0 else (esc t (bf w 0 7 + i)).lost = 0) ∧
        (∀ k, k < bf w 0 7 ∨ bf w 0 7 + bf w 8 7 ≤ k → esc t k = esc s.toDev k))) ∧
      ((w &&& ~~~ 0x80007F7F ≠ 0 ∨ bf w 8 7 = 0 ∨ 128 < bf w 0 7 + bf w 8 7) →
        Answers (.faultRead m) s (Replied 0x59 m stRANGE [] s.toDev))) ∧
    (takes s.toDev 0x5A false m = true → m.body.length = 2 → s.sess.isOpen = true →
      (injectCheck s.toDev m = none → s.fault.inject = [] → Answers (.inject m) s (fun t =>
        (bf w 0 4 = 2 ∨ bf w 0 4 = 3 → t.fault.inject = [(bf w 0 4, bf w 8 2, bf w 12 1, bf w 16 8, w2.toNat)] ∧ t.cmd.hkReady = true ∧
          t.cmd.cache.head? = some ⟨m.seq.toNat, 0x5A, rspOf 0x5A m stOK [0] s.toDev⟩) ∧
        (bf w 0 4 = 4 → t.cmd.hkReady = false ∧ t.fault.inject = []) ∧
        (bf w 0 4 = 5 → t.fault.otpBad = (List.range (bf w 16 8)).map (fun j => (w2.toNat / 8 + j, bf w 8 2))) ∧
        (bf w 0 4 = 1 → (∀ j, j < bf w 16 8 → (w2.toNat / 8 + j, bf w 8 2) ∈ t.fault.sramBad) ∧
          t.cmd.cache.head? = some ⟨m.seq.toNat, 0x5A, rspOf 0x5A m stOK [Word.of (bf w 16 8)] s.toDev⟩) ∧
        (let e := (t.jrn.q27.getLast?).getD Entry.reset
         t.jrn.q27 = s.jrn.q27 ++ [e] ∧ e.item = 0x0BF1 ∧ e.old = 0 ∧ e.new = w))) ∧
      (∀ e, injectCheck s.toDev m = some e → e.code ≠ 0 → (∀ i ∈ s.fault.inject, i.1 ≠ 4) →
        Answers (.inject m) s (Replied 0x5A m e [] s.toDev))) ∧
    (takes s.toDev 0x5C true m = true → m.body.length = 3 →
      let r := setItems (cmdCtx s.toDev 0x5C m.seq.toNat) [(0x0901, w), (0x0902, w2), (0x0903, req m 3)] s.toDev
      (r.st.code = 0 → Answers (.bistCfg m) s (fun t => itemN t 0x0901 = w.toNat ∧ itemN t 0x0902 = w2.toNat ∧
        itemN t 0x0903 = (req m 3).toNat ∧
        t.cmd.cache.head? = some ⟨m.seq.toNat, 0x5C, rspOf 0x5C m stOK [Word.of (coverage t)] s.toDev⟩)) ∧
      (r.st.code ≠ 0 → Answers (.bistCfg m) s (Replied 0x5C m r.st [] s.toDev))) ∧
    (takes s.toDev 0x5D false m = true → m.body.length = 1 →
      ((w = 0 ∨ w = 1) → Answers (.bistRead m) s (Replied 0x5D m stOK
        (((List.range 5).filter (kindOn s.toDev)).flatMap (fun k => kindWords (kindAt s.toDev k)) ++
          [Word.of (s.bist.lastCycle * 2 ^ 16 + s.bist.deferred)])
        (if w = 0 then s.toDev else { s.toDev with
          bist := { s.bist with deferred := 0, kinds := s.bist.kinds.map (fun (x : Kind) => { x with fails := 0, incomplete := 0 }) } }))) ∧
      (w ≠ 0 → w ≠ 1 → Answers (.bistRead m) s (Replied 0x5D m stRANGE [] s.toDev))) ∧
    (takes s.toDev 0x60 false m = true → m.body.length = 2 →
      (1 ≤ w2.toNat → w2.toNat ≤ 41 → Answers (.journalRead m) s (Replied 0x60 m stOK
        ([Word.of s.jrn.next, Word.of s.jrn.wraps, Word.of (journalFrom s.toDev w.toNat).1] ++
          ((journalFrom s.toDev w.toNat).2.take w2.toNat).flatMap (fun e => e.2))
        (sramRead 1 (((journalFrom s.toDev w.toNat).2.take w2.toNat).flatMap (fun e => entryKeys s.toDev e.1)) s.toDev))) ∧
      (w2.toNat = 0 ∨ 41 < w2.toNat → Answers (.journalRead m) s (Replied 0x60 m stRANGE [] s.toDev))) ∧
    (takes s.toDev 0x61 false m = true →
      (m.body.length = 1 → bf w 0 2 = 1 →
        (w &&& ~~~ 0xFF03 ≠ 0 → Answers (.serviceChallenge m) s (Replied 0x61 m stRANGE [] s.toDev)) ∧
        (w &&& ~~~ 0xFF03 = 0 →
          (s.sess.isOpen = false → authWait s.toDev = false → Answers (.serviceChallenge m) s (fun t =>
            let n := t.sess.nonce.getD []
            t.sess.nonce = some n ∧ n.length = 4 ∧ t.sess.asked = bf w 8 8 ∧
            t.cmd.cache.head? = some ⟨m.seq.toNat, 0x61, rspOf 0x61 m stOK n s.toDev⟩)) ∧
          (s.sess.isOpen = false → authWait s.toDev = true →
            Answers (.serviceChallenge m) s (Replied 0x61 m stBUSY [] s.toDev)) ∧
          (s.sess.isOpen = true → Answers (.serviceChallenge m) s (Replied 0x61 m stSTATE [] s.toDev)))) ∧
      ((m.body.length = 1 ∨ m.body.length = 9) → (bf w 0 2 = 0 ∨ bf w 0 2 = 3) →
        Answers (.serviceChallenge m) s (Replied 0x61 m stRANGE [] s.toDev)) ∧
      (m.body.length = 9 → bf w 0 2 = 2 → w ≠ 2 → Answers (.serviceAnswer m) s (Replied 0x61 m stRANGE [] s.toDev)) ∧
      (m.body.length = 9 → w = 2 → s.fault.otpBad = [] → s.otp.bad = [] →
        (∀ n, s.sess.nonce = some n → rightMac s.toDev n [] = some (m.body.drop 1) → Answers (.serviceAnswer m) s (fun t =>
          t.sess.isOpen = true ∧ t.sess.tester = s.sess.asked ∧ t.sess.openAt = s.now ∧ t.sess.failRun = 0 ∧ t.sess.nonce = none ∧
          (let e := (t.jrn.q27.getLast?).getD Entry.reset
           t.jrn.q27 = s.jrn.q27 ++ [e] ∧ e.item = 0x0BF2 ∧ e.old = 0 ∧ e.new = 1))) ∧
        (∀ n, s.sess.nonce = some n → rightMac s.toDev n [] ≠ some (m.body.drop 1) →
          Answers (.serviceAnswer m) s (Replied 0x61 m stAUTH [] { s.toDev with
            sess := { s.sess with nonce := none, failRun := satInc 255 s.sess.failRun, fails := satInc 65535 s.sess.fails
                                  failAt := s.now } })) ∧
        (s.sess.nonce = none → Answers (.serviceAnswer m) s (Replied 0x61 m stSTATE [] s.toDev)))) ∧
    (takes s.toDev 0x62 false m = true → m.body = [] →
      (s.sess.isOpen = true → Answers (.serviceClose m) s (fun t => t.sess.isOpen = false ∧ t.fault.inject = [] ∧ t.fault.otpBad = [] ∧
        (let e := (t.jrn.q27.getLast?).getD Entry.reset
         t.jrn.q27 = s.jrn.q27 ++ [e] ∧ e.item = 0x0BF2 ∧ e.old = 1 ∧ e.new = 0))) ∧
      (s.sess.isOpen = false → Answers (.serviceClose m) s (Replied 0x62 m stSTATE [] s.toDev)))

/-- On a calm device that takes the message: RING_STATUS has no body, any other LENGTH is ERR_LENGTH. At the head the
response gives RING_STAT, RING_SELF, D_RING in bits [11:0], then for each address 1 to 62 its RING_MAP entry with SEL
= a and the RING_DELAY value last written to it; on a member RING_SELF and RING_DELAY. Nothing else changes. [R466] -/
def Obligations.RingStatusAnswersTheMap : Prop :=
  ∀ (s : State) (m : Msg), Calm s.toDev → takes s.toDev 0x52 false m = true →
    (m.body ≠ [] → Answers (.ringStatus m) s (Replied 0x52 m stLENGTH [] s.toDev)) ∧
    (m.body = [] → isHead s.toDev = true → Answers (.ringStatus m) s (Replied 0x52 m stOK
      ([regWord s.toDev 0x54, regWord s.toDev 0x4C, Word.of (s.ring.dRing % 2 ^ 12)] ++
        ((List.range 62).map (· + 1)).flatMap (fun a =>
          [regWord { s.toDev with ring.sel := a } 0x48, if a = 1 then 0 else
            Word.of ((if (mapAt s.toDev a).vB then 2 ^ 31 else 0) + (mapAt s.toDev a).dB % 2 ^ 12 * 2 ^ 16 +
              (if (mapAt s.toDev a).vA then 2 ^ 15 else 0) + (mapAt s.toDev a).dA % 2 ^ 12)])) s.toDev)) ∧
    (m.body = [] → isHead s.toDev = false → Answers (.ringStatus m) s
      (Replied 0x52 m stOK [regWord s.toDev 0x4C, regWord s.toDev 0x50] s.toDev))

/-- On a calm awake member whose head-side port p is enabled, for a write by a register frame: with p's bit 0 the port
stays enabled and EN_REFUSED is set, with it 1 EN_REFUSED stays; in both cases the other port's enable takes its bit
and CLR_CNT clears the counters. (Which port the head itself receives on is another statement's.) [R355] -/
def Obligations.ReceivingPortStaysEnabled : Prop :=
  ∀ (s : State) (p q : Port) (n : Nat) (w : Word), Calm s.toDev → awake s.toDev = true → isHead s.toDev = false →
    headSide s.toDev = some p → q ≠ p → portEnabled s.toDev p = true → Answers (.linkCtrlPortEn (.frame n) w) s (fun t =>
      portEnabled t p = true ∧ portEnabled t q = bit w q.num ∧ t.link.enRefused = (s.link.enRefused || !bit w p.num) ∧
      (bit w 2 = true → t.link.crcCnt = 0 ∧ t.link.violCnt = 0 ∧ t.link.retryCnt = 0) ∧
      (bit w 2 = false → t.link.crcCnt = s.link.crcCnt ∧ t.link.violCnt = s.link.violCnt ∧ t.link.retryCnt = s.link.retryCnt) ∧
      Beside { s.toDev with jrn := { s.jrn with q27 := t.jrn.q27 }, link := t.link } t)

/-- LevelsHold is kept by every step of every state, whether the queue is empty or not: ALERTN is low on an awake head
exactly while EVENT_SUM AND IRQ_EN is not 0; a FET conducts exactly where its schedule has it on and neither a hold
nor the cap keeps it off; AD_G of a bank is driven exactly where its driver is on, not interlocked, not fenced, no
safe state forced, with the PWM word of the applied command; a link driver is idle exactly where the core die does not
run, the safe state is forced, its port is off or the head is silent; the link pins, SYNC_OUT and the GPIO are high
impedance where the state says so, the GPIO pins carry their functions; FAULTN reads high against the device only
while it drives it low; UNSWEPT follows the map, POOL_FREE_MIN is at most FREE; the interlocks follow the comparator
levels; in the safe state no FET conducts, no driver runs and both link drivers are idle.
[13_host_port_and_mailboxes.md section Direct register map; 03_supply_power_clocks.md section Source failure, safe
state and SAFE_HOLD; 08_balancing.md section What holds a FET off; 08_balancing.md section Active bank drivers;
02_pins_and_package.md section GPIO functions and pin claims; 11_burza_link.md section Sweeps;
10_engines_and_flumes.md section Job statistics] -/
def Obligations.LevelsFollowTheState : Prop :=
  ∀ s t : State, LevelsHold s.toDev → step s = .next t → LevelsHold t.toDev

/-- In State.reset the queue is empty and LevelsHold holds; every configuration item has its reset value; no GPIO is
claimed; no event flag, enable or IRQ_EN bit is set and the mailboxes, their records and the response cache are empty;
no FET or driver is commanded, no balancing, transit or impedance plan is held, no fence in force; no session is open
and the journal is empty; both ports are enabled. The moment of reset (a head's core die at step 7 of the start) and
the part are the model's choice (logs 1, 3). [02_pins_and_package.md section GPIO functions and pin claims;
07_comparators_and_trip.md section State at arming; 13_host_port_and_mailboxes.md section Direct register map;
14_aeddo_command_reference.md section Configuration item catalogue; 17_journal_otp_security.md section Configuration
generations] -/
def Obligations.ResetLeavesTheStatedValues : Prop :=
  State.reset.pending = [] ∧ LevelsHold State.reset.toDev ∧ (∀ id, item State.reset.toDev id = itemReset State.reset.part id) ∧
  State.reset.pins.gpioOwner = [0, 0, 0, 0] ∧ State.reset.host.evf = 0 ∧ State.reset.host.eve = 0 ∧ State.reset.host.irqEn = 0 ∧
  State.reset.host.rsps = [] ∧ State.reset.host.evtRecs = [] ∧ State.reset.host.strmRecs = [] ∧
  State.reset.host.outst = [] ∧ State.reset.cmd.out = [] ∧ State.reset.cmd.waiting = [] ∧ State.reset.tb.loads = [] ∧
  State.reset.bal.plans = List.replicate 24 none ∧ State.reset.cmd.cache = [] ∧
  State.reset.bal.duty = List.replicate 24 0 ∧ (∀ b, (bank State.reset.toDev b).on = false) ∧
  State.reset.tb.slots = List.replicate 16 none ∧ State.reset.eis.plan = none ∧ State.reset.fault.fencedCh = 0 ∧
  State.reset.fault.fencedEng = 0 ∧ State.reset.fault.fencedPort = 0 ∧ State.reset.fault.fencedBank = 0 ∧
  State.reset.sess.isOpen = false ∧ State.reset.jrn.entries = [] ∧ State.reset.link.enA = true ∧ State.reset.link.enB = true
end

