-- ==== Sys2Proof/Laws/Effect.lean ====
section
/-! SUPPORT. What follows from the state after every command: settle changes what Beside lists; on a calm block the
effect of a command is its own function and settle. -/

namespace Sys2Proof.Laws

open Sys2Proof Sys2Proof.Machine Sys2Proof.Safety

theorem beside_refl (a : Dev) : Beside a a := ⟨rfl, rfl⟩

theorem beside_trans {a b c : Dev} (h1 : Beside a b) (h2 : Beside b c) : Beside a c := by
  obtain ⟨h1b, h1⟩ := h1
  obtain ⟨h2b, h2⟩ := h2
  refine ⟨h2b.trans h1b, ?_⟩
  rw [h1] at h2
  exact h2

theorem map_modify_core (l : List Bank) (f : Bank → Bank) (h : ∀ b, bankCore (f b) = bankCore b) :
    ∀ i, (l.modify i f).map bankCore = l.map bankCore := by
  induction l with
  | nil => intro i; cases i <;> rfl
  | cons b t ih =>
    intro i
    cases i with
    | zero => simp [List.modify, h]
    | succ n => simpa [List.modify_succ_cons] using ih n

theorem beside_forEach {α : Type} (l : List α) (f : α → Dev → Dev) (h : ∀ x d, Beside d (f x d)) :
    ∀ d, Beside d (forEach l f d) := by
  induction l with
  | nil => exact fun d => beside_refl d
  | cons a t ih => exact fun d => beside_trans (h a d) (ih (f a d))

theorem beside_modBank (i : Nat) (f : Bank → Bank) (h : ∀ b, bankCore (f b) = bankCore b) (d : Dev) :
    Beside d (modBank i f d) :=
  ⟨map_modify_core d.banks f h i, rfl⟩

theorem beside_followInterlock (d : Dev) : Beside d (followInterlock d) := by
  unfold followInterlock
  split
  · apply beside_forEach
    intro b d
    dsimp only
    split
    · split
      · exact beside_trans (beside_modBank b (fun x => { x with interlock := true, applied := 0, excite := false })
          (fun _ => rfl) d) ⟨rfl, rfl⟩
      · exact beside_modBank b (fun x => { x with interlock := true, applied := 0, excite := false }) (fun _ => rfl) d
    · split
      · exact beside_modBank b (fun x => { x with interlock := false }) (fun _ => rfl) d
      · exact beside_refl _
  · exact beside_refl _

theorem beside_noteFallback (d : Dev) : Beside d (noteFallback d) := by
  unfold noteFallback
  split
  · split
    · exact ⟨rfl, rfl⟩
    · exact beside_refl _
  · exact ⟨rfl, rfl⟩

theorem beside_grantTransfers (d : Dev) : Beside d (grantTransfers d) := ⟨rfl, rfl⟩

theorem beside_settleFets (d : Dev) : Beside d (settleFets d) := ⟨rfl, rfl⟩

theorem beside_noteWindow (d : Dev) : Beside d (noteWindow d) := ⟨rfl, rfl⟩

theorem beside_settlePins (d : Dev) : Beside d (settlePins d) := ⟨rfl, rfl⟩

/-- settle changes nothing but what Beside lists. -/
theorem beside_settle (d : Dev) : Beside d (settle d) := by
  unfold settle
  exact beside_trans (beside_grantTransfers d) (beside_trans (beside_followInterlock _) (beside_trans (beside_noteFallback _)
    (beside_trans (beside_settleFets _) (beside_trans (beside_noteWindow _) (beside_settlePins _)))))

theorem longEnds_calm {d : Dev} (hb : d.cmd.busy = none) (hw : d.cmd.waiting = []) : longEnds d = d := by
  simp [longEnds, unloadEnds, packLost, flushUnknown, hb, hw]

theorem forEach_id {α : Type} (l : List α) (f : α → Dev → Dev) (d : Dev) (h : ∀ x ∈ l, f x d = d) : forEach l f d = d := by
  induction l with
  | nil => rfl
  | cons a t ih =>
    have ha : f a d = d := h a (by simp)
    have ht : forEach t f d = d := ih (fun x hx => h x (by simp [hx]))
    show forEach t f (f a d) = d
    rw [ha]
    exact ht

theorem capAt_armed {d : Dev} (h : Unarmed d) (c : Nat) (hs : (capAt d c).state = 1) : (capAt d c).trig ≠ 3 := by
  unfold capAt nth at *
  rcases Nat.lt_or_ge c d.conv.caps.length with hc | hc
  · rw [List.getD_eq_getElem _ _ hc] at hs ⊢
    exact h _ (List.getElem_mem hc) hs
  · rw [List.getD_eq_default _ _ hc] at hs
    cases hs

theorem triggerOnEvents_unarmed {d : Dev} (before after : BitVec 128) (h : Unarmed d) : triggerOnEvents before after d = d := by
  unfold triggerOnEvents
  dsimp only
  split
  · rfl
  · apply forEach_id
    intro c _
    rw [if_neg]
    intro hc
    simp only [Bool.and_eq_true, decide_eq_true_eq] at hc
    exact capAt_armed h c hc.1.1 hc.1.2

theorem afterEvents_unarmed : ∀ (n : Nat) (before : BitVec 128) (d : Dev), Unarmed d → afterEvents n before d = d
  | 0, _, _, _ => rfl
  | n + 1, before, d, h => by
    unfold afterEvents
    split
    · rfl
    · rw [triggerOnEvents_unarmed _ _ h]
      exact afterEvents_unarmed n _ d h

theorem serveDac_idle {d : Dev} (h : DacIdle d) : serveDac d = d := by
  obtain ⟨h1, h2, h3, -⟩ := h
  have e1 : startVerify d = d := by simp [startVerify, h1]
  have e2 : dropStale d = d := by
    unfold dropStale
    split
    · rfl
    · rename_i hc
      have hr : d.aux.running = true := by
        cases hr : d.aux.running
        · simp [hr] at hc
        · rfl
      have ht := h3 hr
      simp [h2, Nat.not_le.mpr ht]
  have e3 : tryCheck d = d := by simp [tryCheck, h2]
  unfold serveDac
  rw [e1, e2, e3, ite_self]

theorem serveSlice_idle {d : Dev} (h : DacIdle d) : serveSlice d = d := by
  simp [serveSlice, h.2.2.2]

theorem armInHold_kept {before d : Dev} (h : d.power.safeHold = true → before.power.safeHold = true) : armInHold before d = d := by
  unfold armInHold
  cases hd : d.power.safeHold <;> simp_all

/-- In the wake of a command that leaves a calm block calm and enters no SAFE_HOLD nothing happens. -/
theorem wake_calm {before d : Dev} (h : Calm d) (hs : d.power.safeHold = true → before.power.safeHold = true) :
    wake before d = d := by
  unfold wake
  rw [armInHold_kept hs, afterEvents_unarmed 4 _ _ h.2.2.1, longEnds_calm h.1 h.2.1, serveDac_idle h.2.2.2,
    serveSlice_idle h.2.2.2]

/-- The effect of a command that leaves a calm block calm and enters no SAFE_HOLD. -/
theorem effect_calm {f : Dev → Dev} {d : Dev} (h : Calm (f d))
    (hs : (f d).power.safeHold = true → d.power.safeHold = true) : effect f d = settle (f d) := by
  unfold effect
  rw [wake_calm h hs]

/-- Such a command's next state is its own function's but for what follows from the state. -/
theorem beside_effect {f : Dev → Dev} {d : Dev} (h : Calm (f d))
    (hs : (f d).power.safeHold = true → d.power.safeHold = true) : Beside (f d) (effect f d) := by
  rw [effect_calm h hs]
  exact beside_settle _

/-- A calm block whose command mailbox, busy command, captures and users of the test DAC stay is calm. -/
theorem calm_of_eq {a b : Dev} (h : Calm a) (hc : b.cmd = a.cmd) (hk : b.conv.caps = a.conv.caps) (ha : b.aux = a.aux)
    (hb : b.bist = a.bist) : Calm b := by
  unfold Calm Unarmed DacIdle at *
  rw [hc, hk, ha, hb]
  exact h

end Sys2Proof.Laws
end

