-- ==== Sys2Proof/Laws/Events.lean ====
section
/-! SUPPORT. An occurrence of an event without a reaction, said once: the flag, the record, the counter, the stretcher. -/

namespace Sys2Proof.Laws

open Sys2Proof Sys2Proof.Machine Sys2Proof.Safety

theorem esc_modEsc_ne (k i : Nat) (f : Esc → Esc) (d : Dev) (h : i ≠ k) : esc (modEsc k f d) i = esc d i := by
  simp [esc, modEsc, nth, Ne.symm h]

/-- Where EVE does not ask for a record the flag alone is set; where it does, the mailbox takes the record. -/
theorem noteEvent_frame (k : Nat) (d : Dev) (h : srcAbsent d.part k = false) :
    (noteEvent k d).host.evf = mset d.host.evf k true ∧
    (mbit d.host.eve k = false → (noteEvent k d).host.evtRecs = d.host.evtRecs ∧ (noteEvent k d).host.evt = d.host.evt) ∧
    noteEvent k d = { d with host := { d.host with
      evf := (noteEvent k d).host.evf, evt := (noteEvent k d).host.evt, evtRecs := (noteEvent k d).host.evtRecs,
      evtRseq := (noteEvent k d).host.evtRseq, evtDrop := (noteEvent k d).host.evtDrop } } := by
  simp only [noteEvent, h, Bool.false_eq_true, if_false]
  split
  · rename_i he
    refine ⟨?_, fun hn => absurd (he.symm.trans hn) (by decide), ?_⟩ <;> unfold evtRecord <;> dsimp only <;> split <;> rfl
  · exact ⟨rfl, fun _ => ⟨rfl, rfl⟩, rfl⟩

/-- An occurrence that leads to no reaction (R477, R482). -/
theorem occur_plain (react : React) (k unit : Nat) (tg : List Nat) (forced : Bool) (d : Dev) (h : Plain d k) :
    ∃ e : Dev, occurWith react k unit tg forced d = e ∧
      e.host.evf = mset d.host.evf k true ∧
      (mbit d.host.eve k = false → e.host.evtRecs = d.host.evtRecs ∧ e.host.evt = d.host.evt) ∧
      (∀ i, i ≠ k → esc e i = esc d i) ∧
      e = { d with
        host := { d.host with evf := e.host.evf, evt := e.host.evt, evtRecs := e.host.evtRecs, evtRseq := e.host.evtRseq,
                              evtDrop := e.host.evtDrop }
        fault := { d.fault with esc := e.fault.esc, stretch := e.fault.stretch, latch := e.fault.latch } } := by
  obtain ⟨ha, hr⟩ := h
  obtain ⟨h1, h2, h3⟩ := noteEvent_frame k d ha
  refine ⟨_, rfl, ?_⟩
  unfold occurWith
  simp only [ha, Bool.false_eq_true, if_false]
  generalize noteEvent k d = n at *
  have hm : ∀ f : Esc → Esc, (modEsc k f n).host.evf = mset d.host.evf k true ∧
      (mbit d.host.eve k = false → (modEsc k f n).host.evtRecs = d.host.evtRecs ∧ (modEsc k f n).host.evt = d.host.evt) ∧
      (∀ i, i ≠ k → esc (modEsc k f n) i = esc d i) ∧
      modEsc k f n = { d with
        host := { d.host with
          evf := (modEsc k f n).host.evf, evt := (modEsc k f n).host.evt, evtRecs := (modEsc k f n).host.evtRecs,
          evtRseq := (modEsc k f n).host.evtRseq, evtDrop := (modEsc k f n).host.evtDrop }
        fault := { d.fault with esc := (modEsc k f n).fault.esc, stretch := (modEsc k f n).fault.stretch,
                                latch := (modEsc k f n).fault.latch } } := by
    intro f
    refine ⟨h1, h2, ?_, ?_⟩
    · intro i hi
      rw [esc_modEsc_ne _ _ _ _ hi, h3]
      rfl
    · unfold modEsc
      rw [h3]
  by_cases hi : isInfo k = true
  · simp only [hi, if_true]
    exact hm _
  · rcases hr with hr | hr
    · exact absurd hr hi
    · simp only [hi, Bool.false_eq_true, if_false]
      split
      · refine ⟨h1, h2, ?_, ?_⟩
        · intro i _
          rw [h3]
          rfl
        · rw [h3]
      · split
        · exact hm _
        · rename_i h2s
          split
          · rename_i hge
            have hz : escReaction n k = 0 := by
              rw [h3]
              rcases hr with hr | hr | hr
              · exact hr
              · exact absurd hr h2s
              · exact absurd hr (by omega)
            obtain ⟨g1, g2, g3, g4⟩ := hm (fun e => { e with state := 2, count := escCount n k, unit := unit, pulse := true })
            simp only [becomeSevere, hz, if_true, triggerStretch]
            refine ⟨g1, g2, g3, ?_⟩
            rw [g4]
          · exact hm _

/-- A raised event on a calm block, as its statement says it. -/
theorem noted_raised (react : React) (k unit : Nat) (tg : List Nat) (forced : Bool) (d : Dev) (hc : Calm d) (h : Plain d k) :
    Noted k d (settle (occurWith react k unit tg forced d)) ∧ Calm (occurWith react k unit tg forced d) ∧
      (occurWith react k unit tg forced d).power = d.power := by
  obtain ⟨e, he, h1, h2, h3, h4⟩ := occur_plain react k unit tg forced d h
  rw [he]
  have hb := beside_settle e
  have hcalm : Calm e := calm_of_eq hc (by rw [h4]) (by rw [h4]) (by rw [h4]) (by rw [h4])
  have hh : (settle e).host = e.host := by rw [hb.2]
  have hf : (settle e).fault = e.fault := by rw [hb.2]
  refine ⟨⟨by rw [hh, h1], ?_, ?_, ?_⟩, hcalm, by rw [h4]⟩
  · rw [hh]; exact h2
  · intro i hi
    have : esc (settle e) i = esc e i := by simp only [esc, hf]
    rw [this, h3 i hi]
  · rw [hh, hf]
    exact h4 ▸ hb

/-- The outcome of a command that raises one event without a reaction. -/
theorem noted_effect {f : Dev → Dev} {d a : Dev} (react : React) (k unit : Nat) (tg : List Nat) (forced : Bool)
    (hf : f d = occurWith react k unit tg forced a) (hc : Calm a) (h : Plain a k)
    (hs : a.power.safeHold = true → d.power.safeHold = true) : Noted k a (effect f d) := by
  have hn := noted_raised react k unit tg forced a hc h
  rw [effect_calm (by rw [hf]; exact hn.2.1) (by rw [hf, hn.2.2]; exact hs), hf]
  exact hn.1

end Sys2Proof.Laws
end

