-- ==== Sys2Proof/Laws/Reply.lean ====
section
/-! SUPPORT. What becomes of a command message, said once: the checks before its own part, its response, its refusal. -/

namespace Sys2Proof.Laws

open Sys2Proof Sys2Proof.Machine Sys2Proof.Safety

/-- The device with the SEQ of a message counted. -/
def counted (m : Msg) (d : Dev) : Dev := { d with cmd := { d.cmd with expSeq := some ((m.seq.toNat + 1) % 256) } }

/-- A message that the device takes comes to its command's checks. -/
theorem runCmd_takes {c : Cmd0} {m : Msg} {f : Dev → Ans} {d : Dev} {b : Bool} (h : takes d c.code b m = true) (hc : Calm d) :
    runCmd c m f d = executeCmd c m f false (counted m d) := by
  simp only [takes, Bool.and_eq_true, beq_iff_eq, Bool.not_eq_true', Bool.or_eq_false_iff] at h
  obtain ⟨⟨⟨⟨⟨⟨⟨⟨ha, hk⟩, hl⟩, hcrc⟩, hf⟩, hr⟩, hb⟩, hca⟩, hs⟩ := h
  obtain ⟨hbusy, hw, -⟩ := hc
  have hn : cached d m.seq.toNat c.code = none := by simpa using hca
  have hq : ∀ x, queuedBehind d x = false := by simp [queuedBehind, hw]
  unfold runCmd
  simp only [ha, hk, hbusy, hw, hq, dropFirst, Option.isNone_none, Bool.and_false, hcrc, hf, Bool.not_true, Bool.false_eq_true, if_false, hn, hs, countSeq, beq_self_eq_true,
    Bool.or_self, counted]

/-- What the message and the device bring to the checks of R427: the LENGTH, the session where the command needs one, a
head where it is the head's. -/
def admits (c : Cmd0) (m : Msg) (d : Dev) : Prop :=
  c.lenOk m = true ∧ (c.head = true → isHead d = true) ∧ (c.session = true → d.sess.isOpen = true)

theorem executeCmd_admits {c : Cmd0} {m : Msg} {f : Dev → Ans} {d : Dev} (h : takes d c.code c.bcast m = true)
    (ha : admits c m d) : executeCmd c m f false (counted m d) =
      (match f (counted m d) with
       | .done s data e =>
         if s.code != 0 then answer c.code m.seq.toNat (m.body.length + 2) m.quiet m.bcast false s data (counted m d)
         else if !journalRoom (counted m d) e then
           answer c.code m.seq.toNat (m.body.length + 2) m.quiet m.bcast false stBUSY [] (counted m d)
         else answer c.code m.seq.toNat (m.body.length + 2) m.quiet m.bcast false s data e
       | .forced s data e => answer c.code m.seq.toNat (m.body.length + 2) m.quiet m.bcast false s data e
       | .long arg e => { e with cmd.busy := some (begunOf c.code m arg) }) := by
  simp only [takes, Bool.and_eq_true, beq_iff_eq, Bool.not_eq_true', Bool.or_eq_false_iff] at h
  obtain ⟨⟨⟨⟨⟨⟨⟨⟨-, -⟩, hl⟩, -⟩, -⟩, hr⟩, hb⟩, -⟩, -⟩ := h
  obtain ⟨h1, h2, h3⟩ := ha
  have e1 : (c.head && !isHead d) = false := by cases hh : c.head <;> simp_all
  have e2 : (c.session && !d.sess.isOpen) = false := by cases hh : c.session <;> simp_all
  have e3 : (m.bcast && !c.bcast) = false := by cases hh : c.bcast <;> simp_all
  have e4 : d.power.leaving.isSome = false := by simpa using hl
  have e1' : (c.head && !isHead (counted m d)) = false := e1
  have e2' : (c.session && !(counted m d).sess.isOpen) = false := e2
  have e4' : (counted m d).power.leaving.isSome = false := e4
  unfold executeCmd
  simp only [firstFail, h1, e1', e2', e3, e4', hr, Bool.not_true, Bool.or_self, bne_self_eq_false]
  rfl

/-- Sending changes nothing of what Calm speaks of. -/
theorem sent_of_answer (c : Nat) (m : Msg) (st : Status) (data : List Word) (a e : Dev)
    (he : e = counted m a) (hc : Calm a) :
    Replied c m st data a (settle (answer c m.seq.toNat (m.body.length + 2) m.quiet m.bcast false st data e)) ∧
    Calm (answer c m.seq.toNat (m.body.length + 2) m.quiet m.bcast false st data e) ∧
    (answer c m.seq.toNat (m.body.length + 2) m.quiet m.bcast false st data e).power = a.power := by
  subst he
  have hx : ∀ x : Dev, Beside x (settle x) := beside_settle
  refine ⟨?_, ?_, ?_⟩
  · refine beside_trans ?_ (hx _)
    cases hh : isHead a
    all_goals
      have hh' : ∀ k : Cmd, isHead { a with cmd := k } = isHead a := fun _ => rfl
      cases hq : (m.quiet && st.code == 0) <;> cases hb : m.bcast <;>
        simp [answer, deliver, counted, notOutstanding, rspOf, withAccept, ownAddr, hh, hh', hq, hb, Beside]
  · obtain ⟨h1, h2, h3⟩ := hc
    unfold answer deliver
    dsimp only
    split
    · split <;> exact ⟨h1, h2, h3⟩
    · split <;> exact ⟨h1, h2, h3⟩
  · unfold answer deliver
    dsimp only
    split
    · split <;> rfl
    · split <;> rfl

/-- A command that succeeds is answered OK with its data; its effect is the one of its own part on the device. -/
theorem replied_ok {c : Cmd0} {m : Msg} {f : Dev → Ans} {s : State} {i : Instr} {data : List Word} {a : Dev}
    (hi : exec i s = runDev s (runCmd c m f)) (h : takes s.toDev c.code c.bcast m = true) (hc : Calm s.toDev)
    (ha : admits c m s.toDev) (hf : f (counted m s.toDev) = .done stOK data (counted m a)) (hca : Calm a)
    (hs : a.power.safeHold = true → s.toDev.power.safeHold = true)
    (hj : journalRoom s.toDev a = true) : Answers i s (Replied c.code m stOK data a) := by
  have e : runCmd c m f s.toDev = answer c.code m.seq.toNat (m.body.length + 2) m.quiet m.bcast false stOK data (counted m a) := by
    rw [runCmd_takes h hc, executeCmd_admits h ha, hf]
    have hj' : journalRoom (counted m s.toDev) (counted m a) = true := hj
    have h0 : (stOK.code != 0) = false := by decide
    simp [hj', h0]
  have hr := sent_of_answer c.code m stOK data a _ rfl hca
  refine ⟨_, hi, rfl, ?_⟩
  show Replied c.code m stOK data a (effect _ s.toDev)
  rw [effect_calm (by rw [e]; exact hr.2.1) (by rw [e, hr.2.2]; exact hs), e]
  exact hr.1

/-- A command that is refused by its own part leaves the device as it was. -/
theorem replied_refused {c : Cmd0} {m : Msg} {f : Dev → Ans} {s : State} {i : Instr} {st : Status} {data : List Word} {e : Dev}
    (hi : exec i s = runDev s (runCmd c m f)) (h : takes s.toDev c.code c.bcast m = true) (hc : Calm s.toDev)
    (ha : admits c m s.toDev) (hf : f (counted m s.toDev) = .done st data e) (hst : st.code ≠ 0) :
    Answers i s (Replied c.code m st data s.toDev) := by
  have e : runCmd c m f s.toDev =
      answer c.code m.seq.toNat (m.body.length + 2) m.quiet m.bcast false st data (counted m s.toDev) := by
    rw [runCmd_takes h hc, executeCmd_admits h ha, hf]
    simp [hst]
  have hr := sent_of_answer c.code m st data s.toDev _ rfl hc
  refine ⟨_, hi, rfl, ?_⟩
  show Replied c.code m st data s.toDev (effect _ s.toDev)
  rw [effect_calm (by rw [e]; exact hr.2.1) (by rw [e, hr.2.2]; exact id), e]
  exact hr.1

end Sys2Proof.Laws
end

