-- ==== Sys2Proof/Laws/Settle.lean ====
section
/-! SUPPORT. What the parts of settle leave as it was: the quantities that levels are made of do not read the levels. -/

namespace Sys2Proof.Laws

open Sys2Proof Sys2Proof.Machine

@[simp] theorem fetsNow_settlePins (d : Dev) : fetsNow (settlePins d) = fetsNow d := rfl
@[simp] theorem fetsNow_noteWindow (d : Dev) : fetsNow (noteWindow d) = fetsNow d := rfl
@[simp] theorem fetsNow_settleFets (d : Dev) : fetsNow (settleFets d) = fetsNow d := rfl
@[simp] theorem eventSum_settlePins (d : Dev) : eventSum (settlePins d) = eventSum d := rfl
@[simp] theorem eventSum_noteWindow (d : Dev) : eventSum (noteWindow d) = eventSum d := rfl
@[simp] theorem eventSum_settleFets (d : Dev) : eventSum (settleFets d) = eventSum d := rfl
@[simp] theorem alertNow_settlePins (d : Dev) : alertNow (settlePins d) = alertNow d := rfl
@[simp] theorem faultnLow_settlePins (d : Dev) : faultnLow (settlePins d) = faultnLow d := rfl
@[simp] theorem unsweptNow_settlePins (d : Dev) : unsweptNow (settlePins d) = unsweptNow d := rfl
@[simp] theorem freeCount_settlePins (d : Dev) : freeCount (settlePins d) = freeCount d := rfl
@[simp] theorem driverIdle_settlePins (d : Dev) (p : Port) : driverIdle (settlePins d) p = driverIdle d p := by
  cases p <;> rfl
@[simp] theorem bank_settlePins (d : Dev) (b : Nat) : bank (settlePins d) b = bank d b := rfl
@[simp] theorem bankLevels_settlePins (d : Dev) (b : Nat) : bankLevels (settlePins d) b = bankLevels d b := rfl
@[simp] theorem sb_settlePins (d : Dev) : (settlePins d).pins.sb = d.pins.sb := rfl
@[simp] theorem sb_noteWindow (d : Dev) : (noteWindow d).pins.sb = d.pins.sb := rfl
@[simp] theorem sb_settleFets (d : Dev) : (settleFets d).pins.sb = fetsNow d := rfl

/-- A pin that no function drives keeps its level; the others follow what does not read the levels. -/
theorem gpioNow_settlePins (d : Dev) (p : Nat) (h : mbit (settlePins d).pins.gpioLevel (p - 1) = gpioNow d p) :
    gpioNow (settlePins d) p = gpioNow d p := by
  have h0 : gpioHolder (settlePins d) p = gpioHolder d p := rfl
  have h1 : awake (settlePins d) = awake d := rfl
  have h2 : (settlePins d).power = d.power := rfl
  have h3 : (settlePins d).banks = d.banks := rfl
  have h4 : (settlePins d).pins.gpioOut = d.pins.gpioOut := rfl
  unfold gpioNow at h ⊢
  rw [h0, h1, h2, h3, h4, faultnLow_settlePins]
  split at h
  · rfl
  · rfl
  · rw [h]
    cases awake d <;> simp
  · exact h

/-! ## Masks and interlocks -/

/-- A bit of the mask of the numbers below 4 that meet p. -/
theorem mbit_mof_range4 (p : Nat → Bool) (b : Nat) (hb : b < 4) : mbit (mof 4 ((List.range 4).filter p)) b = p b := by
  have hc : b = 0 ∨ b = 1 ∨ b = 2 ∨ b = 3 := by omega
  have e : List.range 4 = [0, 1, 2, 3] := rfl
  rw [e]
  rcases hc with rfl | rfl | rfl | rfl <;>
    cases h0 : p 0 <;> cases h1 : p 1 <;> cases h2 : p 2 <;> cases h3 : p 3 <;> simp only [List.filter, h0, h1, h2, h3] <;> decide

theorem bank_modBank (d : Dev) (b i : Nat) (f : Bank → Bank) (hb : b < d.banks.length) :
    bank (modBank i f d) b = if i = b then f (bank d b) else bank d b := by
  unfold bank modBank nth
  simp [List.getD_eq_getElem?_getD, List.getElem?_modify]
  split <;> simp_all

/-- One bank's interlock follows its levels. -/
def followOne (b : Nat) (d : Dev) : Dev :=
  let now := bankLevels d b
  if now && !(bank d b).interlock then
    let ex := (bank d b).excite
    let d1 := modBank b (fun x => { x with interlock := true, applied := 0, excite := false }) d
    if ex then { d1 with eis.banksOn := mset d1.eis.banksOn b false,
                         eis.win := d1.eis.win.map (fun (w : Win) => { w with distBank := true }) } else d1
  else if !now && (bank d b).interlock then modBank b (fun x => { x with interlock := false }) d
  else d

theorem followOne_kept (b : Nat) (d : Dev) : (followOne b d).cmp = d.cmp ∧ (followOne b d).banks.length = d.banks.length := by
  unfold followOne
  dsimp only
  split
  · split <;> simp [modBank]
  · split <;> simp [modBank]

theorem followOne_levels (b i : Nat) (d : Dev) : bankLevels (followOne b d) i = bankLevels d i := by
  unfold bankLevels
  rw [(followOne_kept b d).1]

theorem followOne_self (b : Nat) (d : Dev) (h : b < d.banks.length) :
    (bank (followOne b d) b).interlock = bankLevels d b := by
  unfold followOne
  dsimp only
  cases hl : bankLevels d b <;> cases hi : (bank d b).interlock <;> simp [hi]
  · rw [bank_modBank _ _ _ _ h]; simp
  · split
    · show (bank (modBank b _ d) b).interlock = true
      rw [bank_modBank _ _ _ _ h]; simp
    · rw [bank_modBank _ _ _ _ h]; simp

theorem followOne_other (b i : Nat) (d : Dev) (h : i < d.banks.length) (hn : b ≠ i) : bank (followOne b d) i = bank d i := by
  unfold followOne
  dsimp only
  split
  · split
    · show bank (modBank b _ d) i = _
      rw [bank_modBank _ _ _ _ h]; simp [hn]
    · rw [bank_modBank _ _ _ _ h]; simp [hn]
  · split
    · rw [bank_modBank _ _ _ _ h]; simp [hn]
    · rfl

/-- followInterlock leaves every interlock as the bank's comparator levels say. -/
theorem followInterlock_follows (d : Dev) (hp : d.part.hasBanks = true) (h4 : d.banks.length = 4) (b : Nat) (hb : b < 4) :
    (bank (followInterlock d) b).interlock = bankLevels (followInterlock d) b := by
  have e : followInterlock d = followOne 3 (followOne 2 (followOne 1 (followOne 0 d))) := by
    unfold followInterlock
    rw [if_pos hp]
    rfl
  have l0 := (followOne_kept 0 d).2
  have l1 := (followOne_kept 1 (followOne 0 d)).2
  have l2 := (followOne_kept 2 (followOne 1 (followOne 0 d))).2
  rw [e]
  simp only [followOne_levels]
  have hc : b = 0 ∨ b = 1 ∨ b = 2 ∨ b = 3 := by omega
  rcases hc with rfl | rfl | rfl | rfl
  · rw [followOne_other _ _ _ (by omega) (by omega), followOne_other _ _ _ (by omega) (by omega),
      followOne_other _ _ _ (by omega) (by omega), followOne_self _ _ (by omega)]
  · rw [followOne_other _ _ _ (by omega) (by omega), followOne_other _ _ _ (by omega) (by omega), followOne_self _ _ (by omega),
      followOne_levels]
  · rw [followOne_other _ _ _ (by omega) (by omega), followOne_self _ _ (by omega), followOne_levels, followOne_levels]
  · rw [followOne_self _ _ (by omega), followOne_levels, followOne_levels, followOne_levels]

end Sys2Proof.Laws
end

