-- ==== Sys2Proof/Laws/State.lean ====
section
/-! SUPPORT. One lemma per field and update: what the named updates of the device leave as it was, and what they set. -/

namespace Sys2Proof.Laws

open Sys2Proof Sys2Proof.Machine

/-! ## modEsc -/

@[simp] theorem modEsc_part (k : Nat) (f : Esc → Esc) (d : Dev) : (modEsc k f d).part = d.part := rfl
@[simp] theorem modEsc_now (k : Nat) (f : Esc → Esc) (d : Dev) : (modEsc k f d).now = d.now := rfl
@[simp] theorem modEsc_free (k : Nat) (f : Esc → Esc) (d : Dev) : (modEsc k f d).free = d.free := rfl
@[simp] theorem modEsc_power (k : Nat) (f : Esc → Esc) (d : Dev) : (modEsc k f d).power = d.power := rfl
@[simp] theorem modEsc_clk (k : Nat) (f : Esc → Esc) (d : Dev) : (modEsc k f d).clk = d.clk := rfl
@[simp] theorem modEsc_pins (k : Nat) (f : Esc → Esc) (d : Dev) : (modEsc k f d).pins = d.pins := rfl
@[simp] theorem modEsc_tb (k : Nat) (f : Esc → Esc) (d : Dev) : (modEsc k f d).tb = d.tb := rfl
@[simp] theorem modEsc_conv (k : Nat) (f : Esc → Esc) (d : Dev) : (modEsc k f d).conv = d.conv := rfl
@[simp] theorem modEsc_aux (k : Nat) (f : Esc → Esc) (d : Dev) : (modEsc k f d).aux = d.aux := rfl
@[simp] theorem modEsc_cmp (k : Nat) (f : Esc → Esc) (d : Dev) : (modEsc k f d).cmp = d.cmp := rfl
@[simp] theorem modEsc_trip (k : Nat) (f : Esc → Esc) (d : Dev) : (modEsc k f d).trip = d.trip := rfl
@[simp] theorem modEsc_bal (k : Nat) (f : Esc → Esc) (d : Dev) : (modEsc k f d).bal = d.bal := rfl
@[simp] theorem modEsc_banks (k : Nat) (f : Esc → Esc) (d : Dev) : (modEsc k f d).banks = d.banks := rfl
@[simp] theorem modEsc_eis (k : Nat) (f : Esc → Esc) (d : Dev) : (modEsc k f d).eis = d.eis := rfl
@[simp] theorem modEsc_eng (k : Nat) (f : Esc → Esc) (d : Dev) : (modEsc k f d).eng = d.eng := rfl
@[simp] theorem modEsc_d2d (k : Nat) (f : Esc → Esc) (d : Dev) : (modEsc k f d).d2d = d.d2d := rfl
@[simp] theorem modEsc_link (k : Nat) (f : Esc → Esc) (d : Dev) : (modEsc k f d).link = d.link := rfl
@[simp] theorem modEsc_ring (k : Nat) (f : Esc → Esc) (d : Dev) : (modEsc k f d).ring = d.ring := rfl
@[simp] theorem modEsc_head (k : Nat) (f : Esc → Esc) (d : Dev) : (modEsc k f d).head = d.head := rfl
@[simp] theorem modEsc_host (k : Nat) (f : Esc → Esc) (d : Dev) : (modEsc k f d).host = d.host := rfl
@[simp] theorem modEsc_cmd (k : Nat) (f : Esc → Esc) (d : Dev) : (modEsc k f d).cmd = d.cmd := rfl
@[simp] theorem modEsc_bist (k : Nat) (f : Esc → Esc) (d : Dev) : (modEsc k f d).bist = d.bist := rfl
@[simp] theorem modEsc_jrn (k : Nat) (f : Esc → Esc) (d : Dev) : (modEsc k f d).jrn = d.jrn := rfl
@[simp] theorem modEsc_otp (k : Nat) (f : Esc → Esc) (d : Dev) : (modEsc k f d).otp = d.otp := rfl
@[simp] theorem modEsc_sess (k : Nat) (f : Esc → Esc) (d : Dev) : (modEsc k f d).sess = d.sess := rfl
@[simp] theorem modEsc_cfg (k : Nat) (f : Esc → Esc) (d : Dev) : (modEsc k f d).cfg = d.cfg := rfl
@[simp] theorem modEsc_fault_esc (k : Nat) (f : Esc → Esc) (d : Dev) : (modEsc k f d).fault.esc = d.fault.esc.modify k f := rfl
@[simp] theorem modEsc_fault_fencedCh (k : Nat) (f : Esc → Esc) (d : Dev) : (modEsc k f d).fault.fencedCh = d.fault.fencedCh := rfl
@[simp] theorem modEsc_fault_fencedEng (k : Nat) (f : Esc → Esc) (d : Dev) : (modEsc k f d).fault.fencedEng = d.fault.fencedEng := rfl
@[simp] theorem modEsc_fault_fencedPort (k : Nat) (f : Esc → Esc) (d : Dev) : (modEsc k f d).fault.fencedPort = d.fault.fencedPort := rfl
@[simp] theorem modEsc_fault_fencedBank (k : Nat) (f : Esc → Esc) (d : Dev) : (modEsc k f d).fault.fencedBank = d.fault.fencedBank := rfl
@[simp] theorem modEsc_fault_safeSrc (k : Nat) (f : Esc → Esc) (d : Dev) : (modEsc k f d).fault.safeSrc = d.fault.safeSrc := rfl
@[simp] theorem modEsc_fault_safeAt (k : Nat) (f : Esc → Esc) (d : Dev) : (modEsc k f d).fault.safeAt = d.fault.safeAt := rfl
@[simp] theorem modEsc_fault_safePrev (k : Nat) (f : Esc → Esc) (d : Dev) : (modEsc k f d).fault.safePrev = d.fault.safePrev := rfl
@[simp] theorem modEsc_fault_safeReact (k : Nat) (f : Esc → Esc) (d : Dev) : (modEsc k f d).fault.safeReact = d.fault.safeReact := rfl
@[simp] theorem modEsc_fault_msgDrop (k : Nat) (f : Esc → Esc) (d : Dev) : (modEsc k f d).fault.msgDrop = d.fault.msgDrop := rfl
@[simp] theorem modEsc_fault_stretch10us (k : Nat) (f : Esc → Esc) (d : Dev) : (modEsc k f d).fault.stretch10us = d.fault.stretch10us := rfl
@[simp] theorem modEsc_fault_latch (k : Nat) (f : Esc → Esc) (d : Dev) : (modEsc k f d).fault.latch = d.fault.latch := rfl
@[simp] theorem modEsc_fault_force (k : Nat) (f : Esc → Esc) (d : Dev) : (modEsc k f d).fault.force = d.fault.force := rfl
@[simp] theorem modEsc_fault_auto (k : Nat) (f : Esc → Esc) (d : Dev) : (modEsc k f d).fault.auto = d.fault.auto := rfl
@[simp] theorem modEsc_fault_startup (k : Nat) (f : Esc → Esc) (d : Dev) : (modEsc k f d).fault.startup = d.fault.startup := rfl
@[simp] theorem modEsc_fault_stretch (k : Nat) (f : Esc → Esc) (d : Dev) : (modEsc k f d).fault.stretch = d.fault.stretch := rfl
@[simp] theorem modEsc_fault_conflict (k : Nat) (f : Esc → Esc) (d : Dev) : (modEsc k f d).fault.conflict = d.fault.conflict := rfl
@[simp] theorem modEsc_fault_critical (k : Nat) (f : Esc → Esc) (d : Dev) : (modEsc k f d).fault.critical = d.fault.critical := rfl
@[simp] theorem modEsc_fault_inject (k : Nat) (f : Esc → Esc) (d : Dev) : (modEsc k f d).fault.inject = d.fault.inject := rfl
@[simp] theorem modEsc_fault_sramBad (k : Nat) (f : Esc → Esc) (d : Dev) : (modEsc k f d).fault.sramBad = d.fault.sramBad := rfl
@[simp] theorem modEsc_fault_otpBad (k : Nat) (f : Esc → Esc) (d : Dev) : (modEsc k f d).fault.otpBad = d.fault.otpBad := rfl

/-! ## modBank -/

@[simp] theorem modBank_part (b : Nat) (f : Bank → Bank) (d : Dev) : (modBank b f d).part = d.part := rfl
@[simp] theorem modBank_now (b : Nat) (f : Bank → Bank) (d : Dev) : (modBank b f d).now = d.now := rfl
@[simp] theorem modBank_free (b : Nat) (f : Bank → Bank) (d : Dev) : (modBank b f d).free = d.free := rfl
@[simp] theorem modBank_power (b : Nat) (f : Bank → Bank) (d : Dev) : (modBank b f d).power = d.power := rfl
@[simp] theorem modBank_clk (b : Nat) (f : Bank → Bank) (d : Dev) : (modBank b f d).clk = d.clk := rfl
@[simp] theorem modBank_pins (b : Nat) (f : Bank → Bank) (d : Dev) : (modBank b f d).pins = d.pins := rfl
@[simp] theorem modBank_tb (b : Nat) (f : Bank → Bank) (d : Dev) : (modBank b f d).tb = d.tb := rfl
@[simp] theorem modBank_conv (b : Nat) (f : Bank → Bank) (d : Dev) : (modBank b f d).conv = d.conv := rfl
@[simp] theorem modBank_aux (b : Nat) (f : Bank → Bank) (d : Dev) : (modBank b f d).aux = d.aux := rfl
@[simp] theorem modBank_cmp (b : Nat) (f : Bank → Bank) (d : Dev) : (modBank b f d).cmp = d.cmp := rfl
@[simp] theorem modBank_trip (b : Nat) (f : Bank → Bank) (d : Dev) : (modBank b f d).trip = d.trip := rfl
@[simp] theorem modBank_bal (b : Nat) (f : Bank → Bank) (d : Dev) : (modBank b f d).bal = d.bal := rfl
@[simp] theorem modBank_eis (b : Nat) (f : Bank → Bank) (d : Dev) : (modBank b f d).eis = d.eis := rfl
@[simp] theorem modBank_eng (b : Nat) (f : Bank → Bank) (d : Dev) : (modBank b f d).eng = d.eng := rfl
@[simp] theorem modBank_d2d (b : Nat) (f : Bank → Bank) (d : Dev) : (modBank b f d).d2d = d.d2d := rfl
@[simp] theorem modBank_link (b : Nat) (f : Bank → Bank) (d : Dev) : (modBank b f d).link = d.link := rfl
@[simp] theorem modBank_ring (b : Nat) (f : Bank → Bank) (d : Dev) : (modBank b f d).ring = d.ring := rfl
@[simp] theorem modBank_head (b : Nat) (f : Bank → Bank) (d : Dev) : (modBank b f d).head = d.head := rfl
@[simp] theorem modBank_host (b : Nat) (f : Bank → Bank) (d : Dev) : (modBank b f d).host = d.host := rfl
@[simp] theorem modBank_cmd (b : Nat) (f : Bank → Bank) (d : Dev) : (modBank b f d).cmd = d.cmd := rfl
@[simp] theorem modBank_fault (b : Nat) (f : Bank → Bank) (d : Dev) : (modBank b f d).fault = d.fault := rfl
@[simp] theorem modBank_bist (b : Nat) (f : Bank → Bank) (d : Dev) : (modBank b f d).bist = d.bist := rfl
@[simp] theorem modBank_jrn (b : Nat) (f : Bank → Bank) (d : Dev) : (modBank b f d).jrn = d.jrn := rfl
@[simp] theorem modBank_otp (b : Nat) (f : Bank → Bank) (d : Dev) : (modBank b f d).otp = d.otp := rfl
@[simp] theorem modBank_sess (b : Nat) (f : Bank → Bank) (d : Dev) : (modBank b f d).sess = d.sess := rfl
@[simp] theorem modBank_cfg (b : Nat) (f : Bank → Bank) (d : Dev) : (modBank b f d).cfg = d.cfg := rfl
@[simp] theorem modBank_banks (b : Nat) (f : Bank → Bank) (d : Dev) : (modBank b f d).banks = d.banks.modify b f := rfl

/-! ## modEng -/

@[simp] theorem modEng_part (e : Nat) (f : Engine → Engine) (d : Dev) : (modEng e f d).part = d.part := rfl
@[simp] theorem modEng_now (e : Nat) (f : Engine → Engine) (d : Dev) : (modEng e f d).now = d.now := rfl
@[simp] theorem modEng_free (e : Nat) (f : Engine → Engine) (d : Dev) : (modEng e f d).free = d.free := rfl
@[simp] theorem modEng_power (e : Nat) (f : Engine → Engine) (d : Dev) : (modEng e f d).power = d.power := rfl
@[simp] theorem modEng_clk (e : Nat) (f : Engine → Engine) (d : Dev) : (modEng e f d).clk = d.clk := rfl
@[simp] theorem modEng_pins (e : Nat) (f : Engine → Engine) (d : Dev) : (modEng e f d).pins = d.pins := rfl
@[simp] theorem modEng_tb (e : Nat) (f : Engine → Engine) (d : Dev) : (modEng e f d).tb = d.tb := rfl
@[simp] theorem modEng_conv (e : Nat) (f : Engine → Engine) (d : Dev) : (modEng e f d).conv = d.conv := rfl
@[simp] theorem modEng_aux (e : Nat) (f : Engine → Engine) (d : Dev) : (modEng e f d).aux = d.aux := rfl
@[simp] theorem modEng_cmp (e : Nat) (f : Engine → Engine) (d : Dev) : (modEng e f d).cmp = d.cmp := rfl
@[simp] theorem modEng_trip (e : Nat) (f : Engine → Engine) (d : Dev) : (modEng e f d).trip = d.trip := rfl
@[simp] theorem modEng_bal (e : Nat) (f : Engine → Engine) (d : Dev) : (modEng e f d).bal = d.bal := rfl
@[simp] theorem modEng_banks (e : Nat) (f : Engine → Engine) (d : Dev) : (modEng e f d).banks = d.banks := rfl
@[simp] theorem modEng_eis (e : Nat) (f : Engine → Engine) (d : Dev) : (modEng e f d).eis = d.eis := rfl
@[simp] theorem modEng_d2d (e : Nat) (f : Engine → Engine) (d : Dev) : (modEng e f d).d2d = d.d2d := rfl
@[simp] theorem modEng_link (e : Nat) (f : Engine → Engine) (d : Dev) : (modEng e f d).link = d.link := rfl
@[simp] theorem modEng_ring (e : Nat) (f : Engine → Engine) (d : Dev) : (modEng e f d).ring = d.ring := rfl
@[simp] theorem modEng_head (e : Nat) (f : Engine → Engine) (d : Dev) : (modEng e f d).head = d.head := rfl
@[simp] theorem modEng_host (e : Nat) (f : Engine → Engine) (d : Dev) : (modEng e f d).host = d.host := rfl
@[simp] theorem modEng_cmd (e : Nat) (f : Engine → Engine) (d : Dev) : (modEng e f d).cmd = d.cmd := rfl
@[simp] theorem modEng_fault (e : Nat) (f : Engine → Engine) (d : Dev) : (modEng e f d).fault = d.fault := rfl
@[simp] theorem modEng_bist (e : Nat) (f : Engine → Engine) (d : Dev) : (modEng e f d).bist = d.bist := rfl
@[simp] theorem modEng_jrn (e : Nat) (f : Engine → Engine) (d : Dev) : (modEng e f d).jrn = d.jrn := rfl
@[simp] theorem modEng_otp (e : Nat) (f : Engine → Engine) (d : Dev) : (modEng e f d).otp = d.otp := rfl
@[simp] theorem modEng_sess (e : Nat) (f : Engine → Engine) (d : Dev) : (modEng e f d).sess = d.sess := rfl
@[simp] theorem modEng_cfg (e : Nat) (f : Engine → Engine) (d : Dev) : (modEng e f d).cfg = d.cfg := rfl
@[simp] theorem modEng_eng_engines (e : Nat) (f : Engine → Engine) (d : Dev) : (modEng e f d).eng.engines = d.eng.engines.modify e f := rfl
@[simp] theorem modEng_eng_pool (e : Nat) (f : Engine → Engine) (d : Dev) : (modEng e f d).eng.pool = d.eng.pool := rfl
@[simp] theorem modEng_eng_classes (e : Nat) (f : Engine → Engine) (d : Dev) : (modEng e f d).eng.classes = d.eng.classes := rfl
@[simp] theorem modEng_eng_counts (e : Nat) (f : Engine → Engine) (d : Dev) : (modEng e f d).eng.counts = d.eng.counts := rfl
@[simp] theorem modEng_eng_freeMin (e : Nat) (f : Engine → Engine) (d : Dev) : (modEng e f d).eng.freeMin = d.eng.freeMin := rfl
@[simp] theorem modEng_eng_safeRefused (e : Nat) (f : Engine → Engine) (d : Dev) : (modEng e f d).eng.safeRefused = d.eng.safeRefused := rfl
@[simp] theorem modEng_eng_descCrc (e : Nat) (f : Engine → Engine) (d : Dev) : (modEng e f d).eng.descCrc = d.eng.descCrc := rfl
@[simp] theorem modEng_eng_unresolved (e : Nat) (f : Engine → Engine) (d : Dev) : (modEng e f d).eng.unresolved = d.eng.unresolved := rfl
@[simp] theorem modEng_eng_quorum (e : Nat) (f : Engine → Engine) (d : Dev) : (modEng e f d).eng.quorum = d.eng.quorum := rfl
@[simp] theorem modEng_eng_clearedAt (e : Nat) (f : Engine → Engine) (d : Dev) : (modEng e f d).eng.clearedAt = d.eng.clearedAt := rfl
@[simp] theorem modEng_eng_auditCnt (e : Nat) (f : Engine → Engine) (d : Dev) : (modEng e f d).eng.auditCnt = d.eng.auditCnt := rfl
@[simp] theorem modEng_eng_statsCnt (e : Nat) (f : Engine → Engine) (d : Dev) : (modEng e f d).eng.statsCnt = d.eng.statsCnt := rfl
@[simp] theorem modEng_eng_balCnt (e : Nat) (f : Engine → Engine) (d : Dev) : (modEng e f d).eng.balCnt = d.eng.balCnt := rfl
@[simp] theorem modEng_eng_statsRes (e : Nat) (f : Engine → Engine) (d : Dev) : (modEng e f d).eng.statsRes = d.eng.statsRes := rfl
@[simp] theorem modEng_eng_kernels (e : Nat) (f : Engine → Engine) (d : Dev) : (modEng e f d).eng.kernels = d.eng.kernels := rfl
@[simp] theorem modEng_eng_copies (e : Nat) (f : Engine → Engine) (d : Dev) : (modEng e f d).eng.copies = d.eng.copies := rfl
@[simp] theorem modEng_eng_msgs (e : Nat) (f : Engine → Engine) (d : Dev) : (modEng e f d).eng.msgs = d.eng.msgs := rfl
@[simp] theorem modEng_eng_packWait (e : Nat) (f : Engine → Engine) (d : Dev) : (modEng e f d).eng.packWait = d.eng.packWait := rfl
@[simp] theorem modEng_eng_capXfer (e : Nat) (f : Engine → Engine) (d : Dev) : (modEng e f d).eng.capXfer = d.eng.capXfer := rfl

/-! ## modKernel -/

@[simp] theorem modKernel_part (k : Nat) (f : Kernel → Kernel) (d : Dev) : (modKernel k f d).part = d.part := rfl
@[simp] theorem modKernel_now (k : Nat) (f : Kernel → Kernel) (d : Dev) : (modKernel k f d).now = d.now := rfl
@[simp] theorem modKernel_free (k : Nat) (f : Kernel → Kernel) (d : Dev) : (modKernel k f d).free = d.free := rfl
@[simp] theorem modKernel_power (k : Nat) (f : Kernel → Kernel) (d : Dev) : (modKernel k f d).power = d.power := rfl
@[simp] theorem modKernel_clk (k : Nat) (f : Kernel → Kernel) (d : Dev) : (modKernel k f d).clk = d.clk := rfl
@[simp] theorem modKernel_pins (k : Nat) (f : Kernel → Kernel) (d : Dev) : (modKernel k f d).pins = d.pins := rfl
@[simp] theorem modKernel_tb (k : Nat) (f : Kernel → Kernel) (d : Dev) : (modKernel k f d).tb = d.tb := rfl
@[simp] theorem modKernel_conv (k : Nat) (f : Kernel → Kernel) (d : Dev) : (modKernel k f d).conv = d.conv := rfl
@[simp] theorem modKernel_aux (k : Nat) (f : Kernel → Kernel) (d : Dev) : (modKernel k f d).aux = d.aux := rfl
@[simp] theorem modKernel_cmp (k : Nat) (f : Kernel → Kernel) (d : Dev) : (modKernel k f d).cmp = d.cmp := rfl
@[simp] theorem modKernel_trip (k : Nat) (f : Kernel → Kernel) (d : Dev) : (modKernel k f d).trip = d.trip := rfl
@[simp] theorem modKernel_bal (k : Nat) (f : Kernel → Kernel) (d : Dev) : (modKernel k f d).bal = d.bal := rfl
@[simp] theorem modKernel_banks (k : Nat) (f : Kernel → Kernel) (d : Dev) : (modKernel k f d).banks = d.banks := rfl
@[simp] theorem modKernel_eis (k : Nat) (f : Kernel → Kernel) (d : Dev) : (modKernel k f d).eis = d.eis := rfl
@[simp] theorem modKernel_d2d (k : Nat) (f : Kernel → Kernel) (d : Dev) : (modKernel k f d).d2d = d.d2d := rfl
@[simp] theorem modKernel_link (k : Nat) (f : Kernel → Kernel) (d : Dev) : (modKernel k f d).link = d.link := rfl
@[simp] theorem modKernel_ring (k : Nat) (f : Kernel → Kernel) (d : Dev) : (modKernel k f d).ring = d.ring := rfl
@[simp] theorem modKernel_head (k : Nat) (f : Kernel → Kernel) (d : Dev) : (modKernel k f d).head = d.head := rfl
@[simp] theorem modKernel_host (k : Nat) (f : Kernel → Kernel) (d : Dev) : (modKernel k f d).host = d.host := rfl
@[simp] theorem modKernel_cmd (k : Nat) (f : Kernel → Kernel) (d : Dev) : (modKernel k f d).cmd = d.cmd := rfl
@[simp] theorem modKernel_fault (k : Nat) (f : Kernel → Kernel) (d : Dev) : (modKernel k f d).fault = d.fault := rfl
@[simp] theorem modKernel_bist (k : Nat) (f : Kernel → Kernel) (d : Dev) : (modKernel k f d).bist = d.bist := rfl
@[simp] theorem modKernel_jrn (k : Nat) (f : Kernel → Kernel) (d : Dev) : (modKernel k f d).jrn = d.jrn := rfl
@[simp] theorem modKernel_otp (k : Nat) (f : Kernel → Kernel) (d : Dev) : (modKernel k f d).otp = d.otp := rfl
@[simp] theorem modKernel_sess (k : Nat) (f : Kernel → Kernel) (d : Dev) : (modKernel k f d).sess = d.sess := rfl
@[simp] theorem modKernel_cfg (k : Nat) (f : Kernel → Kernel) (d : Dev) : (modKernel k f d).cfg = d.cfg := rfl
@[simp] theorem modKernel_eng_engines (k : Nat) (f : Kernel → Kernel) (d : Dev) : (modKernel k f d).eng.engines = d.eng.engines := rfl
@[simp] theorem modKernel_eng_pool (k : Nat) (f : Kernel → Kernel) (d : Dev) : (modKernel k f d).eng.pool = d.eng.pool := rfl
@[simp] theorem modKernel_eng_classes (k : Nat) (f : Kernel → Kernel) (d : Dev) : (modKernel k f d).eng.classes = d.eng.classes := rfl
@[simp] theorem modKernel_eng_counts (k : Nat) (f : Kernel → Kernel) (d : Dev) : (modKernel k f d).eng.counts = d.eng.counts := rfl
@[simp] theorem modKernel_eng_freeMin (k : Nat) (f : Kernel → Kernel) (d : Dev) : (modKernel k f d).eng.freeMin = d.eng.freeMin := rfl
@[simp] theorem modKernel_eng_safeRefused (k : Nat) (f : Kernel → Kernel) (d : Dev) : (modKernel k f d).eng.safeRefused = d.eng.safeRefused := rfl
@[simp] theorem modKernel_eng_descCrc (k : Nat) (f : Kernel → Kernel) (d : Dev) : (modKernel k f d).eng.descCrc = d.eng.descCrc := rfl
@[simp] theorem modKernel_eng_unresolved (k : Nat) (f : Kernel → Kernel) (d : Dev) : (modKernel k f d).eng.unresolved = d.eng.unresolved := rfl
@[simp] theorem modKernel_eng_quorum (k : Nat) (f : Kernel → Kernel) (d : Dev) : (modKernel k f d).eng.quorum = d.eng.quorum := rfl
@[simp] theorem modKernel_eng_clearedAt (k : Nat) (f : Kernel → Kernel) (d : Dev) : (modKernel k f d).eng.clearedAt = d.eng.clearedAt := rfl
@[simp] theorem modKernel_eng_auditCnt (k : Nat) (f : Kernel → Kernel) (d : Dev) : (modKernel k f d).eng.auditCnt = d.eng.auditCnt := rfl
@[simp] theorem modKernel_eng_statsCnt (k : Nat) (f : Kernel → Kernel) (d : Dev) : (modKernel k f d).eng.statsCnt = d.eng.statsCnt := rfl
@[simp] theorem modKernel_eng_balCnt (k : Nat) (f : Kernel → Kernel) (d : Dev) : (modKernel k f d).eng.balCnt = d.eng.balCnt := rfl
@[simp] theorem modKernel_eng_statsRes (k : Nat) (f : Kernel → Kernel) (d : Dev) : (modKernel k f d).eng.statsRes = d.eng.statsRes := rfl
@[simp] theorem modKernel_eng_kernels (k : Nat) (f : Kernel → Kernel) (d : Dev) : (modKernel k f d).eng.kernels = d.eng.kernels.modify k f := rfl
@[simp] theorem modKernel_eng_copies (k : Nat) (f : Kernel → Kernel) (d : Dev) : (modKernel k f d).eng.copies = d.eng.copies := rfl
@[simp] theorem modKernel_eng_msgs (k : Nat) (f : Kernel → Kernel) (d : Dev) : (modKernel k f d).eng.msgs = d.eng.msgs := rfl
@[simp] theorem modKernel_eng_packWait (k : Nat) (f : Kernel → Kernel) (d : Dev) : (modKernel k f d).eng.packWait = d.eng.packWait := rfl
@[simp] theorem modKernel_eng_capXfer (k : Nat) (f : Kernel → Kernel) (d : Dev) : (modKernel k f d).eng.capXfer = d.eng.capXfer := rfl

/-! ## modClass -/

@[simp] theorem modClass_part (c : Nat) (f : ClassCnt → ClassCnt) (d : Dev) : (modClass c f d).part = d.part := rfl
@[simp] theorem modClass_now (c : Nat) (f : ClassCnt → ClassCnt) (d : Dev) : (modClass c f d).now = d.now := rfl
@[simp] theorem modClass_free (c : Nat) (f : ClassCnt → ClassCnt) (d : Dev) : (modClass c f d).free = d.free := rfl
@[simp] theorem modClass_power (c : Nat) (f : ClassCnt → ClassCnt) (d : Dev) : (modClass c f d).power = d.power := rfl
@[simp] theorem modClass_clk (c : Nat) (f : ClassCnt → ClassCnt) (d : Dev) : (modClass c f d).clk = d.clk := rfl
@[simp] theorem modClass_pins (c : Nat) (f : ClassCnt → ClassCnt) (d : Dev) : (modClass c f d).pins = d.pins := rfl
@[simp] theorem modClass_tb (c : Nat) (f : ClassCnt → ClassCnt) (d : Dev) : (modClass c f d).tb = d.tb := rfl
@[simp] theorem modClass_conv (c : Nat) (f : ClassCnt → ClassCnt) (d : Dev) : (modClass c f d).conv = d.conv := rfl
@[simp] theorem modClass_aux (c : Nat) (f : ClassCnt → ClassCnt) (d : Dev) : (modClass c f d).aux = d.aux := rfl
@[simp] theorem modClass_cmp (c : Nat) (f : ClassCnt → ClassCnt) (d : Dev) : (modClass c f d).cmp = d.cmp := rfl
@[simp] theorem modClass_trip (c : Nat) (f : ClassCnt → ClassCnt) (d : Dev) : (modClass c f d).trip = d.trip := rfl
@[simp] theorem modClass_bal (c : Nat) (f : ClassCnt → ClassCnt) (d : Dev) : (modClass c f d).bal = d.bal := rfl
@[simp] theorem modClass_banks (c : Nat) (f : ClassCnt → ClassCnt) (d : Dev) : (modClass c f d).banks = d.banks := rfl
@[simp] theorem modClass_eis (c : Nat) (f : ClassCnt → ClassCnt) (d : Dev) : (modClass c f d).eis = d.eis := rfl
@[simp] theorem modClass_d2d (c : Nat) (f : ClassCnt → ClassCnt) (d : Dev) : (modClass c f d).d2d = d.d2d := rfl
@[simp] theorem modClass_link (c : Nat) (f : ClassCnt → ClassCnt) (d : Dev) : (modClass c f d).link = d.link := rfl
@[simp] theorem modClass_ring (c : Nat) (f : ClassCnt → ClassCnt) (d : Dev) : (modClass c f d).ring = d.ring := rfl
@[simp] theorem modClass_head (c : Nat) (f : ClassCnt → ClassCnt) (d : Dev) : (modClass c f d).head = d.head := rfl
@[simp] theorem modClass_host (c : Nat) (f : ClassCnt → ClassCnt) (d : Dev) : (modClass c f d).host = d.host := rfl
@[simp] theorem modClass_cmd (c : Nat) (f : ClassCnt → ClassCnt) (d : Dev) : (modClass c f d).cmd = d.cmd := rfl
@[simp] theorem modClass_fault (c : Nat) (f : ClassCnt → ClassCnt) (d : Dev) : (modClass c f d).fault = d.fault := rfl
@[simp] theorem modClass_bist (c : Nat) (f : ClassCnt → ClassCnt) (d : Dev) : (modClass c f d).bist = d.bist := rfl
@[simp] theorem modClass_jrn (c : Nat) (f : ClassCnt → ClassCnt) (d : Dev) : (modClass c f d).jrn = d.jrn := rfl
@[simp] theorem modClass_otp (c : Nat) (f : ClassCnt → ClassCnt) (d : Dev) : (modClass c f d).otp = d.otp := rfl
@[simp] theorem modClass_sess (c : Nat) (f : ClassCnt → ClassCnt) (d : Dev) : (modClass c f d).sess = d.sess := rfl
@[simp] theorem modClass_cfg (c : Nat) (f : ClassCnt → ClassCnt) (d : Dev) : (modClass c f d).cfg = d.cfg := rfl
@[simp] theorem modClass_eng_engines (c : Nat) (f : ClassCnt → ClassCnt) (d : Dev) : (modClass c f d).eng.engines = d.eng.engines := rfl
@[simp] theorem modClass_eng_pool (c : Nat) (f : ClassCnt → ClassCnt) (d : Dev) : (modClass c f d).eng.pool = d.eng.pool := rfl
@[simp] theorem modClass_eng_classes (c : Nat) (f : ClassCnt → ClassCnt) (d : Dev) : (modClass c f d).eng.classes = d.eng.classes := rfl
@[simp] theorem modClass_eng_counts (c : Nat) (f : ClassCnt → ClassCnt) (d : Dev) : (modClass c f d).eng.counts = d.eng.counts.modify c f := rfl
@[simp] theorem modClass_eng_freeMin (c : Nat) (f : ClassCnt → ClassCnt) (d : Dev) : (modClass c f d).eng.freeMin = d.eng.freeMin := rfl
@[simp] theorem modClass_eng_safeRefused (c : Nat) (f : ClassCnt → ClassCnt) (d : Dev) : (modClass c f d).eng.safeRefused = d.eng.safeRefused := rfl
@[simp] theorem modClass_eng_descCrc (c : Nat) (f : ClassCnt → ClassCnt) (d : Dev) : (modClass c f d).eng.descCrc = d.eng.descCrc := rfl
@[simp] theorem modClass_eng_unresolved (c : Nat) (f : ClassCnt → ClassCnt) (d : Dev) : (modClass c f d).eng.unresolved = d.eng.unresolved := rfl
@[simp] theorem modClass_eng_quorum (c : Nat) (f : ClassCnt → ClassCnt) (d : Dev) : (modClass c f d).eng.quorum = d.eng.quorum := rfl
@[simp] theorem modClass_eng_clearedAt (c : Nat) (f : ClassCnt → ClassCnt) (d : Dev) : (modClass c f d).eng.clearedAt = d.eng.clearedAt := rfl
@[simp] theorem modClass_eng_auditCnt (c : Nat) (f : ClassCnt → ClassCnt) (d : Dev) : (modClass c f d).eng.auditCnt = d.eng.auditCnt := rfl
@[simp] theorem modClass_eng_statsCnt (c : Nat) (f : ClassCnt → ClassCnt) (d : Dev) : (modClass c f d).eng.statsCnt = d.eng.statsCnt := rfl
@[simp] theorem modClass_eng_balCnt (c : Nat) (f : ClassCnt → ClassCnt) (d : Dev) : (modClass c f d).eng.balCnt = d.eng.balCnt := rfl
@[simp] theorem modClass_eng_statsRes (c : Nat) (f : ClassCnt → ClassCnt) (d : Dev) : (modClass c f d).eng.statsRes = d.eng.statsRes := rfl
@[simp] theorem modClass_eng_kernels (c : Nat) (f : ClassCnt → ClassCnt) (d : Dev) : (modClass c f d).eng.kernels = d.eng.kernels := rfl
@[simp] theorem modClass_eng_copies (c : Nat) (f : ClassCnt → ClassCnt) (d : Dev) : (modClass c f d).eng.copies = d.eng.copies := rfl
@[simp] theorem modClass_eng_msgs (c : Nat) (f : ClassCnt → ClassCnt) (d : Dev) : (modClass c f d).eng.msgs = d.eng.msgs := rfl
@[simp] theorem modClass_eng_packWait (c : Nat) (f : ClassCnt → ClassCnt) (d : Dev) : (modClass c f d).eng.packWait = d.eng.packWait := rfl
@[simp] theorem modClass_eng_capXfer (c : Nat) (f : ClassCnt → ClassCnt) (d : Dev) : (modClass c f d).eng.capXfer = d.eng.capXfer := rfl

/-! ## modCap -/

@[simp] theorem modCap_part (c : Nat) (f : Capture → Capture) (d : Dev) : (modCap c f d).part = d.part := rfl
@[simp] theorem modCap_now (c : Nat) (f : Capture → Capture) (d : Dev) : (modCap c f d).now = d.now := rfl
@[simp] theorem modCap_free (c : Nat) (f : Capture → Capture) (d : Dev) : (modCap c f d).free = d.free := rfl
@[simp] theorem modCap_power (c : Nat) (f : Capture → Capture) (d : Dev) : (modCap c f d).power = d.power := rfl
@[simp] theorem modCap_clk (c : Nat) (f : Capture → Capture) (d : Dev) : (modCap c f d).clk = d.clk := rfl
@[simp] theorem modCap_pins (c : Nat) (f : Capture → Capture) (d : Dev) : (modCap c f d).pins = d.pins := rfl
@[simp] theorem modCap_tb (c : Nat) (f : Capture → Capture) (d : Dev) : (modCap c f d).tb = d.tb := rfl
@[simp] theorem modCap_aux (c : Nat) (f : Capture → Capture) (d : Dev) : (modCap c f d).aux = d.aux := rfl
@[simp] theorem modCap_cmp (c : Nat) (f : Capture → Capture) (d : Dev) : (modCap c f d).cmp = d.cmp := rfl
@[simp] theorem modCap_trip (c : Nat) (f : Capture → Capture) (d : Dev) : (modCap c f d).trip = d.trip := rfl
@[simp] theorem modCap_bal (c : Nat) (f : Capture → Capture) (d : Dev) : (modCap c f d).bal = d.bal := rfl
@[simp] theorem modCap_banks (c : Nat) (f : Capture → Capture) (d : Dev) : (modCap c f d).banks = d.banks := rfl
@[simp] theorem modCap_eis (c : Nat) (f : Capture → Capture) (d : Dev) : (modCap c f d).eis = d.eis := rfl
@[simp] theorem modCap_eng (c : Nat) (f : Capture → Capture) (d : Dev) : (modCap c f d).eng = d.eng := rfl
@[simp] theorem modCap_d2d (c : Nat) (f : Capture → Capture) (d : Dev) : (modCap c f d).d2d = d.d2d := rfl
@[simp] theorem modCap_link (c : Nat) (f : Capture → Capture) (d : Dev) : (modCap c f d).link = d.link := rfl
@[simp] theorem modCap_ring (c : Nat) (f : Capture → Capture) (d : Dev) : (modCap c f d).ring = d.ring := rfl
@[simp] theorem modCap_head (c : Nat) (f : Capture → Capture) (d : Dev) : (modCap c f d).head = d.head := rfl
@[simp] theorem modCap_host (c : Nat) (f : Capture → Capture) (d : Dev) : (modCap c f d).host = d.host := rfl
@[simp] theorem modCap_cmd (c : Nat) (f : Capture → Capture) (d : Dev) : (modCap c f d).cmd = d.cmd := rfl
@[simp] theorem modCap_fault (c : Nat) (f : Capture → Capture) (d : Dev) : (modCap c f d).fault = d.fault := rfl
@[simp] theorem modCap_bist (c : Nat) (f : Capture → Capture) (d : Dev) : (modCap c f d).bist = d.bist := rfl
@[simp] theorem modCap_jrn (c : Nat) (f : Capture → Capture) (d : Dev) : (modCap c f d).jrn = d.jrn := rfl
@[simp] theorem modCap_otp (c : Nat) (f : Capture → Capture) (d : Dev) : (modCap c f d).otp = d.otp := rfl
@[simp] theorem modCap_sess (c : Nat) (f : Capture → Capture) (d : Dev) : (modCap c f d).sess = d.sess := rfl
@[simp] theorem modCap_cfg (c : Nat) (f : Capture → Capture) (d : Dev) : (modCap c f d).cfg = d.cfg := rfl
@[simp] theorem modCap_conv_tseq (c : Nat) (f : Capture → Capture) (d : Dev) : (modCap c f d).conv.tseq = d.conv.tseq := rfl
@[simp] theorem modCap_conv_settle (c : Nat) (f : Capture → Capture) (d : Dev) : (modCap c f d).conv.settle = d.conv.settle := rfl
@[simp] theorem modCap_conv_busy (c : Nat) (f : Capture → Capture) (d : Dev) : (modCap c f d).conv.busy = d.conv.busy := rfl
@[simp] theorem modCap_conv_prev (c : Nat) (f : Capture → Capture) (d : Dev) : (modCap c f d).conv.prev = d.conv.prev := rfl
@[simp] theorem modCap_conv_enable (c : Nat) (f : Capture → Capture) (d : Dev) : (modCap c f d).conv.enable = d.conv.enable := rfl
@[simp] theorem modCap_conv_mode (c : Nat) (f : Capture → Capture) (d : Dev) : (modCap c f d).conv.mode = d.conv.mode := rfl
@[simp] theorem modCap_conv_dec (c : Nat) (f : Capture → Capture) (d : Dev) : (modCap c f d).conv.dec = d.conv.dec := rfl
@[simp] theorem modCap_conv_fir (c : Nat) (f : Capture → Capture) (d : Dev) : (modCap c f d).conv.fir = d.conv.fir := rfl
@[simp] theorem modCap_conv_apl (c : Nat) (f : Capture → Capture) (d : Dev) : (modCap c f d).conv.apl = d.conv.apl := rfl
@[simp] theorem modCap_conv_cal (c : Nat) (f : Capture → Capture) (d : Dev) : (modCap c f d).conv.cal = d.conv.cal := rfl
@[simp] theorem modCap_conv_waiting (c : Nat) (f : Capture → Capture) (d : Dev) : (modCap c f d).conv.waiting = d.conv.waiting := rfl
@[simp] theorem modCap_conv_atMeridian (c : Nat) (f : Capture → Capture) (d : Dev) : (modCap c f d).conv.atMeridian = d.conv.atMeridian := rfl
@[simp] theorem modCap_conv_aplRange (c : Nat) (f : Capture → Capture) (d : Dev) : (modCap c f d).conv.aplRange = d.conv.aplRange := rfl
@[simp] theorem modCap_conv_anchored (c : Nat) (f : Capture → Capture) (d : Dev) : (modCap c f d).conv.anchored = d.conv.anchored := rfl
@[simp] theorem modCap_conv_frameAt (c : Nat) (f : Capture → Capture) (d : Dev) : (modCap c f d).conv.frameAt = d.conv.frameAt := rfl
@[simp] theorem modCap_conv_anchorAt (c : Nat) (f : Capture → Capture) (d : Dev) : (modCap c f d).conv.anchorAt = d.conv.anchorAt := rfl
@[simp] theorem modCap_conv_frameNo (c : Nat) (f : Capture → Capture) (d : Dev) : (modCap c f d).conv.frameNo = d.conv.frameNo := rfl
@[simp] theorem modCap_conv_apStart (c : Nat) (f : Capture → Capture) (d : Dev) : (modCap c f d).conv.apStart = d.conv.apStart := rfl
@[simp] theorem modCap_conv_flight (c : Nat) (f : Capture → Capture) (d : Dev) : (modCap c f d).conv.flight = d.conv.flight := rfl
@[simp] theorem modCap_conv_live (c : Nat) (f : Capture → Capture) (d : Dev) : (modCap c f d).conv.live = d.conv.live := rfl
@[simp] theorem modCap_conv_epoch (c : Nat) (f : Capture → Capture) (d : Dev) : (modCap c f d).conv.epoch = d.conv.epoch := rfl
@[simp] theorem modCap_conv_visSince (c : Nat) (f : Capture → Capture) (d : Dev) : (modCap c f d).conv.visSince = d.conv.visSince := rfl
@[simp] theorem modCap_conv_disabledDiag (c : Nat) (f : Capture → Capture) (d : Dev) : (modCap c f d).conv.disabledDiag = d.conv.disabledDiag := rfl
@[simp] theorem modCap_conv_lastSwept (c : Nat) (f : Capture → Capture) (d : Dev) : (modCap c f d).conv.lastSwept = d.conv.lastSwept := rfl
@[simp] theorem modCap_conv_caps (c : Nat) (f : Capture → Capture) (d : Dev) : (modCap c f d).conv.caps = d.conv.caps.modify c f := rfl
@[simp] theorem modCap_conv_armCount (c : Nat) (f : Capture → Capture) (d : Dev) : (modCap c f d).conv.armCount = d.conv.armCount := rfl
@[simp] theorem modCap_conv_tempFront (c : Nat) (f : Capture → Capture) (d : Dev) : (modCap c f d).conv.tempFront = d.conv.tempFront := rfl

/-! ## modKind -/

@[simp] theorem modKind_part (k : Nat) (f : Kind → Kind) (d : Dev) : (modKind k f d).part = d.part := rfl
@[simp] theorem modKind_now (k : Nat) (f : Kind → Kind) (d : Dev) : (modKind k f d).now = d.now := rfl
@[simp] theorem modKind_free (k : Nat) (f : Kind → Kind) (d : Dev) : (modKind k f d).free = d.free := rfl
@[simp] theorem modKind_power (k : Nat) (f : Kind → Kind) (d : Dev) : (modKind k f d).power = d.power := rfl
@[simp] theorem modKind_clk (k : Nat) (f : Kind → Kind) (d : Dev) : (modKind k f d).clk = d.clk := rfl
@[simp] theorem modKind_pins (k : Nat) (f : Kind → Kind) (d : Dev) : (modKind k f d).pins = d.pins := rfl
@[simp] theorem modKind_tb (k : Nat) (f : Kind → Kind) (d : Dev) : (modKind k f d).tb = d.tb := rfl
@[simp] theorem modKind_conv (k : Nat) (f : Kind → Kind) (d : Dev) : (modKind k f d).conv = d.conv := rfl
@[simp] theorem modKind_aux (k : Nat) (f : Kind → Kind) (d : Dev) : (modKind k f d).aux = d.aux := rfl
@[simp] theorem modKind_cmp (k : Nat) (f : Kind → Kind) (d : Dev) : (modKind k f d).cmp = d.cmp := rfl
@[simp] theorem modKind_trip (k : Nat) (f : Kind → Kind) (d : Dev) : (modKind k f d).trip = d.trip := rfl
@[simp] theorem modKind_bal (k : Nat) (f : Kind → Kind) (d : Dev) : (modKind k f d).bal = d.bal := rfl
@[simp] theorem modKind_banks (k : Nat) (f : Kind → Kind) (d : Dev) : (modKind k f d).banks = d.banks := rfl
@[simp] theorem modKind_eis (k : Nat) (f : Kind → Kind) (d : Dev) : (modKind k f d).eis = d.eis := rfl
@[simp] theorem modKind_eng (k : Nat) (f : Kind → Kind) (d : Dev) : (modKind k f d).eng = d.eng := rfl
@[simp] theorem modKind_d2d (k : Nat) (f : Kind → Kind) (d : Dev) : (modKind k f d).d2d = d.d2d := rfl
@[simp] theorem modKind_link (k : Nat) (f : Kind → Kind) (d : Dev) : (modKind k f d).link = d.link := rfl
@[simp] theorem modKind_ring (k : Nat) (f : Kind → Kind) (d : Dev) : (modKind k f d).ring = d.ring := rfl
@[simp] theorem modKind_head (k : Nat) (f : Kind → Kind) (d : Dev) : (modKind k f d).head = d.head := rfl
@[simp] theorem modKind_host (k : Nat) (f : Kind → Kind) (d : Dev) : (modKind k f d).host = d.host := rfl
@[simp] theorem modKind_cmd (k : Nat) (f : Kind → Kind) (d : Dev) : (modKind k f d).cmd = d.cmd := rfl
@[simp] theorem modKind_fault (k : Nat) (f : Kind → Kind) (d : Dev) : (modKind k f d).fault = d.fault := rfl
@[simp] theorem modKind_jrn (k : Nat) (f : Kind → Kind) (d : Dev) : (modKind k f d).jrn = d.jrn := rfl
@[simp] theorem modKind_otp (k : Nat) (f : Kind → Kind) (d : Dev) : (modKind k f d).otp = d.otp := rfl
@[simp] theorem modKind_sess (k : Nat) (f : Kind → Kind) (d : Dev) : (modKind k f d).sess = d.sess := rfl
@[simp] theorem modKind_cfg (k : Nat) (f : Kind → Kind) (d : Dev) : (modKind k f d).cfg = d.cfg := rfl
@[simp] theorem modKind_bist_kinds (k : Nat) (f : Kind → Kind) (d : Dev) : (modKind k f d).bist.kinds = d.bist.kinds.modify k f := rfl
@[simp] theorem modKind_bist_deferred (k : Nat) (f : Kind → Kind) (d : Dev) : (modKind k f d).bist.deferred = d.bist.deferred := rfl
@[simp] theorem modKind_bist_lastCycle (k : Nat) (f : Kind → Kind) (d : Dev) : (modKind k f d).bist.lastCycle = d.bist.lastCycle := rfl
@[simp] theorem modKind_bist_cycleAt (k : Nat) (f : Kind → Kind) (d : Dev) : (modKind k f d).bist.cycleAt = d.bist.cycleAt := rfl
@[simp] theorem modKind_bist_rot (k : Nat) (f : Kind → Kind) (d : Dev) : (modKind k f d).bist.rot = d.bist.rot := rfl
@[simp] theorem modKind_bist_slice (k : Nat) (f : Kind → Kind) (d : Dev) : (modKind k f d).bist.slice = d.bist.slice := rfl
@[simp] theorem modKind_bist_withdrawn (k : Nat) (f : Kind → Kind) (d : Dev) : (modKind k f d).bist.withdrawn = d.bist.withdrawn := rfl
@[simp] theorem modKind_bist_failHold (k : Nat) (f : Kind → Kind) (d : Dev) : (modKind k f d).bist.failHold = d.bist.failHold := rfl
@[simp] theorem modKind_bist_pausedAt (k : Nat) (f : Kind → Kind) (d : Dev) : (modKind k f d).bist.pausedAt = d.bist.pausedAt := rfl

/-! ## modMap -/

@[simp] theorem modMap_part (a : Nat) (f : MapEntry → MapEntry) (d : Dev) : (modMap a f d).part = d.part := rfl
@[simp] theorem modMap_now (a : Nat) (f : MapEntry → MapEntry) (d : Dev) : (modMap a f d).now = d.now := rfl
@[simp] theorem modMap_free (a : Nat) (f : MapEntry → MapEntry) (d : Dev) : (modMap a f d).free = d.free := rfl
@[simp] theorem modMap_power (a : Nat) (f : MapEntry → MapEntry) (d : Dev) : (modMap a f d).power = d.power := rfl
@[simp] theorem modMap_clk (a : Nat) (f : MapEntry → MapEntry) (d : Dev) : (modMap a f d).clk = d.clk := rfl
@[simp] theorem modMap_pins (a : Nat) (f : MapEntry → MapEntry) (d : Dev) : (modMap a f d).pins = d.pins := rfl
@[simp] theorem modMap_tb (a : Nat) (f : MapEntry → MapEntry) (d : Dev) : (modMap a f d).tb = d.tb := rfl
@[simp] theorem modMap_conv (a : Nat) (f : MapEntry → MapEntry) (d : Dev) : (modMap a f d).conv = d.conv := rfl
@[simp] theorem modMap_aux (a : Nat) (f : MapEntry → MapEntry) (d : Dev) : (modMap a f d).aux = d.aux := rfl
@[simp] theorem modMap_cmp (a : Nat) (f : MapEntry → MapEntry) (d : Dev) : (modMap a f d).cmp = d.cmp := rfl
@[simp] theorem modMap_trip (a : Nat) (f : MapEntry → MapEntry) (d : Dev) : (modMap a f d).trip = d.trip := rfl
@[simp] theorem modMap_bal (a : Nat) (f : MapEntry → MapEntry) (d : Dev) : (modMap a f d).bal = d.bal := rfl
@[simp] theorem modMap_banks (a : Nat) (f : MapEntry → MapEntry) (d : Dev) : (modMap a f d).banks = d.banks := rfl
@[simp] theorem modMap_eis (a : Nat) (f : MapEntry → MapEntry) (d : Dev) : (modMap a f d).eis = d.eis := rfl
@[simp] theorem modMap_eng (a : Nat) (f : MapEntry → MapEntry) (d : Dev) : (modMap a f d).eng = d.eng := rfl
@[simp] theorem modMap_d2d (a : Nat) (f : MapEntry → MapEntry) (d : Dev) : (modMap a f d).d2d = d.d2d := rfl
@[simp] theorem modMap_link (a : Nat) (f : MapEntry → MapEntry) (d : Dev) : (modMap a f d).link = d.link := rfl
@[simp] theorem modMap_head (a : Nat) (f : MapEntry → MapEntry) (d : Dev) : (modMap a f d).head = d.head := rfl
@[simp] theorem modMap_host (a : Nat) (f : MapEntry → MapEntry) (d : Dev) : (modMap a f d).host = d.host := rfl
@[simp] theorem modMap_cmd (a : Nat) (f : MapEntry → MapEntry) (d : Dev) : (modMap a f d).cmd = d.cmd := rfl
@[simp] theorem modMap_fault (a : Nat) (f : MapEntry → MapEntry) (d : Dev) : (modMap a f d).fault = d.fault := rfl
@[simp] theorem modMap_bist (a : Nat) (f : MapEntry → MapEntry) (d : Dev) : (modMap a f d).bist = d.bist := rfl
@[simp] theorem modMap_jrn (a : Nat) (f : MapEntry → MapEntry) (d : Dev) : (modMap a f d).jrn = d.jrn := rfl
@[simp] theorem modMap_otp (a : Nat) (f : MapEntry → MapEntry) (d : Dev) : (modMap a f d).otp = d.otp := rfl
@[simp] theorem modMap_sess (a : Nat) (f : MapEntry → MapEntry) (d : Dev) : (modMap a f d).sess = d.sess := rfl
@[simp] theorem modMap_cfg (a : Nat) (f : MapEntry → MapEntry) (d : Dev) : (modMap a f d).cfg = d.cfg := rfl
@[simp] theorem modMap_ring_addr (a : Nat) (f : MapEntry → MapEntry) (d : Dev) : (modMap a f d).ring.addr = d.ring.addr := rfl
@[simp] theorem modMap_ring_gate (a : Nat) (f : MapEntry → MapEntry) (d : Dev) : (modMap a f d).ring.gate = d.ring.gate := rfl
@[simp] theorem modMap_ring_mode (a : Nat) (f : MapEntry → MapEntry) (d : Dev) : (modMap a f d).ring.mode = d.ring.mode := rfl
@[simp] theorem modMap_ring_foldB (a : Nat) (f : MapEntry → MapEntry) (d : Dev) : (modMap a f d).ring.foldB = d.ring.foldB := rfl
@[simp] theorem modMap_ring_farLock (a : Nat) (f : MapEntry → MapEntry) (d : Dev) : (modMap a f d).ring.farLock = d.ring.farLock := rfl
@[simp] theorem modMap_ring_farProbe (a : Nat) (f : MapEntry → MapEntry) (d : Dev) : (modMap a f d).ring.farProbe = d.ring.farProbe := rfl
@[simp] theorem modMap_ring_epoch (a : Nat) (f : MapEntry → MapEntry) (d : Dev) : (modMap a f d).ring.epoch = d.ring.epoch := rfl
@[simp] theorem modMap_ring_valA (a : Nat) (f : MapEntry → MapEntry) (d : Dev) : (modMap a f d).ring.valA = d.ring.valA := rfl
@[simp] theorem modMap_ring_dA (a : Nat) (f : MapEntry → MapEntry) (d : Dev) : (modMap a f d).ring.dA = d.ring.dA := rfl
@[simp] theorem modMap_ring_valB (a : Nat) (f : MapEntry → MapEntry) (d : Dev) : (modMap a f d).ring.valB = d.ring.valB := rfl
@[simp] theorem modMap_ring_dB (a : Nat) (f : MapEntry → MapEntry) (d : Dev) : (modMap a f d).ring.dB = d.ring.dB := rfl
@[simp] theorem modMap_ring_passId (a : Nat) (f : MapEntry → MapEntry) (d : Dev) : (modMap a f d).ring.passId = d.ring.passId := rfl
@[simp] theorem modMap_ring_headPort (a : Nat) (f : MapEntry → MapEntry) (d : Dev) : (modMap a f d).ring.headPort = d.ring.headPort := rfl
@[simp] theorem modMap_ring_claimed (a : Nat) (f : MapEntry → MapEntry) (d : Dev) : (modMap a f d).ring.claimed = d.ring.claimed := rfl
@[simp] theorem modMap_ring_armState (a : Nat) (f : MapEntry → MapEntry) (d : Dev) : (modMap a f d).ring.armState = d.ring.armState := rfl
@[simp] theorem modMap_ring_returning (a : Nat) (f : MapEntry → MapEntry) (d : Dev) : (modMap a f d).ring.returning = d.ring.returning := rfl
@[simp] theorem modMap_ring_turning (a : Nat) (f : MapEntry → MapEntry) (d : Dev) : (modMap a f d).ring.turning = d.ring.turning := rfl
@[simp] theorem modMap_ring_foldPass (a : Nat) (f : MapEntry → MapEntry) (d : Dev) : (modMap a f d).ring.foldPass = d.ring.foldPass := rfl
@[simp] theorem modMap_ring_probing (a : Nat) (f : MapEntry → MapEntry) (d : Dev) : (modMap a f d).ring.probing = d.ring.probing := rfl
@[simp] theorem modMap_ring_marking (a : Nat) (f : MapEntry → MapEntry) (d : Dev) : (modMap a f d).ring.marking = d.ring.marking := rfl
@[simp] theorem modMap_ring_reversePend (a : Nat) (f : MapEntry → MapEntry) (d : Dev) : (modMap a f d).ring.reversePend = d.ring.reversePend := rfl
@[simp] theorem modMap_ring_unwrapJoined (a : Nat) (f : MapEntry → MapEntry) (d : Dev) : (modMap a f d).ring.unwrapJoined = d.ring.unwrapJoined := rfl
@[simp] theorem modMap_ring_beacons (a : Nat) (f : MapEntry → MapEntry) (d : Dev) : (modMap a f d).ring.beacons = d.ring.beacons := rfl
@[simp] theorem modMap_ring_map (a : Nat) (f : MapEntry → MapEntry) (d : Dev) : (modMap a f d).ring.map = d.ring.map.modify a f := rfl
@[simp] theorem modMap_ring_sel (a : Nat) (f : MapEntry → MapEntry) (d : Dev) : (modMap a f d).ring.sel = d.ring.sel := rfl
@[simp] theorem modMap_ring_dRing (a : Nat) (f : MapEntry → MapEntry) (d : Dev) : (modMap a f d).ring.dRing = d.ring.dRing := rfl
@[simp] theorem modMap_ring_dRingV (a : Nat) (f : MapEntry → MapEntry) (d : Dev) : (modMap a f d).ring.dRingV = d.ring.dRingV := rfl
@[simp] theorem modMap_ring_stat (a : Nat) (f : MapEntry → MapEntry) (d : Dev) : (modMap a f d).ring.stat = d.ring.stat := rfl
@[simp] theorem modMap_ring_foldBAddr (a : Nat) (f : MapEntry → MapEntry) (d : Dev) : (modMap a f d).ring.foldBAddr = d.ring.foldBAddr := rfl
@[simp] theorem modMap_ring_foldAAddr (a : Nat) (f : MapEntry → MapEntry) (d : Dev) : (modMap a f d).ring.foldAAddr = d.ring.foldAAddr := rfl
@[simp] theorem modMap_ring_attempts (a : Nat) (f : MapEntry → MapEntry) (d : Dev) : (modMap a f d).ring.attempts = d.ring.attempts := rfl
@[simp] theorem modMap_ring_disturbedRun (a : Nat) (f : MapEntry → MapEntry) (d : Dev) : (modMap a f d).ring.disturbedRun = d.ring.disturbedRun := rfl
@[simp] theorem modMap_ring_disturbed (a : Nat) (f : MapEntry → MapEntry) (d : Dev) : (modMap a f d).ring.disturbed = d.ring.disturbed := rfl
@[simp] theorem modMap_ring_enumStep (a : Nat) (f : MapEntry → MapEntry) (d : Dev) : (modMap a f d).ring.enumStep = d.ring.enumStep := rfl
@[simp] theorem modMap_ring_enumPass (a : Nat) (f : MapEntry → MapEntry) (d : Dev) : (modMap a f d).ring.enumPass = d.ring.enumPass := rfl
@[simp] theorem modMap_ring_enumArm (a : Nat) (f : MapEntry → MapEntry) (d : Dev) : (modMap a f d).ring.enumArm = d.ring.enumArm := rfl
@[simp] theorem modMap_ring_enumNext (a : Nat) (f : MapEntry → MapEntry) (d : Dev) : (modMap a f d).ring.enumNext = d.ring.enumNext := rfl
@[simp] theorem modMap_ring_enumB (a : Nat) (f : MapEntry → MapEntry) (d : Dev) : (modMap a f d).ring.enumB = d.ring.enumB := rfl
@[simp] theorem modMap_ring_enumA (a : Nat) (f : MapEntry → MapEntry) (d : Dev) : (modMap a f d).ring.enumA = d.ring.enumA := rfl
@[simp] theorem modMap_ring_enumClosed (a : Nat) (f : MapEntry → MapEntry) (d : Dev) : (modMap a f d).ring.enumClosed = d.ring.enumClosed := rfl
@[simp] theorem modMap_ring_delays (a : Nat) (f : MapEntry → MapEntry) (d : Dev) : (modMap a f d).ring.delays = d.ring.delays := rfl
@[simp] theorem modMap_ring_firstPass (a : Nat) (f : MapEntry → MapEntry) (d : Dev) : (modMap a f d).ring.firstPass = d.ring.firstPass := rfl
@[simp] theorem modMap_ring_measures (a : Nat) (f : MapEntry → MapEntry) (d : Dev) : (modMap a f d).ring.measures = d.ring.measures := rfl
@[simp] theorem modMap_ring_measAddr (a : Nat) (f : MapEntry → MapEntry) (d : Dev) : (modMap a f d).ring.measAddr = d.ring.measAddr := rfl
@[simp] theorem modMap_ring_remeasure (a : Nat) (f : MapEntry → MapEntry) (d : Dev) : (modMap a f d).ring.remeasure = d.ring.remeasure := rfl
@[simp] theorem modMap_ring_toWrite (a : Nat) (f : MapEntry → MapEntry) (d : Dev) : (modMap a f d).ring.toWrite = d.ring.toWrite := rfl
@[simp] theorem modMap_ring_restore (a : Nat) (f : MapEntry → MapEntry) (d : Dev) : (modMap a f d).ring.restore = d.ring.restore := rfl
@[simp] theorem modMap_ring_farA (a : Nat) (f : MapEntry → MapEntry) (d : Dev) : (modMap a f d).ring.farA = d.ring.farA := rfl
@[simp] theorem modMap_ring_farB (a : Nat) (f : MapEntry → MapEntry) (d : Dev) : (modMap a f d).ring.farB = d.ring.farB := rfl
@[simp] theorem modMap_ring_silent (a : Nat) (f : MapEntry → MapEntry) (d : Dev) : (modMap a f d).ring.silent = d.ring.silent := rfl
@[simp] theorem modMap_ring_lostPasses (a : Nat) (f : MapEntry → MapEntry) (d : Dev) : (modMap a f d).ring.lostPasses = d.ring.lostPasses := rfl
@[simp] theorem modMap_ring_measQ (a : Nat) (f : MapEntry → MapEntry) (d : Dev) : (modMap a f d).ring.measQ = d.ring.measQ := rfl
@[simp] theorem modMap_ring_measFor (a : Nat) (f : MapEntry → MapEntry) (d : Dev) : (modMap a f d).ring.measFor = d.ring.measFor := rfl
@[simp] theorem modMap_ring_extA (a : Nat) (f : MapEntry → MapEntry) (d : Dev) : (modMap a f d).ring.extA = d.ring.extA := rfl
@[simp] theorem modMap_ring_afterPass (a : Nat) (f : MapEntry → MapEntry) (d : Dev) : (modMap a f d).ring.afterPass = d.ring.afterPass := rfl

/-! ## pushRing -/

@[simp] theorem pushRing_part (f : Flight) (d : Dev) : (pushRing f d).part = d.part := rfl
@[simp] theorem pushRing_now (f : Flight) (d : Dev) : (pushRing f d).now = d.now := rfl
@[simp] theorem pushRing_free (f : Flight) (d : Dev) : (pushRing f d).free = d.free := rfl
@[simp] theorem pushRing_power (f : Flight) (d : Dev) : (pushRing f d).power = d.power := rfl
@[simp] theorem pushRing_clk (f : Flight) (d : Dev) : (pushRing f d).clk = d.clk := rfl
@[simp] theorem pushRing_pins (f : Flight) (d : Dev) : (pushRing f d).pins = d.pins := rfl
@[simp] theorem pushRing_tb (f : Flight) (d : Dev) : (pushRing f d).tb = d.tb := rfl
@[simp] theorem pushRing_conv (f : Flight) (d : Dev) : (pushRing f d).conv = d.conv := rfl
@[simp] theorem pushRing_aux (f : Flight) (d : Dev) : (pushRing f d).aux = d.aux := rfl
@[simp] theorem pushRing_cmp (f : Flight) (d : Dev) : (pushRing f d).cmp = d.cmp := rfl
@[simp] theorem pushRing_trip (f : Flight) (d : Dev) : (pushRing f d).trip = d.trip := rfl
@[simp] theorem pushRing_bal (f : Flight) (d : Dev) : (pushRing f d).bal = d.bal := rfl
@[simp] theorem pushRing_banks (f : Flight) (d : Dev) : (pushRing f d).banks = d.banks := rfl
@[simp] theorem pushRing_eis (f : Flight) (d : Dev) : (pushRing f d).eis = d.eis := rfl
@[simp] theorem pushRing_eng (f : Flight) (d : Dev) : (pushRing f d).eng = d.eng := rfl
@[simp] theorem pushRing_d2d (f : Flight) (d : Dev) : (pushRing f d).d2d = d.d2d := rfl
@[simp] theorem pushRing_link (f : Flight) (d : Dev) : (pushRing f d).link = d.link := rfl
@[simp] theorem pushRing_ring (f : Flight) (d : Dev) : (pushRing f d).ring = d.ring := rfl
@[simp] theorem pushRing_host (f : Flight) (d : Dev) : (pushRing f d).host = d.host := rfl
@[simp] theorem pushRing_cmd (f : Flight) (d : Dev) : (pushRing f d).cmd = d.cmd := rfl
@[simp] theorem pushRing_fault (f : Flight) (d : Dev) : (pushRing f d).fault = d.fault := rfl
@[simp] theorem pushRing_bist (f : Flight) (d : Dev) : (pushRing f d).bist = d.bist := rfl
@[simp] theorem pushRing_jrn (f : Flight) (d : Dev) : (pushRing f d).jrn = d.jrn := rfl
@[simp] theorem pushRing_otp (f : Flight) (d : Dev) : (pushRing f d).otp = d.otp := rfl
@[simp] theorem pushRing_sess (f : Flight) (d : Dev) : (pushRing f d).sess = d.sess := rfl
@[simp] theorem pushRing_cfg (f : Flight) (d : Dev) : (pushRing f d).cfg = d.cfg := rfl
@[simp] theorem pushRing_head_seq (f : Flight) (d : Dev) : (pushRing f d).head.seq = d.head.seq := rfl
@[simp] theorem pushRing_head_flights (f : Flight) (d : Dev) : (pushRing f d).head.flights = d.head.flights := rfl
@[simp] theorem pushRing_head_retry (f : Flight) (d : Dev) : (pushRing f d).head.retry = d.head.retry := rfl
@[simp] theorem pushRing_head_sweepDue (f : Flight) (d : Dev) : (pushRing f d).head.sweepDue = d.head.sweepDue := rfl
@[simp] theorem pushRing_head_sweepNo (f : Flight) (d : Dev) : (pushRing f d).head.sweepNo = d.head.sweepNo := rfl
@[simp] theorem pushRing_head_sweepParts (f : Flight) (d : Dev) : (pushRing f d).head.sweepParts = d.head.sweepParts := rfl
@[simp] theorem pushRing_head_partsOut (f : Flight) (d : Dev) : (pushRing f d).head.partsOut = d.head.partsOut := rfl
@[simp] theorem pushRing_head_lastPart (f : Flight) (d : Dev) : (pushRing f d).head.lastPart = d.head.lastPart := rfl
@[simp] theorem pushRing_head_timingDue (f : Flight) (d : Dev) : (pushRing f d).head.timingDue = d.head.timingDue := rfl
@[simp] theorem pushRing_head_ringFrames (f : Flight) (d : Dev) : (pushRing f d).head.ringFrames = d.head.ringFrames ++ [f] := rfl
@[simp] theorem pushRing_head_tunnel (f : Flight) (d : Dev) : (pushRing f d).head.tunnel = d.head.tunnel := rfl
@[simp] theorem pushRing_head_almWord (f : Flight) (d : Dev) : (pushRing f d).head.almWord = d.head.almWord := rfl
@[simp] theorem pushRing_head_txFrame (f : Flight) (d : Dev) : (pushRing f d).head.txFrame = d.head.txFrame := rfl
@[simp] theorem pushRing_head_idle (f : Flight) (d : Dev) : (pushRing f d).head.idle = d.head.idle := rfl
@[simp] theorem pushRing_head_sweepAt (f : Flight) (d : Dev) : (pushRing f d).head.sweepAt = d.head.sweepAt := rfl

/-! ## gpioClaim -/

@[simp] theorem gpioClaim_part (fn pin : Nat) (d : Dev) : (gpioClaim fn pin d).part = d.part := rfl
@[simp] theorem gpioClaim_now (fn pin : Nat) (d : Dev) : (gpioClaim fn pin d).now = d.now := rfl
@[simp] theorem gpioClaim_free (fn pin : Nat) (d : Dev) : (gpioClaim fn pin d).free = d.free := rfl
@[simp] theorem gpioClaim_power (fn pin : Nat) (d : Dev) : (gpioClaim fn pin d).power = d.power := rfl
@[simp] theorem gpioClaim_clk (fn pin : Nat) (d : Dev) : (gpioClaim fn pin d).clk = d.clk := rfl
@[simp] theorem gpioClaim_tb (fn pin : Nat) (d : Dev) : (gpioClaim fn pin d).tb = d.tb := rfl
@[simp] theorem gpioClaim_conv (fn pin : Nat) (d : Dev) : (gpioClaim fn pin d).conv = d.conv := rfl
@[simp] theorem gpioClaim_aux (fn pin : Nat) (d : Dev) : (gpioClaim fn pin d).aux = d.aux := rfl
@[simp] theorem gpioClaim_cmp (fn pin : Nat) (d : Dev) : (gpioClaim fn pin d).cmp = d.cmp := rfl
@[simp] theorem gpioClaim_trip (fn pin : Nat) (d : Dev) : (gpioClaim fn pin d).trip = d.trip := rfl
@[simp] theorem gpioClaim_bal (fn pin : Nat) (d : Dev) : (gpioClaim fn pin d).bal = d.bal := rfl
@[simp] theorem gpioClaim_banks (fn pin : Nat) (d : Dev) : (gpioClaim fn pin d).banks = d.banks := rfl
@[simp] theorem gpioClaim_eis (fn pin : Nat) (d : Dev) : (gpioClaim fn pin d).eis = d.eis := rfl
@[simp] theorem gpioClaim_eng (fn pin : Nat) (d : Dev) : (gpioClaim fn pin d).eng = d.eng := rfl
@[simp] theorem gpioClaim_d2d (fn pin : Nat) (d : Dev) : (gpioClaim fn pin d).d2d = d.d2d := rfl
@[simp] theorem gpioClaim_link (fn pin : Nat) (d : Dev) : (gpioClaim fn pin d).link = d.link := rfl
@[simp] theorem gpioClaim_ring (fn pin : Nat) (d : Dev) : (gpioClaim fn pin d).ring = d.ring := rfl
@[simp] theorem gpioClaim_head (fn pin : Nat) (d : Dev) : (gpioClaim fn pin d).head = d.head := rfl
@[simp] theorem gpioClaim_host (fn pin : Nat) (d : Dev) : (gpioClaim fn pin d).host = d.host := rfl
@[simp] theorem gpioClaim_cmd (fn pin : Nat) (d : Dev) : (gpioClaim fn pin d).cmd = d.cmd := rfl
@[simp] theorem gpioClaim_fault (fn pin : Nat) (d : Dev) : (gpioClaim fn pin d).fault = d.fault := rfl
@[simp] theorem gpioClaim_bist (fn pin : Nat) (d : Dev) : (gpioClaim fn pin d).bist = d.bist := rfl
@[simp] theorem gpioClaim_jrn (fn pin : Nat) (d : Dev) : (gpioClaim fn pin d).jrn = d.jrn := rfl
@[simp] theorem gpioClaim_otp (fn pin : Nat) (d : Dev) : (gpioClaim fn pin d).otp = d.otp := rfl
@[simp] theorem gpioClaim_sess (fn pin : Nat) (d : Dev) : (gpioClaim fn pin d).sess = d.sess := rfl
@[simp] theorem gpioClaim_cfg (fn pin : Nat) (d : Dev) : (gpioClaim fn pin d).cfg = d.cfg := rfl
@[simp] theorem gpioClaim_pins_sb (fn pin : Nat) (d : Dev) : (gpioClaim fn pin d).pins.sb = d.pins.sb := rfl
@[simp] theorem gpioClaim_pins_adG (fn pin : Nat) (d : Dev) : (gpioClaim fn pin d).pins.adG = d.pins.adG := rfl
@[simp] theorem gpioClaim_pins_alertLow (fn pin : Nat) (d : Dev) : (gpioClaim fn pin d).pins.alertLow = d.pins.alertLow := rfl
@[simp] theorem gpioClaim_pins_syncOut (fn pin : Nat) (d : Dev) : (gpioClaim fn pin d).pins.syncOut = d.pins.syncOut := rfl
@[simp] theorem gpioClaim_pins_gpioOwner (fn pin : Nat) (d : Dev) : (gpioClaim fn pin d).pins.gpioOwner = d.pins.gpioOwner.set (pin - 1) fn := rfl
@[simp] theorem gpioClaim_pins_gpioLevel (fn pin : Nat) (d : Dev) : (gpioClaim fn pin d).pins.gpioLevel = d.pins.gpioLevel := rfl
@[simp] theorem gpioClaim_pins_gpioOut (fn pin : Nat) (d : Dev) : (gpioClaim fn pin d).pins.gpioOut = d.pins.gpioOut := rfl
@[simp] theorem gpioClaim_pins_linkIdleA (fn pin : Nat) (d : Dev) : (gpioClaim fn pin d).pins.linkIdleA = d.pins.linkIdleA := rfl
@[simp] theorem gpioClaim_pins_linkIdleB (fn pin : Nat) (d : Dev) : (gpioClaim fn pin d).pins.linkIdleB = d.pins.linkIdleB := rfl
@[simp] theorem gpioClaim_pins_faultnReadHigh (fn pin : Nat) (d : Dev) : (gpioClaim fn pin d).pins.faultnReadHigh = d.pins.faultnReadHigh := rfl

/-! ## jput -/

@[simp] theorem jput_part (c : Ctx) (i : Nat) (u v : Word) (d : Dev) : (jput c i u v d).part = d.part := rfl
@[simp] theorem jput_now (c : Ctx) (i : Nat) (u v : Word) (d : Dev) : (jput c i u v d).now = d.now := rfl
@[simp] theorem jput_free (c : Ctx) (i : Nat) (u v : Word) (d : Dev) : (jput c i u v d).free = d.free := rfl
@[simp] theorem jput_power (c : Ctx) (i : Nat) (u v : Word) (d : Dev) : (jput c i u v d).power = d.power := rfl
@[simp] theorem jput_clk (c : Ctx) (i : Nat) (u v : Word) (d : Dev) : (jput c i u v d).clk = d.clk := rfl
@[simp] theorem jput_pins (c : Ctx) (i : Nat) (u v : Word) (d : Dev) : (jput c i u v d).pins = d.pins := rfl
@[simp] theorem jput_tb (c : Ctx) (i : Nat) (u v : Word) (d : Dev) : (jput c i u v d).tb = d.tb := rfl
@[simp] theorem jput_conv (c : Ctx) (i : Nat) (u v : Word) (d : Dev) : (jput c i u v d).conv = d.conv := rfl
@[simp] theorem jput_aux (c : Ctx) (i : Nat) (u v : Word) (d : Dev) : (jput c i u v d).aux = d.aux := rfl
@[simp] theorem jput_cmp (c : Ctx) (i : Nat) (u v : Word) (d : Dev) : (jput c i u v d).cmp = d.cmp := rfl
@[simp] theorem jput_trip (c : Ctx) (i : Nat) (u v : Word) (d : Dev) : (jput c i u v d).trip = d.trip := rfl
@[simp] theorem jput_bal (c : Ctx) (i : Nat) (u v : Word) (d : Dev) : (jput c i u v d).bal = d.bal := rfl
@[simp] theorem jput_banks (c : Ctx) (i : Nat) (u v : Word) (d : Dev) : (jput c i u v d).banks = d.banks := rfl
@[simp] theorem jput_eis (c : Ctx) (i : Nat) (u v : Word) (d : Dev) : (jput c i u v d).eis = d.eis := rfl
@[simp] theorem jput_eng (c : Ctx) (i : Nat) (u v : Word) (d : Dev) : (jput c i u v d).eng = d.eng := rfl
@[simp] theorem jput_d2d (c : Ctx) (i : Nat) (u v : Word) (d : Dev) : (jput c i u v d).d2d = d.d2d := rfl
@[simp] theorem jput_link (c : Ctx) (i : Nat) (u v : Word) (d : Dev) : (jput c i u v d).link = d.link := rfl
@[simp] theorem jput_ring (c : Ctx) (i : Nat) (u v : Word) (d : Dev) : (jput c i u v d).ring = d.ring := rfl
@[simp] theorem jput_head (c : Ctx) (i : Nat) (u v : Word) (d : Dev) : (jput c i u v d).head = d.head := rfl
@[simp] theorem jput_host (c : Ctx) (i : Nat) (u v : Word) (d : Dev) : (jput c i u v d).host = d.host := rfl
@[simp] theorem jput_cmd (c : Ctx) (i : Nat) (u v : Word) (d : Dev) : (jput c i u v d).cmd = d.cmd := rfl
@[simp] theorem jput_fault (c : Ctx) (i : Nat) (u v : Word) (d : Dev) : (jput c i u v d).fault = d.fault := rfl
@[simp] theorem jput_bist (c : Ctx) (i : Nat) (u v : Word) (d : Dev) : (jput c i u v d).bist = d.bist := rfl
@[simp] theorem jput_otp (c : Ctx) (i : Nat) (u v : Word) (d : Dev) : (jput c i u v d).otp = d.otp := rfl
@[simp] theorem jput_sess (c : Ctx) (i : Nat) (u v : Word) (d : Dev) : (jput c i u v d).sess = d.sess := rfl
@[simp] theorem jput_cfg (c : Ctx) (i : Nat) (u v : Word) (d : Dev) : (jput c i u v d).cfg = d.cfg := rfl
@[simp] theorem jput_jrn_entries (c : Ctx) (i : Nat) (u v : Word) (d : Dev) : (jput c i u v d).jrn.entries = d.jrn.entries := rfl
@[simp] theorem jput_jrn_next (c : Ctx) (i : Nat) (u v : Word) (d : Dev) : (jput c i u v d).jrn.next = d.jrn.next := rfl
@[simp] theorem jput_jrn_wraps (c : Ctx) (i : Nat) (u v : Word) (d : Dev) : (jput c i u v d).jrn.wraps = d.jrn.wraps := rfl
@[simp] theorem jput_jrn_prev (c : Ctx) (i : Nat) (u v : Word) (d : Dev) : (jput c i u v d).jrn.prev = d.jrn.prev := rfl
@[simp] theorem jput_jrn_timeAt (c : Ctx) (i : Nat) (u v : Word) (d : Dev) : (jput c i u v d).jrn.timeAt = d.jrn.timeAt := rfl
@[simp] theorem jput_jrn_timeMs (c : Ctx) (i : Nat) (u v : Word) (d : Dev) : (jput c i u v d).jrn.timeMs = d.jrn.timeMs := rfl
@[simp] theorem jput_jrn_synced (c : Ctx) (i : Nat) (u v : Word) (d : Dev) : (jput c i u v d).jrn.synced = d.jrn.synced := rfl
@[simp] theorem jput_jrn_rate (c : Ctx) (i : Nat) (u v : Word) (d : Dev) : (jput c i u v d).jrn.rate = d.jrn.rate := rfl

/-! ## setItem -/

@[simp] theorem setItem_part (d : Dev) (id : Nat) (v : Int) : (setItem d id v).part = d.part := rfl
@[simp] theorem setItem_now (d : Dev) (id : Nat) (v : Int) : (setItem d id v).now = d.now := rfl
@[simp] theorem setItem_free (d : Dev) (id : Nat) (v : Int) : (setItem d id v).free = d.free := rfl
@[simp] theorem setItem_power (d : Dev) (id : Nat) (v : Int) : (setItem d id v).power = d.power := rfl
@[simp] theorem setItem_clk (d : Dev) (id : Nat) (v : Int) : (setItem d id v).clk = d.clk := rfl
@[simp] theorem setItem_pins (d : Dev) (id : Nat) (v : Int) : (setItem d id v).pins = d.pins := rfl
@[simp] theorem setItem_tb (d : Dev) (id : Nat) (v : Int) : (setItem d id v).tb = d.tb := rfl
@[simp] theorem setItem_conv (d : Dev) (id : Nat) (v : Int) : (setItem d id v).conv = d.conv := rfl
@[simp] theorem setItem_aux (d : Dev) (id : Nat) (v : Int) : (setItem d id v).aux = d.aux := rfl
@[simp] theorem setItem_cmp (d : Dev) (id : Nat) (v : Int) : (setItem d id v).cmp = d.cmp := rfl
@[simp] theorem setItem_trip (d : Dev) (id : Nat) (v : Int) : (setItem d id v).trip = d.trip := rfl
@[simp] theorem setItem_bal (d : Dev) (id : Nat) (v : Int) : (setItem d id v).bal = d.bal := rfl
@[simp] theorem setItem_banks (d : Dev) (id : Nat) (v : Int) : (setItem d id v).banks = d.banks := rfl
@[simp] theorem setItem_eis (d : Dev) (id : Nat) (v : Int) : (setItem d id v).eis = d.eis := rfl
@[simp] theorem setItem_eng (d : Dev) (id : Nat) (v : Int) : (setItem d id v).eng = d.eng := rfl
@[simp] theorem setItem_d2d (d : Dev) (id : Nat) (v : Int) : (setItem d id v).d2d = d.d2d := rfl
@[simp] theorem setItem_link (d : Dev) (id : Nat) (v : Int) : (setItem d id v).link = d.link := rfl
@[simp] theorem setItem_ring (d : Dev) (id : Nat) (v : Int) : (setItem d id v).ring = d.ring := rfl
@[simp] theorem setItem_head (d : Dev) (id : Nat) (v : Int) : (setItem d id v).head = d.head := rfl
@[simp] theorem setItem_host (d : Dev) (id : Nat) (v : Int) : (setItem d id v).host = d.host := rfl
@[simp] theorem setItem_cmd (d : Dev) (id : Nat) (v : Int) : (setItem d id v).cmd = d.cmd := rfl
@[simp] theorem setItem_fault (d : Dev) (id : Nat) (v : Int) : (setItem d id v).fault = d.fault := rfl
@[simp] theorem setItem_bist (d : Dev) (id : Nat) (v : Int) : (setItem d id v).bist = d.bist := rfl
@[simp] theorem setItem_jrn (d : Dev) (id : Nat) (v : Int) : (setItem d id v).jrn = d.jrn := rfl
@[simp] theorem setItem_otp (d : Dev) (id : Nat) (v : Int) : (setItem d id v).otp = d.otp := rfl
@[simp] theorem setItem_sess (d : Dev) (id : Nat) (v : Int) : (setItem d id v).sess = d.sess := rfl

/-! ## Entries -/

/-- One entry joins the tail of Q27, with its item, values and origin. -/
theorem jput_q27 (c : Ctx) (i : Nat) (u v : Word) (d : Dev) :
    ∃ e : Entry, (jput c i u v d).jrn.q27 = d.jrn.q27 ++ [e] ∧ e.item = i ∧ e.old = u ∧ e.new = v ∧ e.origin = c.origin ∧
      e.ctxA = c.a ∧ e.ctxB = c.b := ⟨_, rfl, rfl, rfl, rfl, rfl, rfl, rfl⟩

/-- jchange makes an entry where the value changes, and nothing elsewhere. -/
theorem jchange_same (c : Ctx) (i : Nat) (u : Word) (d : Dev) : jchange c i u u d = d := if_pos rfl

theorem jchange_ne (c : Ctx) (i : Nat) (u v : Word) (d : Dev) (h : u ≠ v) : jchange c i u v d = jput c i u v d := if_neg h

end Sys2Proof.Laws
end

