-- ==== Sys2Proof/Laws/Step.lean ====
section
/-! SUPPORT. What a step can do, said once: every command is the effect of one function on the device, an empty queue one
tick. -/

namespace Sys2Proof.Laws

open Sys2Proof Sys2Proof.Machine

/-- Every meaning is the effect of some function on the device. -/
theorem exec_runDev (c : Instr) (s : State) : ∃ f : Dev → Dev, exec c s = runDev s f := by
  cases c <;> exact ⟨_, rfl⟩

end Sys2Proof.Laws
end

