-- ==== Sys2Proof/Tests/Slice0.lean ====
section
/-! SUPPORT. Tests: each names what it shows. The theorems witness_… show, for the statements of Obligations.lean, states and
operands that meet the hypotheses of each clause together. -/

namespace Sys2Proof.Tests

set_option Elab.async false

open Sys2Proof Sys2Proof.Machine Sys2Proof.Safety

/-- WellFormed refuses a slot above 15, a GPIO other than 1 and 2, and a cell 25. -/
theorem test_wf_refuses : Instr.wf (.darkLeadPoint 16) = false ∧ Instr.wf (.transitMarkEnd 3) = false ∧
    Instr.wf (.balFetOvercurrent 25) = false ∧ Instr.wf (.transit [3, 3]) = false ∧
    Instr.wf (.frameEnum { Frame.reset with addr := 64 }) = false := by decide +kernel

/-- The head in STANDBY, as the start of R70 leaves it. -/
def standby : Dev :=
  { Dev.reset with power.pstate := .standby, power.stepNo := 9, clk.pllP := true, clk.boot := false, cmd.hkReady := true }

/-- The head in ACTIVE-H. -/
def activeDev : Dev := { standby with power.pstate := .activeH, power.op := .opH }

/-- A member in STANDBY. -/
def member : Dev := { standby with power.role := false }

/-! ## States and messages -/

/-- A block in SAFE_HOLD after a V5 brown-out. -/
def holding : Dev := { standby with power.safeHold := true, power.safeForced := true, power.coreReset := true, power.cause := .v5Brownout }

/-- A device in SLEEP that checks AX 1 against the codes 100 to 4000, SLEEP_WAKE_AFTER 60 s. -/
def asleep : Dev :=
  { Dev.reset with power.pstate := .sleep, power.retained := [(0x0A04, 1), (0x0A05, 60), (0x0351, 4000 * 65536 + 100)] }

/-- The head in its start-up, before the oscillators are judged. -/
def starting : Dev := { Dev.reset with power.stepNo := 3, clk.hfo := .started, clk.lfo := .started }

/-- A device in SHIP that the pin and both tones wake. -/
def shipped : Dev := { Dev.reset with power.pstate := .ship, power.retained := [(0x0A08, 7)] }

/-- A head that takes its time from SYNC_IN, acquiring. -/
def acquiring : Dev := { standby with tb.state := .acquire, tb.headState := 1, cfg := [(0x0601, 1)] }

/-- The same k cycles after its reference edge; a period of INC lasts 38400. -/
def edged (k n : Nat) : Dev := { acquiring with tb.refAt := some 0, tb.lastAcc := some 0, tb.accN := n, now := k }

/-- A head that takes phase words at 50 Hz, acquiring. -/
def wording : Dev := { standby with tb.state := .acquire, tb.headState := 1, tb.pwFreq := 5000, cfg := [(0x0601, 2)] }

/-- CONVERT slot on channels 1 to 4 at half the period. -/
def convert0 : Slot := { Slot.reset with phase := 0x80000000, asked := 0x80000000, en := true, action := 1, arg := 15 }

/-- DARK slot that serves slot 0. -/
def dark1 : Slot := { Slot.reset with en := true, action := 3 }

/-- ACTIVE-H with CONVERT slot 0, DARK slot 1 that serves it, DARK slot 2 that serves the empty slot 5. -/
def converting : Dev :=
  { activeDev with tb.slots := [some convert0, some dark1, some { dark1 with arg := 5 }] ++ List.replicate 13 none }

/-- The lead of CONVERT slot 0. -/
def lead0 : Lead := { Lead.reset with slot := 0, phase := 0x80000000, started := 15 }

/-- ACTIVE-H with AUX, CAPTURE and EXCITE slots, capture 2 armed for transits. -/
def auxing : Dev :=
  { activeDev with tb.slots := [some { Slot.reset with en := true, action := 2, arg := 1 },
                                some { Slot.reset with en := true, action := 4, arg := 2 },
                                some { Slot.reset with en := true, action := 5, arg := 1 }] ++ List.replicate 13 none
                   conv.caps := [Capture.reset, Capture.reset, { Capture.reset with state := 1 }, Capture.reset] }

/-- Two records in flight, the first written. -/
def flying : Dev := { activeDev with conv.flight := [{ Rec.reset with complete := true, written := true, named := 15 }, { Rec.reset with tseq := 1 }] }

/-- A CONTINUOUS frame in progress. -/
def framing : Dev := { activeDev with conv.mode := 1, conv.frameAt := some (3, 0x80000000), conv.anchored := true }

/-- A complete record of cell 1 without calibration, channel 1 late. -/
def rawRec : Rec :=
  { Rec.reset with complete := true, named := 1, late := 2, cal.tcomp := 0, cal.gain := List.replicate 25 0, cal.ofs := List.replicate 25 0 }

/-- GPIO 1 is CAPTURE_IN, capture 0 armed on its rising edge, two records visible. -/
def armedGpio : Dev :=
  { standby with pins.gpioOwner := [3, 0, 0, 0]
                 conv.live := [{ Rec.reset with tseq := 4 }, { Rec.reset with tseq := 5 }]
                 conv.caps := [{ Capture.reset with state := 1, trig := 1, pre := 2, post := 3 }, Capture.reset, Capture.reset, Capture.reset] }

/-- STANDBY with the sequencer at the first entry of its reset table, three conversions done. -/
def sequencing : Dev := { standby with aux.user := .loop, aux.table := resetAuxTable, aux.sum := 6000, aux.count := 3 }

/-- A transit entry of one conversion in progress. -/
def transiting : Dev := { sequencing with aux.user := .transit, aux.txEntry := some 1, aux.table := [0, 0x02000000] }

/-- A leat slot of cell 3 in progress. -/
def slotting : Dev := { activeDev with aux.user := .leat, aux.slotOf := some 3 }

/-- The same with a visible sample of cell 3 at 2.13 V and 0.1 % tolerance on 20 mV. -/
def comparing : Dev :=
  { slotting with now := 2000, conv.live := [{ Rec.reset with words := [0, 0, BitVec.ofNat 32 (2130000 * 256)], uncorr := [0, 0, 2130000] }] }

/-- An OPEN_C check of cells 5 and 6 in its pull. -/
def pulling : Dev := { activeDev with aux.running := true, aux.pulling := true, aux.target := 5 }

/-- The same check waiting for a gap that never comes. -/
def gapless : Dev :=
  { activeDev with aux.running := true, aux.gapWait := true, aux.target := 5
                   tb.slots := [some { Slot.reset with en := true, action := 1, arg := 0xFF }] ++ List.replicate 15 none }

/-- STANDBY with OV of cell 1 armed and its output high. -/
def overvolt : Dev := { standby with cmp.raw := 1, cmp.armed := 1 }

/-- The check of UV of cell 6, the test DAC settled at its level. -/
def checking : Dev := { standby with cmp.check := some 29, aux.dacUser := .selftest, aux.dacSettled := true }

/-- Cell 3 under a plan at duty 100, its FET on throughout the interval. -/
def planned : Dev :=
  { standby with bal.plans := (List.replicate 24 none).set 2 (some Plan.reset), bal.duty := (List.replicate 24 0).set 2 100
                 bal.owner := (List.replicate 24 0).set 2 0x38, bal.onAll := 4, bal.openRun := (List.replicate 24 0).set 2 7
                 cfg := [(0x0879, 0x100)] }

/-- Cells 3 under a plan and 7 under BAL_SET, bank A under ACTIVE_SET, the timer of 10 s running. -/
def timing : Dev :=
  { planned with bal.timerOn := true, bal.owner := (planned.bal.owner).set 6 0x38, bal.duty := (planned.bal.duty).set 6 50
                 banks := [{ Bank.reset with owner := 0x3A, cmd := 1000 }, Bank.reset, Bank.reset, Bank.reset]
                 cfg := [(0x0407, 10), (0x0879, 0x100)] }

/-- Bank A driven at 500 mA, at rest so far. -/
def driven : Dev := { activeDev with banks := [{ Bank.reset with on := true, cmd := 500, owner := 0x3A }, Bank.reset, Bank.reset, Bank.reset] }

/-- The same with 4 readings out of range, and with the tenth mean in a row out of its limit to come. -/
def failingBank : Dev :=
  { driven with banks := [{ Bank.reset with on := true, badRun := 4, devRun := 9, cmd := 2, applied := 2000, owner := 0x3A, iMeas := 10000 },
                          Bank.reset, Bank.reset, Bank.reset] }

/-- A BALANCE plan that excites cell 2. -/
def excitingFet : Dev :=
  { activeDev with bal.owner := (List.replicate 24 0).set 1 0x40, eis.fetsOn := 2
                   eis.plan := some { EisPlan.reset with source := 3, tones := [(65536, 0, 100)] } }

/-- Sixteen engines at work on nothing; a STATS job waits in class 3. -/
def queued : Dev :=
  { standby with
    eng := { standby.eng with engines := List.replicate 16 { Engine.reset with state := .active }
                              pool := [{ Desc.reset with id := 5, kernel := 2, cls := 3, cost := 100 }]
                              classes := (List.replicate 8 []).set 3 [5], freeMin := 0 } }

/-- Engine 2 has that job at the head of its flume; engine 1 runs one of its own kind. -/
def loaded : Dev :=
  { standby with
    eng := { standby.eng with engines := ((List.replicate 16 { Engine.reset with state := .active }).set 2
                                { Engine.reset with state := .active, flume := [5] }).set 1
                                { Engine.reset with state := .active, running := some 6 }
                              pool := [{ Desc.reset with id := 5, kernel := 2, cls := 3, cost := 100 },
                                       { Desc.reset with id := 6, kernel := 2, cls := 3, cost := 100 }], freeMin := 0 } }

/-- As loaded, the job of a kernel whose generation has moved on. -/
def outdated : Dev := { loaded with eng.pool := [{ Desc.reset with id := 5, kernel := 2, cls := 3, gen := 7 }] }

/-- Engine 1 runs a STATS job; engine 2 twin A of an AUDIT job whose twin B on engine 3 has written h. -/
def twins (h : Option (List Nat)) : Dev :=
  { standby with
    eng := { standby.eng with engines := ((List.replicate 16 { Engine.reset with state := .active }).set 2
                                { Engine.reset with state := .active, running := some 7 }).set 1
                                { Engine.reset with state := .active, running := some 5 }
                              pool := [{ Desc.reset with id := 5, kernel := 2, cls := 3 },
                                       { Desc.reset with id := 7, kernel := 1, role := 1, twin := 8, partner := some 3 },
                                       { Desc.reset with id := 8, kernel := 1, role := 2, twin := 7, partner := some 2, half := h }]
                              freeMin := 0 } }

/-- Engine 1 runs job 6 of the kernel, retried or not. -/
def running (kernel : Nat) (retry : Bool) : Dev :=
  { standby with
    eng := { standby.eng with engines := (List.replicate 16 { Engine.reset with state := .active }).set 1
                                { Engine.reset with state := .active, running := some 6 }
                              pool := [{ Desc.reset with id := 6, kernel := kernel, cls := 3, retry := retry }], freeMin := 0 } }

/-- Engine 4 is to take a copy of kernel 1. -/
def copying : Dev := { loaded with eng.copies := [(4, 1)], eng.copyHeld := 1 }

/-- EV126 bears three occurrences. -/
def patient (d : Dev) : Dev := { d with cfg := d.cfg ++ [(0x087E, 0x10300)] }

/-- Source 85 counts, source 80 is severe with its entry to be written, source 82 severe and finished; the stretcher runs. -/
def escalating : Dev :=
  { standby with fault := { standby.fault with stretch := true, startup := false
                                               esc := ((standby.fault.esc.set 85 { Esc.reset with state := 1, count := 3 }).set 80
                                                 { Esc.reset with state := 2, journal := some (0x0882, 0, 1, 2) }).set 82 { Esc.reset with state := 2 } } }

/-- As escalating; engine 1 failed its self-test and is OUT. -/
def heldOut : Dev :=
  { escalating with bist.failHold := some 1
                    eng := { standby.eng with engines := (List.replicate 16 { Engine.reset with state := .active }).set 1
                                                           { Engine.reset with state := .out } } }

/-- Self-test at a rate, the turn at kind k. -/
def testing (k : Nat) : Dev :=
  { activeDev with bist.rot := k, conv.enable := 1, cfg := [(0x0901, 500), (0x0902, 31), (0x0903, 100)], power.vdOk := true
                   eng := { activeDev.eng with engines := List.replicate 16 { Engine.reset with state := .active } } }

/-- A slice of kind k's unit 0 runs. -/
def slicing (k : Nat) : Dev := { testing k with bist.slice := some (k, 0) }

/-- Engine 0 is withdrawn and OUT. -/
def withdrawn : Dev :=
  { testing 1 with bist.withdrawn := some 0
                   eng := { activeDev.eng with engines := (List.replicate 16 { Engine.reset with state := .active }).set 0
                                                             { Engine.reset with state := .out } } }

/-- An entry waits for the journal's writer. -/
def waitingEntry : Dev := jput ⟨0, 0, 0⟩ 0x0101 0 1 standby

/-- Generation 0 is being programmed for CFG_COMMIT_OTP. -/
def burning : Dev :=
  { standby with otp.burning := some (0, List.replicate 64 0)
                 cmd.busy := some { code := 0x12, seq := 9, quiet := false, bcast := false, gap := false, arg := 0, len := 3, copies := [] } }

/-- Two beats of one SEQ have failed in the upward direction. -/
def failing : Dev := { standby with d2d.up := { Lane.reset with fails := 2, discarding := true } }

/-- A retrain is in progress, its hold buffer full. -/
def retraining : Dev := { standby with d2d := { D2d.reset with retrain := true, hold := List.replicate 32 (.raw 0 2 0) } }

/-- A member at address 5 of a closed ring. -/
def enrolled : Dev :=
  { member with ring := { member.ring with addr := 5, gate := true, mode := .normal, valA := true, dA := 100 }
                link.enA := true, link.enB := true, link.lockA := true }

/-- A frame of the type for address 5 on port A, with its words. -/
def frameOf (typ : Nat) (bc : Bool) (body : List Word) : Frame :=
  { Frame.reset with typ := typ, seq := 9, addr := if bc then 63 else 5, bcast := bc, body := body, tsWord2 := 1000, tsPeriod := 7, tsPhase := 9
                     len := if typ = 1 then 0 else if typ = 2 ∨ typ = 3 then 16 else 2 * body.length }

/-- A message of IDENTIFY. -/
def asking : List Word := [0x01090002, 0x12345678]

/-- The member with a reply kept, and with responses to be fetched. -/
def answered (out : List Resp) : Dev :=
  { enrolled with link.kept := some (9, 4, [replyWord 5 9 1]), cmd.out := out }

/-- An unaddressed member, gated. -/
def gated : Dev := { member with link.enA := true, link.enB := true }

/-- The member as a fold, its head-side port B. -/
def folded : Dev := { enrolled with ring.mode := .fold, ring.foldB := true }

/-- The head of a closed ring with members 2 and 3; sweeps are off. -/
def leading : Dev :=
  { standby with
    ring := { standby.ring with stat := .closed, silent := false
                                map := (standby.ring.map.set 2 { MapEntry.reset with present := true, pos := 1 }).set 3
                                  { MapEntry.reset with present := true, pos := 2 } }
    link := { standby.link with enA := true, enB := true, lockA := true }, cfg := [(0x0701, 0)] }

/-- A census waits. -/
def censusing : Dev := { leading with head.ringFrames := [censusFrame leading none] }

/-- A sweep of 4 slots is due. -/
def sweeping : Dev := { leading with head.sweepDue := true, cfg := [(0x0701, 1), (0x0704, 4)] }

/-- A frame is away. -/
def away (f : Flight) : Dev :=
  { leading with head.flights := [f], head.partsOut := 1
                 host.remote := some { dev := 3, addr := 0x10, write := false, value := 0 } }

/-- A read of a register of member 3, and the only part of a sweep. -/
def reading : Flight := { Flight.reset with typ := 7, seq := 4, addr := 3, kind := 4, out := 1, body := [0x10] }

/-- The only part of a sweep. -/
def swept : Flight := { Flight.reset with typ := 2, seq := 4, addr := 0, kind := 0, out := 1, first := 1, slots := 4 }

/-- A return on port A with the reply and the slots. -/
def returned (f : Flight) : FrameReturn :=
  { port := .A, crcOk := true, damaged := 0, typ := f.typ, seq := f.seq, reply := some 1, addr := f.addr, words := [42], pairs := []
    slots := [(3, true, 5, [1, 2])], trip := 0 }

/-- The head enumerates, at a step. -/
def enumerating (step : Nat) : Dev := { leading with ring := { leading.ring with stat := .enumerating, enumStep := step } }

/-- A request with its CRC-8. -/
def request (kind dev a : Nat) (w : Nat) : BitVec 64 :=
  let v := kind * 2 ^ 54 + dev * 2 ^ 48 + a * 2 ^ 32 + w
  BitVec.ofNat 64 (v * 256 + crc8 56 v)

/-- The host has composed words for a target. -/
def composing (ws : List Word) : Dev := { standby with host.composed := ws, host.target := 1 }

/-- A message with its CRC-32. -/
def sent (code : Nat) (body : List Word) : Msg :=
  let m : Msg := { seq := 0, rsp := false, head := false, quiet := false, gap := false, rsv := 0, bcast := false, body := body, crc := 0 }
  { m with crc := crc32 (msgWords code m).dropLast }

/-- The same as a broadcast. -/
def toAll (code : Nat) (body : List Word) : Msg := { sent code body with bcast := true }

/-- A message with its CRC-32 and RSP set. -/
def flagged : Msg :=
  let m : Msg := { sent 0x01 [] with rsp := true }
  { m with crc := crc32 (msgWords 0x01 m).dropLast }

/-- A message with its CRC-32 and a reserved bit of its header set. -/
def reserved : Msg :=
  let m : Msg := { sent 0x01 [] with rsv := 1 }
  { m with crc := crc32 (msgWords 0x01 m).dropLast }

/-- The response to SEQ 0 of the code is cached. -/
def answeredBefore (code : Nat) : Dev :=
  { standby with cmd := { standby.cmd with cache := [⟨0, code, [0x01008003, 0, 0]⟩], expSeq := some 1 } }

/-- A service session is open, the die temperatures are measured near 30 C and the stack at 48 V. -/
def serving : Dev :=
  { standby with sess.isOpen := true, aux := { standby.aux with vstkCode := 20972, tempCore := 38000 }, conv.tempFront := 38000 }

/-- A member of a closed ring with one record that every channel wrote. -/
def recorded : Dev :=
  { standby with conv := { standby.conv with visSince := true, live := [{ Rec.reset with words := List.replicate 25 0x100 }] } }

/-- The same with as many descriptors taken as the weir leaves. -/
def crowded : Dev :=
  { recorded with eng.pool := (List.range (recorded.part.pool - weir recorded)).map (fun i => { Desc.reset with id := i, cls := 5 }) }

/-- Capture 1 armed for CAPTURE_TRIG. -/
def armed : Dev := { standby with conv.caps := standby.conv.caps.set 1 { Capture.reset with state := 1, pre := 2, post := 3 } }

/-- ACTIVE-H, continuous conversion of every channel at 2 kHz. -/
def exciting : Dev := { activeDev with cfg := [(0x0102, 1)], conv.mode := 1, conv.dec := 2, conv.enable := 0x1FFFFFF }

/-- Bank A driven, its settings in place. -/
def driving : Dev := { driven with cfg := [(0x0433, 1), (0x0434, 1)] }

/-- The smallest part, without drivers and impedance. -/
def small : Dev := { standby with part := .tl1612 }

/-- A BALANCE plan of cell 1 at about 100 Hz over 2000 periods. -/
def exciteMsg : Msg := sent 0x40 [0x31000001, 2000, 0, 0x10, 0x0000028F, 0x00400000]

/-- A temperature table of rising points. -/
def tableMsg : Msg :=
  { sent 0x42 [] with body := [0x01000000, 1000] ++ (List.range 16).map (fun i => Word.of (i * 65536 + 100)), crc := 3356173426 }

/-- A signed image of one code word: class 4, cost 100. -/
def image : List Word :=
  [0x10028, 0x4000001, 0x64, 0x10003E8, 0x0, 0x953C7FD4, 0x55538278, 0x7199ADE3, 0x8EDCE862, 0x558487B9,
   0xC775E740, 0x1CFC25FF, 0xB404256A, 0xB6AE58E7, 0xE8A3B7C2, 0xC79F7874, 0x9C615002, 0x77D4198A, 0x55DFA323,
   0xBAE1078D, 0x9B8E79FE, 0x53C5A47B, 0xF3273D7, 0x333320D3, 0xDC363B24, 0x1A999287, 0x81B9D882, 0x7D9660A0,
   0x1DCDF9E9, 0x53C5A47B, 0xF3273D7, 0x333320D3, 0xDC363B24, 0x1A999287, 0x81B9D882, 0x7D9660A0, 0x1DCDF9E9,
   0x0, 0x0, 0x0, 0xDEADBEEF]

/-- The SHA-256 of its key. -/
def keyHash : List Word :=
  [0xA1AAD3A4, 0xE2EBF125, 0x62AA9E80, 0x612567C4, 0x2036CB71, 0x1BE86E0, 0xD6EB3F34, 0x82512C68]

/-- Slot 1 holds the image staged, its key's hash in OTP. -/
def staging : Dev :=
  { standby with otp.vendorHash := some keyHash
                 eng.kernels := standby.eng.kernels.set 1
                   { Kernel.reset with staging := some 41, staged := image.zipIdx.map (fun e => (e.2, e.1)) } }

/-- Slot 0 is loaded; with a job of it running on engine 1. -/
def kernelled (run : Bool) : Dev :=
  { loaded with eng := { loaded.eng with
      kernels := loaded.eng.kernels.set 0 { Kernel.reset with loaded := true, genOn := true }
      pool := [{ Desc.reset with id := 5, kernel := 2, cls := 3 }, { Desc.reset with id := 6, kernel := if run then 0x80 else 2, cls := 4 }] } }

/-- The part with its engine budget used up by another kernel. -/
def burdened : Dev :=
  { staging with eng.kernels := staging.eng.kernels.set 0 { Kernel.reset with loaded := true, image := [0, 1, 0xFFFFFFF, 0xFFFFFF] } }

/-- Address 4 of the head's ring is reserved. -/
def reserving : Dev := { leading with ring.map := leading.ring.map.set 4 { MapEntry.reset with reserved := true } }

/-- Five messages wait; EV66 has counted 2 and lost 3. -/
def messaged : Dev :=
  { standby with eng := { standby.eng with msgs := List.replicate 5 7 }
                 fault.esc := standby.fault.esc.set 0x42 { Esc.reset with state := 1, count := 2, lost := 3 } }

/-- A nonce has been given, the device secret is programmed. -/
def challenged : Dev :=
  { standby with sess := { standby.sess with nonce := some [1, 2, 3, 4], asked := 7 }, otp.secret := some (List.replicate 8 9) }

/-- The MAC that answers it. -/
def rightWords : List Word :=
  [2444800539, 4013929137, 14103569, 1416850444, 926074202, 965179750, 3172092350, 2698676026]

/-! ## The hypotheses are met -/

theorem witness_StepRunsFrontCommand : ({ toDev := standby, pending := [.wakeOutEnd] } : State).pending = .wakeOutEnd :: [] := rfl

theorem witness_EveryStepAnswersNext : State.reset.pending = [] ∧ awake State.reset.toDev = false := by decide +kernel

theorem witness_MonitorsRaiseTheirEvents : Calm standby ∧ awake standby = true ∧ standby.bist.slice = none ∧
    Plain standby 104 ∧ standby.power.vstkLow = false ∧ Plain standby 105 ∧ standby.power.vstkHigh = false ∧
    Plain standby 106 ∧ Plain standby 107 ∧ standby.power.opTarget = none ∧ Plain standby 108 ∧ standby.power.vaOn = true ∧
    v5Present standby = true ∧ v5Present { standby with power.vaOn := false } = false ∧ vdPresent standby = true ∧
    standby.power.tjWarn = false ∧ ({ standby with power.opTarget := some .opH } : Dev).power.opTarget ≠ none ∧
    standby.power.pstate ≠ .off ∧ ({ standby with power.vstkLow := true } : Dev).power.vstkLow = true ∧
    ({ standby with power.vstkHigh := true } : Dev).power.vstkHigh = true ∧
    ({ standby with power.tjWarn := true } : Dev).power.tjWarn = true := by decide +kernel

theorem witness_FailuresEnterSafeHold : Calm standby ∧ standby.power.pstate = .standby ∧ standby.power.safeHold = false ∧
    standby.power.vaOn = true ∧ vdPresent standby = true ∧ standby.clk.hfo ≠ .off ∧ standby.clk.lfo ≠ .off ∧
    standby.clk.pllP = true ∧ standby.clk.pllRef ≠ .xo ∧ coreRuns standby = true ∧ v5Present standby = true ∧
    ({ standby with clk.pllRef := .xo } : Dev).clk.pllRef = .xo ∧ ({ standby with clk.hfo := .off } : Dev).clk.hfo = .off ∧
    ({ standby with clk.lfo := .off } : Dev).clk.lfo = .off ∧ ({ standby with clk.pllP := false } : Dev).clk.pllP = false ∧
    Calm holding ∧ holding.power.safeHold = true ∧ v5Present holding = true ∧ vdPresent holding = true ∧ holding.clk.pllP = true ∧
    Calm asleep ∧ asleep.power.pstate = .sleep ∧ asleep.power.safeHold = false ∧ asleep.clk.lfo ≠ .off ∧
    v5Present asleep = false ∧ vdPresent asleep = false ∧ coreRuns asleep = false := by decide +kernel

theorem witness_SafeHoldEnds : Calm holding ∧ holding.power.safeHold = true ∧ holding.clk.hfo = .stable ∧ holding.clk.lfo = .stable ∧
    holding.power.vaOn = true ∧ holding.power.v5Brown = false ∧ holding.power.vdBrown = false ∧ holding.power.tjShut = false ∧
    holding.power.safeWireF = false ∧ holding.power.safeWireC = false ∧ holding.power.tripThird = false ∧
    holding.power.modeSamples.length = 3 ∧ Calm standby ∧ standby.power.safeHold = false := by decide +kernel

theorem witness_PowerOnAndLoss : Calm { Dev.reset with power.pstate := .off } ∧ Calm standby ∧ standby.power.pstate ≠ .off := by decide +kernel

theorem witness_OscillatorsAreJudged : Calm starting ∧ starting.power.pstate = .starting ∧ starting.power.stepNo < 7 ∧
    starting.power.safeHold = false ∧ starting.clk.hfo = .started ∧ starting.clk.lfo = .started ∧ starting.clk.retryDue = none ∧
    97 * lfoExpect starting ≤ 100 * 93750 ∧ 100 * 93750 ≤ 103 * lfoExpect starting ∧
    103 * lfoExpect starting < 100 * 96563 ∧ 100 * 90937 < 97 * lfoExpect starting ∧ starting.clk.pairTries < 2 ∧
    Calm holding ∧ holding.power.safeHold = true ∧ holding.clk.hfo = .stable ∧ holding.clk.retryDue = none ∧
    Calm { standby with clk.xo := .started, clk.xoTries := 2 } ∧ awake { standby with clk.xo := .started } = true ∧
    Plain { standby with clk.xo := .started, clk.xoTries := 2 } 99 ∧ standby.clk.retryDue = none ∧
    103 * itemN standby 0x0A06 < 100 * 1000000 ∧ 97 * itemN standby 0x0A06 ≤ 100 * itemN standby 0x0A06 ∧
    ({ starting with clk.retryDue := some .hfo } : Dev).clk.retryDue = some .hfo ∧ standby.clk.xo ≠ .starting ∧
    ({ starting with clk.hfo := .starting, clk.lfo := .starting, clk.xo := .starting } : Dev).clk.xo = .starting := by decide +kernel

theorem witness_StartUpSteps : Calm { starting with power.vaOn := false, power.modeSamples := [], power.toneRelay := some .B } ∧
    starting.power.pstate = .starting ∧ v5Present standby = true ∧ v5Present asleep = false ∧ asleep.power.pstate ≠ .starting ∧
    Calm { starting with power.modeSamples := [true, false] } ∧ starting.power.stepNo < 7 ∧ starting.power.v5Good = true ∧
    starting.power.modeSamples.length = 3 ∧ ({ starting with clk := Clocks.reset } : Dev).clk.hfo = .stable ∧
    Dev.reset.power.stepNo = 7 ∧ Dev.reset.power.coreReset = false ∧ Calm Dev.reset ∧ Dev.reset.power.pstate = .starting ∧
    standby.power.pstate ≠ .starting := by decide +kernel

theorem witness_EndOfBootIsStandby : let d : Dev := { Dev.reset with power.stepNo := 8 }
    Calm d ∧ d.power.pstate = .starting ∧ d.power.coreReset = false ∧ d.power.cause = .por ∧ d.power.retained = [] ∧
    d.power.retainedGpio = [] ∧ (∀ g, g < 4 → genState d g ≠ 1) ∧ d.sess.ended = 0 ∧ d.fault.safeReact = false ∧
    d.cfg = [] ∧ Calm standby ∧ standby.power.pstate ≠ .starting := by decide +kernel

theorem witness_OperatingPointTransitions :
    (let d : Dev := { standby with power.opTarget := some .opH, power.goal := some .activeH, power.opUp := true }
     Calm d ∧ awake d = true ∧ d.eis.plan = none ∧ Plain d 103 ∧ d.d2d.rxBuf = [] ∧ d.power.leaving = none) ∧
    (let d : Dev := { activeDev with power.pstate := .activeM, power.opTarget := some .opH, power.goal := some .activeH, power.opUp := true }
     Calm d ∧ awake d = true ∧ d.power.pstate = .activeM) ∧
    (let d : Dev := { standby with power.opTarget := some .opL }; Calm d ∧ awake d = true ∧ d.power.opUp = false) ∧
    (let d : Dev := { activeDev with power.ramping := true, power.goal := some .standby }
     Calm d ∧ awake d = true ∧ (∀ b ∈ d.banks, b.on = false ∨ b.applied = 0) ∧ (∀ b ∈ d.banks, b.excite = false) ∧
     d.banks.length = 4 ∧ d.bist.slice = none) ∧ standby.power.opTarget = none ∧ standby.power.ramping = false := by decide +kernel

theorem witness_GatesOfAnEntryClose :
    (let d : Dev := { standby with clk.waitGate := some (.mac 0), clk.gateReqs := [(false, .mac 0)], power.goal := some .sleep }
     Calm d ∧ d.eis.plan = none ∧ d.clk.gateTries < 4 ∧ 4 ≤ ({ d with clk.gateTries := 4 } : Dev).clk.gateTries) ∧
    (let d : Dev := { running 2 false with clk.waitGate := some (.mac 0), clk.gateReqs := [(false, .mac 0), (false, .mac 1)] }
     Calm d ∧ (closeGate (.mac 1) (closeOne (.mac 0) d)).2 = .busy ∧ gateBusy d (.mac 1) = true) ∧
    (let d : Dev := { standby with clk.gateReqs := [(false, .mac 0)], power.goal := some .sleep }
     Calm d ∧ d.clk.waitGate = none ∧ gateBusy d (.mac 0) = false ∧ gateClosed d (.mac 0) = false ∧ gateLocked d (.mac 0) = false ∧
     childOpen d (.mac 0) = false) ∧ standby.clk.gateReqs = [] := by decide +kernel

theorem witness_WakeSources : Calm asleep ∧ asleep.power.safeHold = false ∧ asleep.power.pstate = .sleep ∧
    asleep.power.toneUntil ≤ asleep.now ∧ asleep.power.toneTx = [] ∧ imageItem asleep 0x0A05 ≠ 0 ∧ Calm shipped ∧ shipped.power.pstate = .ship ∧
    (imageItem shipped 0x0A08).toNat.testBit 0 = true ∧ (imageItem shipped 0x0A08).toNat.testBit 2 = true ∧
    standby.power.pstate ≠ .sleep ∧ Calm { standby with power.toneTx := [.A] } := by decide +kernel

/-- A mean code of 4001 lies outside its window, one of 2800 within. -/
theorem witness_WakeSources_check :
    sleepViolation asleep (imageItem asleep) asleep.power.sleepMask [] [4001, 4001, 4001, 4001] = true ∧
    sleepViolation asleep (imageItem asleep) asleep.power.sleepMask [] [2800, 2800, 2800, 2800] = false := by decide +kernel

theorem witness_EntryToSleepAndShip : ({ standby with power.leaving := some .sleep } : Dev).power.leaving = some .sleep ∧
    standby.power.leaving = none ∧ Calm standby := by decide +kernel

theorem witness_PhaseAccumulatorAdvances : Calm standby ∧ awake standby = true ∧ standby.conv.frameAt = none ∧
    (standby.tb.acc : Int) + standby.tb.inc + clampInt (-((standby.tb.inc / 64 : Nat) : Int)) ((standby.tb.inc / 64 : Nat) : Int) standby.tb.corr < 2 ^ 48 ∧
    awake asleep = false := by decide +kernel

theorem witness_MeridianCountsPeriods : Calm standby ∧ awake standby = true ∧ standby.tb.inc ≠ 0 ∧ standby.tb.multNext = none ∧
    standby.tb.loads = [] ∧ standby.conv.waiting = false ∧ standby.conv.mode = 0 ∧ standby.eis.plan = none ∧ standby.eis.next = none ∧
    standby.bal.anchorDue = false ∧ standby.tb.pllmLock = false ∧ standby.conv.apl = 0 ∧ standby.conv.frameAt = none ∧
    awake asleep = false ∧ Calm asleep ∧ ({ standby with tb.inc := 0 } : Dev).tb.inc = 0 ∧
    standby.tb.syncPulse = false ∧ Calm { standby with tb.syncPulse := true } := by decide +kernel

theorem witness_SyncInReferences : Calm acquiring ∧ awake acquiring = true ∧ isHead acquiring = true ∧ itemN acquiring 0x0601 = 1 ∧
    (true = (itemN acquiring 0x0604 == 0)) ∧ itemN acquiring 0x0603 = 1 ∧ acquiring.tb.refAt = none ∧ acquiring.tb.accN = 0 ∧
    itemN standby 0x0601 ≠ 1 ∧ Calm (edged 7000 1) ∧ 7000 - 0 < 7680 * itemN (edged 7000 1) 0x0603 ∧ (edged 7000 1).tb.state ≠ .locked ∧
    38400000 * itemN (edged 40000000 1) 0x0603 < 40000000 - 0 := by decide +kernel

theorem witness_SyncInReferences_accepted : Calm (edged 38400 1) ∧ (edged 38400 1).tb.accN = 1 ∧
    (let d : Dev := { edged 7000 5 with tb.state := .locked, tb.headState := 2, tb.rejRun := 3 }; Calm d ∧ Plain d 112) ∧
    (let d : Dev := { edged 38400 5 with tb.state := .flywheel, tb.headState := 3 }; Calm d) ∧
    (let d : Dev := { edged 38400 9 with tb.goodFrom := some 0, tb.period := 64, tb.acc := 2 * 0x1B4E81B4F }
     Calm d ∧ Plain d 112 ∧ d.conv.apl = 0 ∧ multInBand d.tb.mult d.tb.inc = true ∧ smallError 0 = true ∧
     2 ≤ d.tb.accN ∧ 64 ≤ (d.tb.period + 2 ^ 32 - 0) % 2 ^ 32) := by decide +kernel

theorem witness_PhaseWordSetsIncrement : Calm wording ∧ isHead wording = true ∧ itemN wording 0x0601 = 2 ∧
    wording.tb.state ≠ .locked ∧ 1000 ≤ wording.tb.pwFreq.toNat ∧ wording.tb.pwFreq.toNat ≤ 5000000 ∧
    (wording.tb.period + 2 ^ 32 - wording.tb.acqAt) % 2 ^ 32 < 64 ∧ wording.tb.pllmLock = false ∧ wording.conv.apl = 0 ∧
    multInBand 160000 (incOf 5000) = true ∧ ({ wording with tb.pwFreq := 999 } : Dev).tb.pwFreq.toNat < 1000 ∧
    itemN standby 0x0601 ≠ 2 := by decide +kernel

theorem witness_PhaseWordSetsIncrement_locks :
    (let d : Dev := { wording with tb.state := .locked, tb.headState := 2, tb.rejRun := 3, tb.pwFreq := 5000001 }; Calm d ∧ Plain d 112) ∧
    (let d : Dev := { wording with tb.period := 64, tb.wordsAt := [32] }
     Calm d ∧ Plain d 112 ∧ 64 ≤ (d.tb.period + 2 ^ 32 - d.tb.acqAt) % 2 ^ 32 ∧ d.tb.goodFrom = none ∧
     smallError (sext 32 (((phaseNow d : Int) - (0 : Word).toNat) % 2 ^ 32).toNat) = true ∧
     2 ≤ (d.tb.wordsAt.filter (fun p => decide ((d.tb.period + 2 ^ 32 - p) % 2 ^ 32 < 64)) ++ [d.tb.period]).length) ∧
    (let d : Dev := { wording with tb.state := .flywheel, tb.headState := 3 }; Calm d) := by decide +kernel

theorem witness_ReferenceLossEntersFlywheel :
    (let d : Dev := { standby with tb.state := .locked, tb.headState := 2 }
     Calm d ∧ isHead d = true ∧ Plain d 112) ∧
    (let d : Dev := { member with tb.state := .locked }
     Calm d ∧ isHead d = false ∧ d.tb.state = .locked ∧ Plain d 112) ∧
    (let d : Dev := { standby with tb.flyCounting := true, tb.flyCount := 1000 }
     Calm d ∧ d.tb.phaseLost = false ∧ Plain d 110) ∧ standby.tb.state ≠ .locked ∧ Calm standby ∧ standby.tb.flyCounting = false := by decide +kernel

theorem witness_ModulatorClockLocks : Calm standby ∧ standby.tb.pllmLock = false ∧ multInBand standby.tb.mult standby.tb.inc = true ∧
    multInBand 0 standby.tb.inc = false ∧ (let d : Dev := { standby with tb.pllmLock := true }; Calm d ∧ Plain d 101) := by decide +kernel

theorem witness_LeadPointsStartApertures : Calm converting ∧ active converting = true ∧ converting.conv.mode = 0 ∧
    converting.conv.waiting = false ∧ isHead converting = true ∧ slotAt converting 3 = none ∧
    slotAt converting 0 = some convert0 ∧ slotAt converting 1 = some dark1 ∧ slotAt converting (dark1.arg.toNat % 16) = some convert0 ∧
    slotAt converting 2 = some { dark1 with arg := 5 } ∧ slotAt converting 5 = none ∧ converting.tb.owed.isEmpty = true ∧
    convert0.action = 1 ∧ slotFires convert0 (leadPeriod converting (leadPoints converting 0 convert0).1) = true ∧
    beforeSwitch converting convert0 (leadPeriod converting (leadPoints converting 0 convert0).1) (leadPoints converting 0 convert0).1 = false ∧
    dark1.action = 3 ∧ dark1.en = true ∧ active standby = false ∧ Calm standby := by decide +kernel

theorem witness_LeadPointsStartApertures_dark :
    slotFires convert0 (leadPeriod converting (leadPoints converting 0 convert0).2) = true ∧
    beforeSwitch converting convert0 (leadPeriod converting (leadPoints converting 0 convert0).2) (leadPoints converting 0 convert0).2 = false ∧
    beforeSwitch converting convert0 (leadPeriod converting (leadPoints converting 0 convert0).1) (leadPoints converting 0 convert0).2 = false ∧
    ({ converting with tb.owed := [(0, convert0)] } : Dev).tb.owed.find? (fun (y : Nat × Slot) => y.1 == 0) = some (0, convert0) := by decide +kernel

theorem witness_TransitsAct :
    (let d : Dev := { converting with conv.apStart := [lead0] }
     Calm d ∧ awake d = true ∧ isHead d = true ∧ lead0.busy = 0 ∧ lead0.mark = 0 ∧ slotAt d 0 = some convert0 ∧
       [0].filterMap (fun i => d.conv.apStart.find? (fun (l : Lead) => l.slot == i)) = [lead0] ∧ Plain d 113) ∧
    ({ lead0 with busy := 32 } : Lead).busy &&& ~~~ lead0.started ≠ 0 ∧
    Calm auxing ∧ awake auxing = true ∧ auxing.aux.txEntry = none ∧ sarBusy auxing = false ∧ auxing.conv.apStart = [] ∧
     auxing.conv.live = [] ∧ (capAt auxing 2).state = 1 ∧ (capAt auxing 2).trig = 0 ∧
     (∀ c, c < 4 → (capAt auxing c).state ≠ 2) ∧ auxing.conv.caps.length = 4 ∧ auxing.eis.plan = none := by decide +kernel

theorem witness_TransitsAct_others :
     (match slotAt auxing 0, slotAt auxing 1, slotAt auxing 2 with
      | some x, some y, some z => slotFires x auxing.tb.period && slotFires y auxing.tb.period && slotFires z auxing.tb.period &&
          x.action == 2 && y.action == 4 && y.mark == 0 && z.action == 5 && y.arg.toNat % 4 == 2
      | _, _, _ => false) = true ∧
    (let d : Dev := { auxing with aux.txEntry := some 1, aux.user := .transit, now := 1000 }
     sarBusy d = false ∧ sarBusy { d with d2d.sarWait := true } = true ∧ Plain d 113) ∧
    (capAt { auxing with conv.caps := [Capture.reset, Capture.reset, { Capture.reset with state := 2 }] } 2).state = 2 ∧
    (capAt { auxing with conv.caps := [] } 2).state = 0 ∧
    (let d : Dev := { standby with tb.markPulse := 1, pins.gpioOwner := [4, 0, 0, 0], pins.gpioLevel := 1 }
     Calm d ∧ mbit d.tb.markPulse 0 = true ∧ gpioHolder d 1 = 4 ∧ mbit d.tb.markPulse 1 = false) ∧ awake asleep = false := by decide +kernel

theorem witness_AperturesFramesAndRecords : Calm flying ∧
    (flying.conv.flight.find? (fun (r : Rec) => r.tseq == 1)).isSome = true ∧ flying.conv.flight.all (fun (r : Rec) => !r.apEnd) = true ∧
    (flying.conv.flight.find? (fun (r : Rec) => r.tseq == 7)).isNone = true ∧ Calm framing ∧ active framing = true ∧
    framing.conv.waiting = false ∧ convAltersN { framing with conv.waiting := true } = false ∧ flying.conv.frameAt = none ∧
    Calm { flying with conv.flight := [{ Rec.reset with tseq := 1 }] } ∧ standby.conv.flight = [] ∧
    (∀ c, c < 25 → recWord { Rec.reset with named := 15 } c = 0x80000000) ∧ flying.cmp.undecided = 0 ∧ flying.cmp.inband = 0 ∧
    (∀ c, c < 4 → (capAt flying c).state ≠ 2) ∧ (∀ b, b < 4 → (bank flying b).on = false) ∧ flying.eis.plan = none ∧
    (∀ k, k < 4 → (kernelAt flying k).genOn = false) ∧ plannedCells flying = [] ∧ flying.eng.auditCnt + 1 < 32 ∧
    flying.eng.statsCnt + 1 < 64 := by decide +kernel

theorem witness_RecordsAreWrittenFromSamples :
    (let d : Dev := { activeDev with conv.flight := [rawRec] }
     Calm d ∧ d.conv.flight.find? (fun (r : Rec) => !r.written) = some rawRec ∧ rawRec.complete = true ∧ mbit rawRec.named 0 = true ∧
     mbit rawRec.named 2 = false ∧ mbit rawRec.late 0 = false ∧ mbit rawRec.late 1 = true ∧ mbit rawRec.late 2 = false ∧
     mbit d.fault.fencedCh 0 = false ∧ mbit d.fault.fencedCh 1 = false ∧ settlingNow d rawRec 0 = false ∧ rawRec.fly = false ∧
     mbit rawRec.warn 0 = false ∧ d.bal.sensed = [] ∧ nth rawRec.cal.gain 0 0 = 0 ∧ nth rawRec.cal.ofs 0 0 = 0 ∧
     rawRec.cal.tcomp = 0 ∧ nth d.otp.gTrim 0 0 = 0 ∧ nth d.otp.oTrim 0 0 = 0 ∧ rawRec.modAt = none ∧
     nth [3700000000] 0 0 = 1000 * (3700000 : Int)) ∧
    Calm { activeDev with conv.flight := [Rec.reset] } ∧ Rec.reset.written = false ∧ Rec.reset.complete = false ∧
    activeDev.conv.flight = [] := by decide +kernel

theorem witness_CaptureTriggersOnGpioEdge :
     Calm armedGpio ∧ armedGpio.conv.caps.length = 4 ∧ gpioHolder armedGpio 1 = 3 ∧
     (capAt armedGpio 0).state = 1 ∧ (capAt armedGpio 0).trig = 1 ∧ (capAt armedGpio 0).edge = !true ∧
     (latestRec armedGpio).isSome = true ∧ (∀ k, k < 4 → k ≠ 0 → (capAt armedGpio k).state ≠ 1) ∧
     (∀ k, k < 4 → (capAt armedGpio k).state ≠ 2) ∧ Plain armedGpio 114 ∧
     ({ (capAt armedGpio 0) with post := 0 } : Capture).post = 0 ∧ gpioHolder armedGpio 2 ≠ 3 := by decide +kernel

theorem witness_CaptureTriggersOnGpioEdge_due :
    (let d : Dev := { armedGpio with conv.caps := armedGpio.conv.caps.map (fun x =>
        if x.state = 1 ∧ x.trig = 1 ∧ x.edge = !true then { x with state := 2, trigTseq := 5 } else x) }
     freezeDue d = d) := by decide +kernel

theorem witness_SequencerConvertsAndFiles : Calm sequencing ∧ awake sequencing = true ∧ sequencing.d2d.retrain = false ∧
    sequencing.power.opTarget = none ∧ sequencing.aux.count + 1 = entryReps (auxEntry sequencing sequencing.aux.pos) ∧
    bf (auxEntry sequencing sequencing.aux.pos) 8 3 = 0 ∧ bit sequencing.aux.result 9 = false ∧ Plain sequencing 116 ∧
    (2 : Nat) + 1 < entryReps (auxEntry sequencing 0) ∧ sequencing.aux.delaying = false ∧ sequencing.cmd.hkReady = true ∧
    Calm { sequencing with aux.user := .idle, aux.delaying := true } ∧
    bit ({ sequencing with aux.result := 512 } : Dev).aux.result 9 = true ∧ awake asleep = false ∧
    Calm transiting ∧ awake transiting = true ∧ entryReps (auxEntry transiting 1) = 1 ∧ transiting.aux.txCount + 1 = 1 := by decide +kernel

theorem witness_SequencerConvertsAndFiles_window :
    (let d : Dev := { sequencing with aux.table := [0x00000100] }
     Calm d ∧ Plain d 120 ∧ bf (auxEntry d 0) 8 3 = 1 ∧ entryReps (auxEntry d 0) = 1 ∧
     itemN { d with cfg := [(0x0211, 5)] } 0x0211 / 2 ^ 16 < meanCode 4095 1) := by decide +kernel

theorem witness_LeatSlotsCompareAndVerify : Calm activeDev ∧ active activeDev = true ∧ activeDev.aux.slotPending = false ∧
    awake activeDev = true ∧ activeDev.d2d.retrain = false ∧ activeDev.power.opTarget = none ∧ awake asleep = false ∧
    active standby = false ∧ ({ activeDev with aux.user := .loop } : Dev).aux.user ≠ .leat ∧
    Calm slotting ∧ slotting.aux.slotOf = some 3 ∧ slotting.aux.slotVerify = false ∧ (leatRefs slotting 3).isEmpty = true ∧
    Calm comparing ∧ chFenced comparing 3 = false ∧ leatPaused comparing 3 = false ∧ (leatRefs comparing 3).length = 1 ∧
    Plain comparing 117 ∧ mbit comparing.aux.warn 2 = false ∧ activeDev.aux.dacUser = .unused ∧ activeDev.aux.verify = none := by decide +kernel

theorem witness_LeatSlotsCompareAndVerify_dac :
    (let d : Dev := { slotting with aux.slotVerify := true, aux.verify := some 3, aux.dacUser := .leat }
     Calm d ∧ d.aux.verify ≠ none ∧ Plain d 118) ∧
    (let d : Dev := { activeDev with aux.dacUser := .diag }; Calm d ∧ d.aux.diagStep = 0) ∧
    ({ activeDev with aux.dacUser := .selftest } : Dev).aux.dacUser ≠ .diag := by decide +kernel

/-- Readings of cell 3 within the tolerance of its sample, and far from it. -/
theorem witness_LeatSlotsCompareAndVerify_tolerance : leatRef comparing 3 = some 2130000 ∧
    rabs (leatUv comparing 3 (((([1982, 1982, 1982, 1983] : List (BitVec 12)).take 4).map BitVec.toNat).sum / 4 : Rat) - 2130000) ≤
      leatTol comparing 2130000 ∧
    leatTol comparing 2130000 < rabs (leatUv comparing 3 0 - 2130000) ∧
    leatTol comparing 0 < rabs (leatUv comparing 3 0 - dacUv 0) ∧
    rabs (leatUv comparing 3 ((4095 + 4095) / 2) - dacUv ((4095 + 4095) / 2)) ≤ leatTol comparing 0 := by decide +kernel

theorem witness_InputDiagnosisRuns : Calm pulling ∧ awake pulling = true ∧ pulling.aux.target < 49 ∧ pulling.aux.dacUser ≠ .diag ∧
    Plain pulling 119 ∧
    (let d : Dev := { standby with cfg := [(0x0209, 60)] }
     Calm d ∧ awake d = true ∧ itemN d 0x0209 ≠ 0 ∧ d.aux.running = false ∧ diagEligible d 0 = true) ∧
    itemN standby 0x0209 = 0 ∧ standby.aux.pulling = false ∧ standby.aux.recovering = false ∧
    Calm { pulling with aux.target := 60, aux.dacUser := .diag, aux.diagStep := 2 } ∧
    Calm { activeDev with aux.recovering := true } ∧ awake asleep = false := by decide +kernel

theorem witness_InputDiagnosisRuns_gap : gapless.cmd.busy = none ∧ gapless.cmd.waiting = [] ∧ Unarmed gapless ∧
    gapless.aux.toVerify.isEmpty = true ∧ gapless.bist.waiting = none ∧ gapless.aux.gapWait = true ∧ awake gapless = true ∧
    gapless.conv.mode = 0 ∧ gapless.aux.target ≤ 48 ∧ gapless.aux.recovering = false ∧
    diagEligible gapless gapless.aux.target = true ∧
    gapNow gapless (targetCells gapless gapless.aux.target) = false := by decide +kernel

theorem witness_ComparatorLevelsAndTrip : Calm overvolt ∧ awake overvolt = true ∧ cmpPowered overvolt = true ∧ overvolt.d2d.retrain = false ∧
    overvolt.power.opTarget = none ∧ holdFull overvolt = false ∧ overvolt.power.coreReset = false ∧ isolated overvolt 0 = false ∧
    nth overvolt.cmp.dgl (cmpClass 0) 0 ≠ 0 ∧ mbit overvolt.cmp.raw 0 = true ∧ mbit overvolt.cmp.armed 0 = true ∧ mbit overvolt.cmp.level 0 = false ∧
    Plain overvolt 0 ∧ overvolt.trip.tripn = false ∧ mbit standby.cmp.armed 47 = false ∧
    nth ({ overvolt with cmp.dgl := [0, 0, 0] } : Dev).cmp.dgl (cmpClass 0) 0 = 0 ∧
    (let d : Dev := { standby with cmp.armed := 1, cmp.level := 1, trip.tripn := true }
     Calm d ∧ mbit d.cmp.raw 0 = false ∧ mbit d.cmp.level 0 = true) ∧ Calm holding ∧ cmpPowered holding = true ∧
    holding.power.coreReset = true ∧ cmpPowered asleep = false ∧
    isolated { overvolt with cmp.check := some 0, aux.dacUser := .selftest, aux.dacSettled := true } 0 = true := by decide +kernel

theorem witness_ComparatorSettingsAndChecks : Calm standby ∧ awake standby = true ∧ standby.cmp.check ≠ some 5 ∧
    Calm checking ∧ checking.cmp.check = some 29 ∧ checking.aux.dacSettled = true ∧ nth checking.cmp.dgl (cmpClass 29) 0 ≠ 0 ∧
    checking.cmp.checkStep = 0 ∧ ({ checking with cmp.checkStep := 1 } : Dev).cmp.checkStep < 2 ∧
    2 ≤ ({ checking with cmp.checkStep := 2 } : Dev).cmp.checkStep ∧ awake asleep = false ∧ Calm asleep := by decide +kernel

theorem witness_ReceivedTripsAreLatchedAndForwarded : Calm standby ∧ standby.power.safeForced = false ∧ cmpPowered standby = true ∧
    isHead standby = true ∧ Calm member ∧ isHead member = false ∧ cmpPowered member = true ∧ cmpPowered asleep = false ∧
    itemN { member with cfg := [(0x030B, 0)] } 0x030B ≠ 1 ∧ itemN { member with cfg := [(0x030B, 1)] } 0x030B = 1 ∧ standby.trip.deferred = false ∧
    ({ member with trip.deferred := true } : Dev).trip.deferred = true ∧ (tripPorts member).isEmpty = false ∧
    (tripPorts { member with fault.fencedPort := 3 }).isEmpty = true ∧ holding.power.safeForced = true := by decide +kernel

theorem witness_BalancePeriodsAndSteps : Calm standby ∧ awake standby = true ∧ standby.bal.step < 255 ∧
    Calm { standby with bal.step := 255 } ∧ awake Dev.reset = false ∧ Calm Dev.reset := by decide +kernel

theorem witness_SenseReadingsAndFetFaults : Calm planned ∧ awake planned = true ∧ planned.d2d.retrain = false ∧
    planned.power.opTarget = none ∧ Plain planned 121 ∧ escReaction planned 121 = 0 ∧ cellPresent planned 3 = true ∧ cellPresent planned 24 = true ∧
    planned.bal.est.length = 24 ∧ mbit planned.bal.onAll 2 = true ∧ nth planned.bal.openRun 2 0 = 7 ∧
    min 4095 (nth [0, 0, 0] 2 0) < itemN planned 0x0408 * 10 ∧ mbit planned.bal.faultOc 2 = false ∧
    nth planned.bal.plans 2 none ≠ none ∧ nth planned.bal.plans 5 none = none ∧ cellPresent planned 25 = false ∧
    Calm { planned with d2d.retrain := true } ∧ awake asleep = false ∧ Calm asleep ∧
    ({ planned with power.opTarget := some .opH } : Dev).power.opTarget ≠ none := by decide +kernel

theorem witness_BalanceTimeoutClearsCommands :
     Calm timing ∧ itemN timing 0x0407 ≠ 0 ∧ cellPresent timing 7 = true ∧ nth timing.bal.owner 6 0 = 0x38 ∧
     nth timing.bal.plans 6 none = none ∧ nth timing.bal.plans 2 none ≠ none ∧ cellPresent timing 25 = false ∧
     (bank timing 0).owner = 0x3A ∧ (bank timing 1).owner ≠ 0x3A ∧ standby.bal.timerOn = false := by decide +kernel

theorem witness_BankDriversRampAndFault : Calm driven ∧ awake driven = true ∧ driven.part.hasBanks = true ∧ driven.banks.length = 4 ∧
    bankLevels driven 0 = false ∧ (bank driven 0).on = true ∧ (bank driven 0).excite = false ∧ (bank driven 0).interlock = false ∧
    driven.power.ramping = false ∧ bankFenced driven 1 = false ∧ (bank driven 1).on = false ∧ Plain driven 122 ∧ (bank driven 0).badRun < 4 ∧
    Calm failingBank ∧ 4 ≤ (bank failingBank 0).badRun ∧ 9 ≤ (bank failingBank 0).devRun ∧ ramping (bank failingBank 0) = false ∧
    Part.tl1612.hasBanks = false ∧ (bank driven 0).devRun < 9 ∧ awake asleep = false := by decide +kernel

theorem witness_BankDriversRampAndFault_excited : Calm excitingFet ∧ excitingFet.eis.plan.isSome = true ∧ cellPresent excitingFet 2 = true ∧
    fetExcited excitingFet 2 = true ∧ mbit excitingFet.eis.fetsOn 1 = true ∧ driven.eis.plan = none ∧ fetExcited driven 2 = false ∧
    Plain failingBank 122 ∧ (itemN failingBank 0x0432 * 1000 : Int) < meanMeas failingBank (bank failingBank 0) * 100 - meanRef (bank failingBank 0) := by decide +kernel

theorem witness_JobsAreDispatchedAndStarted :
    (Calm queued ∧ awake queued = true ∧ (nth queued.eng.classes 3 []).head? = some 5 ∧ (desc queued 5).isSome ∧
      (∀ i, i < 3 → nth queued.eng.classes i [] = []) ∧
      (∀ i, i < 8 → ((nth queued.eng.classes i []).head?.bind (desc queued)).all (fun y => y.passed < 256)) ∧
      (desc queued 5).any (fun x => x.id == 5 && x.role == 0 && (candidates queued x).contains 0 &&
        (candidates queued x).all (fun f => decide (engineLoad queued 0 ≤ engineLoad queued f))) ∧ (eng queued 0).flume = []) ∧
    (∀ c, c < 8 → nth standby.eng.classes c [] = []) ∧
    (Calm loaded ∧ awake loaded = true ∧ inService (eng loaded 2) = true ∧ (eng loaded 2).running = none ∧
      (eng loaded 2).flume.head? = some 5 ∧ loaded.fault.sramBad = [] ∧ loaded.eis.plan = none ∧ (eng loaded 1).running ≠ none ∧
      (desc loaded 5).map (fun x => decide (x.gen = currentGen loaded x.kernel)) = some true ∧
      (desc outdated 5).map (fun x => decide (x.gen = currentGen outdated x.kernel)) = some false) := by decide +kernel

theorem witness_JobsAreDispatchedAndStarted_class : dispatchClass queued = some 3 ∧ dispatchClass standby = none ∧
    (desc queued 5).any (fun x => !pairWaits queued x) = true ∧ awake asleep = false ∧
    (desc queued 5).map (candidates { queued with eng.engines := [] }) = some [] ∧ Plain loaded 85 ∧
    (∀ f, f < 16 → (eng loaded f).state ≠ .draining) ∧
    (eng loaded 2).flume.head?.bind (desc loaded) = some { Desc.reset with id := 5, kernel := 2, cls := 3, cost := 100 } ∧
    imageGood (descImage { Desc.reset with id := 5, kernel := 2, cls := 3, cost := 100 } ^^^ 1) = false := by decide +kernel

theorem witness_JobsEndAndTwinsAreCompared :
    Calm (twins none) ∧ (twins none).eis.plan = none ∧ (eng (twins none) 1).running = some 5 ∧ (eng (twins none) 2).running = some 7 ∧
    (desc (twins none) 5).map (fun x => (x.role, x.kernel, decide (x.gen = currentGen (twins none) 2))) = some (0, 2, true) ∧
    (desc (twins none) 7).map (fun x => (x.id, x.role, x.twin)) = some (7, 1, 8) ∧
    (desc (twins none) 8).map (fun y => (y.id, y.role, y.twin, y.half)) = some (8, 2, 7, none) ∧
    (desc (twins (some [1])) 8).map (fun y => y.half) = some (some (([1] : List Word).map BitVec.toNat)) ∧
    16 < freeCount (twins (some [2])) ∧ inService (eng (twins (some [2])) 5) = true ∧ (eng (twins none) 4).running = none ∧
    (desc (twins (some [2])) 8).map (fun x => x.half.isSome) = some true ∧
    isRunning { twins (some [2]) with eng.engines := List.replicate 16 Engine.reset } 7 = false ∧ desc (twins none) 9 = none := by decide +kernel

theorem witness_JobsEndAndTwinsAreCompared_safe : (∀ k, k < 128 → escReaction (twins none) k ≠ 5) ∧
    (eng (twins none) 1).running.bind (desc (twins none)) = some { Desc.reset with id := 5, kernel := 2, cls := 3 } := by decide +kernel

theorem witness_EngineFaultsAbandonTheirJob :
    Calm (running 2 false) ∧ (running 2 false).eis.plan = none ∧ (running 2 false).eng.classes.length = 8 ∧
    (eng (running 2 false) 1).running = some 6 ∧ (desc (running 2 false) 6).map (fun x => (x.id, x.retry, x.kernel)) = some (6, false, 2) ∧
    (desc (running 2 true) 6).map (fun x => (x.retry, x.role)) = some (true, 0) ∧
    (desc (running 0x81 true) 6).map (fun x => x.kernel) = some (0x80 + (1 : Fin 4).val) ∧ (running 2 false).eng.kernels.length = 4 ∧
    Plain (running 2 false) 82 ∧ Plain (running 2 false) 83 ∧ (eng (running 2 false) 0).running = none := by decide +kernel

theorem witness_EngineFaultsAbandonTheirJob_more : Plain (running 0x81 true) 84 ∧ Calm (running 0x81 true) ∧
    (∀ f, f < 16 → (eng (running 2 false) f).state ≠ .draining) ∧ (∀ k, k < 128 → escReaction (running 2 false) k ≠ 5) ∧
    (∀ f, f < 16 → (eng (running 0x81 true) f).state ≠ .draining) := by decide +kernel

theorem witness_EnginesStealAndLoad :
    Calm loaded ∧ awake loaded = true ∧ (eng loaded 0).state = .active ∧ (eng loaded 0).running = none ∧ (eng loaded 0).flume = [] ∧
    (eng loaded 2).flume.getLast? = some 5 ∧ (∀ g, g < 16 → g ≠ 2 → (eng loaded g).flume = []) ∧
    (desc loaded 5).map (fun x => (x.id, x.role)) = some (5, 0) ∧
    (∀ g, g < 16 → g ≠ (0 : Fin 16).val → (eng standby g).flume = []) ∧
    coreRuns standby = true ∧ (eng standby 3).state = .loading ∧ standby.eng.engines.length = 16 ∧ standby.eng.kernels.length = 4 ∧
    (eng loaded 3).state ≠ .loading ∧ inService (eng copying 4) = true ∧ (eng copying 4).running = none ∧
    (4, 1) ∈ copying.eng.copies.take copying.eng.copyHeld ∧ (4, 2) ∉ copying.eng.copies.take copying.eng.copyHeld ∧
    (∀ k, k < 128 → escReaction standby k ≠ 5) ∧ coreRuns asleep = false := by decide +kernel

theorem witness_EscalationTimersAndReactionEntries :
    Calm escalating ∧ (∀ i, i < 128 → escReaction escalating i ≠ 5) ∧ isInfo 85 = false ∧ isInfo 96 = true ∧
    (esc escalating 85).state = 1 ∧ (esc escalating 84).state ≠ 1 ∧
    (esc escalating 82).state = 2 ∧ (esc escalating 82).pulse = false ∧ (esc escalating 82).journal = none ∧
    escalating.bist.failHold = none ∧ (esc escalating 80).journal ≠ none ∧ awake escalating = true ∧ escalating.cmd.hkReady = true ∧
    escalating.fault.stretch = true ∧ standby.fault.stretch = false ∧ faultnLow escalating = true ∧
    faultnLow { standby with fault.startup := false, fault.latch := false, power.safeForced := false } = false ∧ Plain escalating 127 ∧ Plain standby 96 ∧
    Plain (patient standby) 126 := by decide +kernel

theorem witness_EscalationTimersAndReactionEntries_checks : Calm (patient standby) ∧ (∀ i, i < 128 → escReaction (patient standby) i ≠ 5) ∧
    coreRuns standby = true ∧ coreRuns holding = false ∧ awake holding = false ∧
    standby.fault.startup = true ∧ standby.fault.critical = false ∧ standby.eng.msgs.length < 31 ∧ 64 < freeCount (patient standby) ∧
    escalating.fault.startup = false ∧ Calm heldOut ∧ heldOut.bist.failHold = some 1 ∧ (eng heldOut 1).state = .out ∧
    (esc heldOut 82).state = 2 ∧ (esc heldOut 126).state ≠ 2 := by decide +kernel

theorem witness_SelfTestSlotsAndSlices :
    Calm (testing 4) ∧ (∀ i, i < 128 → escReaction (testing 4) i ≠ 5) ∧ (testing 4).bist.kinds.length = 5 ∧
    active (testing 4) = true ∧ itemN (testing 4) 0x0903 ≠ 0 ∧ (testing 2).bist.slice = none ∧ active standby = false ∧
    engineReady (cycleEnd (testing 2)) = none ∧ nextKind (cycleEnd (testing 2)) 2 = some 2 ∧
    nextKind (cycleEnd { testing 2 with cfg := [(0x0901, 500), (0x0902, 0), (0x0903, 100)] }) 2 = none ∧
    (dueUnits (cycleEnd (testing 2)) 2).head? = some 0 ∧ sliceBarred (testing 2) 2 0 = false ∧
    sliceBarred { testing 2 with power.vdOk := false } 2 0 = true ∧ (testing 2).aux.dacUser = .unused ∧
    nextKind (cycleEnd (testing 1)) 1 = some 1 ∧ pickEngine (cycleEnd (testing 1)) = some 0 ∧ (testing 1).power.opTarget = none ∧
    sliceNeed (testing 1) 1 0 ≤ (itemN (testing 1) 0x0901 : Rat) ∧ withdrawRefused (testing 1) = false ∧
    engineReady (cycleEnd withdrawn) = some 0 ∧ sliceBarred withdrawn 1 0 = false ∧
    sliceBarred { withdrawn with power.vdOk := false } 1 0 = true ∧ (slicing 3).cmp.checkBad = false ∧
    Calm (slicing 1) ∧ (slicing 1).bist.slice = some (1, 0) := by decide +kernel

theorem witness_JournalOtpAndSessionEvents :
    Unarmed standby ∧ DacIdle standby ∧ standby.cmd.waiting = [] ∧ (∀ i, i < 128 → escReaction standby i ≠ 5) ∧
    waitingEntry.jrn.q27.length = 1 ∧ coreRuns waitingEntry = true ∧
    waitingEntry.cmd.busy = none ∧ standby.jrn.q27 = [] ∧ coreRuns holding = false ∧
    burning.otp.burning = some ((0 : Fin 4).val, List.replicate 64 0) ∧ (burning.cmd.busy.map (fun b => b.code)) = some 0x12 ∧
    (burning.cmd.busy.map (fun b => (b.bcast, b.quiet, b.copies.length))) = some (false, false, 0) ∧
    Unarmed burning ∧ DacIdle burning ∧ burning.cmd.waiting = [] ∧ isHead burning = true ∧ burning.otp.gens.length = 4 ∧
    burning.otp.valid.length = 4 ∧ burning.otp.retired.length = 4 ∧
    (otpRead 128 32 { burning with otp.gens := burning.otp.gens.set 0 (List.replicate 64 0) }).2 = [] ∧
    (otpRead 128 32 { burning with otp.gens := burning.otp.gens.set 0 (List.replicate 64 0), otp.bad := [130] }).2 ≠ [] ∧
    standby.otp.burning = none ∧
    (let d := { standby with sess.isOpen := true }; d.sess.isOpen = true ∧ Unarmed d) ∧ standby.sess.isOpen = false := by decide +kernel

theorem witness_BeatsAreDeliveredOrReplayed : Calm standby ∧ (∀ i, i < 128 → escReaction standby i ≠ 5) ∧ awake standby = true ∧
    standby.d2d.retrain = false ∧ standby.fault.inject = [] ∧ (lane standby true).rxSeq = (lane standby true).txSeq ∧
    (lane standby true).resend = [] ∧ (lane standby true).queue = [] ∧ (lane standby true).txSeq < 16 ∧
    (sendBeat true 2 5 standby).isSome ∧ sendBeat true 9 5 standby = none ∧ (lane standby false).nak = none ∧
    ((sendBeat true 2 5 failing).map (fun x => (beatGood (x.1 ^^^ 1), beatSeq x.1, beatType x.1))) = some (false, 0, 2) ∧
    (lane failing true).rxSeq = 0 ∧ (lane failing true).fails = 2 := by decide +kernel

theorem witness_BeatsAreDeliveredOrReplayed_retrain :
    Calm retraining ∧ retraining.d2d.retrain = true ∧ holdFull retraining = true ∧ awake retraining = true ∧
    retraining.d2d.hold = (List.replicate 32 ((2 : Nat), (0 : BitVec 52))).map (fun e => .raw 0 e.1 e.2) ∧
    holdFull standby = false ∧ { standby with aux.user := .loop }.aux.user ≠ .idle ∧ standby.d2d.latched = [] ∧
    (let d := { standby with power.opTarget := some .opM }; Calm d ∧ (sendBeat true 2 5 d).isSome ∧ d.power.opTarget ≠ none) ∧
    awake asleep = false := by decide +kernel

theorem witness_PortsAndPassesFollowTheRing : Calm enrolled ∧ (∀ i, i < 128 → escReaction enrolled i ≠ 5) ∧ awake enrolled = true ∧
    isHead enrolled = false ∧ enrolled.ring.mode = .normal ∧ expectedRx enrolled .A = true ∧ portUp enrolled .A = true ∧
    expectedRx enrolled .B = false ∧ Plain enrolled 73 ∧ enrolled.ring.reversePend = false := by decide +kernel

theorem witness_PortsAndPassesFollowTheRing_passes :
    (let d := { enrolled with ring := { enrolled.ring with reversePend := true, marking := true, foldPass := true, turning := true, returning := true, afterPass := 1 } }
     Calm d ∧ d.ring.reversePend = true ∧ d.ring.marking = true ∧ d.ring.foldPass = true ∧ d.ring.afterPass = 1 ∧ d.ring.turning = true ∧
       d.ring.returning = true) ∧
    (let d := { enrolled with ring.mode := .unattached }; Calm d ∧ portUp d .B = true ∧ lockOf d .B = false) ∧
    (let d := { enrolled with ring.mode := .fold }; Calm d ∧ portUp d (if d.ring.foldB then .A else .B) = true) := by decide +kernel

theorem witness_MemberFramesAreAnswered : Calm enrolled ∧ (∀ i, i < 128 → escReaction enrolled i ≠ 5) ∧ enrolled.fault.inject = [] ∧
    (∀ f ∈ [frameOf 1 true [], frameOf 2 true [0x400], frameOf 3 true [0x400], frameOf 2 true [0x2000],
        frameOf 4 false (0x09008002 :: asking), frameOf 4 true (0x09008002 :: asking), frameOf 5 false [16],
        frameOf 6 false [0x18, 5], frameOf 6 true [0x18, 5], frameOf 7 false [0],
        frameOf 10 false [0], frameOf 9 true [0], { frameOf 7 false [0] with addr := 6 }], arrives enrolled f = true) := by decide +kernel

theorem witness_MemberFramesAreAnswered_clauses :
    portDelay enrolled .A = some 100 ∧ enrolled.tb.loaded = false ∧ bf 0x400 10 6 + 1 ≤ enrolled.ring.addr ∧
    enrolled.ring.addr ≤ bf 0x400 10 6 + 16 ∧ (sweptRec enrolled).isNone ∧ enrolled.ring.addr ≤ bf 0x2000 10 6 ∧
    (0x09008002 : Word) = Word.of (9 * 2 ^ 24 + 0 * 2 ^ 16 + b2n true * 2 ^ 15 + asking.length) ∧
    knownCodes.contains (bf (nth asking 0 0) 24 8) = true ∧ enrolled.cmd.out.length < 4 ∧ enrolled.cmd.out = [] ∧ bf 16 0 9 = 16 ∧
    bf 0x18 0 16 = 0x18 := by decide +kernel

theorem witness_MemberFramesAreAnswered_retry :
    arrives (answered []) { frameOf 4 false (0x09008002 :: asking) with rty := 1 } = true ∧
    (answered []).link.kept = some (9, 4, [replyWord 5 9 1]) ∧ 4 ≤ (answered (List.replicate 4 ⟨5, []⟩)).cmd.out.length ∧
    (answered [⟨5, List.replicate 16 1⟩]).cmd.outPos = 0 ∧
    (let d := { standby with link.enA := true, link.enB := true }
     Calm d ∧ awake d = true ∧ portUp d .A = true ∧ isHead d = true ∧ d.fault.conflict = false) := by decide +kernel

theorem witness_MembershipFramesChangeTheMember : Calm gated ∧ (∀ i, i < 128 → escReaction gated i ≠ 5) ∧ awake gated = true ∧
    isHead gated = false ∧ portUp gated .B = true ∧ gated.ring.gate = false ∧ gated.ring.mode = .gated ∧ gated.ring.returning = false ∧
    headerError (frameOf 8 true [0x80110005]) = false ∧ bf 0x80110005 0 6 = 5 ∧ bit 0x80110005 31 = true ∧
    enrolled.ring.gate = true ∧ bf 0x80110005 16 8 ≠ enrolled.ring.passId ∧ enrolled.ring.returning = false ∧
    portUp enrolled .B = true := by decide +kernel

theorem witness_MembershipFramesChangeTheMember_ctl : Calm enrolled ∧ Calm folded ∧ (∀ i, i < 128 → escReaction folded i ≠ 5) ∧
    (∀ f ∈ [frameOf 11 false [0x10000000], frameOf 11 false [0x20000000], frameOf 11 false [0x60000000],
        frameOf 11 false [0x74000000], frameOf 11 true [0x10000000], { frameOf 11 false [0x10000000] with addr := 6 }],
      arrives enrolled f = true) ∧
    (∀ f ∈ [frameOf 11 false [0x30000000], frameOf 11 false [0x40000000], frameOf 11 false [0x50000000],
        frameOf 11 false [0x60000000], frameOf 11 false [0x74000000]], arrives folded { f with port := .B } = true) ∧
    (frameOf 11 false [0x74000000]).addr = enrolled.ring.addr ∧
    ringOp (frameOf 11 false [0x74000000]) = 7 ∧ bit 0x74000000 27 = false ∧ bit 0x74000000 26 = true := by decide +kernel

theorem witness_HeadFramesLeaveAndReturn : Calm censusing ∧ (∀ i, i < 128 → escReaction censusing i ≠ 5) ∧ canSend censusing = true ∧
    linkFree censusing = true ∧ censusing.ring.stat = .closed ∧ censusing.fault.inject = [] ∧ partDue censusing = false ∧
    censusing.head.retry = [] ∧ (censusing.head.ringFrames.map (fun f => (f.rty, f.via, fits censusing f))) = [(0, none, true)] := by decide +kernel

theorem witness_HeadFramesLeaveAndReturn_sweep :
    Calm sweeping ∧ canSend sweeping = true ∧ linkFree sweeping = true ∧ partDue sweeping = true ∧ itemN sweeping 0x0701 = 1 ∧
    itemN sweeping 0x0702 = 0 ∧ itemN sweeping 0x0704 = 4 ∧ sweeping.head.partsOut = 0 ∧ canSend member = false ∧
    isHead member = false ∧
    (let d := { sweeping with head.sweepDue := false, head.ringFrames := [censusFrame leading none], now := 1, head.sweepAt := 0
                              cfg := [(0x0701, 1), (0x0703, 1)] }
     Calm d ∧ partDue d = false ∧ fits d (censusFrame leading none) = false) := by decide +kernel

theorem witness_HeadFramesLeaveAndReturn_return : Calm (away reading) ∧ canSend (away reading) = true ∧ awake (away reading) = true ∧
    (away reading).head.flights = [reading] ∧ (away swept).host.swHold = false ∧ (mapAt (away swept) 3).present = true ∧
    (away reading).link.lockA = true ∧ nth (away reading).ring.lostPasses 0 0 = 0 ∧ (away reading).ring.enumStep = 0 ∧
    (away reading).ring.disturbed = false ∧ portUp (away reading) .A = true ∧
    (let d := { leading with head.retry := [reading] }
     Calm d ∧ canSend d = true ∧ linkFree d = true ∧ partDue d = false ∧ fits d reading = true) := by decide +kernel

theorem witness_HeadRingWorkGoesOn : Calm sweeping ∧ canSend sweeping = true ∧ sweeping.ring.stat = .closed ∧ itemN sweeping 0x0701 = 1 ∧
    itemN leading 0x0701 = 0 ∧ (∀ f ∈ leading.head.ringFrames, f.typ ≠ 9) ∧ canSend standby = false ∧
    (let d := { standby with ring.silent := true, cfg := [(0x0710, 1)] }
     Calm d ∧ isHead d = true ∧ awake d = true ∧ d.ring.silent = true ∧ d.ring.stat = .idle ∧ itemN d 0x0710 = 1) ∧
    Calm (enumerating 1) ∧ (enumerating 1).ring.stat = .enumerating ∧ (enumerating 4).ring.enumStep = 4 := by decide +kernel

theorem witness_SpiTransactionsAnswerNext :
    (∀ x ∈ [(0, 0, 0, 0), (1, 1, 0, 0), (1, 0, 0x0C, 0), (1, 63, 0, 0), (1, 2, 0, 0), (2, 1, 0x18, 0x1F), (2, 3, 0x18, 7), (3, 1, 0, 1), (3, 2, 0, 1)],
      crc8 56 ((request x.1 x.2.1 x.2.2.1 x.2.2.2).toNat / 256) = (request x.1 x.2.1 x.2.2.1 x.2.2.2).toNat % 256 ∧
      (request x.1 x.2.1 x.2.2.1 x.2.2.2).toNat / 2 ^ 62 = x.1 ∧
      (request x.1 x.2.1 x.2.2.1 x.2.2.2).toNat / 2 ^ 56 % 64 = x.2.1 ∧
      (request x.1 x.2.1 x.2.2.1 x.2.2.2).toNat / 2 ^ 40 % 2 ^ 16 = x.2.2.1) ∧
    crc8 56 ((request 0 0 0 0 ^^^ 1).toNat / 256) ≠ (request 0 0 0 0 ^^^ 1).toNat % 256 := by decide +kernel

theorem witness_SpiTransactionsAnswerNext_state : Calm leading ∧ (∀ i, i < 128 → escReaction leading i ≠ 5) ∧ isHead leading = true ∧
    awake leading = true ∧ leading.host.lastNop = false ∧ mapped true 0 = true ∧ mapped true 0x0C = false ∧ mapped false 0x18 = true ∧
    mapped false 0x0C = false ∧ leading.host.remote = none ∧ (mapAt leading 2).present = true ∧ (mapAt leading 9).present = false ∧
    leading.ring.stat ≠ .conflict ∧ (away reading).host.remote ≠ none ∧ Calm (away reading) ∧ isHead member = false := by decide +kernel

theorem witness_SpiTransactionsAnswerNext_remote :
    (let d := { leading with host.lastNop := true, host.remoteRes := some (0x80, 0, 5) }
     Calm d ∧ d.host.lastNop = true ∧ d.host.remoteRes = some (0x80, 0, 5)) := by decide +kernel

theorem witness_MailboxesHoldMessagesAndRecords : Calm (composing asking) ∧ awake (composing asking) = true ∧
    isHead (composing asking) = true ∧ (composing asking).host.composed.length + (composing asking).host.submitted < 256 ∧
    256 ≤ { standby with host.submitted := 256 }.host.submitted ∧ sendCheck (composing asking) = none ∧
    (composing asking).host.target = 1 ∧ knownCodes.contains (bf (nth asking 0 0) 24 8) = true ∧
    sendCheck (composing [0x01090003, 0]) = some (7, stLENGTH) ∧ standby.host.rsps = [] ∧ isHead member = false ∧
    awake asleep = false := by decide +kernel

theorem witness_MailboxesHoldMessagesAndRecords_more :
    sendCheck { leading with host.composed := asking, host.target := 2 } = none ∧
    sendCheck { leading with host.composed := asking, host.target := 9 } = some (4, stSTATE) ∧
    sendCheck { leading with host.composed := asking, host.target := 2, ring.stat := .failed } = some (5, stBUSY) ∧
    (let d := { standby with host.rsps := [⟨1, [1, 2]⟩] }; Calm d ∧ d.host.rspPos + 1 < 2) := by decide +kernel

theorem witness_RegisterWritesAndForcedEvents : Calm leading ∧ (∀ i, i < 128 → escReaction leading i ≠ 5) ∧ awake leading = true ∧
    isHead leading = true ∧ bit 1 2 = false ∧ bit 1 0 = true ∧ bit 1 1 = false ∧ leading.link.enA = true ∧ leading.link.enB = true ∧
    receivePort leading = some .A ∧ bit 2 2 = false ∧ bit 2 0 = false ∧ bit 2 1 = true := by decide +kernel

theorem witness_RegisterWritesAndForcedEvents_events : (0x100 : Word) = one 32 8 ∧ Plain leading (32 * (2 : Fin 4) + 8) ∧
    (let d := { leading with cmd.hkReady := false }
     Calm d ∧ d.eng.packWait = [] ∧ d.eng.msgs.length < 32 ∧ Plain d 124 ∧ 0 < freeCount d) ∧
    leading.cmd.hkReady = true ∧ Calm enrolled ∧ isHead enrolled = false ∧ receivePort enrolled = some .A ∧
    awake asleep = false := by decide +kernel

theorem witness_MessagesFollowTheProtocol : Calm standby ∧ awake standby = true ∧ standby.fault.inject = [] ∧
    takes standby 0x01 false (sent 0x01 []) = true ∧ takes standby 0x02 false (sent 0x02 []) = true ∧
    takes standby 0x12 true (sent 0x12 [0]) = true ∧ takes standby 0x5A true (sent 0x5A [0, 0]) = true ∧
    standby.sess.isOpen = false ∧ takes standby 0x62 true (sent 0x62 [0]) = true ∧ lenIs 2 (sent 0x62 [0]) = false := by decide +kernel

theorem witness_MessagesFollowTheProtocol_checks :
    crc32 (msgWords 0x04 (sent 0x01 [])).dropLast ≠ (sent 0x01 []).crc ∧ Plain standby 125 ∧
    crc32 (msgWords 0x01 flagged).dropLast = flagged.crc ∧ (flagged.rsp || flagged.head || flagged.gap) = true ∧
    crc32 (msgWords 0x01 reserved).dropLast = reserved.crc ∧ reserved.rsv ≠ 0 ∧ seqGap standby 0 = false ∧
    (cached (answeredBefore 0x01) 0 0x01).isSome = true ∧ Calm (answeredBefore 0x01) ∧ awake (answeredBefore 0x01) = true ∧
    (let d := { standby with cmd := { standby.cmd with expSeq := some 9 } }
     Calm d ∧ takes { d with cmd := { d.cmd with expSeq := none } } 0x01 false (sent 0x01 []) = true) := by decide +kernel

theorem witness_MessagesFollowTheProtocol_places :
    takes standby 0x52 true (toAll 0x52 []) = true ∧ takes member 0x50 true (sent 0x50 [0]) = true ∧ isHead member = false ∧
    (let d := { standby with power := { standby.power with leaving := some .ship } }; Calm d ∧ awake d = true) ∧
    Calm asleep ∧ awake asleep = false ∧
    (let d := { standby with cmd := { standby.cmd with hkReady := false } }; Calm d ∧ awake d = true) := by decide +kernel

theorem witness_ConfigurationMessagesWriteItems : Calm standby ∧ JournalFree standby ∧
    takes standby 0x10 true (sent 0x10 [1, 0x0305, 7]) = true ∧ jointCheck standby standby = none ∧
    takes standby 0x10 true (sent 0x10 [1, 0x0FFF, 7]) = true ∧ itemOf 0x0FFF = none ∧
    takes standby 0x10 true (sent 0x10 [2, 0x0305, 7, 0x0306, 17]) = true ∧
    takes standby 0x11 false (sent 0x11 [2, 0x0305, 0x0442]) = true ∧
    (itemOf 0x0305).isSome = true ∧ itemAbsent standby.part 0x0305 = false ∧ (itemOf 0x0442).isSome = true ∧
    itemAbsent standby.part 0x0442 = false ∧
    takes standby 0x11 false (sent 0x11 [1, 0x0FFF]) = true ∧ takes small 0x11 false (sent 0x11 [1, 0x0322]) = true ∧
    (itemOf 0x0322).isSome = true ∧ itemAbsent small.part 0x0322 = true ∧ takes standby 0x11 false (sent 0x11 [0]) = true ∧
    countOk (sent 0x11 [0]) = false ∧ countOk (sent 0x10 [1, 0x0305, 7]) = true ∧ Calm small := by decide +kernel

theorem witness_ConfigurationMessagesWriteItems_lists :
    (let r := setItems (cmdCtx standby 0x10 0) (cfgPairs (sent 0x10 [1, 0x0305, 7])) standby
     r.st.code = 0 ∧ Calm r.dev ∧ r.dev.jrn.q27.length ≤ 500) ∧
    (let r := setItems (cmdCtx standby 0x10 0) (cfgPairs (sent 0x10 [1, 0x0305, 17])) standby
     r.st.code ≠ 0 ∧ r.forced = false) := by decide +kernel

theorem witness_ConfigurationMessagesWriteItems_begin :
    takes serving 0x12 false (sent 0x12 [0]) = true ∧ Calm serving ∧ JournalFree serving ∧
    emptyGen { serving with otp.retired := List.replicate 4 5 } = none ∧ takes serving 0x12 false (sent 0x12 [1]) = true ∧ emptyGen serving = some 0 ∧ otpLimitsOk serving = true ∧
    (encodeGen (commitList serving)).isSome = true ∧
    takes standby 0x03 true (sent 0x03 [Word.of (pstateCode standby)]) = true ∧
    takes standby 0x03 true (sent 0x03 [5]) = true ∧ powerCheck standby 5 [] [] = none ∧ Calm (goTo .activeH standby).1 ∧
    (goTo .activeH standby).2 = none ∧ takes standby 0x03 true (sent 0x03 [2]) = true ∧
    (powerCheck standby 2 [] []).isSome = true ∧ standby.power.op = .opL ∧ standby.bist.slice = none ∧
    takes standby 0x04 true (sent 0x04 [0]) = true ∧ takes standby 0x04 true (sent 0x04 [Word.of (ownAddr standby)]) = true ∧ ownAddr standby < 64 ∧
    (∀ g, g < 4 → genState standby g ≠ 1) ∧ standby.power.retained = [] := by decide +kernel

theorem witness_ConfigurationMessagesWriteItems_settings :
    takes standby 0x20 true (sent 0x20 [0x1FF, 2]) = true ∧ maskAbsent standby 0x0101 0x1FF = false ∧
    (setItems (cmdCtx standby 0x20 0) (convList (sent 0x20 [0x1FF, 2])) standby).st.code = 0 ∧
    (setItems (cmdCtx standby 0x20 0) (convList (sent 0x20 [0x1FF, 0x0E])) standby).st.code ≠ 0 ∧
    maskAbsent small 0x0101 0x00FFFFFF = true ∧ takes small 0x20 true (sent 0x20 [0x00FFFFFF, 2]) = true ∧
    takes standby 0x20 true (sent 0x20 [0x02000000, 0]) = true ∧ maskAbsent standby 0x0101 0x02000000 = false ∧
    takes standby 0x30 true (sent 0x30 [0x3000003, 0x00C8012C, 3, 0x0FFF0001]) = true ∧
    maskAbsent standby 0x0301 0x3000003 = false ∧
    (setItems (cmdCtx standby 0x30 0) (windowList (sent 0x30 [0x3000003, 0x00C8012C, 3, 0x0FFF0001])) standby).st.code = 0 ∧
    (setItems (cmdCtx standby 0x30 0) (windowList (sent 0x30 [0x3000003, 0x012C00C8, 3, 0x0FFF0001])) standby).st.code ≠ 0 ∧
    maskAbsent small 0x0301 0x3FFFFFF = true := by decide +kernel

theorem witness_MeasurementMessagesReadAndArm_plans : Calm standby ∧ JournalFree standby ∧ standby.conv.caps.length = 4 ∧
    (let m := sent 0x21 [1, 0, 0x40000000, 0x00010000, 0x9000000F]
     takes standby 0x21 true m = true ∧ bf (req m 1) 0 5 = 1 ∧ (planCheck standby m (planForm standby m)).isNone = true) ∧
    Calm converting ∧ takes converting 0x21 true (sent 0x21 [0x50000000, 0]) = true ∧
    takes converting 0x21 true (sent 0x21 [0x90000000, 0]) = true ∧
    takes recorded 0x22 false (sent 0x22 [0x0100000F]) = true ∧ maskAbsent recorded 0x0101 0x0100000F = false ∧
    recorded.conv.visSince = true ∧ (latestRec recorded).isSome = true ∧ recorded.eng.statsRes = none ∧ standby.conv.visSince = false ∧
    takes recorded 0x23 false (sent 0x23 [0, 0x8100000F, 5]) = true ∧ (recOf recorded 0).isSome = true ∧
    granted recorded 5 1 = true ∧ Calm recorded ∧ granted crowded 5 1 = false ∧ JournalFree crowded := by decide +kernel

theorem witness_MeasurementMessagesReadAndArm_refused :
    (let m := sent 0x21 [1, 0, 0x40000000, 0x00010000, 0xC0000010]
     takes standby 0x21 true m = true ∧ (planCheck standby m (planForm standby m)).isSome = true) ∧
    takes standby 0x21 true (sent 0x21 [0x40000000, 5]) = true ∧ reservedSet (sent 0x21 [0x40000000, 5]) = false ∧
    takes small 0x22 false (sent 0x22 [0x00FFFFFF]) = true ∧ maskAbsent small 0x0101 0x00FFFFFF = true ∧
    takes recorded 0x22 false (sent 0x22 [0x02000000]) = true ∧ takes recorded 0x23 false (sent 0x23 [0, 0, 4]) = true ∧
    takes small 0x23 false (sent 0x23 [0, 0x00FFFFFF, 4]) = true ∧ Calm crowded := by decide +kernel

theorem witness_MeasurementMessagesReadAndArm_captures :
    (let m := sent 0x24 [0x03000045, 10, 20]
     takes armed 0x24 false m = true ∧ armCheck armed m = none ∧ bf (req m 1) 30 2 = 0 ∧ capTrig m = 3 ∧
       [0, 1, 2, 3].find? (fun c => (capAt armed c).state == 0) = some 0) ∧
    capAbsent armed (sent 0x24 [0x03000045, 10, 20]) = false ∧ capAbsent small (sent 0x24 [0x0300007B, 1, 2]) = true ∧
    takes small 0x24 false (sent 0x24 [0x0300007B, 1, 2]) = true ∧ takes armed 0x24 false (sent 0x24 [0xC0000000, 0, 0]) = true ∧
    takes armed 0x24 false (sent 0x24 [0, 0, 0]) = true ∧ (armCheck armed (sent 0x24 [0, 0, 0])).isSome = true ∧
    Calm armed ∧ armed.conv.caps.length = 4 ∧ (capAt armed 1).state = 1 ∧
    takes armed 0x24 false (sent 0x24 [0x50000000, 0, 0]) = true ∧ takes armed 0x24 false (sent 0x24 [0x90000000, 0, 0]) = true ∧
    bf (0x50000000 : Word) 30 2 = 1 ∧ bf (0x50000000 : Word) 28 2 = 1 ∧ (capAt standby 1).state = 0 ∧
    takes standby 0x28 true (sent 0x28 [2, 0x01000000, 0]) = true ∧ entrySrc 0x01000000 ≤ 0x0F ∧ auxSlotsNeed standby ≤ 2 ∧
    takes standby 0x28 true (sent 0x28 [1, 1]) = true ∧ takes small 0x28 true (sent 0x28 [1, 0x4E000000]) = true ∧
    cellPresent small 24 = false ∧ (let d := { standby with tb.slots := standby.tb.slots.set 0 (some { Slot.reset with action := 2, arg := 3 }) }
     Calm d ∧ JournalFree d ∧ auxSlotsNeed d = 4 ∧ takes d 0x28 true (sent 0x28 [0]) = true) ∧
    takes sequencing 0x29 false (sent 0x29 [3, 0]) = true ∧ (auxTableSet sequencing).length = 7 ∧
    takes sequencing 0x29 false (sent 0x29 [3, 0x80000000]) = true := by decide +kernel

theorem witness_BalancingAndImpedanceMessages_lists : Calm planned ∧ JournalFree planned ∧ planned.bal.duty.length = 24 ∧
    planned.bal.owner.length = 24 ∧ planned.bal.plans.length = 24 ∧ planned.bal.q.length = 24 ∧ planned.banks.length = 4 ∧
    (let m := sent 0x38 [5, 100, 0]
     takes planned 0x38 false m = true ∧ setDuties m = [(1, 100), (3, 0)] ∧ balCheck planned m (setDuties m) false = none) ∧
    (let m := sent 0x38 [5, 100, 257]
     takes planned 0x38 false m = true ∧ (balCheck planned m (setDuties m) false).isSome = true) ∧
    (let m := sent 0x39 [1, 0, 0, 0]; takes planned 0x39 false m = true ∧ planFieldBad m 0 = true) ∧
    (let m := sent 0x3A [2, 5]; takes driving 0x3A false m = true ∧ (activeCheck driving m (activeList m)).isSome = true) ∧
    (let m := sent 0x39 [2, 0x00200DAC, 5000, 60]
     takes planned 0x39 false m = true ∧ (balCells m).zipIdx = [(2, 0)] ∧ planFieldBad m 0 = false ∧
       balCheck planned m [(2, (planOf m 0).1)] false = none) ∧
    Calm driving ∧ driving.banks.length = 4 ∧
    (let m := sent 0x3A [3, 0, 0xFE0C]
     takes driving 0x3A false m = true ∧ activeList m = [(0, 0), (1, -500)] ∧ activeCheck driving m (activeList m) = none) ∧
    Calm small ∧ takes small 0x3A false (sent 0x3A [1, 0]) = true ∧ small.part.hasBanks = false := by decide +kernel

theorem witness_BalancingAndImpedanceMessages_eis : standby.part.freqs ≠ 0 ∧
    takes standby 0x40 true (sent 0x40 [0, 0, 0, 0]) = true ∧ eisSource (sent 0x40 [0, 0, 0, 0]) = 0 ∧
    takes small 0x40 true (sent 0x40 [0, 0, 0, 0]) = true ∧ small.part.freqs = 0 ∧
    takes standby 0x41 false (sent 0x41 [0x03000005]) = true ∧ takes standby 0x41 false (sent 0x41 [0xFFFFFFFF]) = true := by decide +kernel

theorem witness_BalancingAndImpedanceMessages_plan : takes exciting 0x40 true exciteMsg = true ∧ eisNfreq exciteMsg = 1 ∧
    eisSource exciteMsg = 3 ∧ (eisCheck exciting exciteMsg (eisForm exciteMsg)).isNone = true ∧ Calm exciting := by decide +kernel

theorem tableMsg_crc : crc32 (msgWords 0x42 tableMsg).dropLast = tableMsg.crc := by
  have e : (msgWords 0x42 tableMsg).dropLast.map BitVec.toNat =
      ((msgWords 0x42 tableMsg).take 7).map BitVec.toNat ++ (((msgWords 0x42 tableMsg).drop 7).take 7).map BitVec.toNat ++
        (((msgWords 0x42 tableMsg).drop 14).take 5).map BitVec.toNat := by decide +kernel
  have h1 : (((msgWords 0x42 tableMsg).take 7).map BitVec.toNat).foldl (fun r v => crcBits 32 0x04C11DB7 32 v r) 0xFFFFFFFF =
      571595260 := by decide +kernel
  have h2 : ((((msgWords 0x42 tableMsg).drop 7).take 7).map BitVec.toNat).foldl (fun r v => crcBits 32 0x04C11DB7 32 v r) 571595260 =
      1060162315 := by decide +kernel
  have h3 : ((((msgWords 0x42 tableMsg).drop 14).take 5).map BitVec.toNat).foldl (fun r v => crcBits 32 0x04C11DB7 32 v r) 1060162315 =
      3356173426 := by decide +kernel
  rw [crc32, crcList, e, List.foldl_append, List.foldl_append, h1, h2, h3]
  decide

theorem witness_BalancingAndImpedanceMessages_table : takes standby 0x42 true tableMsg = true ∧
    (tablePoints tableMsg.body).Pairwise (fun x y => x.1 < y.1) ∧
    (tablePoints tableMsg.body).all (fun x => decide (-5000 ≤ x.2) && decide (x.2 ≤ 15000)) = true := by
  unfold takes
  rw [tableMsg_crc]
  decide +kernel

theorem image_signed : kerSigned image (some keyHash) = true := by decide +kernel

theorem witness_EngineAndRingMessages_staging : Calm standby ∧ JournalFree standby ∧ standby.eng.kernels.length = 4 ∧
    standby.fault.otpBad = [] ∧ standby.otp.bad = [] ∧ Calm staging ∧ staging.eng.kernels.length = 4 ∧
    takes standby 0x48 true (sent 0x48 [0x01400000, 41]) = true ∧ bf (0x01400000 : Word) 24 8 = 1 ∧ bf (0x01400000 : Word) 22 2 = 1 ∧
    (kernelAt standby 1).loaded = false ∧ takes (kernelled true) 0x48 true (sent 0x48 [0x01000000, 41]) = true ∧
    (kernelAt (kernelled true) 0).loaded = true ∧ takes staging 0x48 true (sent 0x48 [0x02400004, 7, 8]) = true ∧
    (kernelAt staging 1).staging = some 41 ∧ takes staging 0x48 true (sent 0x48 [0x02400028, 7, 8]) = true ∧
    takes staging 0x48 true (sent 0x48 [0x02000000]) = true ∧ (kernelAt staging 0).staging = none ∧
    takes staging 0x48 true (sent 0x48 [0x05000000]) = true ∧ takes staging 0x48 true (sent 0x48 [0x02410000]) = true ∧
    kerLen (sent 0x48 [0x02410000]) = true := by decide +kernel

theorem witness_EngineAndRingMessages_end : takes staging 0x48 true (sent 0x48 [0x03400000]) = true ∧
    kerImage (kernelAt staging 1) = some image ∧ kerBad staging image = false ∧
    (kerHash (bf (nth image 1 0) 16 8) staging).2 = some keyHash ∧
    (kerHash (bf (nth image 1 0) 16 8) { staging with otp.vendorHash := none }).2 = none ∧ kerSigned image none = false ∧
    (kerImage (kernelAt standby 1)).isNone = true := by
  refine ⟨by decide +kernel, by decide +kernel, by decide +kernel, by decide +kernel, by decide +kernel, rfl, by decide +kernel⟩

theorem witness_EngineAndRingMessages_unload : takes (kernelled true) 0x48 true (sent 0x48 [0x04000000]) = true ∧
    Calm (kernelled true) ∧ kernelRuns (kernelled true) 0x80 = true ∧ kernelRuns (kernelled false) 0x80 = false ∧
    ((kernelled false).eng.pool.map (fun x => x.id)).Nodup ∧
    (kernelAt (kernelled false) 0).loaded = true ∧ takes standby 0x48 true (sent 0x48 [0x04000000]) = true ∧
    takes standby 0x49 false (sent 0x49 [0]) = true ∧ takes standby 0x49 false (sent 0x49 [1]) = true := by decide +kernel

theorem witness_EngineAndRingMessages_limits : kerBad burdened image = true ∧ Calm burdened ∧ JournalFree burdened ∧
    burdened.eng.kernels.length = 4 ∧ takes burdened 0x48 true (sent 0x48 [0x03400000]) = true ∧
    takes standby 0x48 true (sent 0x48 [0x03400001]) = true ∧ takes standby 0x48 true (sent 0x48 [0x04000001]) = true ∧
    takes standby 0x49 false (sent 0x49 [2]) = true := by decide +kernel

theorem witness_EngineAndRingMessages_ring : Calm leading ∧ isHead leading = true ∧ leading.ring.stat = .closed ∧
    leading.head.tunnel = [] ∧ leading.host.remote = none ∧ leading.host.outst = [] ∧ leading.head.ringFrames = [] ∧
    takes leading 0x50 false (sent 0x50 [0]) = true ∧ takes (enumerating 1) 0x50 false (sent 0x50 [0]) = true ∧
    takes { leading with ring.stat := .conflict } 0x50 false (sent 0x50 [0]) = true ∧
    takes leading 0x50 false (sent 0x50 [1]) = true ∧ takes leading 0x51 false (sent 0x51 [3]) = true ∧ leading.ring.map.length = 63 ∧
    takes leading 0x51 false (sent 0x51 [0]) = true ∧ takes reserving 0x51 false (sent 0x51 [0x401]) = true ∧ Calm reserving ∧
    (mapAt reserving 4).reserved = true ∧ (mapAt leading 4).reserved = false ∧ takes leading 0x51 false (sent 0x51 [2]) = true := by decide +kernel

theorem witness_FaultAndServiceMessages_faults : Calm standby ∧ JournalFree standby ∧ standby.fault.esc.length = 128 ∧
    (∀ i, i < 128 → escReaction standby i ≠ 5) ∧
    (let m := sent 0x58 [2, 0x53050002, 5, 0x5E030005, 9]
     takes standby 0x58 true m = true ∧ bf (req m 1) 0 8 = 2 ∧ escReserved m = false ∧
       (escList m).any (fun x => srcAbsent standby.part (x.1.toNat - 0x0800)) = false ∧
       (setItems (cmdCtx standby 0x58 0) (escList m) standby).st.code = 0 ∧ fcopyCheck standby m = none ∧
       (setItems (cmdCtx standby 0x58 0) (escList m) standby).dev.jrn.q27.length ≤ 500) ∧
    Calm messaged ∧ messaged.fault.esc.length = 128 ∧ takes messaged 0x59 false (sent 0x59 [0x80000341]) = true ∧
    bf (0x80000341 : Word) 8 7 = 3 ∧ bf (0x80000341 : Word) 0 7 = 0x41 ∧ takes messaged 0x59 false (sent 0x59 [0x41]) = true := by decide +kernel

theorem witness_FaultAndServiceMessages_refused :
    (let m := sent 0x58 [1, 0x53000002, 5]
     takes standby 0x58 true m = true ∧ (setItems (cmdCtx standby 0x58 0) (escList m) standby).st.code ≠ 0) ∧
    (let m := sent 0x58 [1, 0x2A050002, 5]
     takes small 0x58 true m = true ∧ (escList m).any (fun x => srcAbsent small.part (x.1.toNat - 0x0800)) = true) ∧
    (let m := sent 0x58 [1, 0x53050012, 5]; takes standby 0x58 true m = true ∧ escReserved m = true) ∧
    (let d := { standby with pins.gpioOwner := [0, 0, 2, 0] }; let m := sent 0x58 [0x100]
     Calm d ∧ takes d 0x58 true m = true ∧ (fcopyCheck d m).isSome = true ∧
       (setItems (cmdCtx d 0x58 0) (escList m) d).st.code = 0) ∧
    takes serving 0x5A false (sent 0x5A [0, 0]) = true ∧ (injectCheck serving (sent 0x5A [0, 0])).isSome = true ∧
    takes standby 0x5D false (sent 0x5D [2]) = true ∧ takes standby 0x61 false (sent 0x61 [0x10001]) = true ∧
    takes standby 0x61 false (sent 0x61 [3]) = true ∧
    (let d := { standby with sess := { standby.sess with failRun := 3 } }; Calm d ∧ authWait d = true) := by decide +kernel

theorem witness_FaultAndServiceMessages_inject : Calm serving ∧ serving.sess.isOpen = true ∧ serving.fault.inject = [] ∧
    ([(0x00030003, 0), (0x00010004, 0), (0x00020105, 16), (0x00020101, 16)] : List (Nat × Nat)).all (fun x =>
      takes serving 0x5A false (sent 0x5A [Word.of x.1, Word.of x.2]) &&
        (injectCheck serving (sent 0x5A [Word.of x.1, Word.of x.2])).isNone) = true ∧
    serving.jrn.q27 = [] ∧ serving.fault.esc.length = 128 := by decide +kernel

theorem witness_FaultAndServiceMessages_answer : rightMac challenged [1, 2, 3, 4] [] = some rightWords := by decide +kernel

theorem witness_FaultAndServiceMessages_rest :
    takes standby 0x5C true (sent 0x5C [60, 3, 1000]) = true ∧
    (setItems (cmdCtx standby 0x5C 0) [(0x0901, 60), (0x0902, 3), (0x0903, 1000)] standby).st.code = 0 ∧
    (setItems (cmdCtx standby 0x5C 0) [(0x0901, 60), (0x0902, 33), (0x0903, 1000)] standby).st.code ≠ 0 ∧
    takes standby 0x5D false (sent 0x5D [0]) = true ∧ takes standby 0x5D false (sent 0x5D [1]) = true ∧
    takes waitingEntry 0x60 false (sent 0x60 [0, 5]) = true ∧ Calm waitingEntry ∧ waitingEntry.fault.sramBad = [] ∧
    takes standby 0x60 false (sent 0x60 [0, 42]) = true ∧
    takes standby 0x61 false (sent 0x61 [0x1201]) = true ∧ bf (0x1201 : Word) 0 2 = 1 ∧ standby.sess.isOpen = false ∧
    authWait standby = false ∧ takes serving 0x61 false (sent 0x61 [0x1201]) = true ∧ Calm challenged := by decide +kernel

theorem witness_FaultAndServiceMessages_macs :
    takes challenged 0x61 false (sent 0x61 (2 :: rightWords)) = true ∧ challenged.sess.nonce = some [1, 2, 3, 4] ∧
    rightWords ≠ List.replicate 8 0 ∧ takes challenged 0x61 false (sent 0x61 (2 :: List.replicate 8 0)) = true ∧
    standby.sess.nonce = none ∧ takes challenged 0x61 false (sent 0x61 (6 :: rightWords)) = true ∧ takes serving 0x62 false (sent 0x62 []) = true ∧ takes standby 0x62 false (sent 0x62 []) = true := by decide +kernel

theorem witness_RingStatusAnswersTheMap : Calm leading ∧ takes leading 0x52 false (sent 0x52 []) = true ∧ isHead leading = true ∧
    takes leading 0x52 false (sent 0x52 [0]) = true ∧ Calm enrolled ∧ takes enrolled 0x52 false (sent 0x52 []) = true ∧
    isHead enrolled = false := by decide +kernel

theorem witness_ReceivingPortStaysEnabled : Calm enrolled ∧ awake enrolled = true ∧ isHead enrolled = false ∧
    headSide enrolled = some .A ∧ Port.B ≠ .A ∧ portEnabled enrolled .A = true := by decide +kernel

theorem witness_LevelsFollowTheState : LevelsHold State.reset.toDev := by
  refine ⟨?_, ?_, ?_, ?_, ?_, ?_, ?_, ?_, ?_, ?_, ?_, ?_, ?_, ?_, fun _ => ⟨?_, ?_, ?_, ?_, ?_⟩⟩ <;> decide +kernel

end Sys2Proof.Tests
end

section
/-! PROOF. What a write to LINK_CTRL does to the enables, to EN_REFUSED and to the counters, and what it leaves as it was
(11_burza_link.md R354, R355). -/

namespace Sys2Proof.Proofs

open Sys2Proof Sys2Proof.Machine Sys2Proof.Safety Sys2Proof.Laws

/-! ## The frame of a write -/

/-- b is a but for the link block and the entries in Q27 (R354, R355, R517). -/
def LinkWrite (a b : Dev) : Prop := b = { a with jrn := { a.jrn with q27 := b.jrn.q27 }, link := b.link }

theorem linkWrite_refl (a : Dev) : LinkWrite a a := rfl

theorem linkWrite_trans {a b c : Dev} (hab : LinkWrite a b) (hbc : LinkWrite b c) : LinkWrite a c := by
  unfold LinkWrite at hab hbc ⊢
  rw [hab] at hbc
  exact hbc

theorem linkWrite_fieldEntry (src : Source) (a m : Nat) (old new : Word) (d : Dev) :
    LinkWrite d (fieldEntry src a m old new d) := by
  unfold fieldEntry jchange
  split
  · exact linkWrite_refl d
  · rfl

@[simp] theorem fieldEntry_link (src : Source) (a m : Nat) (old new : Word) (d : Dev) :
    (fieldEntry src a m old new d).link = d.link := by
  unfold fieldEntry jchange
  split <;> rfl

theorem receivePort_of_linkWrite {a b : Dev} (h : LinkWrite a b) : receivePort b = receivePort a := by
  rw [h]; rfl

theorem calm_of_linkWrite {a b : Dev} (h : LinkWrite a b) (hc : Calm a) : Calm b :=
  calm_of_eq hc (by rw [h]) (by rw [h]) (by rw [h]) (by rw [h])

/-- The frame of a write carries over to what settles after it. -/
theorem beside_of_linkWrite {a b t : Dev} (h : LinkWrite a b) (ht : Beside b t) :
    Beside { a with jrn := { a.jrn with q27 := t.jrn.q27 }, link := t.link } t := by
  obtain ⟨hbanks, ht⟩ := ht
  have hq : t.jrn = b.jrn := by rw [ht]
  unfold LinkWrite at h
  refine ⟨by rw [hbanks, h], ?_⟩
  rw [hq]
  rw [h] at ht
  rw [ht]

/-! ## One enable -/

/-- The link block with the enable of port p at v; a disabled port leaves lock (R45, R354). -/
def linkEnable (v : Bool) (l : Link) : Port → Link
  | .A => { l with enA := v, lockA := l.lockA && v }
  | .B => { l with enB := v, lockB := l.lockB && v }

/-- A write that would disable the enabled receiving port only sets EN_REFUSED (R355). -/
theorem writeEnable_refused {src : Source} {p : Port} {w : Word} {d : Dev} (hr : receivePort d = some p)
    (he : portEnabled d p = true) (hw : bit w p.num = false) :
    writeEnable src p w d = { d with link := { d.link with enRefused := true } } := by
  simp [writeEnable, hr, he, hw]

/-- Elsewhere the enable takes its bit (R354). -/
theorem writeEnable_taken {src : Source} {p : Port} {w : Word} {d : Dev}
    (h : bit w p.num = true ∨ receivePort d ≠ some p) :
    (writeEnable src p w d).link = linkEnable (bit w p.num) d.link p ∧ LinkWrite d (writeEnable src p w d) := by
  have hn : (!bit w p.num && portEnabled d p && receivePort d == some p) = false := by
    rcases h with h | h <;> simp [h]
  have hf := linkWrite_fieldEntry src 0x40 (2 ^ p.num) (Word.of (b2n (portEnabled d p) * 2 ^ p.num)) w d
  unfold writeEnable
  simp only [hn, Bool.false_eq_true, if_false]
  cases p <;> cases hb : bit w _ <;>
    exact ⟨by simp [setLock, linkEnable], linkWrite_trans hf rfl⟩

@[simp] theorem linkEnable_enRefused (v : Bool) (l : Link) (p : Port) : (linkEnable v l p).enRefused = l.enRefused := by
  cases p <;> rfl

/-- The counters of the link block stay (R354). -/
def SameCounts (a b : Dev) : Prop :=
  b.link.crcCnt = a.link.crcCnt ∧ b.link.violCnt = a.link.violCnt ∧ b.link.retryCnt = a.link.retryCnt

theorem sameCounts_linkEnable {a b : Dev} {v : Bool} {p : Port} (h : b.link = linkEnable v a.link p) : SameCounts a b := by
  unfold SameCounts
  rw [h]
  cases p <;> exact ⟨rfl, rfl, rfl⟩

theorem sameCounts_trans {a b c : Dev} (hab : SameCounts a b) (hbc : SameCounts b c) : SameCounts a c := by
  obtain ⟨hcrc, hviol, hretry⟩ := hab
  obtain ⟨hcrc', hviol', hretry'⟩ := hbc
  exact ⟨hcrc'.trans hcrc, hviol'.trans hviol, hretry'.trans hretry⟩

theorem portEnabled_linkEnable {a b : Dev} {v : Bool} {p : Port} (h : b.link = linkEnable v a.link p) :
    portEnabled b p = v := by
  cases p <;> simp [portEnabled, h, linkEnable]

theorem ports_of_ne {p q : Port} (h : q ≠ p) : p = .A ∧ q = .B ∨ p = .B ∧ q = .A := by
  revert p q
  rintro (_ | _) (_ | _) <;> decide

theorem portEnabled_linkEnable_ne {a b : Dev} {v : Bool} {p q : Port} (h : b.link = linkEnable v a.link p) (hq : q ≠ p) :
    portEnabled b q = portEnabled a q := by
  obtain ⟨rfl, rfl⟩ | ⟨rfl, rfl⟩ := ports_of_ne hq <;> simp [portEnabled, h, linkEnable]

/-- The receiving port's own enable in a write: it stays, and EN_REFUSED tells of a 0 (R355). -/
theorem writeEnable_receiving {src : Source} {p q : Port} {w : Word} {d : Dev} (hr : receivePort d = some p) (hq : q ≠ p)
    (he : portEnabled d p = true) :
    portEnabled (writeEnable src p w d) p = true ∧
    portEnabled (writeEnable src p w d) q = portEnabled d q ∧
    (writeEnable src p w d).link.enRefused = (d.link.enRefused || !bit w p.num) ∧
    SameCounts d (writeEnable src p w d) ∧ LinkWrite d (writeEnable src p w d) := by
  cases hw : bit w p.num with
  | false =>
    rw [writeEnable_refused hr he hw]
    refine ⟨?_, ?_, by simp, ⟨rfl, rfl, rfl⟩, rfl⟩
    · rw [← he]; cases p <;> rfl
    · cases q <;> rfl
  | true =>
    obtain ⟨hl, hf⟩ := writeEnable_taken (src := src) (.inl hw)
    refine ⟨(portEnabled_linkEnable hl).trans hw, portEnabled_linkEnable_ne hl hq, ?_, sameCounts_linkEnable hl, hf⟩
    simp [hl]

/-- The other port's enable in a write: it takes its bit (R355). -/
theorem writeEnable_other {src : Source} {p q : Port} {w : Word} {d : Dev} (hr : receivePort d = some p) (hq : q ≠ p) :
    portEnabled (writeEnable src q w d) p = portEnabled d p ∧
    portEnabled (writeEnable src q w d) q = bit w q.num ∧
    (writeEnable src q w d).link.enRefused = d.link.enRefused ∧
    SameCounts d (writeEnable src q w d) ∧ LinkWrite d (writeEnable src q w d) := by
  have hn : receivePort d ≠ some q := by
    rw [hr]
    exact fun h => hq (Option.some.inj h).symm
  obtain ⟨hl, hf⟩ := writeEnable_taken (src := src) (w := w) (.inr hn)
  exact ⟨portEnabled_linkEnable_ne hl hq.symm, portEnabled_linkEnable hl, by simp [hl], sameCounts_linkEnable hl, hf⟩

/-! ## The whole write -/

/-- e is d after both enables of a write are done where port p receives and q is the other port (R355): p stays enabled, q
takes its bit, EN_REFUSED tells of p's 0; the counters stay, and nothing but the link block and Q27 changes. -/
def EnablesWritten (p q : Port) (w : Word) (d e : Dev) : Prop :=
  portEnabled e p = true ∧ portEnabled e q = bit w q.num ∧ e.link.enRefused = (d.link.enRefused || !bit w p.num) ∧
    SameCounts d e ∧ LinkWrite d e

section Receiving
variable {src : Source} {p q : Port} {w : Word} {d : Dev} (hr : receivePort d = some p) (hq : q ≠ p)
  (he : portEnabled d p = true)
include hr hq he

theorem enablesWritten_receivingFirst : EnablesWritten p q w d (writeEnable src q w (writeEnable src p w d)) := by
  obtain ⟨hp1, -, hr1, hc1, hf1⟩ := writeEnable_receiving (src := src) (w := w) hr hq he
  obtain ⟨hp2, hq2, hr2, hc2, hf2⟩ :=
    writeEnable_other (src := src) (w := w) ((receivePort_of_linkWrite hf1).trans hr) hq
  exact ⟨hp2.trans hp1, hq2, hr2.trans hr1, sameCounts_trans hc1 hc2, linkWrite_trans hf1 hf2⟩

theorem enablesWritten_receivingLast : EnablesWritten p q w d (writeEnable src p w (writeEnable src q w d)) := by
  obtain ⟨hp1, hq1, hr1, hc1, hf1⟩ := writeEnable_other (src := src) (w := w) hr hq
  obtain ⟨hp2, hq2, hr2, hc2, hf2⟩ :=
    writeEnable_receiving (src := src) (w := w) ((receivePort_of_linkWrite hf1).trans hr) hq (hp1.trans he)
  exact ⟨hp2, hq2.trans hq1, by rw [hr2, hr1], sameCounts_trans hc1 hc2, linkWrite_trans hf1 hf2⟩

/-- LINK_CTRL writes port A's enable before port B's, whichever of them receives. -/
theorem enablesWritten_inOrder : EnablesWritten p q w d (writeEnable src .B w (writeEnable src .A w d)) := by
  obtain ⟨rfl, rfl⟩ | ⟨rfl, rfl⟩ := ports_of_ne hq
  · exact enablesWritten_receivingFirst hr hq he
  · exact enablesWritten_receivingLast hr hq he

end Receiving

/-- CLR_CNT clears the counters and nothing else (R354). -/
theorem whenDo_clearLinkCounts (b : Bool) (d : Dev) :
    let e := whenDo b clearLinkCounts d
    (b = true → e.link.crcCnt = 0 ∧ e.link.violCnt = 0 ∧ e.link.retryCnt = 0) ∧ (b = false → SameCounts d e) ∧
      e.link.enRefused = d.link.enRefused ∧ (∀ p, portEnabled e p = portEnabled d p) ∧ LinkWrite d e := by
  cases b with
  | false => exact ⟨nofun, fun _ => ⟨rfl, rfl, rfl⟩, rfl, fun _ => rfl, rfl⟩
  | true => exact ⟨fun _ => ⟨rfl, rfl, rfl⟩, nofun, rfl, fun p => by cases p <;> rfl, rfl⟩

/-- A write to LINK_CTRL where the enabled port p receives the head's frames (R354, R355). -/
theorem writeLinkCtrl_receiving {src : Source} {p q : Port} {w : Word} {d : Dev} (hr : receivePort d = some p) (hq : q ≠ p)
    (he : portEnabled d p = true) :
    let e := writeLinkCtrl src w d
    portEnabled e p = true ∧ portEnabled e q = bit w q.num ∧ e.link.enRefused = (d.link.enRefused || !bit w p.num) ∧
      (bit w 2 = true → e.link.crcCnt = 0 ∧ e.link.violCnt = 0 ∧ e.link.retryCnt = 0) ∧
      (bit w 2 = false → SameCounts d e) ∧ LinkWrite d e := by
  obtain ⟨hclear, hkeep, hr0, he0, hf0⟩ := whenDo_clearLinkCounts (bit w 2) d
  obtain ⟨hp, hq', hr1, hc, hf⟩ := enablesWritten_inOrder (src := src) (w := w)
    ((receivePort_of_linkWrite hf0).trans hr) hq ((he0 p).trans he)
  refine ⟨hp, hq', by rw [← hr0]; exact hr1, fun h => ?_, fun h => sameCounts_trans (hkeep h) hc,
    linkWrite_trans hf0 hf⟩
  obtain ⟨hcrc, hviol, hretry⟩ := hc
  rw [writeLinkCtrl, hcrc, hviol, hretry]
  exact hclear h

/-! ## The command -/

/-- What settles after a command leaves the enables, EN_REFUSED and the counters. -/
theorem link_of_beside {a t : Dev} (h : Beside a t) : t.link = { a.link with unswept := t.link.unswept } := by
  obtain ⟨-, h⟩ := h
  exact congrArg Dev.link h

theorem portEnabled_of_beside {a t : Dev} (h : Beside a t) (p : Port) : portEnabled t p = portEnabled a p := by
  cases p <;> rw [portEnabled, link_of_beside h] <;> rfl

/-- A register frame's write acts on a member that is awake (R398). -/
theorem fromSource_frame_member {n : Nat} {f : Dev → Dev} {d : Dev} (ha : awake d = true) (hm : isHead d = false) :
    fromSource (.frame n) f d = f d := by
  simp [fromSource, atDevice, ha, hm]

/-- A command that only writes the link block and Q27 on a calm block: its effect is its function's and what settles. -/
theorem beside_effect_of_linkWrite {f : Dev → Dev} {d : Dev} (hc : Calm d) (h : LinkWrite d (f d)) :
    Beside (f d) (effect f d) :=
  beside_effect (calm_of_linkWrite h hc) (fun hs => by rw [h] at hs; exact hs)

/-- Settles O58: the head-side port is the receiving one of a member, the two enables are written one after the other, and
what settles afterwards leaves them. -/
theorem receivingPortStaysEnabled : Obligations.ReceivingPortStaysEnabled := by
  intro s p q n w hc ha hm hside hq he
  have hr : receivePort s.toDev = some p := by simpa [receivePort, hm] using hside
  obtain ⟨hp', hq', href, hclear, hkeep, hf⟩ := writeLinkCtrl_receiving (src := .frame n) (w := w) hr hq he
  have hrun := fromSource_frame_member (n := n) (f := writeLinkCtrl (.frame n) w) ha hm
  have hb := beside_effect_of_linkWrite hc (hrun.symm ▸ hf)
  rw [hrun] at hb
  have hl := link_of_beside hb
  refine ⟨_, rfl, rfl, (portEnabled_of_beside hb p).trans hp', (portEnabled_of_beside hb q).trans hq', ?_, ?_, ?_,
    beside_of_linkWrite hf hb⟩
  · rw [hl]; exact href
  · rw [hl]; exact hclear
  · rw [hl]; exact hkeep

end Sys2Proof.Proofs
end

section
/-! PROOF. What RING_STATUS answers: the words of its response are those of the ring registers and the map
(14_aeddo_command_reference.md R466, 12_ring_membership.md R392), and any other LENGTH than its own is refused (R427). -/

namespace Sys2Proof.Proofs

open Sys2Proof Sys2Proof.Machine Sys2Proof.Safety Sys2Proof.Laws

/-! ## A message of the wrong LENGTH -/

/-- LENGTH is the first of a command's own checks: what the command would do plays no part (R427). -/
theorem executeCmd_badLength {c : Cmd0} {m : Msg} {f : Dev → Ans} {d : Dev} (gap : Bool) (hl : c.lenOk m = false) :
    executeCmd c m f gap d = answer c.code m.seq.toNat (m.body.length + 2) m.quiet m.bcast gap stLENGTH [] d := by
  simp [executeCmd, firstFail, hl]

/-- A calm device that takes a message of a LENGTH that the command's layout does not have answers ERR_LENGTH (R427). -/
theorem replied_badLength {c : Cmd0} {m : Msg} {f : Dev → Ans} {s : State} {i : Instr} {b : Bool}
    (hi : exec i s = runDev s (runCmd c m f)) (ht : takes s.toDev c.code b m = true) (hc : Calm s.toDev)
    (hl : c.lenOk m = false) : Answers i s (Replied c.code m stLENGTH [] s.toDev) := by
  have hrun := (runCmd_takes (f := f) ht hc).trans (executeCmd_badLength false hl)
  obtain ⟨hreply, hcalm, hpower⟩ := sent_of_answer c.code m stLENGTH [] s.toDev _ rfl hc
  have heffect : effect (runCmd c m f) s.toDev = settle (runCmd c m f s.toDev) :=
    effect_calm (by rw [hrun]; exact hcalm) (by rw [hrun, hpower]; exact id)
  refine ⟨_, hi, rfl, ?_⟩
  show Replied c.code m stLENGTH [] s.toDev (effect (runCmd c m f) s.toDev)
  rw [heffect, hrun]
  exact hreply

/-! ## A command that only reads -/

/-- A command that files nothing in the journal needs no room in it (R520). -/
theorem journalRoom_self (d : Dev) : journalRoom d d = true := by
  simp [journalRoom]

/-- A command whose own part only gives data is answered OK with them, and nothing else changes. -/
theorem replied_read {c : Cmd0} {m : Msg} {f : Dev → Ans} {s : State} {i : Instr} {data : List Word}
    (hi : exec i s = runDev s (runCmd c m f)) (ht : takes s.toDev c.code c.bcast m = true) (hc : Calm s.toDev)
    (ha : admits c m s.toDev) (hf : f (counted m s.toDev) = okWith data (counted m s.toDev)) :
    Answers i s (Replied c.code m stOK data s.toDev) :=
  replied_ok hi ht hc ha hf hc id (journalRoom_self s.toDev)

/-! ## The words of the response -/

theorem b2n_mul (b : Bool) (n : Nat) : b2n b * n = if b then n else 0 := by
  cases b <;> simp [b2n]

@[simp] theorem regWord_ringStat (d : Dev) : regWord d 0x54 = ringStatReg d := by simp [regWord]
@[simp] theorem regWord_ringSelf (d : Dev) : regWord d 0x4C = ringSelfReg d := by simp [regWord]
@[simp] theorem regWord_ringDelay (d : Dev) : regWord d 0x50 = ringDelayReg d := by simp [regWord]

/-- RING_MAP reads the entry of the address that SEL names (R392). -/
theorem regWord_ringMap {d : Dev} (hh : isHead d = true) (a : Nat) :
    regWord { d with ring.sel := a } 0x48 = mapWord d a :=
  if_pos hh

/-- The RING_DELAY value last written to a member, field by field (R392, R466). -/
theorem writtenDelay_fields (d : Dev) (a : Nat) :
    writtenDelay d a = Word.of ((if (mapAt d a).vB then 2 ^ 31 else 0) + (mapAt d a).dB % 2 ^ 12 * 2 ^ 16 +
      (if (mapAt d a).vA then 2 ^ 15 else 0) + (mapAt d a).dA % 2 ^ 12) := by
  simp only [writtenDelay, delayWord, b2n_mul, Nat.reducePow]

/-- What RING_STATUS gives at the head (R466). -/
def headStatus (d : Dev) : List Word :=
  [ringStatReg d, ringSelfReg d, Word.of (d.ring.dRing % 4096)] ++
    ((List.range 62).map (· + 1)).flatMap (fun a => [mapWord d a, if a = 1 then 0 else writtenDelay d a])

/-- What RING_STATUS gives on a member (R466). -/
def memberStatus (d : Dev) : List Word := [ringSelfReg d, ringDelayReg d]

/-- The words of the head's answer are those of its registers, its map and the delays it wrote. -/
theorem headStatus_registers {d : Dev} (hh : isHead d = true) : headStatus d =
    [regWord d 0x54, regWord d 0x4C, Word.of (d.ring.dRing % 2 ^ 12)] ++
      ((List.range 62).map (· + 1)).flatMap (fun a =>
        [regWord { d with ring.sel := a } 0x48, if a = 1 then 0 else
          Word.of ((if (mapAt d a).vB then 2 ^ 31 else 0) + (mapAt d a).dB % 2 ^ 12 * 2 ^ 16 +
            (if (mapAt d a).vA then 2 ^ 15 else 0) + (mapAt d a).dA % 2 ^ 12)]) := by
  simp only [regWord_ringStat, regWord_ringSelf, regWord_ringMap hh, writtenDelay_fields, headStatus, Nat.reducePow]

theorem memberStatus_registers (d : Dev) : memberStatus d = [regWord d 0x4C, regWord d 0x50] := by
  simp only [memberStatus, regWord_ringSelf, regWord_ringDelay]

/-! ## The command -/

/-- What the table "Command summary" says of RING_STATUS (R433). -/
def ringStatusRow : Cmd0 := ⟨0x52, lenIs 2, false, false, false⟩

/-- RING_STATUS's own part (R466). -/
def ringStatusCmd (d : Dev) : Ans := if isHead d then okWith (headStatus d) d else okWith (memberStatus d) d

theorem exec_ringStatus (m : Msg) (s : State) :
    exec (.ringStatus m) s = runDev s (runCmd ringStatusRow m ringStatusCmd) := rfl

/-- RING_STATUS takes no body (R466). -/
theorem ringStatusRow_lenOk (m : Msg) : ringStatusRow.lenOk m = m.body.isEmpty := by
  cases h : m.body <;> simp [ringStatusRow, lenIs, h]

theorem ringStatusRow_admits {m : Msg} {d : Dev} (h : m.body = []) : admits ringStatusRow m d :=
  ⟨by rw [ringStatusRow_lenOk, h]; rfl, nofun, nofun⟩

/-- The SEQ of the message, which is counted first, is in none of the words. -/
theorem ringStatusCmd_head (m : Msg) {d : Dev} (hh : isHead d = true) :
    ringStatusCmd (counted m d) = okWith (headStatus d) (counted m d) :=
  if_pos hh

theorem ringStatusCmd_member (m : Msg) {d : Dev} (hm : isHead d = false) :
    ringStatusCmd (counted m d) = okWith (memberStatus d) (counted m d) :=
  if_neg (ne_true_of_eq_false hm)

/-- RING_STATUS on a calm device that takes it and gives data: it is answered OK with them and changes nothing else. -/
theorem replied_ringStatus {s : State} {m : Msg} {data : List Word} (hc : Calm s.toDev)
    (ht : takes s.toDev 0x52 false m = true) (hbody : m.body = [])
    (hf : ringStatusCmd (counted m s.toDev) = okWith data (counted m s.toDev)) :
    Answers (.ringStatus m) s (Replied 0x52 m stOK data s.toDev) :=
  replied_read (exec_ringStatus m s) ht hc (ringStatusRow_admits hbody) hf

/-- Settles O57: a body is refused by its LENGTH; without one the command only reads, and its words are the registers' on
the head and on a member. -/
theorem ringStatusAnswersTheMap : Obligations.RingStatusAnswersTheMap := by
  intro s m hc ht
  refine ⟨fun hbody => ?_, fun hbody hh => ?_, fun hbody hm => ?_⟩
  · exact replied_badLength (exec_ringStatus m s) ht hc (by simpa [ringStatusRow_lenOk] using hbody)
  · rw [← headStatus_registers hh]
    exact replied_ringStatus hc ht hbody (ringStatusCmd_head m hh)
  · rw [← memberStatus_registers s.toDev]
    exact replied_ringStatus hc ht hbody (ringStatusCmd_member m hm)

end Sys2Proof.Proofs
end

section
/-! PROOF. The levels follow the state after every step (13_host_port_and_mailboxes.md R403, 08_balancing.md R223 to R225, R238,
R242, 02_pins_and_package.md R38, R45, R47, 03_supply_power_clocks.md R86). -/

namespace Sys2Proof.Proofs

open Sys2Proof Sys2Proof.Machine Sys2Proof.Safety Sys2Proof.Laws

/-- Where every FET is held no FET conducts (R86). -/
theorem fetsNow_safe {d : Dev} (h : d.power.safeForced = true) : fetsNow d = 0 := by
  have hheld : ∀ n, fetHeld d n = true := fun n => by simp [fetHeld, h]
  simp [fetsNow, hheld, mof]

/-- In the safe state no bank driver runs (R86). -/
theorem bankDrives_safe {d : Dev} (h : d.power.safeForced = true) (b : Nat) : bankDrives d b = false := by
  simp [bankDrives, h]

theorem mbit_adG_settlePins (d : Dev) {b : Nat} (hb : b < 4) : mbit (settlePins d).pins.adG b = bankDrives d b :=
  mbit_mof_range4 (bankDrives d) b hb

theorem adGHigh_settlePins (d : Dev) : (settlePins d).pins.adGHigh =
    (List.range 4).map (fun b => if mbit (settlePins d).pins.adG b then pwmHigh (bank (settlePins d) b).applied else 0) := by
  apply List.map_congr_left
  intro b hb
  rw [mbit_adG_settlePins d (List.mem_range.mp hb)]
  rfl

theorem syncFloats_eq (d : Dev) :
    syncFloats d = decide (d.power.pstate = .off ∨ d.power.pstate = .ship ∨ d.power.pstate = .sleep) := by
  unfold syncFloats
  cases d.power.pstate <;> rfl

/-- The level of a GPIO pin is its function's (R47, R50). -/
theorem gpioLevel_settlePins (d : Dev) {p : Nat} (hp : p < 4) :
    mbit (settlePins d).pins.gpioLevel p = gpioNow (settlePins d) (p + 1) := by
  have hlevel : mbit (settlePins d).pins.gpioLevel p = gpioNow d (p + 1) :=
    mbit_mof_range4 (fun i => gpioNow d (i + 1)) p hp
  rw [gpioNow_settlePins d (p + 1) hlevel, hlevel]

theorem gpioHiZ_settlePins (d : Dev) {p : Nat} (hp : p < 4) :
    mbit (settlePins d).pins.gpioHiZ p = !gpioDriven (settlePins d) (p + 1) :=
  mbit_mof_range4 (fun i => !gpioDriven d (i + 1)) p hp

/-- In the safe state the pins are quiet once the FETs follow their holds (R86). -/
theorem quiet_settlePins {d : Dev} (hsb : d.pins.sb = fetsNow d) (h : d.power.safeForced = true) : Quiet (settlePins d) := by
  have hidle : ∀ p, driverIdle d p = true := fun p => by simp [driverIdle, h]
  have hdrives : bankDrives d = fun _ => false := funext (bankDrives_safe h)
  refine ⟨hsb.trans (fetsNow_safe h), ?_, ?_, hidle .A, hidle .B⟩
  · simp [settlePins, hdrives, mof]
  · simp [settlePins, hdrives]

/-- What settlePins sets holds after it; the FETs and the interlocks it finds so (R403, R45, R50, R242, R86). -/
theorem levelsHold_settlePins {d : Dev} (hsb : d.pins.sb = fetsNow d)
    (hlock : d.part.hasBanks = true → d.banks.length = 4 → ∀ b, b < 4 → (bank d b).interlock = bankLevels d b) :
    LevelsHold (settlePins d) := by
  unfold LevelsHold
  refine ⟨?_, ?_, ?_, ?_, ?_, ?_, ?_, ?_, ?_, ?_, ?_, ?_, ?_, ?_, ?_⟩
  · exact (alertNow_settlePins d).symm
  · exact hsb
  · exact fun b hb => mbit_adG_settlePins d hb
  · exact adGHigh_settlePins d
  · exact (driverIdle_settlePins d .A).symm
  · exact (driverIdle_settlePins d .B).symm
  · show (d.power.pstate == .off) = decide (d.power.pstate = .off)
    cases d.power.pstate <;> rfl
  · exact syncFloats_eq d
  · exact fun p hp => gpioLevel_settlePins d hp
  · exact fun p hp => gpioHiZ_settlePins d hp
  · intro hread
    exact (Bool.and_eq_true_iff.mp hread).2
  · exact (unsweptNow_settlePins d).symm
  · exact Nat.min_le_right d.eng.freeMin (freeCount d)
  · intro hbanks h4 b hb
    rw [bank_settlePins, bankLevels_settlePins]
    exact hlock hbanks h4 b hb
  · exact quiet_settlePins hsb

/-- The interlocks stay where neither the banks nor the comparators nor the part change. -/
theorem interlock_noteFallback {d : Dev} {b : Nat} (h : (bank d b).interlock = bankLevels d b) :
    (bank (noteFallback d) b).interlock = bankLevels (noteFallback d) b := by
  unfold noteFallback
  split
  · split
    · exact h
    · exact h
  · exact h

theorem part_banks_noteFallback (d : Dev) : (noteFallback d).part = d.part ∧ (noteFallback d).banks = d.banks := by
  unfold noteFallback
  split
  · split <;> exact ⟨rfl, rfl⟩
  · exact ⟨rfl, rfl⟩

theorem part_of_beside {a b : Dev} (h : Beside a b) : b.part = a.part := by rw [h.2]

theorem length_banks_of_beside {a b : Dev} (h : Beside a b) : b.banks.length = a.banks.length := by
  simpa using congrArg List.length h.1

/-- The interlocks follow the comparator levels once followInterlock has run (R242). -/
theorem interlock_followed (d : Dev) (hbanks : (noteFallback (followInterlock d)).part.hasBanks = true)
    (h4 : (noteFallback (followInterlock d)).banks.length = 4) {b : Nat} (hb : b < 4) :
    (bank (noteFallback (followInterlock d)) b).interlock = bankLevels (noteFallback (followInterlock d)) b := by
  obtain ⟨hpart, hlist⟩ := part_banks_noteFallback (followInterlock d)
  have hfollow := beside_followInterlock d
  refine interlock_noteFallback (followInterlock_follows d ?_ ?_ b hb)
  · rw [← part_of_beside hfollow, ← hpart]
    exact hbanks
  · rw [← length_banks_of_beside hfollow, ← hlist]
    exact h4

/-- The FETs and the notes of the window, once the interlocks follow, leave the levels to the pins. -/
theorem levelsHold_settleFets {d : Dev}
    (hlock : d.part.hasBanks = true → d.banks.length = 4 → ∀ b, b < 4 → (bank d b).interlock = bankLevels d b) :
    LevelsHold (settlePins (noteWindow (settleFets d))) := by
  refine levelsHold_settlePins ?_ hlock
  rw [sb_noteWindow, sb_settleFets, fetsNow_noteWindow, fetsNow_settleFets]

/-- Whatever a command did, the levels follow after it. -/
theorem levelsHold_settle (d : Dev) : LevelsHold (settle d) :=
  levelsHold_settleFets fun hbanks h4 _ hb => interlock_followed (grantTransfers d) hbanks h4 hb

/-- Where the core die does not run a cycle passes without a change of levels (log 2). -/
theorem levelsHold_now {d : Dev} (n : Nat) (h : LevelsHold d) : LevelsHold { d with now := n } := h

theorem levelsHold_idleTick {d : Dev} (h : LevelsHold d) : LevelsHold (idleTick d) := by
  unfold idleTick
  split
  · exact levelsHold_settle _
  · exact levelsHold_now _ h

/-- Settles O59: every command ends with settle, after which the levels follow whatever it did, and so does a cycle of
CK_PHASE; where the core die does not run the cycle changes no level. -/
theorem levelsFollowTheState : Obligations.LevelsFollowTheState := by
  intro s t h hstep
  unfold step at hstep
  cases hp : s.pending with
  | nil =>
    rw [hp] at hstep
    cases hstep
    exact levelsHold_idleTick h
  | cons c rest =>
    rw [hp] at hstep
    obtain ⟨f, hf⟩ := exec_runDev c { s with pending := rest }
    cases hf.symm.trans hstep
    exact levelsHold_settle _

end Sys2Proof.Proofs
end

section
/-! PROOF. What a step does whatever the command (00_scope.md), and what the block is at reset. -/

namespace Sys2Proof.Proofs

open Sys2Proof Sys2Proof.Machine Sys2Proof.Safety Sys2Proof.Laws

/-- Settles O1: step takes the command at the front of the queue. -/
theorem stepRunsFrontCommand : Obligations.StepRunsFrontCommand := by
  intro c rest s hp
  simp [step, hp]

theorem exec_answers (c : Instr) (s : State) : ∃ t, exec c s = .next t ∧ t.pending = s.pending := by
  obtain ⟨f, hf⟩ := exec_runDev c s
  exact ⟨_, hf, rfl⟩

theorem step_empty {s : State} (hp : s.pending = []) : step s = .next { s with toDev := idleTick s.toDev } := by
  simp [step, hp]

/-- Settles O2: every command is runDev of its effect, an empty queue one tick (log 2). -/
theorem everyStepAnswersNext : Obligations.EveryStepAnswersNext := by
  refine ⟨exec_answers, fun s hp => ⟨⟨_, step_empty hp, hp⟩, fun hasleep => ?_⟩⟩
  rw [step_empty hp, idleTick, hasleep]
  rfl

theorem bank_reset_off (b : Nat) : (bank State.reset.toDev b).on = false := by
  by_cases hb : b < 4
  · have h4 : ∀ i : Fin 4, (bank State.reset.toDev i).on = false := by decide
    exact h4 ⟨b, hb⟩
  · have hout : State.reset.banks.length ≤ b := not_lt.mp hb
    simp only [bank, nth, List.getD_eq_default _ _ hout]
    rfl

theorem levelsHold_reset : LevelsHold State.reset.toDev := by
  refine ⟨?_, ?_, ?_, ?_, ?_, ?_, ?_, ?_, ?_, ?_, ?_, ?_, ?_, ?_, fun _ => ⟨?_, ?_, ?_, ?_, ?_⟩⟩ <;> decide +kernel

/-- Settles O60: the values of State.reset, one after the other (logs 1, 3). -/
theorem resetLeavesTheStatedValues : Obligations.ResetLeavesTheStatedValues := by
  refine ⟨rfl, levelsHold_reset, fun _ => rfl, rfl, rfl, rfl, rfl, rfl, rfl, rfl, rfl, rfl, rfl, rfl, rfl, rfl, rfl,
    bank_reset_off, rfl, rfl, rfl, rfl, rfl, rfl, rfl, rfl, rfl, rfl⟩

end Sys2Proof.Proofs
end

section
/-! PROOF. How a command that leaves a calm block calm answers: with what its own function gives, or with one event noted. -/

namespace Sys2Proof.Proofs

open Sys2Proof Sys2Proof.Machine Sys2Proof.Safety Sys2Proof.Laws

/-! ## What follows from the state changes no more than Beside lists -/

theorem now_of_beside {a t : Dev} (h : Beside a t) : t.now = a.now := by rw [h.2]
theorem free_of_beside {a t : Dev} (h : Beside a t) : t.free = a.free := by rw [h.2]
theorem power_of_beside {a t : Dev} (h : Beside a t) : t.power = a.power := by rw [h.2]
theorem clk_of_beside {a t : Dev} (h : Beside a t) : t.clk = a.clk := by rw [h.2]
theorem tb_of_beside {a t : Dev} (h : Beside a t) : t.tb = a.tb := by rw [h.2]
theorem conv_of_beside {a t : Dev} (h : Beside a t) : t.conv = a.conv := by rw [h.2]
theorem aux_of_beside {a t : Dev} (h : Beside a t) : t.aux = a.aux := by rw [h.2]
theorem cmp_of_beside {a t : Dev} (h : Beside a t) : t.cmp = a.cmp := by rw [h.2]
theorem d2d_of_beside {a t : Dev} (h : Beside a t) : t.d2d = a.d2d := by rw [h.2]
theorem ring_of_beside {a t : Dev} (h : Beside a t) : t.ring = a.ring := by rw [h.2]
theorem head_of_beside {a t : Dev} (h : Beside a t) : t.head = a.head := by rw [h.2]
theorem host_of_beside {a t : Dev} (h : Beside a t) : t.host = a.host := by rw [h.2]
theorem cmd_of_beside {a t : Dev} (h : Beside a t) : t.cmd = a.cmd := by rw [h.2]
theorem fault_of_beside {a t : Dev} (h : Beside a t) : t.fault = a.fault := by rw [h.2]
theorem bist_of_beside {a t : Dev} (h : Beside a t) : t.bist = a.bist := by rw [h.2]
theorem jrn_of_beside {a t : Dev} (h : Beside a t) : t.jrn = a.jrn := by rw [h.2]
theorem otp_of_beside {a t : Dev} (h : Beside a t) : t.otp = a.otp := by rw [h.2]
theorem sess_of_beside {a t : Dev} (h : Beside a t) : t.sess = a.sess := by rw [h.2]
theorem cfg_of_beside {a t : Dev} (h : Beside a t) : t.cfg = a.cfg := by rw [h.2]

theorem pinOwners_of_beside {a t : Dev} (h : Beside a t) : t.pins.gpioOwner = a.pins.gpioOwner := by rw [h.2]
theorem trip_of_beside {a t : Dev} (h : Beside a t) :
    t.trip = { a.trip with forwarding := t.trip.forwarding, fwdPorts := t.trip.fwdPorts } := by rw [h.2]
theorem eng_of_beside {a t : Dev} (h : Beside a t) :
    t.eng = { a.eng with freeMin := t.eng.freeMin, linkHeld := t.eng.linkHeld, copyHeld := t.eng.copyHeld } := by rw [h.2]
theorem bal_of_beside {a t : Dev} (h : Beside a t) :
    t.bal = { a.bal with held := t.bal.held, onAll := t.bal.onAll, offAll := t.bal.offAll, fallback := t.bal.fallback } := by
  rw [h.2]
theorem eis_of_beside {a t : Dev} (h : Beside a t) :
    t.eis = { a.eis with fetHeld := t.eis.fetHeld, win := t.eis.win, banksOn := t.eis.banksOn } := by rw [h.2]

theorem bankCore_of_beside {a t : Dev} (h : Beside a t) (b : Nat) : bankCore (bank t b) = bankCore (bank a b) := by
  have hmap : ∀ l : List Bank, bankCore (l.getD b Bank.reset) = (l.map bankCore).getD b (bankCore Bank.reset) := fun l =>
    (List.getD_map l Bank.reset bankCore).symm
  rw [bank, bank, nth, nth, hmap, hmap, h.1]

/-! ## Answers -/

section Answering

variable {c : Instr} {s : State} {f : Dev → Dev} {a : Dev}

/-- The next state is what the command's own function gives, but for what follows from the state. -/
theorem answers_beside (hi : exec c s = runDev s f) (hf : f s.toDev = a) (hc : Calm a)
    (hs : a.power.safeHold = true → s.power.safeHold = true) : Answers c s (Beside a) := by
  subst hf
  exact ⟨_, hi, rfl, beside_effect hc hs⟩

/-- A command that changes nothing. -/
theorem answers_same (hi : exec c s = runDev s f) (hc : Calm s.toDev) (hf : f s.toDev = s.toDev) :
    Answers c s (Beside s.toDev) :=
  answers_beside hi hf hc id

/-- What every device beside a has, the next state has. -/
theorem answers_mono {P Q : Dev → Prop} (h : Answers c s P) (hPQ : ∀ t, P t → Q t) : Answers c s Q := by
  obtain ⟨t, ht, hq, hp⟩ := h
  exact ⟨t, ht, hq, hPQ _ hp⟩

/-- A command that raises one event without a reaction, beside what it changes before. -/
theorem answers_noted {k : Nat} (react : React) (unit : Nat) (tg : List Nat) (forced : Bool) (hi : exec c s = runDev s f)
    (hf : f s.toDev = occurWith react k unit tg forced a) (hc : Calm a) (hp : Plain a k)
    (hs : a.power.safeHold = true → s.power.safeHold = true) : Answers c s (Noted k a) :=
  ⟨_, hi, rfl, noted_effect react k unit tg forced hf hc hp hs⟩

end Answering

theorem awake_pstate {d : Dev} (h : awake d = true) :
    d.power.pstate = .standby ∨ d.power.pstate = .activeM ∨ d.power.pstate = .activeH := by
  unfold awake at h
  split at h <;> simp_all

theorem awake_not_off {d : Dev} (h : awake d = true) : (d.power.pstate != .off) = true := by
  rcases awake_pstate h with h | h | h <;> simp [h]

theorem awake_coreReset {d : Dev} (h : awake d = true) : d.power.coreReset = false := by
  unfold awake at h
  split at h <;> simp_all

theorem awake_coreRuns {d : Dev} (h : awake d = true) : coreRuns d = true := by
  unfold coreRuns
  rcases awake_pstate h with hp | hp | hp <;> simp [hp, awake_coreReset h]

theorem v5Present_of_awake {d : Dev} (h : awake d = true) (hva : d.power.vaOn = true) : v5Present d = true := by
  unfold v5Present
  rcases awake_pstate h with hp | hp | hp <;> simp [hp, hva]

theorem vdPresent_of_awake {d : Dev} (h : awake d = true) : vdPresent d = true := by
  simp [vdPresent, awake_coreRuns h]

end Sys2Proof.Proofs
end

section
/-! PROOF. The supply and thermal monitors (03_supply_power_clocks.md R57): an excursion raises its event once, its end only
clears what it set. -/

namespace Sys2Proof.Proofs

open Sys2Proof Sys2Proof.Machine Sys2Proof.Safety Sys2Proof.Laws

/-- No slice runs, so that none is cut (R509). -/
theorem cutSlice_none {d : Dev} (h : d.bist.slice = none) : cutSlice d = d := by
  simp [cutSlice, h]

/-- Settles O3: each monitor sets its level and raises its event where it is new; the rows of V5 and VD do so where their
supply is produced. -/
theorem monitorsRaiseTheirEvents : Obligations.MonitorsRaiseTheirEvents := by
  intro s hc hslice
  refine ⟨fun ha hp hlow => ?_, ?_, fun hoff hlow => ?_, fun ha hp hhigh => ?_, ?_, fun hoff hhigh => ?_, fun ha hva hp => ?_,
    fun hv => ?_, fun b hv => ?_, fun ha hp hop => ?_, fun hv hop => ?_, fun b hop => ?_, fun ha hp htj => ?_, ?_,
    fun htj => ?_⟩
  · exact answers_noted reactFull 0xFFFF [] false rfl (by simp [whenDo, ha, hlow, awake_not_off ha, raise, raiseOn]) hc hp id
  · exact answers_beside rfl (by simp [whenDo]) hc id
  · exact answers_beside rfl (by simp [whenDo, hlow, hoff]) hc id
  · exact answers_noted reactFull 0xFFFF [] false rfl (by simp [whenDo, ha, hhigh, awake_not_off ha, raise, raiseOn]) hc hp id
  · exact answers_beside rfl (by simp [whenDo]) hc id
  · exact answers_beside rfl (by simp [whenDo, hhigh, hoff]) hc id
  · exact answers_noted reactFull 0xFFFF [] false rfl (by simp [whenDo, ha, v5Present_of_awake ha hva, raise, raiseOn]) hc hp id
  · exact answers_beside rfl (by simp [whenDo, hv]) hc id
  · exact answers_same rfl hc (by simp [hv])
  · have hcut : ∀ p : Power, cutSlice { s.toDev with power := p } = { s.toDev with power := p } := fun p => cutSlice_none hslice
    exact answers_noted reactFull 0xFFFF [] false rfl
      (by simp [whenDo, ha, vdPresent_of_awake ha, hop, raise, raiseOn, hcut]) hc hp id
  · exact answers_beside rfl (by simp [whenDo, hv, hop]) hc id
  · exact answers_same rfl hc (by simp [hop])
  · exact answers_noted reactFull 0xFFFF [] false rfl (by simp [whenDo, ha, htj, raise, raiseOn]) hc hp id
  · exact answers_beside rfl (by simp [whenDo]) hc id
  · exact answers_beside rfl (by simp [whenDo, htj]) hc id

end Sys2Proof.Proofs
end

section
/-! PROOF. An occurrence whose source has REACTION NONE (15_faults_and_sluices.md R477, R482, R483). -/

namespace Sys2Proof.Proofs

open Sys2Proof Sys2Proof.Machine Sys2Proof.Safety Sys2Proof.Laws

/-- b is a but for event flags and records, escalation counters, FAULTN's stretcher and LATCH, which is not cleared. -/
def OccWrite (a b : Dev) : Prop :=
  b = { a with
    host := { a.host with evf := b.host.evf, evt := b.host.evt, evtRecs := b.host.evtRecs, evtRseq := b.host.evtRseq,
                          evtDrop := b.host.evtDrop }
    fault := { a.fault with esc := b.fault.esc, stretch := b.fault.stretch, latch := b.fault.latch } } ∧
  (a.fault.latch = true → b.fault.latch = true)

theorem occWrite_refl (a : Dev) : OccWrite a a := ⟨rfl, id⟩

theorem occWrite_trans {a b c : Dev} (hab : OccWrite a b) (hbc : OccWrite b c) : OccWrite a c := by
  obtain ⟨hb, hlb⟩ := hab
  obtain ⟨hc, hlc⟩ := hbc
  refine ⟨?_, fun h => hlc (hlb h)⟩
  rw [hb] at hc
  exact hc

theorem occWrite_evtRecord (kind source : Nat) (body : List Word) (d : Dev) : OccWrite d (evtRecord kind source body d) := by
  unfold evtRecord
  dsimp only
  split <;> exact ⟨rfl, id⟩

theorem occWrite_noteEvent (k : Nat) (d : Dev) : OccWrite d (noteEvent k d) := by
  unfold noteEvent
  split
  · exact occWrite_refl d
  · dsimp only
    split
    · exact occWrite_trans (b := { d with host := { d.host with evf := mset d.host.evf k true } }) ⟨rfl, id⟩
        (occWrite_evtRecord _ _ _ _)
    · exact ⟨rfl, id⟩

theorem occWrite_modEsc (k : Nat) (f : Esc → Esc) (d : Dev) : OccWrite d (modEsc k f d) := ⟨rfl, id⟩

theorem escReaction_of_occWrite {a b : Dev} (h : OccWrite a b) (k : Nat) : escReaction b k = escReaction a k := by
  rw [h.1]; rfl

/-- A source whose reaction does nothing is only noted and counted. -/
theorem occWrite_of_reaction {react : React} {k : Nat} {tg : List Nat} {forced : Bool} {d : Dev} (unit : Nat)
    (h : escReaction d k ≠ 0 → ∀ e, react (escReaction d k) k tg forced e = e) :
    OccWrite d (occurWith react k unit tg forced d) := by
  have hnote := occWrite_noteEvent k d
  have hmod : ∀ f : Esc → Esc, OccWrite d (modEsc k f (noteEvent k d)) := fun f => occWrite_trans hnote (occWrite_modEsc k f _)
  unfold occurWith
  split
  · exact occWrite_refl d
  · dsimp only
    split
    · exact hmod _
    · split
      · exact hnote
      · split
        · exact hmod _
        · split
          · have hstretch : ∀ e, OccWrite e (triggerStretch e) := fun e => ⟨rfl, fun _ => rfl⟩
            unfold becomeSevere
            rw [escReaction_of_occWrite hnote k]
            dsimp only
            split
            · exact occWrite_trans (hmod _) (hstretch _)
            · rw [h ‹_›]
              exact occWrite_trans (hmod _) (hstretch _)
          · exact hmod _

theorem occWrite_occurWith (react : React) (k unit : Nat) (tg : List Nat) (forced : Bool) {d : Dev} (h : escReaction d k = 0) :
    OccWrite d (occurWith react k unit tg forced d) :=
  occWrite_of_reaction unit fun h0 => absurd h h0

/-- A source that may only force the safe state, and is not set to. -/
theorem occWrite_raiseNS (k unit : Nat) {d : Dev} (h : escReaction d k ≠ 5) : OccWrite d (raiseNS k unit d) :=
  occWrite_of_reaction unit fun _ _ => if_neg h

/-! ## An occurrence within a longer command -/

/-- e is a after one occurrence of EVk without a reaction, before what follows from the state. -/
def Occurred (k : Nat) (a e : Dev) : Prop :=
  e.host.evf = mset a.host.evf k true ∧
  (mbit a.host.eve k = false → e.host.evtRecs = a.host.evtRecs ∧ e.host.evt = a.host.evt) ∧
  (∀ i, i ≠ k → esc e i = esc a i) ∧
  e = { a with
    host := { a.host with evf := e.host.evf, evt := e.host.evt, evtRecs := e.host.evtRecs, evtRseq := e.host.evtRseq,
                          evtDrop := e.host.evtDrop }
    fault := { a.fault with esc := e.fault.esc, stretch := e.fault.stretch, latch := e.fault.latch } }

theorem occurred_occurWith (react : React) (k unit : Nat) (tg : List Nat) (forced : Bool) {d : Dev} (h : Plain d k) :
    Occurred k d (occurWith react k unit tg forced d) := by
  obtain ⟨e, he, h1, h2, h3, h4⟩ := occur_plain react k unit tg forced d h
  rw [he]
  exact ⟨h1, h2, h3, h4⟩

theorem occurred_raiseNS (k unit : Nat) {d : Dev} (h : Plain d k) : Occurred k d (raiseNS k unit d) :=
  occurred_occurWith reactSafe k unit [] false h

theorem occurred_raise (k : Nat) {d : Dev} (h : Plain d k) : Occurred k d (raise k d) :=
  occurred_occurWith reactFull k 0xFFFF [] false h

/-- A change of the timebase afterwards is one beforehand. -/
theorem occurred_tb {k : Nat} {a e : Dev} (h : Occurred k a e) (t : Timebase) : Occurred k { a with tb := t } { e with tb := t } := by
  obtain ⟨hevf, hrecs, hesc, he⟩ := h
  refine ⟨hevf, hrecs, hesc, ?_⟩
  rw [he]

theorem calm_of_occurred {k : Nat} {a e : Dev} (h : Occurred k a e) (hc : Calm a) : Calm e := by
  obtain ⟨-, -, -, he⟩ := h
  exact calm_of_eq hc (by rw [he]) (by rw [he]) (by rw [he]) (by rw [he])

theorem noted_settle {k : Nat} {a e : Dev} (h : Occurred k a e) : Noted k a (settle e) := by
  obtain ⟨hevf, hrecs, hesc, he⟩ := h
  have hb := beside_settle e
  have hhost := host_of_beside hb
  have hfault := fault_of_beside hb
  refine ⟨by rw [hhost, hevf], by rw [hhost]; exact hrecs, fun i hi => ?_, ?_⟩
  · rw [← hesc i hi, esc, esc, hfault]
  · rw [hhost, hfault, ← he]
    exact hb

/-- A command in which one event without a reaction occurs. -/
theorem answers_occurred {c : Instr} {s : State} {f : Dev → Dev} {a : Dev} {k : Nat} (hi : exec c s = runDev s f)
    (h : Occurred k a (f s.toDev)) (hc : Calm a) (hs : a.power.safeHold = true → s.power.safeHold = true) :
    Answers c s (Noted k a) := by
  have hpower : (f s.toDev).power = a.power := by
    obtain ⟨-, -, -, he⟩ := h
    rw [he]
  refine ⟨_, hi, rfl, ?_⟩
  show Noted k a (effect f s.toDev)
  rw [effect_calm (calm_of_occurred h hc) (by rw [hpower]; exact hs)]
  exact noted_settle h

end Sys2Proof.Proofs
end

section
/-! PROOF. What arming the comparators leaves as it was (07_comparators_and_trip.md R188, R194): while the core die is in reset
it learns of no edge, and where the comparators' events have no reaction an edge is only noted. -/

namespace Sys2Proof.Proofs

open Sys2Proof Sys2Proof.Machine Sys2Proof.Safety Sys2Proof.Laws

/-- b is a but for the comparators, the trip path, what waits for the bus, the notes of events, FAULTN's stretcher, and WAKE
where a class of comparators drives it (R197). -/
def EdgeWrite (a b : Dev) : Prop :=
  b = { a with
    free := b.free
    power := { a.power with wakeOut := b.power.wakeOut }
    cmp := b.cmp, trip := b.trip, d2d := b.d2d
    host := { a.host with evf := b.host.evf, evt := b.host.evt, evtRecs := b.host.evtRecs, evtRseq := b.host.evtRseq,
                          evtDrop := b.host.evtDrop }
    fault := { a.fault with esc := b.fault.esc, stretch := b.fault.stretch, latch := b.fault.latch } } ∧
  (a.fault.latch = true → b.fault.latch = true) ∧
  (itemN a 0x030A = 0 → b.power.wakeOut = a.power.wakeOut)

/-- An edge leads to no reaction: the core die is in reset, or the comparators' sources have REACTION NONE. -/
def EdgesMute (d : Dev) : Prop := d.power.coreReset = true ∨ ∀ k, k < 64 → escReaction d k = 0

theorem edgeWrite_refl (a : Dev) : EdgeWrite a a := ⟨rfl, id, fun _ => rfl⟩

theorem edgeWrite_trans {a b c : Dev} (hab : EdgeWrite a b) (hbc : EdgeWrite b c) : EdgeWrite a c := by
  obtain ⟨hb, hlb, hwb⟩ := hab
  obtain ⟨hc, hlc, hwc⟩ := hbc
  have hitem : itemN b 0x030A = itemN a 0x030A := by rw [hb]; rfl
  refine ⟨?_, fun h => hlc (hlb h), fun h => (hwc (hitem.trans h)).trans (hwb h)⟩
  rw [hb] at hc
  exact hc

theorem edgeWrite_of_occWrite {a b : Dev} (h : OccWrite a b) : EdgeWrite a b := by
  obtain ⟨hb, hl⟩ := h
  refine ⟨?_, hl, fun _ => ?_⟩
  · rw [hb]
  · rw [hb]

theorem edgesMute_of_edgeWrite {a b : Dev} (h : EdgeWrite a b) (ha : EdgesMute a) : EdgesMute b := by
  obtain ⟨hb, -, -⟩ := h
  rw [hb]
  exact ha

theorem calm_of_edgeWrite {a b : Dev} (h : EdgeWrite a b) (hc : Calm a) : Calm b :=
  calm_of_eq hc (by rw [h.1]) (by rw [h.1]) (by rw [h.1]) (by rw [h.1])

/-! ## The trip path -/

theorem edgeWrite_notePending (d : Dev) : EdgeWrite d (notePending d) := ⟨rfl, id, fun _ => rfl⟩

theorem edgeWrite_driveTrip (d : Dev) : EdgeWrite d (driveTrip d) := by
  unfold driveTrip
  split <;> exact ⟨rfl, id, fun _ => rfl⟩

theorem edgeWrite_insertTrip (d : Dev) : EdgeWrite d (insertTrip d) := by
  unfold insertTrip
  split
  · exact edgeWrite_refl d
  · split
    · exact edgeWrite_refl d
    · split
      · exact ⟨rfl, id, fun _ => rfl⟩
      · exact edgeWrite_driveTrip d

theorem edgeWrite_followTrip (d : Dev) : EdgeWrite d (followTrip d) := by
  unfold followTrip
  dsimp only
  split
  · refine edgeWrite_trans (edgeWrite_trans ?_ (edgeWrite_insertTrip _)) (edgeWrite_notePending _)
    split <;> exact ⟨rfl, fun _ => rfl, fun _ => rfl⟩
  · split <;> exact ⟨rfl, id, fun _ => rfl⟩

/-! ## An edge -/

theorem edgeWrite_edgeRecord (k : Nat) (rise forced : Bool) (period : Nat) (phase : Word) (d : Dev) :
    EdgeWrite d (edgeRecord k rise forced period phase d) := by
  have hrec : ∀ body : List Word, EdgeWrite d (evtRecord 1 k body
      { d with cmp := { d.cmp with recAt := aset d.cmp.recAt (2 * k + b2n rise) d.now } }) := fun body =>
    edgeWrite_trans (b := { d with cmp := { d.cmp with recAt := aset d.cmp.recAt (2 * k + b2n rise) d.now } })
      ⟨rfl, id, fun _ => rfl⟩ (edgeWrite_of_occWrite (occWrite_evtRecord _ _ _ _))
  unfold edgeRecord
  dsimp only
  split
  · split
    · exact edgeWrite_refl d
    · exact hrec _
  · exact hrec _

theorem edgeWrite_edgeToCore {d : Dev} (h : EdgesMute d) {k : Nat} (hk : k < 64) (hi forced : Bool) (period : Nat) (phase : Word) :
    EdgeWrite d (edgeToCore k hi forced period phase d) := by
  unfold edgeToCore
  split
  · exact edgeWrite_refl d
  · rename_i hcore
    have hrec := edgeWrite_edgeRecord k hi forced period phase d
    dsimp only
    split
    · refine edgeWrite_trans hrec (edgeWrite_of_occWrite (occWrite_occurWith reactFull k _ _ false ?_))
      rcases edgesMute_of_edgeWrite hrec h with hreset | hmute
      · rw [hrec.1] at hreset
        exact absurd hreset hcore
      · exact hmute k hk
    · exact hrec

theorem edgeWrite_sendEdge {d : Dev} (h : EdgesMute d) {k : Nat} (hk : k < 64) (hi forced : Bool) (period : Nat) (phase : Word) :
    EdgeWrite d (sendEdge k hi forced period phase d) := by
  unfold sendEdge
  split
  · exact edgeWrite_edgeToCore h hk hi true period phase
  · split
    · exact ⟨rfl, id, fun _ => rfl⟩
    · unfold viaBus arrive
      split
      · exact ⟨rfl, id, fun _ => rfl⟩
      · split
        · exact ⟨rfl, id, fun _ => rfl⟩
        · exact edgeWrite_edgeToCore h hk hi false period phase

theorem edgeWrite_sendEdge_after {a d : Dev} (h : EdgesMute a) (hw : EdgeWrite a d) {k : Nat} (hk : k < 64) (hi forced : Bool)
    (period : Nat) (phase : Word) : EdgeWrite a (sendEdge k hi forced period phase d) :=
  edgeWrite_trans hw (edgeWrite_sendEdge (edgesMute_of_edgeWrite hw h) hk hi forced period phase)

/-- The flags of an edge, and WAKE where its class drives it (R194, R197). -/
theorem edgeWrite_wake (d : Dev) (c : Cmp) (k : Nat) (hi : Bool) (wc : BitVec 3) : EdgeWrite d
    (if hi && (itemN d 0x030A).testBit (cmpClass k) then
      { d with cmp := c, power.wakeOut := true, trip.wakeClass := wc } else { d with cmp := c }) := by
  split
  · rename_i hw
    refine ⟨rfl, id, fun h0 => ?_⟩
    rw [h0] at hw
    simp at hw
  · exact ⟨rfl, id, fun _ => rfl⟩

theorem edgeWrite_setLevel {d : Dev} (h : EdgesMute d) {k : Nat} (hk : k < 64) (hi forced : Bool) (period : Nat) (phase : Word) :
    EdgeWrite d (setLevel k hi forced period phase d) := by
  unfold setLevel
  split
  · exact edgeWrite_refl d
  · dsimp only
    have hsend := edgeWrite_sendEdge_after h (edgeWrite_wake d { d.cmp with
      level := mset d.cmp.level k hi
      rise := if hi then mset d.cmp.rise k true else d.cmp.rise
      fall := if hi then d.cmp.fall else mset d.cmp.fall k true
      inband := if hi && k < 48 then mset d.cmp.inband k false else d.cmp.inband } k hi
      (mset d.trip.wakeClass (cmpClass k) true)) hk hi forced period phase
    split
    · exact edgeWrite_trans hsend (edgeWrite_followTrip _)
    · exact hsend

theorem edgeWrite_noteAxSide (k : Nat) (d : Dev) : EdgeWrite d (noteAxSide k d) := by
  unfold noteAxSide
  split
  · exact edgeWrite_refl d
  · dsimp only
    split
    · split
      · exact ⟨rfl, id, fun _ => rfl⟩
      · split <;> exact ⟨rfl, id, fun _ => rfl⟩
    · exact ⟨rfl, id, fun _ => rfl⟩

theorem edgeWrite_effectiveNow {d : Dev} (h : EdgesMute d) (k : Nat) : EdgeWrite d (effectiveNow k d) := by
  unfold effectiveNow
  split
  · unfold makeEffective
    dsimp only
    split
    · exact edgeWrite_refl d
    · rename_i hgo
      simp only [Bool.or_eq_true, Bool.not_eq_true', not_or, Bool.not_eq_false] at hgo
      have hk : k < 64 := BitVec.lt_of_getLsbD hgo.1.1.2
      exact edgeWrite_trans (edgeWrite_setLevel h hk _ _ _ _) (edgeWrite_noteAxSide k _)
  · exact edgeWrite_refl d

theorem edgeWrite_forEach {l : List Nat} {d : Dev} (h : EdgesMute d) : EdgeWrite d (forEach l effectiveNow d) := by
  induction l generalizing d with
  | nil => exact edgeWrite_refl d
  | cons k t ih =>
    have hk := edgeWrite_effectiveNow h k
    exact edgeWrite_trans hk (ih (edgesMute_of_edgeWrite hk h))

theorem edgeWrite_rearm {d : Dev} (h : EdgesMute d) : EdgeWrite d (rearm d) := by
  unfold rearm
  dsimp only
  have hfollow : ∀ c : Cmp, EdgeWrite d (followTrip { d with cmp := c }) := fun c =>
    edgeWrite_trans (b := { d with cmp := c }) ⟨rfl, id, fun _ => rfl⟩ (edgeWrite_followTrip _)
  exact edgeWrite_trans (hfollow _) (edgeWrite_forEach (edgesMute_of_edgeWrite (hfollow _) h))

end Sys2Proof.Proofs
end

section
/-! PROOF. What enters SAFE_HOLD, and what is only noted (03_supply_power_clocks.md R57, R74, R86, R87). -/

namespace Sys2Proof.Proofs

open Sys2Proof Sys2Proof.Machine Sys2Proof.Safety Sys2Proof.Laws

/-- OFF, SHIP and SLEEP, from which SAFE_HOLD is not entered (R58). -/
def Low (d : Dev) : Prop := d.power.pstate = .off ∨ d.power.pstate = .ship ∨ d.power.pstate = .sleep

theorem enterSafeHold_enters {d : Dev} (c : Cause) (hlow : ¬ Low d) (hh : d.power.safeHold = false) :
    enterSafeHold c d = holdOf c d := by
  unfold enterSafeHold
  rw [if_neg (by simp [hh])]
  unfold Low at hlow
  split <;> simp_all [holdOf, forceSafe, banksOff]

theorem enterSafeHold_stays {d : Dev} (c : Cause) (h : Low d ∨ d.power.safeHold = true) : enterSafeHold c d = d := by
  unfold enterSafeHold
  split
  · rfl
  · rename_i hh
    rcases h with (h | h | h) | h
    · simp [h]
    · simp [h]
    · simp [h]
    · exact absurd h hh

/-- A hold ends the work of the SAR and of the test DAC, and no wait for the DAC begins (R86, R87). -/
theorem calm_holdOf {d : Dev} (c : Cause) (h : Calm d) : Calm (holdOf c d) := by
  obtain ⟨hbusy, hwait, hcaps, hdac⟩ := h
  exact ⟨hbusy, hwait, hcaps, hdac⟩

theorem wake_hold {before d : Dev} (hb : before.power.safeHold = false) (hd : d.power.safeHold = true) (hc : Calm (rearm d)) :
    wake before d = rearm d := by
  obtain ⟨hbusy, hwait, hcaps, hdac⟩ := hc
  have harm : armInHold before d = rearm d := by simp [armInHold, hb, hd]
  unfold wake
  rw [harm, afterEvents_unarmed 4 _ _ hcaps, longEnds_calm hbusy hwait, serveDac_idle hdac, serveSlice_idle hdac]

/-- The pins are quiet after a settle in the safe state (R86). -/
theorem quiet_settle {d : Dev} (h : d.power.safeForced = true) : Quiet (settle d) := by
  obtain ⟨-, -, -, -, -, -, -, -, -, -, -, -, -, -, hquiet⟩ := levelsHold_settle d
  exact hquiet (by rw [(beside_settle d).2]; exact h)

/-- A command that enters SAFE_HOLD from a calm block (R86, R87). -/
theorem answers_held {i : Instr} {s : State} {f : Dev → Dev} {c : Cause} {a : Dev} (hi : exec i s = runDev s f)
    (hf : f s.toDev = enterSafeHold c a) (hc : Calm a) (hlow : ¬ Low a) (ha : a.power.safeHold = false)
    (hs : s.power.safeHold = false) : Answers i s (HeldBy c a) := by
  have hw : EdgeWrite (holdOf c a) (rearm (holdOf c a)) := edgeWrite_rearm (.inl rfl)
  have hcalm : Calm (rearm (holdOf c a)) := calm_of_edgeWrite hw (calm_holdOf c hc)
  have heffect : effect f s.toDev = settle (rearm (holdOf c a)) := by
    unfold effect
    rw [hf, enterSafeHold_enters c hlow ha, wake_hold hs rfl hcalm]
  refine ⟨_, hi, rfl, ?_⟩
  show HeldBy c a (effect f s.toDev)
  rw [heffect]
  exact ⟨quiet_settle (by rw [hw.1]; rfl), beside_settle _⟩

/-- A cause of a hold that a low state or a hold in force only notes. -/
theorem answers_notHeld {i : Instr} {s : State} {f : Dev → Dev} {c : Cause} {a : Dev} (hi : exec i s = runDev s f)
    (hf : f s.toDev = enterSafeHold c a) (hc : Calm a) (h : Low a ∨ a.power.safeHold = true)
    (hs : a.power.safeHold = true → s.power.safeHold = true) : Answers i s (Beside a) :=
  answers_beside hi (hf.trans (enterSafeHold_stays c h)) hc hs

theorem v5Present_of_vaOn {d : Dev} (hlow : ¬ Low d) (h : d.power.vaOn = true) : v5Present d = true := by
  unfold Low at hlow
  unfold v5Present
  split <;> simp_all

/-- A safe-wire pair is watched where the core die runs and in a hold (R87, R88). -/
theorem safeWire_watched {d : Dev} (front asks : Bool) (h : coreRuns d = true ∨ d.power.safeHold = true) :
    safeWire front asks d =
      (let d1 := { d with power.safeWireF := if front then asks else d.power.safeWireF
                          power.safeWireC := if front then d.power.safeWireC else asks }
       if asks then enterSafeHold .safeWire d1 else d1) := by
  unfold safeWire
  rw [if_pos (by simpa using h)]

theorem safeWire_unwatched {d : Dev} (front asks : Bool) (h : coreRuns d = false) (hh : d.power.safeHold = false) :
    safeWire front asks d = d := by
  simp [safeWire, h, hh]

/-- Settles O4: each row makes its note and asks for SAFE_HOLD, which is entered from a start and from an awake state. -/
theorem failuresEnterSafeHold : Obligations.FailuresEnterSafeHold := by
  intro s front hc low wire
  refine ⟨fun hlow hh => ?_, fun hlow => ?_, fun hsleep hh hlfo => ?_, fun hv => ?_, fun hv b => ?_, fun hv => ?_, fun hv b => ?_,
    ?_, fun h => ?_, fun h => ?_, fun h => ?_, fun h => ?_, fun h => ?_, fun hr hh asks => ?_⟩
  · have hsleep : (s.power.pstate == .sleep) = false := by
      simpa using fun h => hlow (.inr (.inr h))
    refine ⟨fun hva => ?_, fun hv => ?_, ?_, fun h => ?_, fun h => ?_, fun h => ?_, fun h => ?_, fun h => ⟨?_, ?_⟩⟩
    · exact answers_held rfl (by simp [v5Present_of_vaOn hlow hva]) hc hlow hh hh
    · exact answers_held rfl (by simp [hv]) hc hlow hh hh
    · exact answers_held rfl rfl hc hlow hh hh
    · exact answers_held rfl (by simp [h]) hc hlow hh hh
    · exact answers_held rfl (by simp [h, hsleep]) hc hlow hh hh
    · exact answers_held rfl (by simp [h]) hc hlow hh hh
    · exact answers_held rfl (by simp [h]) hc hlow hh hh
    · exact answers_held rfl (safeWire_watched front true (.inl h)) hc hlow hh hh
    · exact answers_held rfl (safeWire_watched front true (.inl h)) hc hlow hh hh
  · refine ⟨fun hv => ?_, fun hv => ?_, ?_, fun h => ?_, fun h hs => ?_, fun h => ?_, fun h => ?_, fun h => ⟨?_, ?_⟩⟩
    · exact answers_notHeld (c := .v5Brownout) rfl (by simp [hv]) hc hlow id
    · exact answers_notHeld (c := .vdBrownout) rfl (by simp [hv]) hc hlow id
    · exact answers_notHeld rfl rfl hc hlow id
    · exact answers_notHeld (c := .hfoFail) rfl (by simp [h]) hc hlow id
    · exact answers_notHeld (c := .lfoFail) rfl (by simp [h, hs]) hc hlow id
    · exact answers_notHeld (c := .xoFail) rfl (by simp [h]) hc hlow id
    · exact answers_notHeld (c := .pllPUnlock) rfl (by simp [h]) hc hlow id
    · exact answers_notHeld rfl (safeWire_watched front true (.inr h)) hc hlow id
    · exact answers_notHeld rfl (safeWire_watched front true (.inr h)) hc hlow id
  · exact answers_held rfl (by simp [hlfo, hsleep]) hc (by simp [Low, beginStart]) hh hh
  · exact answers_beside rfl (by simp [hv]) hc id
  · exact answers_same rfl hc (by simp [hv])
  · exact answers_beside rfl (by simp [hv]) hc id
  · exact answers_same rfl hc (by simp [hv])
  · exact answers_beside rfl rfl hc id
  · exact answers_same rfl hc (by simp [h])
  · exact answers_same rfl hc (by simp [h])
  · exact answers_same rfl hc (by simp [h])
  · exact answers_same rfl hc (by simp [h])
  · exact ⟨answers_beside rfl (safeWire_watched front false h) hc id, answers_beside rfl (safeWire_watched front false h) hc id⟩
  · exact ⟨answers_same rfl hc (safeWire_unwatched front asks hr hh), answers_same rfl hc (safeWire_unwatched front asks hr hh)⟩

end Sys2Proof.Proofs
end

section
/-! PROOF. The restart from SAFE_HOLD (03_supply_power_clocks.md R73, R87, R88): what it keeps and what it leaves at reset. -/

namespace Sys2Proof.Proofs

open Sys2Proof Sys2Proof.Machine Sys2Proof.Safety Sys2Proof.Laws

/-- A block whose commands are at reset, with nothing under way in the sequencer or the self-test, is calm. -/
theorem calm_of_reset {d : Dev} (hcmd : d.cmd = Cmd.reset) (hcaps : Unarmed d) (haux : d.aux.toVerify = [] ∧
    d.aux.gapWait = false ∧ d.aux.running = false) (hbist : d.bist.waiting = none) : Calm d := by
  obtain ⟨hverify, hgap, hrun⟩ := haux
  refine ⟨by rw [hcmd]; rfl, by rw [hcmd]; rfl, hcaps, hverify, hgap, fun h => ?_, hbist⟩
  rw [hrun] at h
  cases h

/-! ## Captures cut short -/

/-- An occurrence leaves the conversion as it was where its reactions do (R477). -/
theorem occurWith_conv {react : React} (hreact : ∀ r k tg forced d, (react r k tg forced d).conv = d.conv) (k unit : Nat)
    (tg : List Nat) (forced : Bool) (d : Dev) : (occurWith react k unit tg forced d).conv = d.conv := by
  have hnote : (noteEvent k d).conv = d.conv := by
    unfold noteEvent evtRecord
    dsimp only
    split
    · rfl
    · split
      · split <;> rfl
      · rfl
  unfold occurWith becomeSevere
  dsimp only
  split
  · rfl
  · split
    · exact hnote
    · split
      · exact hnote
      · split
        · exact hnote
        · split
          · split
            · exact hnote
            · rw [hreact]
              exact hnote
          · exact hnote

theorem enterSafeHold_conv (c : Cause) (d : Dev) : (enterSafeHold c d).conv = d.conv := by
  unfold enterSafeHold
  split
  · rfl
  · split <;> rfl

theorem reactSafe_conv (r k : Nat) (tg : List Nat) (forced : Bool) (d : Dev) : (reactSafe r k tg forced d).conv = d.conv := by
  unfold reactSafe
  split
  · exact enterSafeHold_conv _ _
  · rfl

theorem unarmed_modCap {d : Dev} (c : Nat) (f : Capture → Capture)
    (hf : ∀ x, (f x).state = 1 → x.state = 1 ∧ (f x).trig = x.trig) (h : Unarmed d) : Unarmed (modCap c f d) := by
  intro x hx hs
  obtain ⟨i, hi, rfl⟩ := List.getElem_of_mem hx
  have hlen : i < d.conv.caps.length := by simpa [modCap] using hi
  simp only [modCap, List.getElem_modify] at hs ⊢
  split at hs
  · obtain ⟨hold, htrig⟩ := hf _ hs
    simp only [*, if_true]
    exact h _ (List.getElem_mem hlen) hold
  · simp only [*, if_false]
    exact h _ (List.getElem_mem hlen) hs

theorem unarmed_of_caps {a b : Dev} (h : b.conv.caps = a.conv.caps) (ha : Unarmed a) : Unarmed b := by
  unfold Unarmed
  rw [h]
  exact ha

/-- A capture that freezes is armed no more (R153). -/
theorem unarmed_freezeCap (c last : Nat) (trunc : Bool) {d : Dev} (h : Unarmed d) : Unarmed (freezeCap c last trunc d) := by
  unfold freezeCap raiseNS
  exact unarmed_of_caps (congrArg Conv.caps (occurWith_conv reactSafe_conv _ _ _ _ _)) (unarmed_modCap _ _ (fun _ hs => by simp at hs) h)

theorem unarmed_truncateCap (c : Nat) {d : Dev} (h : Unarmed d) : Unarmed (truncateCap c d) := by
  unfold truncateCap
  dsimp only
  split
  · exact unarmed_freezeCap _ _ _ (unarmed_modCap _ _ (fun _ hs => ⟨hs, rfl⟩) h)
  · split
    · exact unarmed_freezeCap _ _ _ h
    · exact h

theorem unarmed_truncateAll (l : List Nat) {d : Dev} (h : Unarmed d) : Unarmed (forEach l truncateCap d) := by
  induction l generalizing d with
  | nil => exact h
  | cons c t ih => exact ih (unarmed_truncateCap c h)

/-! ## The restart -/

theorem coreRestart_caps (d : Dev) :
    (coreRestart d).conv.caps = (forEach [0, 1, 2, 3] truncateCap d).conv.caps := by
  simp only [coreRestart, coreRelease, clearArray]

theorem calm_coreRestart {d : Dev} (h : Calm d) : Calm (coreRestart d) := by
  obtain ⟨-, -, hcaps, -⟩ := h
  refine calm_of_reset ?_ (unarmed_of_caps (coreRestart_caps d) (unarmed_truncateAll _ hcaps)) ?_ ?_
  · simp [coreRestart, coreRelease, coldDev, clearArray, Dev.reset]
  · simp [coreRestart, coreRelease, Aux.reset]
  · simp [coreRestart, coreRelease, coldDev, clearArray, Dev.reset, Bist.reset]

theorem holdMayEnd_iff (d : Dev) : holdMayEnd d = true ↔ d.power.safeHold = true ∧ d.clk.hfo = .stable ∧ d.clk.lfo = .stable ∧
    d.power.vaOn = true ∧ d.power.v5Brown = false ∧ d.power.vdBrown = false ∧ d.power.tjShut = false ∧
    d.power.safeWireF = false ∧ d.power.safeWireC = false ∧ (d.power.tripThird = true → d.power.wakeSeen = true) ∧
    d.power.modeSamples.length = 3 := by
  have hthird : (!d.power.tripThird || d.power.wakeSeen) = true ↔ (d.power.tripThird = true → d.power.wakeSeen = true) := by
    cases d.power.tripThird <;> simp
  simp only [holdMayEnd, Bool.and_eq_true, beq_iff_eq, Bool.not_eq_true', hthird, and_assoc]

theorem coreRestart_power {d : Dev} (hva : d.power.vaOn = true) : (coreRestart d).power =
    { d.power with pstate := .starting, stepNo := 7, safeHold := false, safeForced := false, coreReset := false,
                   tripThird := false, wakeSeen := false, opTarget := none, goal := none, leaving := none,
                   ramping := false, v5Good := true, vdOk := true, op := .opL, vdTargetMv := 800 } := by
  simp [coreRestart, coreRelease, hva]

/-- Settles O5: the retry starts the sources again, the exit restarts the core die where R88 lets it. -/
theorem safeHoldEnds : Obligations.SafeHoldEnds := by
  intro s hc ends
  refine ⟨fun hh => ?_, fun hh => ?_, fun he => ?_, fun he => ?_⟩
  · exact answers_beside rfl (by simp [hh]) hc id
  · exact answers_same rfl hc (by simp [hh])
  · have hmay := (holdMayEnd_iff s.toDev).mpr he
    obtain ⟨-, -, -, hva, -⟩ := he
    have hpower := coreRestart_power hva
    refine answers_mono (answers_beside (f := fun d => if holdMayEnd d then coreRestart d else d) rfl (if_pos hmay)
      (calm_coreRestart hc) (by rw [hpower]; exact nofun)) fun t ht => ?_
    rw [trip_of_beside ht, power_of_beside ht, clk_of_beside ht, host_of_beside ht, cmd_of_beside ht, cfg_of_beside ht,
      tb_of_beside ht, cmp_of_beside ht, jrn_of_beside ht, otp_of_beside ht, ring_of_beside ht, fault_of_beside ht]
    refine ⟨ht, hpower, rfl, rfl, rfl, rfl, rfl, rfl, rfl, rfl, rfl, rfl, rfl, ?_, ?_, rfl, ?_, rfl, rfl⟩
    · show (tearBurn s.toDev).otp.valid = _
      unfold tearBurn
      split <;> rfl
    · show (tearBurn s.toDev).otp.uid = _
      unfold tearBurn
      split <;> rfl
    · show (if s.ring.mode == .gated then _ else _) = _
      simp
  · exact answers_same rfl hc (if_neg fun hmay => he ((holdMayEnd_iff s.toDev).mp hmay))

end Sys2Proof.Proofs
end

section
/-! PROOF. Power on and power loss (03_supply_power_clocks.md R59, R70). -/

namespace Sys2Proof.Proofs

open Sys2Proof Sys2Proof.Machine Sys2Proof.Safety Sys2Proof.Laws

theorem calm_beginStart {d : Dev} (c : Cause) (h : Calm d) : Calm (beginStart c d) := h

theorem tearBurn_kept (d : Dev) : (tearBurn d).otp.uid = d.otp.uid ∧ (tearBurn d).otp.valid = d.otp.valid ∧
    (tearBurn d).otp.custHash = d.otp.custHash ∧ (tearBurn d).otp.vendorHash = d.otp.vendorHash ∧
    (tearBurn d).otp.secret = d.otp.secret := by
  unfold tearBurn
  split <;> exact ⟨rfl, rfl, rfl, rfl, rfl⟩

theorem unarmed_reset {d : Dev} (h : d.conv = Conv.reset) : Unarmed d := by
  intro x hx
  rw [h] at hx
  rw [List.eq_of_mem_replicate hx]
  nofun

theorem calm_enterOff (d : Dev) : Calm (enterOff d) :=
  calm_of_reset rfl (unarmed_reset rfl) ⟨rfl, rfl, rfl⟩ rfl

theorem bank_off_of_beside {a t : Dev} (h : Beside a t) {b : Nat} (ha : (bank a b).on = false) : (bank t b).on = false :=
  (congrArg Bank.on (bankCore_of_beside h b)).trans ha

theorem bank_enterOff (d : Dev) (b : Nat) : (bank (enterOff d) b).on = false := bank_reset_off b

/-- Settles O6: VSTK begins the start in OFF only, and its loss is enterOff from any state. -/
theorem powerOnAndLoss : Obligations.PowerOnAndLoss := by
  refine ⟨fun s hc hoff => ?_, fun s hc hoff => ?_, fun s => ?_⟩
  · exact answers_beside rfl (by simp [hoff, beginStart]) hc id
  · exact answers_same rfl hc (by simp [hoff])
  · refine answers_mono (answers_beside rfl rfl (calm_enterOff s.toDev) nofun) fun t ht => ?_
    obtain ⟨huid, hvalid, hcust, hvendor, hsecret⟩ := tearBurn_kept s.toDev
    rw [trip_of_beside ht, power_of_beside ht, clk_of_beside ht, tb_of_beside ht, conv_of_beside ht, aux_of_beside ht,
      cmp_of_beside ht, bal_of_beside ht, eis_of_beside ht, d2d_of_beside ht, ring_of_beside ht, head_of_beside ht,
      host_of_beside ht, cmd_of_beside ht, bist_of_beside ht, cfg_of_beside ht, jrn_of_beside ht, sess_of_beside ht,
      otp_of_beside ht, part_of_beside ht]
    exact ⟨ht, rfl, rfl, rfl, rfl, rfl, rfl, rfl, rfl, rfl, rfl, rfl, rfl, rfl,
      fun b _ => bank_off_of_beside ht (bank_enterOff s.toDev b), rfl, rfl, rfl, rfl, rfl, rfl, rfl, rfl, rfl, rfl,
      rfl, huid, hvalid, rfl, hcust, hvendor, hsecret⟩

end Sys2Proof.Proofs
end

section
/-! PROOF. The oscillators (03_supply_power_clocks.md R72 to R75, R87): each count is judged by 3 % of the expected one. -/

namespace Sys2Proof.Proofs

open Sys2Proof Sys2Proof.Machine Sys2Proof.Safety Sys2Proof.Laws

theorem countGood_iff (n e : Nat) : countGood n e = true ↔ 97 * e ≤ 100 * n ∧ 100 * n ≤ 103 * e := by
  simp [countGood, and_comm]

theorem countGood_false {n e : Nat} (h : ¬ (97 * e ≤ 100 * n ∧ 100 * n ≤ 103 * e)) : countGood n e = false := by
  rw [Bool.eq_false_iff]
  exact fun hg => h ((countGood_iff n e).mp hg)

/-- HFO and LFO both run and no repetition waits, so that a comparison counts (R72, R73). -/
def PairReady (d : Dev) : Prop :=
  (d.clk.hfo = .started ∨ d.clk.hfo = .stable) ∧ (d.clk.lfo = .started ∨ d.clk.lfo = .stable) ∧ d.clk.retryDue = none

/-- The comparison of HFO and LFO belongs to a start before step 7 or to SAFE_HOLD; else it is the monitor (R72, R74, R87). -/
def PairStarts (d : Dev) : Prop := d.power.safeHold = true ∨ (d.power.pstate = .starting ∧ d.power.stepNo < 7)

theorem pairReady_iff (d : Dev) : PairReady d ↔
    ((!(d.clk.hfo == .started || d.clk.hfo == .stable) || !(d.clk.lfo == .started || d.clk.lfo == .stable) ||
      d.clk.retryDue.isSome) = false) := by
  simp only [PairReady, Bool.or_eq_false_iff, Bool.not_eq_false', Bool.or_eq_true, beq_iff_eq, Option.isSome_eq_false_iff,
    Option.isNone_iff_eq_none, and_assoc]

section Pair

variable {o : Osc} {n : Nat} {d : Dev}

theorem pairCompare_notReady (hs : PairStarts d) (hr : ¬ PairReady d) : pairCompare o n d = d := by
  have hs' : (d.power.safeHold || (d.power.pstate == .starting && decide (d.power.stepNo < 7))) = true := by
    simpa [PairStarts] using hs
  rw [pairReady_iff, Bool.not_eq_false] at hr
  unfold pairCompare
  simp only [hs', hr, if_true]

theorem pairCompare_starts (hs : PairStarts d) (hr : PairReady d) : pairCompare o n d =
    if countGood n (lfoExpect d) then
      { d with clk.hfo := .stable, clk.lfo := .stable, clk.pairTries := 0
               power.stepNo := if d.power.pstate == .starting then max d.power.stepNo 6 else d.power.stepNo }
    else if d.power.safeHold then { d with clk.hfo := .failed }
    else if d.clk.pairTries + 1 < 3 then { d with clk.pairTries := d.clk.pairTries + 1, clk.retryDue := some o }
    else enterSafeHold .hfoFail { d with clk.hfo := .failed, clk.pairTries := 0 } := by
  have hs' : (d.power.safeHold || (d.power.pstate == .starting && decide (d.power.stepNo < 7))) = true := by
    simpa [PairStarts] using hs
  rw [pairReady_iff] at hr
  unfold pairCompare
  simp only [hs', hr, if_true, Bool.false_eq_true, if_false]

theorem pairCompare_monitor (hs : ¬ PairStarts d) : pairCompare o n d =
    if countGood n (lfoExpect d) then d
    else if o == .lfo then enterSafeHold .lfoFail d
    else enterSafeHold .hfoFail d := by
  have hs' : (d.power.safeHold || (d.power.pstate == .starting && decide (d.power.stepNo < 7))) = false := by
    rw [← Bool.not_eq_true]
    simpa [PairStarts] using hs
  unfold pairCompare
  simp only [hs', Bool.false_eq_true, if_false]

end Pair

theorem not_low_of_awake {d : Dev} (h : awake d = true) : ¬ Low d := by
  unfold Low
  rcases awake_pstate h with hp | hp | hp <;> simp [hp]

theorem not_pairStarts_of_awake {d : Dev} (h : awake d = true) (hh : d.power.safeHold = false) : ¬ PairStarts d := by
  unfold PairStarts
  rcases awake_pstate h with hp | hp | hp <;> simp [hp, hh]

/-- A comparison of HFO and LFO, whichever of the two it names. -/
theorem exec_pairCompare {o : Osc} (ho : o = .hfo ∨ o = .lfo) (n : Nat) (s : State) :
    exec (.clockCompareDone o n) s = runDev s (pairCompare o n) := by
  rcases ho with rfl | rfl <;> rfl

/-- Settles O7: an oscillator's start, a comparison by where it falls (start, SAFE_HOLD, monitor), the crystal's, the
repetition. -/
theorem oscillatorsAreJudged : Obligations.OscillatorsAreJudged := by
  intro s hc step good ready
  refine ⟨fun h => ?_, fun h => ?_, fun h => ?_, fun o h => ?_, fun o n ho => ⟨fun hp hstep hh hr => ?_, fun hh hr => ?_,
    fun hstart hr => ?_, fun ha hh => ?_⟩, fun n ha hh hxo hretry => ?_, fun o h => ?_, fun o h => ?_⟩
  · exact answers_beside rfl (by simp [h, step]) hc id
  · exact answers_beside rfl (by simp [h, step]) hc id
  · exact answers_beside rfl (by simp [h]) hc id
  · cases o
    all_goals
      simp only at h
      exact answers_same rfl hc (by simp [h])
  · have hcompare := pairCompare_starts (o := o) (n := n) (d := s.toDev) (.inr ⟨hp, hstep⟩) hr
    have hlow : ¬ Low s.toDev := by simp [Low, hp]
    refine ⟨fun hg => ?_, fun hg htries => ?_, fun hg htries => ?_⟩
    · exact answers_beside (exec_pairCompare ho n s) (hcompare.trans (by simp [(countGood_iff _ _).mpr hg, hp])) hc id
    · exact answers_beside (exec_pairCompare ho n s)
        (hcompare.trans (by simp [countGood_false hg, hh, show s.clk.pairTries + 1 < 3 by omega])) hc id
    · exact answers_held (exec_pairCompare ho n s)
        (hcompare.trans (by simp [countGood_false hg, hh, show ¬ s.clk.pairTries + 1 < 3 by omega])) hc hlow hh hh
  · have hcompare := pairCompare_starts (o := o) (n := n) (d := s.toDev) (.inl hh) hr
    refine ⟨fun hg => ?_, fun hg => ?_⟩
    · exact answers_beside (exec_pairCompare ho n s) (hcompare.trans (by simp [(countGood_iff _ _).mpr hg])) hc id
    · exact answers_beside (exec_pairCompare ho n s) (hcompare.trans (by simp [countGood_false hg, hh])) hc id
  · exact answers_same (exec_pairCompare ho n s) hc (pairCompare_notReady hstart hr)
  · have hcompare := pairCompare_monitor (o := o) (n := n) (not_pairStarts_of_awake ha hh)
    refine ⟨fun hg => ?_, fun hg => ?_⟩
    · exact answers_same (exec_pairCompare ho n s) hc (hcompare.trans (by simp [(countGood_iff _ _).mpr hg]))
    · refine answers_held (exec_pairCompare ho n s) (hcompare.trans ?_) hc (not_low_of_awake ha) hh hh
      rcases ho with rfl | rfl <;> simp [countGood_false hg]
  · have hrun : exec (.clockCompareDone .xo n) s =
        runDev s (fun d => if awake d || d.power.safeHold then xoCompare n d else d) := rfl
    refine ⟨fun hg => ?_, fun hg htries => ?_, fun hg htries hp => ?_⟩
    · exact answers_beside hrun (by simp [ha, xoCompare, hh, hxo, hretry, (countGood_iff _ _).mpr hg, xoStable]) hc id
    · exact answers_beside hrun (by
        simp [ha, xoCompare, hh, hxo, hretry, countGood_false hg, show s.clk.xoTries + 1 < 3 by omega]) hc id
    · exact answers_noted reactFull 0xFFFF [] false hrun (by
        simp [ha, xoCompare, hh, hxo, hretry, countGood_false hg, show ¬ s.clk.xoTries + 1 < 3 by omega, raise, raiseOn])
        hc hp id
  · exact answers_beside rfl (by simp [h]) hc id
  · exact answers_same rfl hc (by simp [h])

end Sys2Proof.Proofs
end

section
/-! PROOF. The steps of a start (03_supply_power_clocks.md R70) and what wakes the block (R59, R64 to R69). -/

namespace Sys2Proof.Proofs

open Sys2Proof Sys2Proof.Machine Sys2Proof.Safety Sys2Proof.Laws

/-! ## V5 and the MODE samples -/

theorem majority_iff (a b m : Bool) :
    decide (2 ≤ (([a, b] ++ [m]).filter (fun x => x)).length) = ((a && b) || (a && m) || (b && m)) := by
  cases a <;> cases b <;> cases m <;> rfl

theorem not_v5Present_of_starting {d : Dev} (h : v5Present d = false) (hp : d.power.pstate = .starting) : d.power.vaOn = false := by
  simpa [v5Present, hp] using h

theorem starting_of_v5Present {d : Dev} (h : v5Present d = true) : d.power.vaOn = true := by
  unfold v5Present at h
  split at h
  · cases h
  · cases h
  · cases h
  · exact h

/-- Settles O8: each row acts at its place in the start and nowhere else. -/
theorem startUpSteps : Obligations.StartUpSteps := by
  intro s hc
  refine ⟨fun mode hp hva => ?_, fun mode hv => ?_, fun mode hp hv => ?_, fun a m hp hm => ?_, fun a b m hp hm => ?_,
    fun m h => ?_, ⟨fun hr => ?_, fun hr => ?_⟩, ⟨fun hl => ?_, fun hl => ?_⟩⟩
  · refine answers_beside rfl ?_ hc id
    cases hrelay : s.power.toneRelay <;> simp [hp, hva, sendTone]
  · exact answers_beside rfl (by simp [hv, starting_of_v5Present hv]) hc id
  · exact answers_same rfl hc (by simp [hp, hv])
  · exact answers_beside rfl (by simp [hp, hm]) hc id
  · have hmajor := majority_iff a b m
    exact answers_beside rfl (by simpa [hp, hm] using hmajor) hc id
  · refine answers_same rfl hc ?_
    rcases h with h | h | h <;> simp [h]
  · obtain ⟨hp, hstep, hh, hv5, hm, hhfo, hlfo⟩ := hr
    exact answers_beside rfl (by simp [hp, hstep, hh, hv5, hm, hhfo, hlfo, coreRelease]) hc id
  · exact answers_same rfl hc (if_neg (by simpa [and_assoc] using hr))
  · obtain ⟨hp, hstep, hcore⟩ := hl
    exact answers_beside rfl (by simp [hp, hstep, hcore]) hc id
  · exact answers_same rfl hc (if_neg (by simpa [and_assoc] using hl))

/-! ## Wake sources -/

/-- A tone's cause is that of its port (R69). -/
theorem toneCause_eq (p : Port) : (if p == .A then Cause.toneA else .toneB) = (match p with | .A => .toneA | .B => .toneB) := by
  cases p <;> rfl

/-- What SLEEP and SHIP let wake the block (R66): in SHIP what bit i of SHIP_WAKE_MASK enables. -/
def Wakes (i : Nat) (d : Dev) : Prop :=
  d.power.pstate = .sleep ∨ (d.power.pstate = .ship ∧ (imageItem d 0x0A08).toNat.testBit i = true)

/-- What a wake source does in each power state: a where it wakes the block, b elsewhere. -/
def wakeChoice {α : Type} (i : Nat) (d : Dev) (a b : α) : α :=
  match d.power.pstate with
  | .sleep => a
  | .ship => if (imageItem d 0x0A08).toNat.testBit i then a else b
  | _ => b

theorem wakeChoice_wakes {α : Type} {i : Nat} {d : Dev} {a b : α} (h : Wakes i d) : wakeChoice i d a b = a := by
  unfold wakeChoice
  rcases h with hp | ⟨hp, hm⟩
  · simp [hp]
  · simp [hp, hm]

theorem wakeChoice_sleeps {α : Type} {i : Nat} {d : Dev} {a b : α} (h : ¬ Wakes i d) : wakeChoice i d a b = b := by
  unfold wakeChoice
  split
  · exact absurd (.inl ‹_›) h
  · exact if_neg fun hm => h (.inr ⟨‹_›, hm⟩)
  · rfl

/-- WAKE_PIN rising (R66, R488). -/
theorem exec_wakePin (s : State) : exec (.wakePin true) s = runDev s (fun d =>
    let d1 := { d with power.wakeSeen := d.power.wakeSeen || (d.power.safeHold && d.power.tripThird) }
    wakeChoice 0 d (beginStart .wakePin d1) d1) := rfl

/-- WAKE_TONE_DETECT (R66 to R68). -/
theorem exec_wakeToneDetect (p : Port) (s : State) : exec (.wakeToneDetect p) s = runDev s (fun d =>
    if d.now < d.power.toneUntil || !d.power.toneTx.isEmpty then d
    else wakeChoice (p.num + 1) d
      (beginStart (if p == .A then .toneA else .toneB) { d with power.toneRelay := some p.other }) d) := rfl

/-- Settles O12: each source begins the start with its cause where R66 lets it. -/
theorem wakeSources : Obligations.WakeSources := by
  intro s hc pinned shipWake tone wakes
  refine ⟨fun hw => ?_, fun hw => ?_, ?_, fun p hu ht hw => ?_, fun p h => ?_, fun cells ax hp hv => ?_, fun cells ax h => ?_,
    fun hp ht => ?_, fun h => ?_, fun p hp => ?_, fun p hp => ?_, ?_⟩
  · exact answers_beside (exec_wakePin s) (wakeChoice_wakes hw) hc id
  · exact answers_beside (exec_wakePin s) (wakeChoice_sleeps hw) hc id
  · exact answers_same rfl hc rfl
  · have hquiet : ¬ (s.now < s.power.toneUntil) := not_lt.mpr hu
    refine answers_beside (exec_wakeToneDetect p s) ?_ hc id
    cases p <;> simp [hquiet, ht, wakeChoice_wakes (show Wakes _ s.toDev from hw), tone]
  · refine answers_same (exec_wakeToneDetect p s) hc ?_
    dsimp only
    split
    · rfl
    · rename_i hidle
      refine wakeChoice_sleeps fun hw => ?_
      simp only [Bool.or_eq_true, decide_eq_true_eq, not_or, Bool.not_eq_true', Bool.not_eq_false,
        List.isEmpty_iff] at hidle
      rcases h with h | h | h
      · exact hidle.1 h
      · exact h hidle.2
      · exact h hw
  · exact answers_beside rfl (by simp [hp, hv, sendTone]) hc id
  · refine answers_same rfl hc ?_
    rcases h with h | h <;> simp [h]
  · exact answers_beside rfl (by simp [hp, ht]) hc id
  · refine answers_same rfl hc ?_
    rcases h with h | h <;> simp [h]
  · exact answers_beside rfl (by simp [toneSent, hp]) hc id
  · exact answers_same rfl hc (by simp [toneSent, hp])
  · exact answers_beside rfl rfl hc id

end Sys2Proof.Proofs
end

section
/-! PROOF. The entry to SLEEP and SHIP (03_supply_power_clocks.md R58, R61, R62, R436). -/

namespace Sys2Proof.Proofs

open Sys2Proof Sys2Proof.Machine Sys2Proof.Safety Sys2Proof.Laws

/-- b is a but for the journal, the session and what the faults hold of injections and check bits. -/
def EntriesWrite (a b : Dev) : Prop := b = { a with jrn := b.jrn, sess := b.sess, fault := b.fault }

theorem entriesWrite_refl (a : Dev) : EntriesWrite a a := rfl

theorem entriesWrite_trans {a b c : Dev} (hab : EntriesWrite a b) (hbc : EntriesWrite b c) : EntriesWrite a c := by
  unfold EntriesWrite at hab hbc ⊢
  rw [hab] at hbc
  exact hbc

theorem entriesWrite_writeNext (d : Dev) : EntriesWrite d (writeNext d) := by
  unfold writeNext
  split <;> rfl

theorem entriesWrite_writeEach {α : Type} (l : List α) (d : Dev) : EntriesWrite d (forEach l (fun _ d => writeNext d) d) := by
  induction l generalizing d with
  | nil => exact entriesWrite_refl d
  | cons _ t ih => exact entriesWrite_trans (entriesWrite_writeNext d) (ih _)

/-- The end of a session, and every entry that waits written, touch no more than journal and session (R518, R536). -/
theorem entriesWrite_leave (cause : Nat) (d : Dev) : EntriesWrite d (writeAll (endSession cause d)) := by
  refine entriesWrite_trans ?_ (entriesWrite_writeEach _ _)
  unfold endSession
  split <;> rfl

theorem calm_enterLow (p : PState) (d : Dev) : Calm (enterLow p d) :=
  calm_of_reset rfl (unarmed_reset rfl) ⟨rfl, rfl, rfl⟩ rfl

theorem map_fst_retentionImage (d : Dev) : (retentionImage d).map (fun e => e.1) = imageIds d := by
  simp [retentionImage, Function.comp_def]

/-- Both rows by which a departure ends (R436). -/
theorem exec_sleepEntry {c : Instr} (hc : c = .sleepEntry ∨ c = .sleepEntryTimeout) (s : State) :
    exec c s = runDev s (fun d =>
      match d.power.leaving with
      | some p => enterLow p d
      | none => d) := by
  rcases hc with rfl | rfl <;> rfl

/-- Settles O13: with a departure accepted both rows are enterLow; without one they do nothing. -/
theorem entryToSleepAndShip : Obligations.EntryToSleepAndShip := by
  intro s c hrow
  refine ⟨fun p hp hlow => ?_, fun hp hc => ?_⟩
  · refine answers_mono (answers_beside (a := enterLow p s.toDev) (exec_sleepEntry hrow s) (by simp [hp])
      (calm_enterLow p s.toDev) nofun) fun t ht => ?_
    have hkept := entriesWrite_leave 4 s.toDev
    have hpins : (writeAll (endSession 4 s.toDev)).pins = s.pins := by rw [hkept]
    have hpart : (writeAll (endSession 4 s.toDev)).part = s.part := by rw [hkept]
    have hotp : (writeAll (endSession 4 s.toDev)).otp = s.otp := by rw [hkept]
    have howners : (enterLow p s.toDev).power.retainedGpio =
        s.pins.gpioOwner.map (fun f => if f = 1 ∨ f = 2 ∨ f = 5 then f else 0) := by
      rw [← hpins]
      rfl
    rw [pinOwners_of_beside ht, power_of_beside ht, clk_of_beside ht, tb_of_beside ht, conv_of_beside ht, aux_of_beside ht,
      host_of_beside ht, cmd_of_beside ht, cfg_of_beside ht, jrn_of_beside ht, otp_of_beside ht, part_of_beside ht]
    refine ⟨ht, rfl, rfl, rfl, rfl, rfl, ?_, rfl, rfl, rfl, rfl, rfl, rfl, hpart, ?_, map_fst_retentionImage _, howners, rfl, ?_, ?_⟩
    · rcases hlow with rfl | rfl <;> rfl
    · exact (tearBurn_kept _).1.trans (congrArg Otp.uid hotp)
    · rintro rfl
      rfl
    · rintro rfl
      exact ⟨rfl, rfl⟩
  · exact answers_same (exec_sleepEntry hrow s) hc (by simp [hp])

end Sys2Proof.Proofs
end

section
/-! PROOF. What the conversion settings and the SAR's choice of work leave as they were (05_cell_conversion.md R136, R147,
06_aux_path_and_leat.md R165, R166). -/

namespace Sys2Proof.Proofs

open Sys2Proof Sys2Proof.Machine Sys2Proof.Safety Sys2Proof.Laws

/-! ## Settings taken into force -/

/-- b is a but for the timebase, the conversion without its captures, the balance anchor and what an occurrence notes. -/
def ConvWrite (a b : Dev) : Prop :=
  b = { a with
    tb := b.tb
    conv := { b.conv with caps := a.conv.caps }
    bal := { a.bal with anchorDue := b.bal.anchorDue }
    host := { a.host with evf := b.host.evf, evt := b.host.evt, evtRecs := b.host.evtRecs, evtRseq := b.host.evtRseq,
                          evtDrop := b.host.evtDrop }
    fault := { a.fault with esc := b.fault.esc, stretch := b.fault.stretch, latch := b.fault.latch } } ∧
  (a.fault.latch = true → b.fault.latch = true)

theorem convWrite_refl (a : Dev) : ConvWrite a a := ⟨rfl, id⟩

theorem convWrite_trans {a b c : Dev} (hab : ConvWrite a b) (hbc : ConvWrite b c) : ConvWrite a c := by
  obtain ⟨hb, hlb⟩ := hab
  obtain ⟨hc, hlc⟩ := hbc
  refine ⟨?_, fun h => hlc (hlb h)⟩
  rw [hb] at hc
  exact hc

theorem convWrite_of_occWrite {a b : Dev} (h : OccWrite a b) : ConvWrite a b := by
  obtain ⟨hb, hl⟩ := h
  refine ⟨?_, hl⟩
  rw [hb]

theorem calm_of_convWrite {a b : Dev} (h : ConvWrite a b) (hc : Calm a) : Calm b :=
  calm_of_eq hc (by rw [h.1]) (by rw [h.1]) (by rw [h.1]) (by rw [h.1])

theorem escReaction_of_convWrite {a b : Dev} (h : ConvWrite a b) (k : Nat) : escReaction b k = escReaction a k := by
  rw [h.1]; rfl

theorem convWrite_pllmUnlocked {d : Dev} (h : escReaction d 101 ≠ 5) : ConvWrite d (pllmUnlocked d) := by
  unfold pllmUnlocked
  split
  · exact convWrite_trans (b := reanchor (settleAll { d with tb.pllmLock := false })) ⟨rfl, id⟩
      (convWrite_of_occWrite (occWrite_raiseNS 101 _ h))
  · exact convWrite_refl d

theorem convWrite_judgeBand {d : Dev} (h : escReaction d 101 ≠ 5) : ConvWrite d (judgeBand d) := by
  unfold judgeBand
  split
  · exact convWrite_refl d
  · exact convWrite_trans (b := { d with conv.aplRange := d.conv.aplRange || d.conv.apl != 0 }) ⟨rfl, id⟩
      (convWrite_pllmUnlocked h)

theorem convWrite_setMult (n : Nat) {d : Dev} (h : escReaction d 101 ≠ 5) : ConvWrite d (setMult n d) := by
  unfold setMult
  dsimp only
  refine convWrite_trans ?_ (convWrite_judgeBand ?_)
  · exact ⟨rfl, id⟩
  · exact h

theorem convWrite_forEach {α : Type} (l : List α) {f : α → Dev → Dev} (hf : ∀ x d, ConvWrite d (f x d)) (d : Dev) :
    ConvWrite d (forEach l f d) := by
  induction l generalizing d with
  | nil => exact convWrite_refl d
  | cons x t ih => exact convWrite_trans (hf x d) (ih _)

theorem convWrite_whenDo (b : Bool) {f : Dev → Dev} {d : Dev} (hf : ConvWrite d (f d)) : ConvWrite d (whenDo b f d) := by
  unfold whenDo
  split
  · exact hf
  · exact convWrite_refl d

theorem convWrite_convTake {d : Dev} (h : escReaction d 101 ≠ 5) : ConvWrite d (convTake d) := by
  unfold convTake
  dsimp only
  generalize hd2 : whenDo _ settleAll _ = d2
  have h2 : ConvWrite d d2 := by
    rw [← hd2]
    refine convWrite_trans (convWrite_trans ?_ (convWrite_forEach _ (f := enableChannel) (fun _ _ => ⟨rfl, id⟩) _))
      (convWrite_whenDo _ ⟨rfl, id⟩)
    exact ⟨rfl, id⟩
  generalize hd4 : whenDo _ reanchor _ = d4
  have h4 : ConvWrite d d4 := by
    rw [← hd4]
    exact convWrite_trans (convWrite_trans h2 (convWrite_whenDo _ ⟨rfl, id⟩)) (convWrite_whenDo _ ⟨rfl, id⟩)
  refine convWrite_trans h4 (convWrite_whenDo _ (convWrite_setMult _ ?_))
  rw [escReaction_of_convWrite h4]
  exact h

theorem convWrite_convChanged {d : Dev} (h : escReaction d 101 ≠ 5) : ConvWrite d (convChanged d) := by
  unfold convChanged
  split
  · exact ⟨rfl, id⟩
  · split
    · exact ⟨rfl, id⟩
    · split
      · exact convWrite_convTake h
      · exact ⟨rfl, id⟩

/-! ## The SAR's work -/

/-- b is a but for the loop, the leat slot and the entry under way; without a table that waits, the table stays. -/
def SarWrite (a b : Dev) : Prop :=
  b = { a with aux := { a.aux with
    table := b.aux.table, nextTable := b.aux.nextTable, pos := b.aux.pos, sum := b.aux.sum, count := b.aux.count
    delaying := b.aux.delaying, last := b.aux.last, lateEntries := b.aux.lateEntries, user := b.aux.user, convAt := b.aux.convAt
    slotPending := b.aux.slotPending, slotPriority := b.aux.slotPriority, slotOf := b.aux.slotOf
    slotVerify := b.aux.slotVerify, rrNext := b.aux.rrNext, prNext := b.aux.prNext } } ∧
  (a.aux.nextTable = none → b.aux.nextTable = none ∧ b.aux.table = a.aux.table)

theorem sarWrite_refl (a : Dev) : SarWrite a a := ⟨rfl, fun h => ⟨h, rfl⟩⟩

theorem sarWrite_trans {a b c : Dev} (hab : SarWrite a b) (hbc : SarWrite b c) : SarWrite a c := by
  obtain ⟨hb, htb⟩ := hab
  obtain ⟨hc, htc⟩ := hbc
  refine ⟨?_, fun h => ?_⟩
  · rw [hb] at hc
    exact hc
  · obtain ⟨hn, ht⟩ := htb h
    obtain ⟨hn', ht'⟩ := htc hn
    exact ⟨hn', ht'.trans ht⟩

theorem calm_of_sarWrite {a b : Dev} (h : SarWrite a b) (hc : Calm a) : Calm b := by
  obtain ⟨hbusy, hwait, hcaps, hdac⟩ := hc
  rw [h.1]
  exact ⟨hbusy, hwait, hcaps, hdac⟩

theorem sarWrite_takeTable (d : Dev) : SarWrite d (takeTable d) := by
  unfold takeTable
  split
  · exact sarWrite_refl d
  · rename_i ht
    exact ⟨rfl, fun h => by rw [h] at ht; cases ht⟩

theorem sarWrite_loopWork (d : Dev) : SarWrite d (loopWork d) := by
  unfold loopWork
  split
  · exact ⟨rfl, fun h => ⟨h, rfl⟩⟩
  · split
    · split <;> exact ⟨rfl, fun h => ⟨h, rfl⟩⟩
    · exact ⟨rfl, fun h => ⟨h, rfl⟩⟩

theorem sarWrite_startSlot (d : Dev) : SarWrite d (startSlot d) := by
  unfold startSlot
  dsimp only
  split
  · split
    · exact ⟨rfl, fun h => ⟨h, rfl⟩⟩
    · exact ⟨rfl, fun h => ⟨h, rfl⟩⟩
    · split <;> exact ⟨rfl, fun h => ⟨h, rfl⟩⟩
  · split <;> exact ⟨rfl, fun h => ⟨h, rfl⟩⟩

/-- The leat slot that is pending where it fits, else the loop (R166). -/
theorem sarWrite_slotOrLoop (b : Bool) (d : Dev) : SarWrite d (if b then
    (let d2 := startSlot d
     if d2.aux.user == .leat then d2 else loopWork d2) else loopWork d) := by
  split
  · have hslot := sarWrite_startSlot d
    dsimp only
    split
    · exact hslot
    · exact sarWrite_trans hslot (sarWrite_loopWork _)
  · exact sarWrite_loopWork d

theorem sarWrite_sarWork (d : Dev) : SarWrite d (sarWork d) := by
  have htable : SarWrite d (if d.aux.count = 0 then takeTable d else d) := by
    split
    · exact sarWrite_takeTable d
    · exact sarWrite_refl d
  unfold sarWork
  split
  · exact ⟨rfl, fun h => ⟨h, rfl⟩⟩
  · split
    · exact ⟨rfl, fun h => ⟨h, rfl⟩⟩
    · exact sarWrite_trans htable (sarWrite_slotOrLoop _ _)

theorem sarWrite_sarKick (d : Dev) : SarWrite d (sarKick d) := by
  unfold sarKick
  split
  · exact sarWrite_sarWork d
  · exact sarWrite_refl d

end Sys2Proof.Proofs
end

section
/-! PROOF. The end of boot (03_supply_power_clocks.md R70 step 9): with nothing kept over the reset, the configuration at its
reset values comes to act, and the sequencer starts. -/

namespace Sys2Proof.Proofs

open Sys2Proof Sys2Proof.Machine Sys2Proof.Safety Sys2Proof.Laws

theorem pickGen_nil (d : Dev) : pickGen [] d = (d, none) := by
  delta pickGen
  rfl

theorem pickGen_skip {g : Nat} {t : List Nat} {d : Dev} (h : genState d g ≠ 1) : pickGen (g :: t) d = pickGen t d :=
  (if_pos h : (if genState d g ≠ 1 then pickGen t d else _) = pickGen t d)

theorem pickGen_none {d : Dev} {l : List Nat} (h : ∀ g ∈ l, genState d g ≠ 1) : pickGen l d = (d, none) := by
  induction l with
  | nil => exact pickGen_nil d
  | cons g t ih => exact (pickGen_skip (h g (by simp))).trans (ih fun g' hg' => h g' (by simp [hg']))

theorem itemEffects_nil (o d : Dev) : itemEffects o [] [] d = d := by
  simp only [itemEffects, whenDo, List.any_nil, List.contains_nil, Bool.false_and, Bool.false_eq_true, if_false]

theorem power_retained_nil {p : Power} (h : p.retained = []) (hg : p.retainedGpio = []) :
    { p with retained := [], retainedGpio := [] } = p := by
  cases p
  simp_all

theorem applyImage_none {d : Dev} (h : d.power.retained = []) (hg : d.power.retainedGpio = []) : applyImage d = d := by
  have himage : applyImage d = { d with power := { d.power with retained := [], retainedGpio := [] } } := by
    simp [applyImage, forEach, h, hg, nth]
  rw [himage, power_retained_nil h hg]

theorem escReset_cmp : ∀ k, k < 64 → (escReset k).toNat % 16 = 0 := by decide

theorem itemN_reset_esc {d : Dev} (h : d.cfg = []) {k : Nat} (hk : k < 128) : itemN d (0x0800 + k) = (escReset k).toNat := by
  have hitem : item d (0x0800 + k) = itemReset d.part (0x0800 + k) := by simp [item, h, cfgGet, akey]
  have hrow : itemReset d.part (0x0800 + k) = escReset k := by
    unfold itemReset
    rw [if_neg (by simp; omega), if_neg (by simp; omega), if_neg (by simp; omega), if_pos (by simp; omega), Nat.add_sub_cancel_left]
  rw [itemN, hitem, hrow]

/-- With the items at their reset values the comparators' events have no reaction (R445). -/
theorem escReaction_reset {d : Dev} (h : d.cfg = []) {k : Nat} (hk : k < 64) : escReaction d k = 0 := by
  rw [escReaction, itemN_reset_esc h (by omega)]
  exact escReset_cmp k hk

theorem itemN_reset_wake {d : Dev} (h : d.cfg = []) : itemN d 0x030A = 0 := by
  have hitem : item d 0x030A = itemReset d.part 0x030A := by simp [item, h, cfgGet, akey]
  rw [itemN, hitem]
  cases d.part <;> decide

/-- What a start that nothing was kept for leaves to the firmware: a START entry, the items at their reset values (R519). -/
def bareEntries (d : Dev) : Dev :=
  jput (fwCtx 1) 0x0BF4 0 (Word.of (causeCode d.power.cause))
    { d with cfg := [], pins := { d.pins with gpioOwner := [0, 0, 0, 0], gpioOut := 0 } }

/-- The same with no OTP generation in use (R530). -/
def bareConfig (d : Dev) : Dev := { bareEntries d with otp := { (bareEntries d).otp with used := none } }

theorem startEntries_bare {d : Dev} (hreact : d.fault.safeReact = false) (hended : d.sess.ended = 0) :
    startEntries d = jput (fwCtx 1) 0x0BF4 0 (Word.of (causeCode d.power.cause)) d := by
  simp [startEntries, hreact, hended]

theorem pickGen_bareEntries {d : Dev} (h : ∀ g, g < 4 → genState d g ≠ 1) :
    pickGen [3, 2, 1, 0] (bareEntries d) = (bareEntries d, none) := by
  refine pickGen_none fun g hg => ?_
  have hg4 : g < 4 := by
    simp only [List.mem_cons, List.not_mem_nil, or_false] at hg
    omega
  exact h g hg4

theorem bareConfig_notXo {d : Dev} (h : d.power.cause = .por) : ((bareConfig d).power.cause == .xoFail) = false := by
  show (d.power.cause == .xoFail) = false
  rw [h]
  rfl

theorem loadConfig_bare {o d : Dev} (hcause : d.power.cause = .por) (hret : d.power.retained = [])
    (hpins : d.power.retainedGpio = []) (hgen : ∀ g, g < 4 → genState d g ≠ 1) (hended : d.sess.ended = 0)
    (hreact : d.fault.safeReact = false) (ho : o.cfg = []) :
    loadConfig o d = rearm (applyAllSettings (convChanged (bareConfig d))) := by
  have hentries : startEntries { d with cfg := [], pins := { d.pins with gpioOwner := [0, 0, 0, 0], gpioOut := 0 } } =
      bareEntries d := startEntries_bare hreact hended
  have himage : applyImage (bareConfig d) = bareConfig d := applyImage_none hret hpins
  have happly : applyGen none (bareEntries d) = bareConfig d := rfl
  have hcfg : (bareConfig d).cfg = [] := rfl
  unfold loadConfig
  simp only [hentries, pickGen_bareEntries hgen, happly, himage, bareConfig_notXo hcause, Bool.false_eq_true, if_false, hcfg, ho,
    List.map_nil, List.append_nil, List.dedup_nil, List.filter_nil, itemEffects_nil]

theorem edgeWrite_applyAll (l : List Nat) (d : Dev) : EdgeWrite d (forEach l applySetting d) := by
  induction l generalizing d with
  | nil => exact edgeWrite_refl d
  | cons k t ih => exact edgeWrite_trans ⟨rfl, id, fun _ => rfl⟩ (ih (applySetting k d))

/-- What the firmware of a bare start leaves of the device a that step 9 gave it: but for its START entry and the conversion,
comparators and sequencer, only notes of events. -/
theorem bare_kept (a : Dev) :
    ∃ b : Dev, rearm (applyAllSettings (convChanged (bareConfig a))) = b ∧ b.power = a.power ∧ b.cmd = a.cmd ∧
      b.fault.startup = a.fault.startup ∧ (a.fault.latch = true → b.fault.latch = true) ∧ b.cfg = [] ∧ b.otp.used = none ∧
      b.conv.caps = a.conv.caps ∧ b.aux = a.aux ∧ b.bist = a.bist := by
  have hreset : escReaction (bareConfig a) 101 ≠ 5 := by
    rw [escReaction, itemN_reset_esc rfl (by decide)]
    decide
  obtain ⟨hconv, hlatch⟩ := convWrite_convChanged hreset
  have hset := edgeWrite_applyAll (List.range 64) (convChanged (bareConfig a))
  have hitems : (applyAllSettings (convChanged (bareConfig a))).cfg = [] := by
    rw [applyAllSettings, hset.1, hconv]
    rfl
  have harm := edgeWrite_trans hset (edgeWrite_rearm (.inr fun k hk => escReaction_reset hitems hk))
  have hwake : itemN (convChanged (bareConfig a)) 0x030A = 0 := itemN_reset_wake (by rw [hconv]; rfl)
  obtain ⟨hb, hlatch', hwake'⟩ := harm
  have hpower : (rearm (applyAllSettings (convChanged (bareConfig a)))).power = (convChanged (bareConfig a)).power := by
    have hw := hwake' hwake
    rw [applyAllSettings, hb, hw]
  refine ⟨_, rfl, ?_, ?_, ?_, fun h => hlatch' (hlatch h), ?_, ?_, ?_, ?_, ?_⟩
  · rw [hpower, hconv]
    rfl
  all_goals
    rw [applyAllSettings, hb, hconv]
    rfl

/-- The sequencer's start touches the sequencer only, and leaves the reset table (R169). -/
theorem auxStart_kept (d : Dev) : auxStart d = { d with aux := (auxStart d).aux } ∧ (auxStart d).aux.table = resetAuxTable ∧
    (Calm d → Calm (auxStart d)) := by
  have hsar := sarWrite_sarWork { d with aux := { d.aux with
    table := resetAuxTable, nextTable := none, pos := 0, sum := 0, count := 0, delaying := false, user := .idle
    txEntry := none, txNext := [], last := [], lateEntries := [] } }
  refine ⟨?_, (hsar.2 rfl).2, fun hc => calm_of_sarWrite hsar hc⟩
  rw [auxStart, hsar.1]

/-- The device at step 9, before the firmware's part (R70, R494). -/
def step9 (d : Dev) : Dev :=
  { d with
    power := { d.power with pstate := .standby, stepNo := 9, sleepViol := false }
    cmd := { d.cmd with hkReady := true }
    ring := { d.ring with silent := true }
    fault := { d.fault with startup := true, latch := true, critical := false } }

theorem reachStandby_eq (d : Dev) : reachStandby d =
    (if fromHold (auxStart (loadConfig { step9 d with cfg := [] } (step9 d))) then
      afterHold (auxStart (loadConfig { step9 d with cfg := [] } (step9 d)))
    else auxStart (loadConfig { step9 d with cfg := [] } (step9 d))) := rfl

theorem reachStandby_bare {d : Dev} (hcause : d.power.cause = .por) (hret : d.power.retained = [])
    (hpins : d.power.retainedGpio = []) (hgen : ∀ g, g < 4 → genState d g ≠ 1) (hended : d.sess.ended = 0)
    (hreact : d.fault.safeReact = false) :
    reachStandby d = auxStart (rearm (applyAllSettings (convChanged (bareConfig (step9 d))))) := by
  have hload := loadConfig_bare (o := { step9 d with cfg := [] }) (d := step9 d) hcause hret hpins hgen hended hreact rfl
  obtain ⟨b, hb, hpower, -⟩ := bare_kept (step9 d)
  rw [reachStandby_eq, hload, if_neg]
  rw [hb, fromHold, (auxStart_kept b).1]
  show ¬ decide (0x10 ≤ causeCode b.power.cause) = true
  rw [hpower]
  show ¬ decide (0x10 ≤ causeCode d.power.cause) = true
  rw [hcause]
  decide

/-- Settles O9: step 9 makes the device STANDBY; the firmware's part keeps what the statement lists. -/
theorem endOfBootIsStandby : Obligations.EndOfBootIsStandby := by
  intro s hc
  refine ⟨fun hp hstep hcore hcause hret hpins hgen hended hreact _ => ?_, fun h => ?_⟩
  · have hreach := reachStandby_bare hcause hret hpins hgen hended hreact
    obtain ⟨b, hb, hbpower, hbcmd, hbstart, hblatch, hbcfg, hbused, hbcaps, hbaux, hbbist⟩ := bare_kept (step9 s.toDev)
    rw [hb] at hreach
    obtain ⟨hstart, htable, hcalm⟩ := auxStart_kept b
    have hc9 : Calm (step9 s.toDev) := hc
    have hcalmb : Calm b := calm_of_eq hc9 hbcmd hbcaps hbaux hbbist
    refine answers_mono (answers_beside (a := auxStart b) rfl ?_ (hcalm hcalmb) ?_) fun t ht => ?_
    · simp [hp, hstep, hcore, hreach]
    · rw [hstart]
      show b.power.safeHold = true → _
      rw [hbpower]
      exact id
    · rw [power_of_beside ht, cmd_of_beside ht, fault_of_beside ht, cfg_of_beside ht, aux_of_beside ht, otp_of_beside ht]
      refine ⟨?_, ?_, ?_, ?_, ?_, htable, ?_⟩
      · rw [hstart]; exact hbpower
      · rw [hstart]; exact hbcmd
      · rw [hstart]; exact hbstart
      · rw [hstart]; exact hblatch rfl
      · rw [hstart]; exact hbcfg
      · rw [hstart]; exact hbused
  · refine answers_same rfl hc (if_neg ?_)
    rcases h with h | h | h <;> simp [h]

end Sys2Proof.Proofs
end

section
/-! PROOF. The phase accumulator and the meridian (04_phase_timebase.md R91, R92, R101, R104, R114, R119). -/

namespace Sys2Proof.Proofs

open Sys2Proof Sys2Proof.Machine Sys2Proof.Safety Sys2Proof.Laws

/-- Without a CONTINUOUS frame in progress no centre passes (R129). -/
theorem passCentre_none {d : Dev} (h : d.conv.frameAt = none) (k : Nat) : passCentre k d = d := by
  simp [passCentre, h]

theorem passCycles_noFrame {d : Dev} (h : d.conv.frameAt = none) (k : Nat) : passCycles k d = { d with
    now := d.now + k
    tb := { d.tb with acc := ((d.tb.acc : Int) + (k * d.tb.inc : Nat) + slewIn k d).toNat % 2 ^ 48
                      corr := d.tb.corr - slewIn k d
                      slewing := d.tb.slewing && d.tb.corr != slewIn k d } } := by
  rw [passCycles, passCentre_none h]
  rfl

theorem slewIn_one (d : Dev) :
    slewIn 1 d = clampInt (-((d.tb.inc / 64 : Nat) : Int)) ((d.tb.inc / 64 : Nat) : Int) d.tb.corr := by
  simp [slewIn]

/-- A cycle's share of the correction takes back no more than INC adds (R92). -/
theorem slewIn_one_ge (d : Dev) : -(d.tb.inc : Int) ≤ slewIn 1 d := by
  rw [slewIn_one]
  unfold clampInt
  omega

/-- Settles O14: a cycle adds INC and its share of the correction; while the core die rests only the cycle is counted (log 2). -/
theorem phaseAccumulatorAdvances : Obligations.PhaseAccumulatorAdvances := by
  intro s hq
  refine ⟨?_, fun hasleep => ?_⟩
  · intro c hc hawake hframe hwrap
    have hslew : slewIn 1 s.toDev = c := slewIn_one s.toDev
    have hge := slewIn_one_ge s.toDev
    rw [hslew] at hge
    have hstay : accAfter 1 s.toDev < 2 ^ 48 := by
      rw [accAfter, hslew]
      omega
    have hacc : (((s.tb.acc : Int) + (1 * s.tb.inc : Nat) + c).toNat % 2 ^ 48 : Nat) = ((s.tb.acc : Int) + s.tb.inc + c).toNat := by
      omega
    have htick : tickPhase s.toDev = { s.toDev with
        now := s.now + 1
        tb := { s.tb with acc := ((s.tb.acc : Int) + s.tb.inc + c).toNat, corr := s.tb.corr - c
                          slewing := s.tb.slewing && s.tb.corr != c } } := by
      rw [tickPhase, if_pos hstay, passCycles_noFrame hframe, hslew, hacc]
    have hidle : idleTick s.toDev = effect tickPhase s.toDev := if_pos hawake
    have hbeside : Beside (tickPhase s.toDev) (effect tickPhase s.toDev) :=
      beside_effect (by rw [htick]; exact hc) (by rw [htick]; exact id)
    rw [htick] at hbeside
    refine ⟨_, step_empty hq, hq, ?_, ?_⟩
    · show ((idleTick s.toDev).tb.acc : Int) = _
      rw [hidle, tb_of_beside hbeside]
      show ((((s.tb.acc : Int) + s.tb.inc + c).toNat : Nat) : Int) = _
      omega
    · show Beside _ (idleTick s.toDev)
      rw [hidle]
      exact hbeside
  · rw [step_empty hq, idleTick, hasleep]
    rfl

/-! ## The meridian -/

theorem judgeBand_unlocked {d : Dev} (hlock : d.tb.pllmLock = false) (hapl : d.conv.apl = 0) : judgeBand d = d := by
  have hrange : (d.conv.aplRange || d.conv.apl != 0) = d.conv.aplRange := by simp [hapl]
  unfold judgeBand
  rw [hrange]
  split
  · rfl
  · exact if_neg (by simp [hlock])

theorem judgeBand_inBand {d : Dev} (h : multInBand d.tb.mult d.tb.inc = true) : judgeBand d = d := if_pos h

/-- What waits for the meridian when only a frequency can wait (R104). -/
theorem meridianSettings_freq {d : Dev} (hmult : d.tb.multNext = none) (hwait : d.conv.waiting = false)
    (hlock : d.tb.pllmLock = false) (hapl : d.conv.apl = 0) : meridianSettings d = { d with
      tb := { d.tb with
        inc := if d.tb.freqNext = true ∧ d.tb.state = .free then incOf (itemN d 0x0602) else d.tb.inc
        freqNext := false } } := by
  have hjudge : ∀ t : Timebase, t.pllmLock = false → judgeBand { d with tb := t } = { d with tb := t } := fun t ht =>
    judgeBand_unlocked ht hapl
  unfold meridianSettings
  split
  · rename_i hfree
    have hfree' : d.tb.freqNext = true ∧ d.tb.state = .free := by simpa using hfree
    simp only [hmult, hwait, Bool.false_and, Bool.false_eq_true, if_false, if_pos hfree']
    exact hjudge _ hlock
  · rename_i hfree
    have hfree' : ¬ (d.tb.freqNext = true ∧ d.tb.state = .free) := by simpa using hfree
    simp only [hmult, hwait, Bool.false_and, Bool.false_eq_true, if_false, if_neg hfree']
    exact hjudge _ hlock

theorem switchPlans_none {d : Dev} (h : d.tb.loads = []) : switchPlans d = d := by
  simp [switchPlans, h, forEach]

/-- PERIOD_CNT after a meridian (R91, R101). -/
def periodAfter (t : Timebase) : Nat :=
  let p0 := match t.stepTo with
    | some v => v % 2 ^ 32
    | none => (t.period + 1) % 2 ^ 32
  let m := max 1 t.renumMod
  match t.renumAt with
  | some n => if n ≤ 1 then (p0 + (m - p0 % m) % m) % 2 ^ 32 else p0
  | none => p0

theorem countPeriod_eq (d : Dev) : countPeriod d = { d with tb := { d.tb with
    period := periodAfter d.tb, stepTo := none
    renumAt := (match d.tb.renumAt with
      | some n => if n ≤ 1 then none else some (n - 1)
      | none => none) } } := by
  unfold countPeriod periodAfter
  cases d.tb.stepTo
  all_goals
    cases hr : d.tb.renumAt with
    | none => simp only [← hr]
    | some n => by_cases hn : n ≤ 1 <;> simp [hn]

theorem windowsAtMeridian_noPlan {d : Dev} (h : d.eis.plan = none) : windowsAtMeridian d = d := by
  simp [windowsAtMeridian, h]

theorem closeEmpty_noPlan {d : Dev} (h : d.eis.plan = none) : closeEmpty d = d := by
  simp [closeEmpty, h]

theorem anchorFrames_transit {d : Dev} (h : d.conv.mode = 0) : anchorFrames d = d := by
  simp [anchorFrames, h]

theorem balAtMeridian_notDue {d : Dev} (h : d.bal.anchorDue = false) : balAtMeridian d = d := by
  simp [balAtMeridian, h]

theorem syncOut_eq (d : Dev) : syncOut d =
    (let pulse := isHead d && awake d && itemN d 0x0608 == 1 && d.tb.period % itemN d 0x0609 == 0
     { d with pins := { d.pins with syncOut := d.pins.syncOut || pulse }
              tb := { d.tb with syncPulse := d.tb.syncPulse || pulse } }) := by
  unfold syncOut
  split
  · rename_i h
    have hpulse : (isHead d && awake d && itemN d 0x0608 == 1 && d.tb.period % itemN d 0x0609 == 0) = true := by simpa using h
    simp [hpulse]
  · rename_i h
    have hpulse : (isHead d && awake d && itemN d 0x0608 == 1 && d.tb.period % itemN d 0x0609 == 0) = false := by
      rw [← Bool.not_eq_true]
      simpa using h
    simp [hpulse]

/-- The meridians that are being counted (R95). -/
def flyStep (d : Dev) : Dev :=
  { d with tb := { d.tb with flyCount := if d.tb.flyCounting then min 1000 (d.tb.flyCount + 1) else d.tb.flyCount } }

theorem flyStep_eq (d : Dev) : (if d.tb.flyCounting then { d with tb.flyCount := min 1000 (d.tb.flyCount + 1) } else d) = flyStep d := by
  unfold flyStep
  split <;> rfl

/-- With no plan, no impedance plan and no anchor waiting, the settings, the lead points and SYNC_OUT are all (R91). -/
theorem doMeridian_idle {d e : Dev} (he : flyStep (meridianSettings (countPeriod d)) = e) (hloads : e.tb.loads = [])
    (hnext : e.eis.next = none) (hplan : e.eis.plan = none) (hmode : e.conv.mode = 0) (hbal : e.bal.anchorDue = false) :
    doMeridian d = setLeads (syncOut e) := by
  unfold doMeridian
  dsimp only
  rw [flyStep_eq, he, switchPlans_none hloads]
  simp only [hnext]
  rw [windowsAtMeridian_noPlan hplan, closeEmpty_noPlan hplan, anchorFrames_transit hmode, balAtMeridian_notDue hbal]

/-- The timebase after a meridian for which nothing but a frequency waits. -/
def plainMeridian (d : Dev) : Timebase :=
  { d.tb with
    period := periodAfter d.tb, stepTo := none
    renumAt := (match d.tb.renumAt with
      | some n => if n ≤ 1 then none else some (n - 1)
      | none => none)
    inc := if d.tb.freqNext = true ∧ d.tb.state = .free then incOf (itemN d 0x0602) else d.tb.inc
    freqNext := false
    flyCount := if d.tb.flyCounting then min 1000 (d.tb.flyCount + 1) else d.tb.flyCount }

theorem settings_plain {d : Dev} (hmult : d.tb.multNext = none) (hwait : d.conv.waiting = false) (hlock : d.tb.pllmLock = false)
    (hapl : d.conv.apl = 0) : flyStep (meridianSettings (countPeriod d)) = { d with tb := plainMeridian d } := by
  have hset := meridianSettings_freq (d := countPeriod d) (by rw [countPeriod_eq]; exact hmult)
    (by rw [countPeriod_eq]; exact hwait) (by rw [countPeriod_eq]; exact hlock) (by rw [countPeriod_eq]; exact hapl)
  rw [hset, countPeriod_eq]
  rfl

theorem doMeridian_plain {d : Dev} (hmult : d.tb.multNext = none) (hloads : d.tb.loads = []) (hwait : d.conv.waiting = false)
    (hmode : d.conv.mode = 0) (hplan : d.eis.plan = none) (hnext : d.eis.next = none) (hbal : d.bal.anchorDue = false)
    (hlock : d.tb.pllmLock = false) (hapl : d.conv.apl = 0) : doMeridian d = setLeads (syncOut { d with tb := plainMeridian d }) :=
  doMeridian_idle (settings_plain hmult hwait hlock hapl) hloads hnext hplan hmode hbal

/-- Settles O15: the accumulator runs to its wrap, then the meridian acts on what waits for it. -/
theorem meridianCountsPeriods : Obligations.MeridianCountsPeriods := by
  intro s hc
  refine ⟨?_, fun h => ?_, fun h => ?_, fun h => ?_⟩
  · intro hawake hinc hmult hloads hwait hmode hplan hnext hbal hlock hapl hframe k c p0 m p inc pulse
    have hcycles := passCycles_noFrame hframe k
    have hmeridian : doMeridian (passCycles k s.toDev) =
        setLeads (syncOut { passCycles k s.toDev with tb := plainMeridian (passCycles k s.toDev) }) := by
      rw [hcycles]
      exact doMeridian_plain hmult hloads hwait hmode hplan hnext hbal hlock hapl
    have hpulse : (isHead s.toDev && awake s.toDev && itemN s.toDev 0x0608 == 1 && p % itemN s.toDev 0x0609 == 0) = pulse := by
      simp [pulse, hawake]
    refine answers_beside (f := fun d => if awake d && d.tb.inc != 0 then doMeridian (passCycles (cyclesToWrap d) d) else d) rfl
      ((if_pos (by simp [hawake, hinc])).trans (hmeridian.trans ?_)) ?_ ?_
    · rw [syncOut_eq, hcycles]
      rw [← hpulse]
      rfl
    · exact hc
    · exact id
  · refine answers_same rfl hc (if_neg ?_)
    rcases h with h | h <;> simp [h]
  · exact answers_beside rfl (by simp [h]) hc id
  · exact answers_same rfl hc (by simp [h])

end Sys2Proof.Proofs
end
section
/-! PROOF. The states of the timebase (04_phase_timebase.md R93, R95): what enters FLYWHEEL, ACQUIRE and LOCKED. -/

namespace Sys2Proof.Proofs

open Sys2Proof Sys2Proof.Machine Sys2Proof.Safety Sys2Proof.Laws

/-- The state's code on the head; a member keeps what the head sent (R93). -/
def stateCode (d : Dev) (c : Nat) : Nat := if isHead d then c else d.tb.headState

/-- The timebase in FLYWHEEL (R95): meridians are counted from 0, or on. -/
def flywheelTb (d : Dev) : Timebase :=
  { d.tb with state := .flywheel, headState := stateCode d 3, flyCounting := true
              flyCount := if d.tb.flyCounting then d.tb.flyCount else 0, rejRun := 0, goodBlocks := 0 }

theorem enterFlywheel_locked {d : Dev} (hl : d.tb.state = .locked) (hp : Plain d 112) :
    Occurred 112 { d with tb := flywheelTb d } (enterFlywheel d) := by
  have hraise := occurred_raiseNS 112 0xFFFF
    (d := { d with tb := { d.tb with state := .flywheel, headState := stateCode d 3 } }) hp
  have htb : (raiseNS 112 0xFFFF { d with tb := { d.tb with state := .flywheel, headState := stateCode d 3 } }).tb =
      { d.tb with state := .flywheel, headState := stateCode d 3 } := by
    obtain ⟨-, -, -, he⟩ := hraise
    rw [he]
  have hset : setTbState .flywheel d =
      raiseNS 112 0xFFFF { d with tb := { d.tb with state := .flywheel, headState := stateCode d 3 } } :=
    if_pos (by rw [hl]; rfl)
  have hent : enterFlywheel d =
      { raiseNS 112 0xFFFF { d with tb := { d.tb with state := .flywheel, headState := stateCode d 3 } } with tb := flywheelTb d } := by
    unfold enterFlywheel
    dsimp only
    rw [hset, htb]
    rfl
  rw [hent]
  exact occurred_tb hraise _

/-- The timebase in ACQUIRE (R93, R98). -/
def acquireTb (d : Dev) : Timebase :=
  { d.tb with state := .acquire, headState := stateCode d 1, accN := 0, rejRun := 0, goodFrom := none, acqAt := d.tb.period
              wordsAt := [], goodBlocks := 0 }

theorem enterAcquire_unlocked {d : Dev} (hl : d.tb.state ≠ .locked) : enterAcquire d = { d with tb := acquireTb d } := by
  have hset : setTbState .acquire d = { d with tb := { d.tb with state := .acquire, headState := stateCode d 1 } } :=
    if_neg (by simp [hl])
  unfold enterAcquire
  dsimp only
  rw [hset]
  rfl

/-- The timebase at the declaration of LOCKED in plain mode, N asked anew (R93, R95, R110). -/
def lockedTb (d : Dev) : Timebase :=
  { d.tb with state := .locked, headState := stateCode d 2, flyCounting := false, flyCount := 0, phaseLost := false, rejRun := 0
              multNext := some (plainMult d.tb.inc) }

theorem enterLocked_declares {d : Dev} (hl : d.tb.state ≠ .locked) (hapl : d.conv.apl = 0)
    (hband : multInBand d.tb.mult d.tb.inc = true ∨ d.tb.pllmLock = false) (hp : Plain d 112) :
    Occurred 112 { d with tb := lockedTb d } (enterLocked d) := by
  have hraise := occurred_raiseNS 112 0xFFFF
    (d := { d with tb := { d.tb with state := .locked, headState := stateCode d 2 } }) hp
  have hset : setTbState .locked d =
      raiseNS 112 0xFFFF { d with tb := { d.tb with state := .locked, headState := stateCode d 2 } } :=
    if_pos (by simp [hl])
  generalize raiseNS 112 0xFFFF { d with tb := { d.tb with state := .locked, headState := stateCode d 2 } } = e at hraise hset
  obtain ⟨htb, hconv⟩ : e.tb = { d.tb with state := .locked, headState := stateCode d 2 } ∧ e.conv = d.conv := by
    obtain ⟨-, -, -, he⟩ := hraise
    exact ⟨by rw [he], by rw [he]⟩
  have hapl' : e.conv.apl = 0 := by rw [hconv, hapl]
  have hask : askMult e.tb.inc { e with tb := { e.tb with flyCounting := false, flyCount := 0, phaseLost := false, rejRun := 0 } } =
      { e with tb := lockedTb d } := by
    unfold askMult
    rw [if_pos hapl', htb]
    rfl
  have hjudge : judgeBand { e with tb := lockedTb d } = { e with tb := lockedTb d } := by
    rcases hband with h | h
    · exact judgeBand_inBand h
    · exact judgeBand_unlocked h hapl'
  have hent : enterLocked d = { e with tb := lockedTb d } := by
    unfold enterLocked
    dsimp only
    rw [hset, hask, hjudge]
  rw [hent]
  exact occurred_tb hraise _

/-! ## Rejected references -/

/-- A rejected reference counted (R99). -/
def rejectedTb (t : Timebase) : Timebase := { t with refReject := satInc 255 t.refReject, rejRun := t.rejRun + 1 }

theorem rejectRef_counts {d : Dev} (h : d.tb.state ≠ .locked ∨ d.tb.rejRun < 3) : rejectRef d = { d with tb := rejectedTb d.tb } := by
  unfold rejectRef
  refine if_neg ?_
  rcases h with h | h
  · simp [h]
  · simp
    omega

theorem rejectRef_flywheel {d : Dev} (hl : d.tb.state = .locked) (hr : 3 ≤ d.tb.rejRun) (hp : Plain d 112) :
    Occurred 112 { d with tb := flywheelTb { d with tb := rejectedTb d.tb } } (rejectRef d) := by
  have hent : rejectRef d = enterFlywheel { d with tb := rejectedTb d.tb } := by
    unfold rejectRef
    refine if_pos ?_
    simp [hl]
    omega
  rw [hent]
  exact enterFlywheel_locked (d := { d with tb := rejectedTb d.tb }) hl hp

/-- Settles O18: the loss of the reference, and EV110 at the 1000th meridian of it. -/
theorem referenceLossEntersFlywheel : Obligations.ReferenceLossEntersFlywheel := by
  intro s hc fly
  refine ⟨fun hh hl hp => ?_, fun h => ?_, fun hm hl hp => ?_, fun h => ?_, fun hf hcnt hlost hp => ?_, fun h => ?_⟩
  · refine answers_occurred (f := fun d => if isHead d && d.tb.state == .locked then enterFlywheel d else d) rfl ?_ hc id
    have hfly := enterFlywheel_locked hl hp
    rw [if_pos (by simp [hh, hl])]
    simpa [flywheelTb, stateCode, hh] using hfly
  · refine answers_same rfl hc (if_neg ?_)
    rcases h with h | h <;> simp [h]
  · refine answers_occurred (f := fun d => if !isHead d && d.tb.state == .locked then enterFlywheel d else { d with tb.goodBlocks := 0 })
      rfl ?_ hc id
    have hfly := enterFlywheel_locked hl hp
    rw [if_pos (by simp [hm, hl])]
    simpa [flywheelTb, stateCode, hm] using hfly
  · refine answers_beside rfl (if_neg ?_) hc id
    rcases h with h | h <;> simp [h]
  · refine answers_occurred (f := fun d => if d.tb.flyCounting && d.tb.flyCount = 1000 && !d.tb.phaseLost then
      raise 110 { d with tb.phaseLost := true } else d) rfl ?_ hc id
    rw [if_pos (by simp [hf, hcnt, hlost])]
    exact occurred_raise 110 hp
  · refine answers_same rfl hc (if_neg ?_)
    rcases h with h | h | h <;> simp [h]

end Sys2Proof.Proofs
end

section
/-! PROOF. References on the head: SYNC_IN edges (04_phase_timebase.md R97 to R101, R571). -/

namespace Sys2Proof.Proofs

open Sys2Proof Sys2Proof.Machine Sys2Proof.Safety Sys2Proof.Laws

/-- The interval since the reference edge is too long (R99). -/
def edgeLong (d : Dev) : Bool :=
  match d.tb.refAt with
  | some t0 => decide (38400000 * itemN d 0x0603 < d.now - t0)
  | none => false

/-- The interval since the reference edge is too short (R99). -/
def edgeShort (d : Dev) : Bool :=
  match d.tb.refAt with
  | some t0 => decide (d.now - t0 < 7680 * itemN d 0x0603)
  | none => false

/-- The captured phase of an edge, unwrapped (R98). -/
def edgePhase (d : Dev) : Int := ((d.tb.acc : Int) - (2 + itemN d 0x0606) * d.tb.inc).fdiv (2 ^ 16)

/-- The phase error of an edge (R98). -/
def edgeError (d : Dev) : Int := sext 32 ((edgePhase d - itemN d 0x0605) % 2 ^ 32).toNat

/-- In LOCKED the error lies outside an eighth of a period (R99). -/
def edgeFar (d : Dev) : Prop := d.tb.state = .locked ∧ (edgeError d < -2 ^ 29 ∨ 2 ^ 29 < edgeError d)

/-- The edge is the selected one on a head with TB_SOURCE = SYNC_IN (R97). -/
def edgeMine (d : Dev) (r : Bool) : Prop :=
  isHead d = true ∧ awake d = true ∧ itemN d 0x0601 = 1 ∧ r = (itemN d 0x0604 == 0)

/-- SYNC_IN_EDGE of a selected edge (R99, R100). -/
def judgeEdge (d : Dev) : Dev :=
  if edgeLong d then rejectRef { d with tb.refAt := some d.now }
  else if edgeShort d then rejectRef d
  else if d.tb.state == .locked && (edgeError d < -2 ^ 29 || 2 ^ 29 < edgeError d) then rejectRef d
  else acceptEdge (itemN d 0x0603) (edgePhase d) (edgeError d) (d.tb.refAt.map (fun t0 => d.now - t0)) d

theorem exec_syncInEdge (r : Bool) (s : State) : exec (.syncInEdge r) s = runDev s (fun d =>
    if !isHead d || !awake d || itemN d 0x0601 != 1 || r != (itemN d 0x0604 == 0) then d else judgeEdge d) := by
  refine congrArg (runDev s) (funext fun d => ?_)
  unfold judgeEdge edgeLong edgeShort
  cases d.tb.refAt <;> rfl

theorem syncIn_other {d : Dev} {r : Bool} (h : ¬ edgeMine d r) :
    (if !isHead d || !awake d || itemN d 0x0601 != 1 || r != (itemN d 0x0604 == 0) then d else judgeEdge d) = d := by
  refine if_pos ?_
  by_contra hn
  simp only [Bool.or_eq_true, Bool.not_eq_true', bne_iff_ne, ne_eq, not_or, Bool.not_eq_false, not_not] at hn
  exact h ⟨hn.1.1.1, hn.1.1.2, hn.1.2, hn.2⟩

theorem syncIn_mine {d : Dev} {r : Bool} (h : edgeMine d r) :
    (if !isHead d || !awake d || itemN d 0x0601 != 1 || r != (itemN d 0x0604 == 0) then d else judgeEdge d) = judgeEdge d := by
  obtain ⟨hh, ha, hsrc, hr⟩ := h
  exact if_neg (by simp [hh, ha, hsrc, hr])

/-- An edge that R99 rejects. -/
def edgeBad (d : Dev) : Prop := edgeLong d = true ∨ edgeShort d = true ∨ edgeFar d

/-- The timebase from which a bad edge is rejected: too long an interval makes it the reference (R99). -/
def badFrom (d : Dev) : Timebase := { d.tb with refAt := if edgeLong d then some d.now else d.tb.refAt }

theorem edgeFar_iff (d : Dev) :
    (d.tb.state == .locked && (decide (edgeError d < -2 ^ 29) || decide (2 ^ 29 < edgeError d))) = true ↔ edgeFar d := by
  simp [edgeFar]

theorem judgeEdge_bad {d : Dev} (h : edgeBad d) : judgeEdge d = rejectRef { d with tb := badFrom d } := by
  unfold judgeEdge badFrom
  by_cases hl : edgeLong d = true
  · simp [hl]
  · have hfrom : { d with tb := { d.tb with refAt := if edgeLong d then some d.now else d.tb.refAt } } = d := by simp [hl]
    rw [if_neg hl, hfrom]
    by_cases hs : edgeShort d = true
    · exact if_pos hs
    · rw [if_neg hs, if_pos]
      exact (edgeFar_iff d).mpr ((h.resolve_left hl).resolve_left hs)

theorem judgeEdge_good {d : Dev} (h : ¬ edgeBad d) : judgeEdge d =
    acceptEdge (itemN d 0x0603) (edgePhase d) (edgeError d) (d.tb.refAt.map (fun t0 => d.now - t0)) d := by
  unfold edgeBad at h
  push Not at h
  obtain ⟨hl, hs, hf⟩ := h
  unfold judgeEdge
  rw [if_neg hl, if_neg hs, if_neg]
  rw [edgeFar_iff]
  exact hf

/-! ## Accepted edges -/

/-- What every accepted edge notes (R98). -/
def notedTb (d : Dev) : Timebase :=
  { d.tb with rejRun := 0, refAt := some d.now, lastAcc := some d.now, accN := d.tb.accN + 1 }

/-- The timebase after a later edge of the loop (R100, R571). -/
def laterTb (n : Nat) (e : Int) (t : Nat) (d : Dev) : Timebase :=
  let x := if d.tb.slewing then notedTb d
    else { notedTb d with
      corr := rdiv (-e * 2 ^ 16) (2 ^ itemN d 0x0607)
      inc := ((d.tb.inc : Int) + rdiv (-e * 2 ^ 16) (2 ^ (2 * itemN d 0x0607) * (d.now - d.tb.lastAcc.getD 0 : Nat))).toNat }
  if smallError e && smallPeriod n t d.tb.inc then x else { x with goodFrom := some d.tb.period }

section Accepted

variable {n : Nat} {c e : Int} {t : Nat} {d : Dev}

theorem acceptEdge_flywheel (u : Option Nat) (h : d.tb.state = .flywheel) : acceptEdge n c e u d =
    { d with tb := { acquireTb { d with tb := notedTb d } with accN := 1 } } := by
  have henter := enterAcquire_unlocked (d := { d with tb := notedTb d }) (by simp [notedTb, h])
  have hfly : acceptEdge n c e u d = { enterAcquire { d with tb := notedTb d } with
      tb := { (enterAcquire { d with tb := notedTb d }).tb with accN := 1 } } := by
    unfold acceptEdge
    exact if_pos (by simp [h])
  rw [hfly, henter]

theorem acceptEdge_first (u : Option Nat) (h : d.tb.state = .acquire) (hn : d.tb.accN = 0) :
    acceptEdge n c e u d = { d with tb := notedTb d } := by
  unfold acceptEdge
  dsimp only
  rw [if_neg (by simp [h])]
  cases u with
  | none => rfl
  | some t => exact if_pos (by simp [h, hn])

theorem acceptEdge_second (h : d.tb.state = .acquire) (hn : d.tb.accN = 1) : acceptEdge n c e (some t) d =
    { d with tb := { notedTb d with inc := (rdiv ((n : Int) * 2 ^ 48) t).toNat, corr := shortWay (-e * 2 ^ 16), slewing := e != 0
                                    goodFrom := some d.tb.period } } := by
  unfold acceptEdge
  dsimp only
  rw [if_neg (by simp [h]), if_neg (by simp [hn]), if_pos (by simp [h, hn])]
  rfl

/-- The loop's terms, the good run begun anew where the edge is out of 0.1 % (R100, R571). -/
theorem laterTb_eq : (if smallError e && smallPeriod n t d.tb.inc then
      (if d.tb.slewing then { d with tb := notedTb d } else loopStep e (d.now - d.tb.lastAcc.getD 0) { d with tb := notedTb d })
    else
      { (if d.tb.slewing then { d with tb := notedTb d } else loopStep e (d.now - d.tb.lastAcc.getD 0) { d with tb := notedTb d }) with
        tb := { (if d.tb.slewing then { d with tb := notedTb d }
          else loopStep e (d.now - d.tb.lastAcc.getD 0) { d with tb := notedTb d }).tb with goodFrom := some d.tb.period } }) =
    { d with tb := laterTb n e t d } := by
  unfold laterTb
  split <;> split <;> rfl

/-- The declaration that follows a later edge of d with timebase x, where the good run has lasted 64 periods (R100). -/
def declareLock (n : Nat) (c e : Int) (period : Nat) (d : Dev) : Dev :=
  match d.tb.goodFrom with
  | some g => if d.tb.state == .acquire && decide (64 ≤ (period + 2 ^ 32 - g) % 2 ^ 32) then lockHead n c e d else d
  | none => d

theorem acceptEdge_later (h : d.tb.state = .locked ∨ (d.tb.state = .acquire ∧ 2 ≤ d.tb.accN)) :
    acceptEdge n c e (some t) d = declareLock n c e d.tb.period { d with tb := laterTb n e t d } := by
  have hfly : (d.tb.state == .flywheel) = false := by rcases h with h | ⟨h, -⟩ <;> simp [h]
  have hfirst : ¬ ((decide (d.tb.accN = 0) && d.tb.state == .acquire) = true) := by
    rcases h with h | ⟨h, hn⟩
    · simp [h]
    · simp
      omega
  have hsecond : ¬ ((decide (d.tb.accN = 1) && d.tb.state == .acquire) = true) := by
    rcases h with h | ⟨h, hn⟩
    · simp [h]
    · simp
      omega
  rw [← laterTb_eq]
  unfold acceptEdge
  dsimp only
  rw [hfly, if_neg (by simp), if_neg hfirst, if_neg hsecond]
  rfl

/-- LOCKED is declared at this edge (R100). -/
def locksAt (n : Nat) (e : Int) (t : Nat) (d : Dev) : Prop :=
  d.tb.state = .acquire ∧ ∃ g, (laterTb n e t d).goodFrom = some g ∧ 64 ≤ (d.tb.period + 2 ^ 32 - g) % 2 ^ 32

theorem laterTb_state : (laterTb n e t d).state = d.tb.state := by
  unfold laterTb
  split <;> split <;> rfl

theorem declareLock_locks (h : locksAt n e t d) :
    declareLock n c e d.tb.period { d with tb := laterTb n e t d } = lockHead n c e { d with tb := laterTb n e t d } := by
  obtain ⟨hs, g, hg, h64⟩ := h
  unfold declareLock
  simp only [hg, laterTb_state, hs, h64]
  rfl

theorem declareLock_stays (h : ¬ locksAt n e t d) :
    declareLock n c e d.tb.period { d with tb := laterTb n e t d } = { d with tb := laterTb n e t d } := by
  unfold declareLock
  split
  · rename_i g hg
    refine if_neg fun hl => h ?_
    simp only [laterTb_state, Bool.and_eq_true, beq_iff_eq, decide_eq_true_eq] at hl
    exact ⟨hl.1, g, hg, hl.2⟩
  · rfl

/-- LOCKED declared on the head, the renumbering set where SYNC_DIV exceeds 1 (R100, R101). -/
def lockHeadTb (n : Nat) (c e : Int) (d : Dev) : Timebase :=
  { lockedTb d with
    renumAt := if n ≤ 1 then d.tb.renumAt else some (max 1 (min n ((c - e).fdiv (2 ^ 32) + n).toNat))
    renumMod := if n ≤ 1 then d.tb.renumMod else n }

theorem lockHead_declares (hl : d.tb.state ≠ .locked) (hapl : d.conv.apl = 0) (hband : multInBand d.tb.mult d.tb.inc = true)
    (hp : Plain d 112) : Occurred 112 { d with tb := lockHeadTb n c e d } (lockHead n c e d) := by
  have hlock := enterLocked_declares hl hapl (.inl hband) hp
  unfold lockHead lockHeadTb
  dsimp only
  split
  · exact hlock
  · have htb : (enterLocked d).tb = lockedTb d := by
      obtain ⟨-, -, -, he⟩ := hlock
      rw [he]
    rw [htb]
    exact occurred_tb hlock _

end Accepted


theorem stateCode_head {d : Dev} (h : isHead d = true) (c : Nat) : stateCode d c = c := if_pos h

theorem laterTb_mult (n : Nat) (e : Int) (t : Nat) (d : Dev) : (laterTb n e t d).mult = d.tb.mult := by
  unfold laterTb
  split <;> split <;> rfl

theorem laterTb_renumAt (n : Nat) (e : Int) (t : Nat) (d : Dev) : (laterTb n e t d).renumAt = d.tb.renumAt := by
  unfold laterTb
  split <;> split <;> rfl

theorem laterTb_renumMod (n : Nat) (e : Int) (t : Nat) (d : Dev) : (laterTb n e t d).renumMod = d.tb.renumMod := by
  unfold laterTb
  split <;> split <;> rfl

/-- Settles O16: an edge is another's, bad, or good; a good one acts by the state and by how many came before. -/
theorem syncInReferences : Obligations.SyncInReferences := by
  intro s hc mine n c e long short bad noted later locks
  have hbadIff : bad ↔ edgeBad s.toDev := Iff.rfl
  refine ⟨fun r hr => ?_, fun r hr hbad => ⟨fun h => ?_, fun hl h3 hp => ?_⟩, fun r hr hgood ha hn => ?_,
    fun r t0 hr hgood ha hn ht => ?_, fun r hr hgood hf => ?_, fun r t0 hr hgood hst ht => ⟨fun hl => ?_, fun hl hapl hband hp => ?_⟩⟩
  · exact answers_same (exec_syncInEdge r s) hc (syncIn_other hr)
  · have hrej := rejectRef_counts (d := { s.toDev with tb := badFrom s.toDev }) h
    exact answers_beside (exec_syncInEdge r s) ((syncIn_mine hr).trans ((judgeEdge_bad hbad).trans hrej)) hc id
  · refine answers_occurred (exec_syncInEdge r s) ?_ hc id
    have hrej := rejectRef_flywheel (d := { s.toDev with tb := badFrom s.toDev }) hl h3 hp
    rw [← judgeEdge_bad hbad] at hrej
    obtain ⟨hh, -⟩ := id hr
    have hcode : stateCode { s.toDev with tb := rejectedTb (badFrom s.toDev) } 3 = 3 := stateCode_head hh 3
    dsimp only
    rw [syncIn_mine hr]
    unfold flywheelTb at hrej
    rw [hcode] at hrej
    exact hrej
  · refine answers_beside (exec_syncInEdge r s) ((syncIn_mine hr).trans ((judgeEdge_good hgood).trans ?_)) hc id
    exact acceptEdge_first _ ha hn
  · refine answers_beside (exec_syncInEdge r s) ((syncIn_mine hr).trans ((judgeEdge_good hgood).trans ?_)) hc id
    rw [ht]
    exact acceptEdge_second ha hn
  · refine answers_beside (exec_syncInEdge r s) ((syncIn_mine hr).trans ((judgeEdge_good hgood).trans ?_)) hc id
    rw [acceptEdge_flywheel _ hf]
    obtain ⟨hh, -⟩ := id hr
    unfold acquireTb
    rw [stateCode_head (d := { s.toDev with tb := notedTb s.toDev }) hh]
    rfl
  · refine answers_beside (exec_syncInEdge r s) ((syncIn_mine hr).trans ((judgeEdge_good hgood).trans ?_)) hc id
    rw [ht]
    exact (acceptEdge_later hst).trans (declareLock_stays hl)
  · refine answers_occurred (exec_syncInEdge r s) ?_ hc id
    obtain ⟨hh, -⟩ := id hr
    dsimp only
    have hlock := lockHead_declares (d := { s.toDev with tb := laterTb n e (s.now - t0) s.toDev }) (n := n) (c := c) (e := e)
      (by simp [laterTb_state, hl.1]) hapl (by rw [laterTb_mult]; exact hband) hp
    rw [← declareLock_locks (c := c) hl, ← acceptEdge_later (c := c) hst] at hlock
    have hcode : stateCode { s.toDev with tb := laterTb n e (s.now - t0) s.toDev } 2 = 2 :=
      stateCode_head (d := { s.toDev with tb := laterTb n e (s.now - t0) s.toDev }) hh 2
    rw [syncIn_mine hr, judgeEdge_good hgood, ht]
    unfold lockHeadTb lockedTb at hlock
    rw [hcode, laterTb_renumAt, laterTb_renumMod] at hlock
    exact hlock

end Sys2Proof.Proofs
end

section
/-! PROOF. Phase words on the head (04_phase_timebase.md R102, R103). -/

namespace Sys2Proof.Proofs

open Sys2Proof Sys2Proof.Machine Sys2Proof.Safety Sys2Proof.Laws

/-- The phase error of a word (R102). -/
def wordError (v : Word) (d : Dev) : Int := sext 32 (((phaseNow d : Int) - v.toNat) % 2 ^ 32).toNat

/-- TB_PW_FREQ lies outside 1 kHz to 5 MHz (R102). -/
def wordOff (d : Dev) : Prop := d.tb.pwFreq.toNat < 1000 ∨ 5000000 < d.tb.pwFreq.toNat

/-- In LOCKED the error lies outside an eighth of a period (R103). -/
def wordFar (v : Word) (d : Dev) : Prop := d.tb.state = .locked ∧ (wordError v d < -2 ^ 29 ∨ 2 ^ 29 < wordError v d)

/-- The timebase that takes the word: ACQUIRE first where the state was FLYWHEEL (R103). -/
def wordFrom (d : Dev) : Timebase := if d.tb.state = .flywheel then acquireTb d else d.tb

/-- The timebase t after a word taken (R102). -/
def takeWord (v : Word) (d : Dev) (t : Timebase) : Timebase :=
  { t with
    rejRun := 0, lastAcc := some d.now, refAt := some d.now, accN := t.accN + 1, inc := incOf d.tb.pwFreq.toNat
    corr := shortWay (-wordError v d * 2 ^ 16)
    wordsAt := t.wordsAt.filter (fun p => (d.tb.period + 2 ^ 32 - p) % 2 ^ 32 < 64) ++ [d.tb.period]
    goodFrom := if smallError (wordError v d) then t.goodFrom else some d.tb.period }

def wordTaken (v : Word) (d : Dev) : Timebase := takeWord v d (wordFrom d)

/-- The timebase has seen 64 good periods with two words in ACQUIRE, at period p (R103). -/
def wordLocks (p : Nat) (t : Timebase) : Prop :=
  t.state = .acquire ∧ 64 ≤ (p + 2 ^ 32 - t.acqAt) % 2 ^ 32 ∧ 2 ≤ t.wordsAt.length ∧
    ∀ g, t.goodFrom = some g → 64 ≤ (p + 2 ^ 32 - g) % 2 ^ 32

/-- The good run has lasted 64 periods at period p (R103). -/
def goodSince (p : Nat) (g : Option Nat) : Bool :=
  match g with
  | some g => decide (64 ≤ (p + 2 ^ 32 - g) % 2 ^ 32)
  | none => true

/-- The part of a phase word that is not rejected (R102, R103). -/
def acceptWord (v : Word) (d : Dev) : Dev :=
  let d1 := if d.tb.state == .flywheel then enterAcquire d else d
  let d2 := { d1 with tb := takeWord v d d1.tb }
  if d2.tb.state == .acquire && decide (64 ≤ (d.tb.period + 2 ^ 32 - d2.tb.acqAt) % 2 ^ 32) &&
      decide (2 ≤ d2.tb.wordsAt.length) && goodSince d.tb.period d2.tb.goodFrom then enterLocked d2
  else judgeBand d2

theorem phaseWord_eq (v : Word) (d : Dev) : phaseWord v d =
    if !isHead d || itemN d 0x0601 != 2 then d
    else if d.tb.pwFreq.toNat < 1000 || 5000000 < d.tb.pwFreq.toNat then rejectRef d
    else if d.tb.state == .locked && (wordError v d < -2 ^ 29 || 2 ^ 29 < wordError v d) then rejectRef d
    else acceptWord v d := rfl
section Words

variable {v : Word} {d : Dev}

theorem phaseWord_other (h : ¬ (isHead d = true ∧ itemN d 0x0601 = 2)) : phaseWord v d = d := by
  rw [phaseWord_eq, if_pos]
  by_contra hn
  simp only [Bool.or_eq_true, Bool.not_eq_true', bne_iff_ne, ne_eq, not_or, Bool.not_eq_false, not_not] at hn
  exact h hn

theorem wordOff_iff : (decide (d.tb.pwFreq.toNat < 1000) || decide (5000000 < d.tb.pwFreq.toNat)) = true ↔ wordOff d := by
  rw [Bool.or_eq_true, decide_eq_true_eq, decide_eq_true_eq]
  rfl

theorem wordFar_iff : (d.tb.state == .locked && (decide (wordError v d < -2 ^ 29) || decide (2 ^ 29 < wordError v d))) = true ↔
    wordFar v d := by
  simp only [Bool.and_eq_true, beq_iff_eq, Bool.or_eq_true, decide_eq_true_eq]
  rfl

theorem phaseWord_bad (hh : isHead d = true) (hsrc : itemN d 0x0601 = 2) (h : wordOff d ∨ wordFar v d) :
    phaseWord v d = rejectRef d := by
  rw [phaseWord_eq, if_neg (by simp [hh, hsrc])]
  by_cases hf : wordOff d
  · rw [if_pos (wordOff_iff.mpr hf)]
  · rw [if_neg (fun ho => hf (wordOff_iff.mp ho)), if_pos (wordFar_iff.mpr (h.resolve_left hf))]

theorem phaseWord_taken (hh : isHead d = true) (hsrc : itemN d 0x0601 = 2) (hf : ¬ wordOff d) (hfar : ¬ wordFar v d) :
    phaseWord v d = acceptWord v d := by
  rw [← wordOff_iff] at hf
  rw [← wordFar_iff] at hfar
  rw [phaseWord_eq, if_neg (by simp [hh, hsrc]), if_neg hf, if_neg hfar]

theorem wordFrom_eq : (if d.tb.state == .flywheel then enterAcquire d else d) = { d with tb := wordFrom d } := by
  unfold wordFrom
  by_cases h : d.tb.state = .flywheel
  · rw [if_pos (by simp [h]), if_pos h, enterAcquire_unlocked (by simp [h])]
  · rw [if_neg (by simp [h]), if_neg h]

theorem goodSince_iff (p : Nat) (g : Option Nat) : goodSince p g = true ↔ ∀ x, g = some x → 64 ≤ (p + 2 ^ 32 - x) % 2 ^ 32 := by
  cases g with
  | none => exact iff_of_true rfl (fun x hx => nomatch hx)
  | some g =>
    refine (decide_eq_true_iff (p := 64 ≤ (p + 2 ^ 32 - g) % 2 ^ 32)).trans ⟨fun h x hx => ?_, fun h => h g rfl⟩
    obtain rfl := Option.some.inj hx
    exact h

theorem acceptWord_locks (h : wordLocks d.tb.period (wordTaken v d)) :
    acceptWord v d = enterLocked { d with tb := wordTaken v d } := by
  obtain ⟨hs, h64, h2, hg⟩ := h
  unfold acceptWord
  rw [wordFrom_eq]
  refine if_pos ?_
  rw [Bool.and_eq_true, Bool.and_eq_true, Bool.and_eq_true, beq_iff_eq, decide_eq_true_eq, decide_eq_true_eq]
  exact ⟨⟨⟨hs, h64⟩, h2⟩, (goodSince_iff _ _).mpr hg⟩

theorem acceptWord_stays (h : ¬ wordLocks d.tb.period (wordTaken v d)) :
    acceptWord v d = judgeBand { d with tb := wordTaken v d } := by
  unfold acceptWord
  rw [wordFrom_eq]
  refine if_neg fun hl => h ?_
  rw [Bool.and_eq_true, Bool.and_eq_true, Bool.and_eq_true, beq_iff_eq, decide_eq_true_eq, decide_eq_true_eq] at hl
  obtain ⟨⟨⟨hs, h64⟩, h2⟩, hg⟩ := hl
  exact ⟨hs, h64, h2, (goodSince_iff _ _).mp hg⟩

end Words

/-- Settles O17: a word is another source's, rejected, taken, or the one that declares LOCKED. -/
theorem phaseWordSetsIncrement : Obligations.PhaseWordSetsIncrement := by
  intro s v hc mine f e since bad from_ taken locks
  have hfrom : isHead s.toDev = true → from_ = wordFrom s.toDev := fun hh => by
    unfold wordFrom acquireTb
    rw [stateCode_head hh]
  have htaken : isHead s.toDev = true → taken = wordTaken v s.toDev := fun hh =>
    congrArg (takeWord v s.toDev) (hfrom hh)
  have hmult : (wordTaken v s.toDev).mult = s.tb.mult ∧ (wordTaken v s.toDev).pllmLock = s.tb.pllmLock := by
    unfold wordTaken takeWord wordFrom
    dsimp only
    split <;> exact ⟨rfl, rfl⟩
  have hbadIff : bad ↔ wordOff s.toDev ∨ wordFar v s.toDev := or_assoc.symm
  have hlocks : isHead s.toDev = true → (locks ↔ wordLocks s.tb.period (wordTaken v s.toDev)) := fun hh =>
    Iff.of_eq (congrArg (wordLocks s.tb.period) (htaken hh))
  refine ⟨fun h => ?_, fun ⟨hh, hsrc⟩ hbad h => ?_, fun ⟨hh, hsrc⟩ hbad hl h3 hp => ?_, fun ⟨hh, hsrc⟩ hgood hn hband => ?_,
    fun ⟨hh, hsrc⟩ hgood hl hapl hband hp => ?_⟩
  · exact answers_same rfl hc (phaseWord_other h)
  · exact answers_beside rfl ((phaseWord_bad hh hsrc (hbadIff.mp hbad)).trans (rejectRef_counts h)) hc id
  · refine answers_occurred rfl ?_ hc id
    have hrej := rejectRef_flywheel hl h3 hp
    rw [← phaseWord_bad hh hsrc (hbadIff.mp hbad)] at hrej
    unfold flywheelTb at hrej
    rw [stateCode_head (d := { s.toDev with tb := rejectedTb s.tb }) hh] at hrej
    exact hrej
  · obtain ⟨hoff, hfar⟩ := not_or.mp (fun h => hgood (hbadIff.mpr h))
    refine answers_beside rfl ((phaseWord_taken hh hsrc hoff hfar).trans ?_) hc id
    rw [acceptWord_stays (fun h => hn ((hlocks hh).mpr h)), htaken hh]
    rcases hband with hb | ⟨hlock, hapl⟩
    · exact judgeBand_inBand (by rw [hmult.1]; exact hb)
    · exact judgeBand_unlocked (hmult.2.trans hlock) hapl
  · obtain ⟨hoff, hfar⟩ := not_or.mp (fun h => hgood (hbadIff.mpr h))
    refine answers_occurred rfl ?_ hc id
    have hdecl := enterLocked_declares (d := { s.toDev with tb := wordTaken v s.toDev })
      (by rw [← htaken hh]; simp [hl.1]) hapl (by rw [hmult.1, hmult.2]; exact hband) hp
    have hword := (phaseWord_taken hh hsrc hoff hfar).trans (acceptWord_locks ((hlocks hh).mp hl))
    rw [← hword] at hdecl
    unfold lockedTb at hdecl
    rw [stateCode_head (d := { s.toDev with tb := wordTaken v s.toDev }) hh, ← htaken hh] at hdecl
    exact hdecl

end Sys2Proof.Proofs
end

section
/-! PROOF. Lead points of CONVERT and DARK slots (04_phase_timebase.md R113, R114, R570). -/

namespace Sys2Proof.Proofs

open Sys2Proof Sys2Proof.Machine Sys2Proof.Safety Sys2Proof.Laws

theorem modFirst_none {α : Type} {p : α → Bool} {f : α → Option α} {l : List α} (h : ∀ x ∈ l, p x = false) : modFirst p f l = l := by
  induction l with
  | nil => rfl
  | cons x t ih =>
    rw [modFirst, if_neg (by simp [h x]), ih fun y hy => h y (List.mem_cons_of_mem x hy)]

/-- Channels whose aperture has not ended (R132). -/
def busyChannels (d : Dev) : BitVec 25 := mof 25 ((List.range 25).filter (fun c => nth d.conv.busy c 0 != 0))

/-- The block converts in transit mode (R113, R136). -/
def convertsNow (d : Dev) : Prop := active d = true ∧ d.conv.mode = 0 ∧ (isHead d = true ∨ d.tb.loaded = true)

section Leads

variable {d : Dev} {i : Nat} {held : BitVec 25}

theorem calm_startApertures (x : Slot) (quiet : Bool) (hc : Calm d) : Calm (startApertures i x quiet held d) :=
  calm_of_eq hc rfl rfl rfl rfl

/-- The slot i acts at its lead point (R113, R114, R570). -/
def leadFires (i : Nat) (x : Slot) (d : Dev) : Prop :=
  x.action = 1 ∧ slotFires x (leadPeriod d (leadPoints d i x).1) = true ∧
    beforeSwitch d x (leadPeriod d (leadPoints d i x).1) (leadPoints d i x).1 = false ∧
    (servedDark d i = true → beforeSwitch d x (leadPeriod d (leadPoints d i x).1) (leadPoints d i x).2 = false)

theorem leadSlot_owed {e : Nat × Slot} (h : d.tb.owed.find? (fun (y : Nat × Slot) => y.1 == i) = some e) :
    leadSlot held i d = startApertures i e.2 true held
      { d with tb.owed := modFirst (fun (y : Nat × Slot) => y.1 == i) (fun _ => none) d.tb.owed } := by
  unfold leadSlot
  rw [h]

theorem leadSlot_empty (h : d.tb.owed.find? (fun (y : Nat × Slot) => y.1 == i) = none) (hi : slotAt d i = none) :
    leadSlot held i d = d := by
  unfold leadSlot
  rw [h]
  dsimp only
  rw [hi]

theorem leadSlot_fires {x : Slot} (h : d.tb.owed.find? (fun (y : Nat × Slot) => y.1 == i) = none) (hi : slotAt d i = some x)
    (hf : leadFires i x d) : leadSlot held i d = startApertures i x (servedDark d i) held d := by
  obtain ⟨ha, hfire, hsw, hdark⟩ := hf
  unfold leadSlot
  rw [h]
  dsimp only
  rw [hi]
  refine if_neg ?_
  rw [ha, hfire, hsw]
  cases hq : servedDark d i with
  | false => simp
  | true => simp [hdark hq]

theorem leadSlot_idle {x : Slot} (h : d.tb.owed.find? (fun (y : Nat × Slot) => y.1 == i) = none) (hi : slotAt d i = some x)
    (hf : ¬ leadFires i x d) : leadSlot held i d = d := by
  unfold leadSlot
  rw [h]
  dsimp only
  rw [hi]
  refine if_pos ?_
  by_contra hn
  rw [Bool.or_eq_true, Bool.or_eq_true, Bool.or_eq_true, not_or, not_or, not_or] at hn
  obtain ⟨⟨⟨ha, hfire⟩, hsw⟩, hdark⟩ := hn
  exact hf ⟨by simpa using ha, by simpa using hfire, by simpa using hsw, fun hq => by simpa [hq] using hdark⟩

theorem calm_leadSlot (hc : Calm d) : Calm (leadSlot held i d) := by
  cases ho : d.tb.owed.find? (fun (y : Nat × Slot) => y.1 == i) with
  | some e =>
    rw [leadSlot_owed ho]
    exact calm_startApertures e.2 true (d := { d with tb.owed := modFirst (fun (y : Nat × Slot) => y.1 == i) (fun _ => none) d.tb.owed })
      (calm_of_eq hc rfl rfl rfl rfl)
  | none =>
    cases hi : slotAt d i with
    | none => rwa [leadSlot_empty ho hi]
    | some x =>
      by_cases hf : leadFires i x d
      · rw [leadSlot_fires ho hi hf]
        exact calm_startApertures x _ hc
      · rwa [leadSlot_idle ho hi hf]

theorem power_leadSlot : (leadSlot held i d).power = d.power := by
  cases ho : d.tb.owed.find? (fun (y : Nat × Slot) => y.1 == i) with
  | some e => rw [leadSlot_owed ho]; rfl
  | none =>
    cases hi : slotAt d i with
    | none => rw [leadSlot_empty ho hi]
    | some x =>
      by_cases hf : leadFires i x d
      · rw [leadSlot_fires ho hi hf]; rfl
      · rw [leadSlot_idle ho hi hf]

end Leads

theorem calm_leadSlots {held : BitVec 25} (slots : List Nat) {d : Dev} (hc : Calm d) :
    Calm (slots.foldl (fun d i => leadSlot held i d) d) := by
  induction slots generalizing d with
  | nil => exact hc
  | cons i t ih => exact ih (calm_leadSlot hc)

theorem power_leadSlots {held : BitVec 25} (slots : List Nat) (d : Dev) :
    (slots.foldl (fun d i => leadSlot held i d) d).power = d.power := by
  induction slots generalizing d with
  | nil => rfl
  | cons i t ih => exact (ih _).trans power_leadSlot

theorem convertLeadPoint_acts {s : State} (hc : Calm s.toDev) (h : convertsNow s.toDev)
    (hw : s.conv.waiting = false ∨ s.conv.atMeridian = true) (slots : List Nat) :
    Answers (.convertLeadPoint slots) s (Beside (slots.foldl (fun d i => leadSlot (busyChannels s.toDev) i d) s.toDev)) := by
  obtain ⟨ha, hm, hl⟩ := h
  have hpoint : convAtPoint s.toDev = s.toDev := if_neg (by rcases hw with h | h <;> simp [h])
  refine answers_beside (f := fun d => if active d && d.conv.mode = 0 && (isHead d || d.tb.loaded) then
      forEach slots (leadSlot (busyChannels (convAtPoint d))) (convAtPoint d) else d) rfl ?_ (calm_leadSlots slots hc) ?_
  · rw [if_pos (by simpa [ha, hm] using hl), hpoint]
    rfl
  · rw [power_leadSlots]
    exact id

theorem convertLeadPoint_one {s : State} {i : Nat} {a : Dev} (hc : Calm s.toDev) (h : convertsNow s.toDev)
    (hw : s.conv.waiting = false ∨ s.conv.atMeridian = true) (ha : leadSlot (busyChannels s.toDev) i s.toDev = a) :
    Answers (.convertLeadPoint [i]) s (Beside a) := by
  rw [← ha]
  exact convertLeadPoint_acts hc h hw [i]

theorem pulseMarks_kept (m : Nat) (d : Dev) :
    pulseMarks m d = { d with tb.markPulse := (pulseMarks m d).tb.markPulse, pins.gpioLevel := (pulseMarks m d).pins.gpioLevel } := by
  unfold pulseMarks
  rw [List.foldl_cons, List.foldl_cons, List.foldl_nil]
  split <;> split <;> rfl

theorem calm_pulseMarks (m : Nat) {d : Dev} (hc : Calm d) : Calm (pulseMarks m d) :=
  calm_of_eq hc (by rw [pulseMarks_kept]) (by rw [pulseMarks_kept]) (by rw [pulseMarks_kept]) (by rw [pulseMarks_kept])

/-- The DARK slot x opens a window for its CONVERT slot c (R114, R570). -/
def darkOpens (x c : Slot) (d : Dev) : Prop :=
  x.action = 3 ∧ x.en = true ∧ c.action = 1 ∧
    slotFires c (leadPeriod d (leadPoints d (x.arg.toNat % 16) c).2) = true ∧
    beforeSwitch d c (leadPeriod d (leadPoints d (x.arg.toNat % 16) c).2) (leadPoints d (x.arg.toNat % 16) c).2 = false

/-- DARK_LEAD_POINT of DARK slot x with CONVERT slot c. -/
def openWindow (x c : Slot) (d : Dev) : Dev :=
  pulseMarks x.mark { d with
    tb.darkNow := d.tb.darkNow ++ [(x.arg.toNat % 16, false, c.arg)]
    bal.dark := darkFets { d with tb.darkNow := d.tb.darkNow ++ [(x.arg.toNat % 16, false, c.arg)] } }

open Classical in
theorem darkLeadPoint_eq {s : State} {i : Nat} {x c : Slot} (hi : slotAt s.toDev i = some x)
    (hx : slotAt s.toDev (x.arg.toNat % 16) = some c) : exec (.darkLeadPoint i) s = runDev s (fun _ =>
      if convertsNow s.toDev ∧ darkOpens x c s.toDev then openWindow x c s.toDev else s.toDev) := by
  have hrun : exec (.darkLeadPoint i) s = runDev s (fun d =>
      match slotAt d i with
      | none => d
      | some x =>
        match slotAt d (x.arg.toNat % 16) with
        | none => d
        | some c =>
          if x.action = 3 && x.en && c.action = 1 && slotFires c (leadPeriod d (leadPoints d (x.arg.toNat % 16) c).2) &&
              !beforeSwitch d c (leadPeriod d (leadPoints d (x.arg.toNat % 16) c).2) (leadPoints d (x.arg.toNat % 16) c).2 &&
              active d && d.conv.mode = 0 && (isHead d || d.tb.loaded) then openWindow x c d else d) := rfl
  rw [hrun]
  unfold runDev effect
  dsimp only
  rw [hi]
  dsimp only
  rw [hx]
  dsimp only
  have hcond : (x.action = 3 && x.en && c.action = 1 && slotFires c (leadPeriod s.toDev (leadPoints s.toDev (x.arg.toNat % 16) c).2) &&
      !beforeSwitch s.toDev c (leadPeriod s.toDev (leadPoints s.toDev (x.arg.toNat % 16) c).2) (leadPoints s.toDev (x.arg.toNat % 16) c).2 &&
      active s.toDev && s.conv.mode = 0 && (isHead s.toDev || s.tb.loaded)) = true ↔ convertsNow s.toDev ∧ darkOpens x c s.toDev := by
    unfold convertsNow darkOpens
    simp only [Bool.and_eq_true, decide_eq_true_eq, Bool.not_eq_true', Bool.or_eq_true]
    tauto
  rw [if_congr hcond rfl rfl]

/-- Settles O20: a lead point serves an owed transit, an empty or silent slot, or one that acts; a DARK slot's opens its window. -/
theorem leadPointsStartApertures : Obligations.LeadPointsStartApertures := by
  intro s hc converts held opens starts
  have hstart : ∀ i x quiet d, startApertures i x quiet held d = starts i x quiet d := by
    intro i x quiet d
    cases quiet with
    | true => rfl
    | false =>
      have hnone : modFirst (fun (e : Nat × Bool × BitVec 25) => false && e.1 == i && !e.2.1)
          (fun e => some (e.1, true, e.2.2)) d.tb.darkNow = d.tb.darkNow := modFirst_none fun _ _ => rfl
      dsimp only [starts]
      rw [hnone]
      rfl
  refine ⟨fun hconv hw => ⟨convertLeadPoint_acts hc hconv hw, fun i e ho => ?_, fun i ho => ⟨fun hi => ?_, fun x hi => ⟨fun hf => ?_, fun hf => ?_⟩⟩⟩,
    fun hn slots => ?_, fun i x c hi hx => ⟨fun hconv ho => ?_, fun hn => ?_⟩, fun i hi => ?_, fun i x hi hx => ?_⟩
  · exact convertLeadPoint_one hc hconv hw ((leadSlot_owed ho).trans (hstart i e.2 true _))
  · exact convertLeadPoint_one hc hconv hw (leadSlot_empty ho hi)
  · exact convertLeadPoint_one hc hconv hw ((leadSlot_fires ho hi hf).trans (hstart i x _ _))
  · exact convertLeadPoint_one hc hconv hw (leadSlot_idle ho hi hf)
  · refine answers_same rfl hc (if_neg fun h => hn ?_)
    simpa [converts, and_assoc] using h
  · refine answers_beside (darkLeadPoint_eq hi hx) (if_pos ⟨hconv, ho⟩) (calm_pulseMarks x.mark (calm_of_eq hc rfl rfl rfl rfl)) ?_
    rw [pulseMarks_kept]
    exact id
  · exact answers_same (darkLeadPoint_eq hi hx) hc (if_neg hn)
  · refine answers_same rfl hc ?_
    dsimp only
    rw [hi]
  · refine answers_same rfl hc ?_
    dsimp only
    rw [hi]
    dsimp only
    rw [hx]

end Sys2Proof.Proofs
end

section
/-! PROOF. Transits (04_phase_timebase.md R112, R113, R116, R118, R133). -/

namespace Sys2Proof.Proofs

open Sys2Proof Sys2Proof.Machine Sys2Proof.Safety Sys2Proof.Laws

theorem pulseMarks_zero (d : Dev) : pulseMarks 0 d = d := by
  simp [pulseMarks]

section Slots

variable {d : Dev} {i : Nat}

theorem actSlot_empty (h : slotAt d i = none) : actSlot i d = d := by
  unfold actSlot
  rw [h]

/-- A slot that does not fire, or whose action is taken at a lead point or unknown, does nothing (R112, R113). -/
theorem actSlot_idle {x : Slot} (h : slotAt d i = some x)
    (hx : slotFires x d.tb.period = false ∨ x.action = 0 ∨ x.action = 1 ∨ x.action = 3 ∨ 6 ≤ x.action) : actSlot i d = d := by
  unfold actSlot
  rw [h]
  dsimp only
  split
  · rfl
  · rename_i hf
    have hact : x.action ≠ 2 ∧ x.action ≠ 4 ∧ x.action ≠ 5 := by
      rcases hx with hx | hx | hx | hx | hx
      · simp [hx] at hf
      all_goals omega
    split <;> simp_all

section Fires

variable {x : Slot} (h : slotAt d i = some x) (hf : slotFires x d.tb.period = true) (hm : x.mark = 0)

include h hf hm

theorem actSlot_aux (ha : x.action = 2) : actSlot i d = auxTransit (x.arg.toNat % 64) d := by
  unfold actSlot
  rw [h]
  dsimp only
  rw [if_neg (by simp [hf]), ha, hm]
  exact pulseMarks_zero _

theorem actSlot_capture (ha : x.action = 4) : actSlot i d = captureTransit (x.arg.toNat % 4) d := by
  unfold actSlot
  rw [h]
  dsimp only
  rw [if_neg (by simp [hf]), ha, hm]
  exact pulseMarks_zero _

theorem actSlot_excite (ha : x.action = 5) : actSlot i d = exciteTransit x.phase x.arg d := by
  unfold actSlot
  rw [h]
  dsimp only
  rw [if_neg (by simp [hf]), ha, hm]
  exact pulseMarks_zero _

end Fires

end Slots

/-- TRANSIT acts on this block (R133). -/
def transitsNow (d : Dev) : Prop := awake d = true ∧ (isHead d = true ∨ d.tb.loaded = true)

/-- The leads of the slots that act in one cycle (R133). -/
def leadsOf (slots : List Nat) (d : Dev) : List Lead :=
  slots.filterMap (fun i => d.conv.apStart.find? (fun (l : Lead) => l.slot == i))

/-- TRANSIT: the record, the marks of its slots, the other actions. -/
def transitAll (slots : List Nat) (d : Dev) : Dev :=
  forEach slots actSlot (forEach (leadsOf slots d) (fun l d => pulseMarks l.mark d) (convertRecord (leadsOf slots d) d))

theorem transit_ready {d : Dev} (h : transitsNow d) (slots : List Nat) :
    (if !awake d || !(isHead d || d.tb.loaded) then d else transitAll slots d) = transitAll slots d := by
  obtain ⟨ha, hl⟩ := h
  exact if_neg (by rcases hl with hl | hl <;> simp [ha, hl])

theorem transitAll_leads {slots : List Nat} {d e : Dev} {l : Lead} {ls : List Lead} (hl : leadsOf slots d = l :: ls)
    (he : convertRecord (l :: ls) d = e) (hm : ∀ y ∈ l :: ls, y.mark = 0)
    (hs : ∀ i ∈ slots, ∃ x, slotAt e i = some x ∧ x.action = 1) : transitAll slots d = e := by
  unfold transitAll
  have hmarks : forEach (l :: ls) (fun y d => pulseMarks y.mark d) e = e :=
    forEach_id _ _ _ fun y hy => by rw [hm y hy, pulseMarks_zero]
  rw [hl, he, hmarks]
  refine forEach_id _ _ _ fun i hi => ?_
  obtain ⟨x, hx, ha⟩ := hs i hi
  exact actSlot_idle hx (.inr (.inr (.inl ha)))

theorem transitAll_noLeads {d : Dev} (h : d.conv.apStart = []) (i : Nat) : transitAll [i] d = actSlot i d := by
  unfold transitAll leadsOf
  rw [h]
  rfl

/-- Where no lead waits a single slot acts alone. -/
theorem transit_single {d : Dev} (hr : transitsNow d) (hap : d.conv.apStart = []) (i : Nat) :
    (if !awake d || !(isHead d || d.tb.loaded) then d else transitAll [i] d) = actSlot i d := by
  rw [transit_ready hr, transitAll_noLeads hap]

theorem exec_transit (slots : List Nat) (s : State) : exec (.transit slots) s = runDev s (fun d =>
    if !awake d || !(isHead d || d.tb.loaded) then d else transitAll slots d) := rfl

theorem freezeDue_unread {d : Dev} (hl : d.conv.live = []) : freezeDue d = d :=
  forEach_id _ _ _ fun k _ => if_neg (by simp [hl])

theorem triggerCap_unread {c : Nat} {d : Dev} (h : (capAt d c).state = 1) (hl : d.conv.live = []) : triggerCap c d =
    modCap c (fun y => { y with state := 2, trigTseq := (d.conv.tseq + 2 ^ 32 - 1) % 2 ^ 32 }) d := by
  have hlatest : latestRec d = none := by simp [latestRec, hl]
  unfold triggerCap
  rw [if_neg (not_not.mpr h), hlatest]
  exact freezeDue_unread hl

theorem exciteTransit_none {p : Word} {m : BitVec 25} {d : Dev} (h : d.eis.plan = none ∨ d.eis.state = .suspended) :
    exciteTransit p m d = d := by
  unfold exciteTransit
  split
  · rfl
  · rename_i hp
    rcases h with h | h
    · rw [h] at hp
      cases hp
    · exact if_pos (by simp [h])

/-- Settles O21: leads make one record; where none waits a slot's own operation acts, or it does nothing. -/
theorem transitsAct : Obligations.TransitsAct := by
  intro s hc ready recordOf recorded lateNow
  have hcalm : ∀ v : Conv, v.caps = s.conv.caps → Calm { s.toDev with conv := v } := fun v hv => calm_of_eq hc rfl hv rfl rfl
  refine ⟨fun hr slots l rest hs hl hm => ⟨fun h0 => ?_, fun h0 hp => ?_⟩, fun hr hap => ⟨fun i hi => ?_, fun i x hx hf hm => ?_⟩,
    fun hn slots => ?_, fun g => ⟨fun hp hg => ?_, fun hn => ?_⟩⟩
  · refine answers_beside (exec_transit slots s) ((transit_ready hr slots).trans ?_) (hcalm _ rfl) id
    exact transitAll_leads hl (if_pos h0) hm hs
  · have hocc : Occurred 113 (lateNow { s.toDev with conv := recorded l (l :: rest) })
        (convertRecord (l :: rest) s.toDev) := by
      unfold convertRecord
      dsimp only
      rw [if_neg h0]
      exact occurred_raiseNS 113 0xFFFF hp
    have hslots : (convertRecord (l :: rest) s.toDev).tb.slots = s.tb.slots := by
      obtain ⟨-, -, -, he⟩ := hocc
      rw [he]
    refine answers_occurred (exec_transit slots s) ?_ (hcalm (recorded l (l :: rest)) rfl) id
    rwa [transit_ready hr, transitAll_leads hl rfl hm fun i hi => ?_]
    unfold slotAt
    rw [hslots]
    exact hs i hi
  · refine answers_same (exec_transit [i] s) hc ((transit_ready hr [i]).trans ?_)
    rw [transitAll_noLeads hap]
    cases hx : slotAt s.toDev i with
    | none => exact actSlot_empty hx
    | some x => exact actSlot_idle hx (hi x hx)
  · have hsingle := transit_single hr hap i
    refine ⟨fun ha => ?_, fun ha => ?_, fun ha he => ?_⟩
    · rw [actSlot_aux hx hf hm ha] at hsingle
      refine ⟨fun hb ht => ?_, fun hb ht => ?_, fun hb hp => ?_⟩
      · exact answers_beside (exec_transit [i] s) (hsingle.trans ((if_neg (by simp [hb])).trans (if_neg (by simp [ht])))) hc id
      · exact answers_beside (exec_transit [i] s)
          (hsingle.trans ((if_neg (by simp [hb])).trans (if_pos (Option.isSome_iff_ne_none.mpr ht)))) hc id
      · refine answers_occurred (exec_transit [i] s) ?_ hc id
        rw [hsingle, auxTransit, if_pos hb]
        exact occurred_raiseNS 113 0xFFFF hp
    · rw [actSlot_capture hx hf hm ha] at hsingle
      refine ⟨fun h1 h0 hlive _ _ => ?_, fun h2 hp => ?_, fun h => ?_⟩
      · refine answers_beside (exec_transit [i] s)
          (hsingle.trans ((if_pos (by simp [h1, h0])).trans (triggerCap_unread h1 hlive))) ?_ id
        obtain ⟨hbusy, hwait, hcaps, hdac⟩ := hc
        exact ⟨hbusy, hwait, unarmed_modCap _ _ (fun y hy => by simp at hy) hcaps, hdac⟩
      · refine answers_occurred (exec_transit [i] s) ?_ (calm_of_eq hc rfl rfl rfl rfl) id
        rw [hsingle, captureTransit, if_neg (by rcases h2 with h2 | h2 <;> simp [h2]), if_pos (by simpa using h2)]
        exact occurred_raiseNS 113 0xFFFF hp
      · refine answers_same (exec_transit [i] s) hc (hsingle.trans ((if_neg ?_).trans (if_neg ?_)))
        · rcases h with h | ⟨h, h'⟩
          · simp [h]
          · simp [h']
        · rcases h with h | ⟨h, h'⟩ <;> simp [h]
    · rw [actSlot_excite hx hf hm ha] at hsingle
      exact answers_same (exec_transit [i] s) hc (hsingle.trans (exciteTransit_none he))
  · refine answers_same (exec_transit slots s) hc (if_pos ?_)
    by_contra h
    simp only [Bool.or_eq_true, Bool.not_eq_true', not_or, Bool.not_eq_false] at h
    exact hn ⟨h.1, by simpa using h.2⟩
  · have hans := answers_beside (c := .transitMarkEnd g) (s := s) rfl (if_pos (by simp [hp, hg])) (a := { s.toDev with
      tb.markPulse := mset s.tb.markPulse (g - 1) false, pins.gpioLevel := mset s.pins.gpioLevel (g - 1) false })
      (calm_of_eq hc rfl rfl rfl rfl) id
    refine answers_mono hans fun t ht => ⟨ht.1, ?_⟩
    rw [ht.2]
  · refine answers_same (c := .transitMarkEnd g) rfl hc (if_neg ?_)
    rcases hn with h | h <;> simp [h]

end Sys2Proof.Proofs
end

section
/-! PROOF. An occurrence commutes with what does not read it; the SAR's choice of work (06_aux_path_and_leat.md R165, R166). -/

namespace Sys2Proof.Proofs

open Sys2Proof Sys2Proof.Machine Sys2Proof.Safety Sys2Proof.Laws

/-! ## What an occurrence writes -/

/-- d with what occurrences write taken from e. -/
def withOcc (e d : Dev) : Dev :=
  { d with
    host := { d.host with evf := e.host.evf, evt := e.host.evt, evtRecs := e.host.evtRecs, evtRseq := e.host.evtRseq,
                          evtDrop := e.host.evtDrop }
    fault := { d.fault with esc := e.fault.esc, stretch := e.fault.stretch, latch := e.fault.latch } }

theorem eq_withOcc {k : Nat} {a e : Dev} (h : Occurred k a e) : e = withOcc e a := h.2.2.2

/-- A change that neither reads nor writes what an occurrence writes may come after it. -/
theorem occurred_map {k : Nat} {a e : Dev} {g : Dev → Dev} (h : Occurred k a e) (hg : g (withOcc e a) = withOcc e (g a))
    (hh : (g a).host = a.host) (hf : (g a).fault = a.fault) : Occurred k (g a) (g e) := by
  obtain ⟨hevf, hrecs, hesc, he⟩ := h
  have hge : g e = withOcc e (g a) := (congrArg g he).trans hg
  refine ⟨?_, ?_, fun i hi => ?_, ?_⟩
  · rw [hge, hh]
    exact hevf
  · rw [hge, hh]
    exact hrecs
  · have hi' := hesc i hi
    unfold esc at hi' ⊢
    rw [hge, hf]
    exact hi'
  · rw [hge]
    rfl

/-! ## The SAR's work does not read them -/

theorem takeTable_withOcc (e d : Dev) : takeTable (withOcc e d) = withOcc e (takeTable d) := by
  unfold takeTable
  split <;> simp_all [withOcc]

theorem loopWork_withOcc (e d : Dev) : loopWork (withOcc e d) = withOcc e (loopWork d) := by
  have hfrom : loopFrom (withOcc e d) (withOcc e d).aux.pos = loopFrom d d.aux.pos := rfl
  unfold loopWork
  rw [apply_ite (withOcc e), hfrom]
  refine ite_congr rfl (fun _ => rfl) fun _ => ?_
  cases loopFrom d d.aux.pos with
  | none => rfl
  | some x =>
    dsimp only
    rw [apply_ite (withOcc e)]
    rfl

theorem startSlot_withOcc (e d : Dev) : startSlot (withOcc e d) = withOcc e (startSlot d) := by
  have hrobin : nextCell (withOcc e d) (withOcc e d).aux.rrNext (robinCell (withOcc e d)) = nextCell d d.aux.rrNext (robinCell d) := rfl
  have hprio : nextCell (withOcc e d) (withOcc e d).aux.prNext (prioCell (withOcc e d)) = nextCell d d.aux.prNext (prioCell d) := rfl
  have hver : (withOcc e d).aux.verify = d.aux.verify := rfl
  have hon : (withOcc e d).aux.verifyOn = d.aux.verifyOn := rfl
  unfold startSlot
  dsimp only
  rw [apply_ite (withOcc e), hrobin, hprio, hver, hon]
  refine ite_congr rfl (fun _ => ?_) fun _ => ?_
  · cases d.aux.verify <;> cases d.aux.verifyOn <;> cases nextCell d d.aux.prNext (prioCell d) <;>
      cases nextCell d d.aux.rrNext (robinCell d) <;> rfl
  · cases nextCell d d.aux.rrNext (robinCell d) <;> rfl

theorem sarWork_withOcc (e d : Dev) : sarWork (withOcc e d) = withOcc e (sarWork d) := by
  have htable : (if (withOcc e d).aux.count = 0 then takeTable (withOcc e d) else withOcc e d) =
      withOcc e (if d.aux.count = 0 then takeTable d else d) := by
    rw [takeTable_withOcc, apply_ite (withOcc e)]
    rfl
  unfold sarWork
  rw [htable]
  generalize (if d.aux.count = 0 then takeTable d else d) = d1
  dsimp only
  rw [apply_ite (withOcc e), apply_ite (withOcc e)]
  rw [apply_ite (withOcc e), apply_ite (withOcc e)]
  refine ite_congr rfl (fun _ => rfl) fun _ => ite_congr rfl (fun _ => rfl) fun _ => ite_congr rfl (fun _ => ?_) fun _ => ?_
  · rw [startSlot_withOcc, loopWork_withOcc]
    rfl
  · exact loopWork_withOcc _ _

end Sys2Proof.Proofs
end

section
/-! PROOF. Sequencer results (06_aux_path_and_leat.md R165 to R173). -/

namespace Sys2Proof.Proofs

open Sys2Proof Sys2Proof.Machine Sys2Proof.Safety Sys2Proof.Laws

/-! ## A result written into AUX_RESULT -/

/-- The block's own users of the source of entry w take its value v (R172). -/
def sourceTaken (w : Word) (v : Nat) (d : Dev) : Dev :=
  match entrySrc w with
  | 0x2B => { d with conv.tempFront := v, bal.tempStale := false }
  | 0x2C => { d with aux.tempCore := v }
  | 0x28 => { d with aux.vstkCode := v }
  | _ => d

theorem sourceTaken_withOcc (w : Word) (v : Nat) (e d : Dev) : sourceTaken w v (withOcc e d) = withOcc e (sourceTaken w v d) := by
  unfold sourceTaken
  split <;> rfl

theorem sourceTaken_kept (w : Word) (v : Nat) (d : Dev) : sourceTaken w v d =
    { d with conv.tempFront := (sourceTaken w v d).conv.tempFront, bal.tempStale := (sourceTaken w v d).bal.tempStale
             aux.tempCore := (sourceTaken w v d).aux.tempCore, aux.vstkCode := (sourceTaken w v d).aux.vstkCode } := by
  unfold sourceTaken
  split <;> rfl

theorem calm_sourceTaken (w : Word) (v : Nat) {d : Dev} (hc : Calm d) : Calm (sourceTaken w v d) := by
  rw [sourceTaken_kept]
  exact hc

/-- The mean code v of entry e lies outside its window (R171). -/
def outOfWindow (d : Dev) (e v : Nat) : Bool :=
  bf (auxEntry d e) 8 3 != 0 &&
    (decide (v < itemN d (0x0210 + bf (auxEntry d e) 8 3) % 2 ^ 16) || decide (itemN d (0x0210 + bf (auxEntry d e) 8 3) / 2 ^ 16 < v))

/-- AUX_RESULT and its overrun count after the mean code v of entry e (R170 to R172). -/
def filedAux (e v : Nat) (transit : Bool) (d : Dev) : Aux :=
  { d.aux with
    result := Word.of (v * 2 ^ 16 + e * 2 ^ 10 + 512 + b2n (bit d.aux.result 9) * 256 + b2n (d.aux.lateEntries.contains e) * 128 +
      b2n (outOfWindow d e v) * 64 + b2n transit * 32 + b2n (bit (auxEntry d e) 12) * 16)
    lateEntries := d.aux.lateEntries.filter (· != e)
    ovrCnt := if bit d.aux.result 9 then satInc 65535 d.aux.ovrCnt else d.aux.ovrCnt }

section Writing

variable {e sum cnt : Nat} {transit : Bool} {d : Dev}

/-- The device with the result written and its source's users served. -/
def resultFiled (e v : Nat) (transit : Bool) (d : Dev) : Dev :=
  sourceTaken (auxEntry d e) v { d with aux := filedAux e v transit d }

/-- The result's two events follow its overrun and its window (R170, R171). -/
theorem auxWrite_eq : auxWrite e sum cnt transit d =
    sourceTaken (auxEntry d e) (meanCode sum cnt)
      (let d2 := if bit d.aux.result 9 then raiseNS 116 0xFFFF { d with aux := filedAux e (meanCode sum cnt) transit d }
                 else { d with aux := filedAux e (meanCode sum cnt) transit d }
       if outOfWindow d e (meanCode sum cnt) then raiseNS 120 e d2 else d2) := by
  unfold auxWrite filedAux sourceTaken
  cases bit d.aux.result 9 <;> rfl

theorem auxWrite_quiet (ho : bit d.aux.result 9 = false) (hw : outOfWindow d e (meanCode sum cnt) = false) :
    auxWrite e sum cnt transit d = resultFiled e (meanCode sum cnt) transit d := by
  rw [auxWrite_eq, ho, hw]
  rfl

theorem occurred_sourceTaken {k : Nat} {a b : Dev} (w : Word) (v : Nat) (h : Occurred k a b) :
    Occurred k (sourceTaken w v a) (sourceTaken w v b) :=
  occurred_map h (sourceTaken_withOcc w v b a) (by rw [sourceTaken_kept]) (by rw [sourceTaken_kept])

theorem auxWrite_overrun (ho : bit d.aux.result 9 = true) (hw : outOfWindow d e (meanCode sum cnt) = false) (hp : Plain d 116) :
    Occurred 116 (resultFiled e (meanCode sum cnt) transit d) (auxWrite e sum cnt transit d) := by
  rw [auxWrite_eq, ho, hw]
  exact occurred_sourceTaken _ _ (occurred_raiseNS 116 0xFFFF hp)

theorem auxWrite_outside (ho : bit d.aux.result 9 = false) (hw : outOfWindow d e (meanCode sum cnt) = true) (hp : Plain d 120) :
    Occurred 120 (resultFiled e (meanCode sum cnt) transit d) (auxWrite e sum cnt transit d) := by
  rw [auxWrite_eq, ho, hw]
  exact occurred_sourceTaken _ _ (occurred_raiseNS 120 e hp)

end Writing

/-! ## The core die takes data at once -/

theorem viaBus_direct {h : Held} {f : Dev → Dev} {d : Dev} (hr : d.d2d.retrain = false) (ho : d.power.opTarget = none) :
    viaBus h f d = f d := by
  unfold viaBus arrive
  rw [if_neg (by simp [hr]), if_neg (by simp [ho])]

theorem sarRoom_direct {d : Dev} (hr : d.d2d.retrain = false) : sarRoom d = d := by
  unfold sarRoom
  rw [hr]
  simp

theorem host_of_sarWrite {a b : Dev} (h : SarWrite a b) : b.host = a.host := by rw [h.1]
theorem fault_of_sarWrite {a b : Dev} (h : SarWrite a b) : b.fault = a.fault := by rw [h.1]
theorem power_of_sarWrite {a b : Dev} (h : SarWrite a b) : b.power = a.power := by rw [h.1]

/-- What follows a result neither reads nor writes what an occurrence writes, and leaves the power state and a calm block. -/
structure AfterResult (g : Dev → Dev) : Prop where
  withOcc : ∀ e d, g (withOcc e d) = withOcc e (g d)
  host : ∀ d, (g d).host = d.host
  fault : ∀ d, (g d).fault = d.fault
  power : ∀ d, (g d).power = d.power
  calm : ∀ d, Calm d → Calm (g d)

section Results

variable {c : Instr} {s : State} {f g : Dev → Dev} {e sum cnt : Nat} {transit : Bool} {a : Dev}

theorem d2d_resultFiled (v : Nat) : (resultFiled e v transit a).d2d = a.d2d := by
  unfold resultFiled
  rw [sourceTaken_kept]

theorem power_resultFiled (v : Nat) : (resultFiled e v transit a).power = a.power := by
  unfold resultFiled
  rw [sourceTaken_kept]

/-- The outcomes of a conversion that completes the result of entry e, with what follows it. -/
theorem answers_result (hg : AfterResult g) (hi : exec c s = runDev s f)
    (hf : f s.toDev = sarWork (g (sarRoom (auxWrite e sum cnt transit a)))) (hc : Calm a) (hr : a.d2d.retrain = false)
    (hpow : a.power = s.power) :
    (bit a.aux.result 9 = false → outOfWindow a e (meanCode sum cnt) = false →
      Answers c s (Beside (sarWork (g (resultFiled e (meanCode sum cnt) transit a))))) ∧
    (bit a.aux.result 9 = true → outOfWindow a e (meanCode sum cnt) = false → Plain a 116 →
      Answers c s (Noted 116 (sarWork (g (resultFiled e (meanCode sum cnt) transit a))))) ∧
    (bit a.aux.result 9 = false → outOfWindow a e (meanCode sum cnt) = true → Plain a 120 →
      Answers c s (Noted 120 (sarWork (g (resultFiled e (meanCode sum cnt) transit a))))) := by
  have hwork := sarWrite_sarWork (g (resultFiled e (meanCode sum cnt) transit a))
  have hcalm : Calm (sarWork (g (resultFiled e (meanCode sum cnt) transit a))) :=
    calm_of_sarWrite hwork (hg.calm _ (calm_sourceTaken _ _ (d := { a with aux := filedAux e (meanCode sum cnt) transit a }) hc))
  have hsafe : (sarWork (g (resultFiled e (meanCode sum cnt) transit a))).power.safeHold = true → s.power.safeHold = true := by
    rw [power_of_sarWrite hwork, hg.power, power_resultFiled, hpow]
    exact id
  have hmap : ∀ k, Occurred k (resultFiled e (meanCode sum cnt) transit a) (auxWrite e sum cnt transit a) →
      Answers c s (Noted k (sarWork (g (resultFiled e (meanCode sum cnt) transit a)))) := fun k hocc => by
    have hd2d : (auxWrite e sum cnt transit a).d2d.retrain = false := by
      have hkept : (auxWrite e sum cnt transit a).d2d = (resultFiled e (meanCode sum cnt) transit a).d2d := by
        rw [eq_withOcc hocc]
        rfl
      rw [hkept, d2d_resultFiled, hr]
    refine answers_occurred hi ?_ hcalm hsafe
    rw [hf, sarRoom_direct hd2d]
    refine occurred_map (g := fun d => sarWork (g d)) hocc ?_ ((host_of_sarWrite hwork).trans (hg.host _))
      ((fault_of_sarWrite hwork).trans (hg.fault _))
    show sarWork (g (withOcc _ _)) = withOcc _ (sarWork (g _))
    rw [hg.withOcc, sarWork_withOcc]
  refine ⟨fun ho hw => ?_, fun ho hw hp => hmap 116 (auxWrite_overrun ho hw hp), fun ho hw hp => hmap 120 (auxWrite_outside ho hw hp)⟩
  refine answers_beside hi ?_ hcalm hsafe
  rw [hf, auxWrite_quiet ho hw, sarRoom_direct (by rw [d2d_resultFiled, hr])]

end Results

/-- After a loop entry's result the next entry, or its DELAY (R165). -/
def afterLoop (e delay : Nat) (d : Dev) : Dev := if delay = 0 then { d with aux.pos := e + 1 } else { d with aux.delaying := true }

theorem afterResult_loop (e delay : Nat) : AfterResult (afterLoop e delay) := by
  by_cases h : delay = 0
  · have hpos : afterLoop e delay = fun d => { d with aux.pos := e + 1 } := funext fun d => if_pos h
    rw [hpos]
    exact ⟨fun _ _ => rfl, fun _ => rfl, fun _ => rfl, fun _ => rfl, fun _ hc => hc⟩
  · have hdelay : afterLoop e delay = fun d => { d with aux.delaying := true } := funext fun d => if_neg h
    rw [hdelay]
    exact ⟨fun _ _ => rfl, fun _ => rfl, fun _ => rfl, fun _ => rfl, fun _ hc => hc⟩

/-- After a transit entry's result the entry that waits (R167). -/
def afterTransit (d : Dev) : Dev :=
  { d with aux.txEntry := d.aux.txNext.head?, aux.txNext := d.aux.txNext.drop 1, aux.txSum := 0, aux.txCount := 0 }

theorem afterResult_transit : AfterResult afterTransit :=
  ⟨fun _ _ => rfl, fun _ => rfl, fun _ => rfl, fun _ => rfl, fun _ hc => hc⟩

/-- A transit result's source is served before or after the entry that waits is taken. -/
theorem afterTransit_resultFiled (e v : Nat) (d : Dev) : afterTransit (resultFiled e v true d) = resultFiled e v true (afterTransit d) := by
  unfold resultFiled
  have hw : auxEntry (afterTransit d) e = auxEntry d e := rfl
  rw [hw]
  unfold sourceTaken
  split <;> rfl

section Conversions

variable {d : Dev} {code e : Nat} (hr : d.d2d.retrain = false) (ho : d.power.opTarget = none)

include hr ho

theorem sarData_direct (src : Nat) (res : Option (Nat × Nat × Nat × Bool)) : sarData src code res d = sarRoom (sarTaken res d) :=
  congrArg sarRoom (viaBus_direct hr ho)

theorem sarData_code (src : Nat) : sarData src code none d = d := (sarData_direct hr ho src none).trans (sarRoom_direct hr)

theorem loopConv_more (h : d.aux.count + 1 < entryReps (auxEntry d d.aux.pos)) :
    loopConv code d = sarWork { d with aux.sum := d.aux.sum + code, aux.count := d.aux.count + 1 } := by
  have hcode := sarData_code (code := code) (d := { d with aux.sum := d.aux.sum + code, aux.count := d.aux.count + 1 }) hr ho
    (entrySrc (auxEntry d d.aux.pos))
  unfold loopConv
  dsimp only at hcode ⊢
  rw [if_pos h, hcode]

theorem loopConv_last (h : entryReps (auxEntry d d.aux.pos) ≤ d.aux.count + 1) :
    loopConv code d = sarWork (afterLoop d.aux.pos (bf (auxEntry d d.aux.pos) 13 8) (sarRoom
      (auxWrite d.aux.pos (d.aux.sum + code) (entryReps (auxEntry d d.aux.pos)) false { d with aux.sum := 0, aux.count := 0 }))) := by
  have hcode := sarData_direct (code := code) (d := { d with aux.sum := 0, aux.count := 0 }) hr ho (entrySrc (auxEntry d d.aux.pos))
    (some (d.aux.pos, d.aux.sum + code, entryReps (auxEntry d d.aux.pos), false))
  unfold loopConv afterLoop
  dsimp only at hcode ⊢
  rw [if_neg (Nat.not_lt.mpr h), hcode, apply_ite sarWork]
  rfl

theorem transitConv_more (h : d.aux.txCount + 1 < entryReps (auxEntry d e)) :
    transitConv e code d = sarWork { d with aux.txSum := d.aux.txSum + code, aux.txCount := d.aux.txCount + 1 } := by
  have hcode := sarData_code (code := code) (d := { d with aux.txSum := d.aux.txSum + code, aux.txCount := d.aux.txCount + 1 }) hr ho
    (entrySrc (auxEntry d e))
  unfold transitConv
  dsimp only at hcode ⊢
  rw [if_pos h, hcode]

theorem transitConv_last (h : entryReps (auxEntry d e) ≤ d.aux.txCount + 1) :
    transitConv e code d = sarWork (afterTransit (sarRoom
      (auxWrite e (d.aux.txSum + code) (entryReps (auxEntry d e)) true d))) := by
  have hcode := sarData_direct (code := code) hr ho (entrySrc (auxEntry d e))
    (some (e, d.aux.txSum + code, entryReps (auxEntry d e), true))
  unfold transitConv
  dsimp only
  rw [if_neg (Nat.not_lt.mpr h), hcode]
  rfl

end Conversions

/-- SAR_CONVERSION_DONE (R162, R166). -/
def convDone (code : Nat) (d : Dev) : Dev :=
  if !awake d then d
  else match d.aux.user, d.aux.txEntry with
    | .loop, _ => loopConv code d
    | .transit, some e => transitConv e code d
    | _, _ => d

theorem exec_sarConversionDone (code : BitVec 12) (s : State) : exec (.sarConversionDone code) s = runDev s (convDone code.toNat) := rfl

section Done

variable {d : Dev} {code : Nat}

theorem convDone_loop (ha : awake d = true) (hu : d.aux.user = .loop) : convDone code d = loopConv code d := by
  unfold convDone
  rw [if_neg (by simp [ha]), hu]

theorem convDone_transit {e : Nat} (ha : awake d = true) (hu : d.aux.user = .transit) (he : d.aux.txEntry = some e) :
    convDone code d = transitConv e code d := by
  unfold convDone
  rw [if_neg (by simp [ha]), hu, he]

theorem convDone_other (h : awake d = false ∨ d.aux.user = .idle ∨ d.aux.user = .leat ∨ (d.aux.user = .transit ∧ d.aux.txEntry = none)) :
    convDone code d = d := by
  unfold convDone
  rcases h with h | h | h | ⟨h, he⟩
  · exact if_pos (by simp [h])
  · rw [h]
    exact ite_self d
  · rw [h]
    exact ite_self d
  · rw [h, he]
    exact ite_self d

end Done

/-- Settles O25: a conversion is one of several, or completes its entry's result, from which the entry's successor follows. -/
theorem sequencerConvertsAndFiles : Obligations.SequencerConvertsAndFiles := by
  intro s hc hr hop users ovr out filed outcome
  refine ⟨fun code ha hu => ⟨fun hn => ?_, fun hn => ?_⟩, fun code e ha hu he => ⟨fun hn => ?_, fun hn => ?_⟩, fun code h => ?_,
    fun ha hd => ?_, fun h => ?_, fun hv hk => ?_, fun h => ?_⟩
  · refine answers_beside (exec_sarConversionDone code s) ((convDone_loop ha hu).trans (loopConv_more hr hop hn))
      (calm_of_sarWrite (sarWrite_sarWork _) hc) ?_
    rw [power_of_sarWrite (sarWrite_sarWork _)]
    exact id
  · have hres := answers_result (a := { s.toDev with aux.sum := 0, aux.count := 0 }) (afterResult_loop s.aux.pos _)
      (exec_sarConversionDone code s) ((convDone_loop ha hu).trans (loopConv_last hr hop hn)) hc hr rfl
    have hfiled : resultFiled s.aux.pos (meanCode (s.aux.sum + code.toNat) (entryReps (auxEntry s.toDev s.aux.pos))) false
        { s.toDev with aux.sum := 0, aux.count := 0 } =
        filed s.aux.pos (s.aux.sum + code.toNat) false { s.toDev with aux.sum := 0, aux.count := 0 } := rfl
    unfold afterLoop at hres
    rw [hfiled] at hres
    exact hres
  · refine answers_beside (exec_sarConversionDone code s) ((convDone_transit ha hu he).trans (transitConv_more hr hop hn))
      (calm_of_sarWrite (sarWrite_sarWork _) hc) ?_
    rw [power_of_sarWrite (sarWrite_sarWork _)]
    exact id
  · have hres := answers_result (e := e) afterResult_transit (exec_sarConversionDone code s)
      ((convDone_transit ha hu he).trans (transitConv_last hr hop hn)) hc hr rfl
    rw [afterTransit_resultFiled] at hres
    exact hres
  · exact answers_same (exec_sarConversionDone code s) hc (convDone_other h)
  · refine answers_beside rfl (if_pos (by simp [ha, hd])) (calm_of_sarWrite (sarWrite_sarKick _) hc) ?_
    rw [power_of_sarWrite (sarWrite_sarKick _)]
    exact id
  · refine answers_same rfl hc (if_neg ?_)
    rcases h with h | h <;> simp [h]
  · exact answers_beside rfl (if_pos (by simp [hv, hk])) hc id
  · refine answers_same rfl hc (if_neg ?_)
    rcases h with h | h <;> simp [h]

end Sys2Proof.Proofs
end

section
/-! PROOF. Who waits for the test DAC, or for a gap, is served at the command's end (06_aux_path_and_leat.md R174, R176). -/

namespace Sys2Proof.Proofs

open Sys2Proof Sys2Proof.Machine Sys2Proof.Safety Sys2Proof.Laws

/-! ## What serving changes -/

/-- b is a but for the auxiliary path and the channels disabled for a check. -/
def DacWrite (a b : Dev) : Prop := b = { a with aux := b.aux, conv.disabledDiag := b.conv.disabledDiag }

theorem dacWrite_refl (a : Dev) : DacWrite a a := rfl

theorem dacWrite_trans {a b c : Dev} (hab : DacWrite a b) (hbc : DacWrite b c) : DacWrite a c := by
  unfold DacWrite at hab hbc ⊢
  rw [hab] at hbc
  exact hbc

theorem dacWrite_startVerify (d : Dev) : DacWrite d (startVerify d) := by
  unfold startVerify
  split <;> rfl

theorem dacWrite_diagNext (t : Nat) (d : Dev) : DacWrite d (diagNext t d) := by
  unfold diagNext
  split <;> rfl

theorem dacWrite_dropStale (d : Dev) : DacWrite d (dropStale d) := by
  unfold dropStale
  split
  · exact dacWrite_refl d
  · split
    · exact dacWrite_diagNext _ d
    · split
      · refine dacWrite_trans ?_ (dacWrite_diagNext _ _)
        unfold whenDo
        split <;> rfl
      · exact dacWrite_refl d

theorem dacWrite_tryCheck (d : Dev) : DacWrite d (tryCheck d) := by
  unfold tryCheck
  split
  · exact dacWrite_refl d
  · split
    · rfl
    · split
      · rfl
      · exact dacWrite_refl d

theorem dacWrite_serveDac (d : Dev) : DacWrite d (serveDac d) := by
  unfold serveDac
  split
  · exact dacWrite_trans (dacWrite_trans (dacWrite_startVerify d) (dacWrite_dropStale _)) (dacWrite_tryCheck _)
  · exact dacWrite_refl d

/-! ## Serving reads nothing of what an occurrence writes -/

theorem startVerify_withOcc (e d : Dev) : startVerify (withOcc e d) = withOcc e (startVerify d) := by
  have h1 : (withOcc e d).aux.toVerify = d.aux.toVerify := rfl
  have h2 : (withOcc e d).aux.verify = d.aux.verify := rfl
  have h3 : (withOcc e d).aux.dacUser = d.aux.dacUser := rfl
  unfold startVerify
  rw [h1, h2, h3]
  cases d.aux.toVerify <;> cases d.aux.verify <;> cases d.aux.dacUser <;> rfl

theorem diagNext_withOcc (t : Nat) (e d : Dev) : diagNext t (withOcc e d) = withOcc e (diagNext t d) := by
  have h : (fun i => decide (t ≤ i) && diagEligible (withOcc e d) i) = fun i => decide (t ≤ i) && diagEligible d i := rfl
  unfold diagNext
  rw [h]
  cases (List.range 89).find? (fun i => decide (t ≤ i) && diagEligible d i) <;> rfl

theorem dropStale_withOcc (e d : Dev) : dropStale (withOcc e d) = withOcc e (dropStale d) := by
  unfold dropStale
  rw [apply_ite (withOcc e), apply_ite (withOcc e), apply_ite (withOcc e), ← diagNext_withOcc, ← diagNext_withOcc]
  refine ite_congr rfl (fun _ => rfl) fun _ => ite_congr rfl (fun _ => rfl) fun _ => ite_congr rfl (fun _ => ?_) fun _ => rfl
  unfold whenDo
  rw [apply_ite (withOcc e)]
  rfl

theorem tryCheck_withOcc (e d : Dev) : tryCheck (withOcc e d) = withOcc e (tryCheck d) := by
  unfold tryCheck
  rw [apply_ite (withOcc e), apply_ite (withOcc e), apply_ite (withOcc e)]
  rfl

theorem serveDac_withOcc (e d : Dev) : serveDac (withOcc e d) = withOcc e (serveDac d) := by
  unfold serveDac
  rw [startVerify_withOcc, dropStale_withOcc, tryCheck_withOcc, apply_ite (withOcc e)]
  rfl

/-! ## Answers -/

/-- A block calm but for who waits for the test DAC or for a gap. -/
def CalmButDac (d : Dev) : Prop := d.cmd.busy = none ∧ d.cmd.waiting = [] ∧ Unarmed d ∧ d.bist.waiting = none

theorem calmButDac_of_calm {d : Dev} (h : Calm d) : CalmButDac d := ⟨h.1, h.2.1, h.2.2.1, h.2.2.2.2.2.2⟩

theorem effect_calmButDac {f : Dev → Dev} {d : Dev} (h : CalmButDac (f d)) (hs : (f d).power.safeHold = true → d.power.safeHold = true) :
    effect f d = settle (serveDac (f d)) := by
  obtain ⟨hbusy, hwait, hcaps, hslice⟩ := h
  have hserve : serveSlice (serveDac (f d)) = serveDac (f d) := by
    unfold serveSlice
    rw [show (serveDac (f d)).bist.waiting = none by rw [dacWrite_serveDac (f d)]; exact hslice]
  unfold effect wake
  rw [armInHold_kept hs, afterEvents_unarmed 4 _ _ hcaps, longEnds_calm hbusy hwait, hserve]

section Served

variable {c : Instr} {s : State} {f : Dev → Dev} {a : Dev}

theorem answers_served (hi : exec c s = runDev s f) (hf : f s.toDev = a) (hc : CalmButDac a)
    (hs : a.power.safeHold = true → s.power.safeHold = true) : Answers c s (Beside (serveDac a)) := by
  subst hf
  refine ⟨_, hi, rfl, ?_⟩
  show Beside _ (effect f s.toDev)
  rw [effect_calmButDac hc hs]
  exact beside_settle _

theorem answers_servedNoted {k : Nat} (hi : exec c s = runDev s f) (h : Occurred k a (f s.toDev)) (hc : CalmButDac a)
    (hs : a.power.safeHold = true → s.power.safeHold = true) : Answers c s (Noted k (serveDac a)) := by
  have he := eq_withOcc h
  have hcalm : CalmButDac (f s.toDev) := by
    rw [he]
    exact hc
  have hpower : (f s.toDev).power = a.power := by
    rw [he]
    rfl
  refine ⟨_, hi, rfl, ?_⟩
  show Noted k _ (effect f s.toDev)
  rw [effect_calmButDac hcalm (by rw [hpower]; exact hs)]
  refine noted_settle (occurred_map h ?_ ?_ ?_)
  · exact serveDac_withOcc _ a
  · rw [dacWrite_serveDac a]
  · rw [dacWrite_serveDac a]

end Served

end Sys2Proof.Proofs
end

section
/-! PROOF. Leat slots and the test DAC (06_aux_path_and_leat.md R174 to R183). -/

namespace Sys2Proof.Proofs

open Sys2Proof Sys2Proof.Machine Sys2Proof.Safety Sys2Proof.Laws

/-! ## Comparisons -/

section Compared

variable {n : Nat} {vl vp : Rat} {d : Dev}

theorem leatCompare_skips (h : leatRef d n = none) : leatCompare n vl d = d := by
  unfold leatCompare
  rw [h]

theorem leatCompare_within (h : leatRef d n = some vp) (hin : rabs (vl - vp) ≤ leatTol d vp) : leatCompare n vl d =
    { d with aux.warn := mset d.aux.warn (n - 1) false, aux.confirm := mset d.aux.confirm (n - 1) false } := by
  unfold leatCompare
  rw [h]
  exact if_pos hin

/-- The auxiliary path after a deviation at V_P: the first one asks for a verification (R180). -/
def deviated (n : Nat) (vp : Rat) (x : Aux) : Aux :=
  { x with warn := mset x.warn (n - 1) true, confirm := mset x.confirm (n - 1) true
           toVerify := if mbit x.warn (n - 1) then x.toVerify else x.toVerify ++ [(n, vp)] }

theorem leatCompare_outside (h : leatRef d n = some vp) (hout : leatTol d vp < rabs (vl - vp)) (hp : Plain d 117) :
    Occurred 117 { d with aux := deviated n vp d.aux } (leatCompare n vl d) := by
  have heq : leatCompare n vl d = raiseCh 117 n { d with aux := deviated n vp d.aux } := by
    unfold leatCompare
    rw [h]
    dsimp only
    rw [if_neg (not_le.mpr hout)]
    unfold deviated
    cases mbit d.aux.warn (n - 1) <;> rfl
  rw [heq]
  exact occurred_occurWith reactFull 117 _ _ _ hp

/-- The auxiliary path after a reading of cell n (R183). -/
def readAux (n sum : Nat) (x : Aux) : Aux :=
  { x with leatLast := x.leatLast.set (n - 1) sum
           leatSince := x.leatSince.set (n - 1) ((nth x.leatSince (n - 1) (0, 0)).1 + sum, (nth x.leatSince (n - 1) (0, 0)).2 + 1) }

theorem leatReading_paused {sum : Nat} (h : (chFenced d n || leatPaused d n) = true) :
    leatReading n sum d = { d with aux := readAux n sum d.aux } := if_pos h

theorem leatReading_compared {sum : Nat} (h : (chFenced d n || leatPaused d n) = false) :
    leatReading n sum d = leatCompare n (leatUv d n ((sum : Rat) / 4)) { d with aux := readAux n sum d.aux } :=
  if_neg (by simp [h])

end Compared

/-! ## A slot done -/

section Slots

variable {n : Nat} {codes : List Nat} {d : Dev}

/-- LEAT_SLOT_DONE (R180, R181). -/
def slotDone (codes : List Nat) (d : Dev) : Dev :=
  match d.aux.user, d.aux.slotOf with
  | .leat, some n =>
    if !awake d then d
    else sarWork (sarRoom (viaBus (.leat n d.aux.slotVerify codes) (leatSlotData n d.aux.slotVerify codes)
      { d with aux.slotOf := none, aux.slotVerify := false }))
  | _, _ => d

theorem exec_leatSlotDone (codes : List (BitVec 12)) (s : State) :
    exec (.leatSlotDone codes) s = runDev s (slotDone ((codes.take 4).map BitVec.toNat)) := rfl

theorem slotDone_taken (ha : awake d = true) (hu : d.aux.user = .leat) (hn : d.aux.slotOf = some n)
    (hr : d.d2d.retrain = false) (ho : d.power.opTarget = none) : slotDone codes d =
    sarWork (sarRoom (leatSlotData n d.aux.slotVerify codes { d with aux.slotOf := none, aux.slotVerify := false })) := by
  have hbus := viaBus_direct (h := .leat n d.aux.slotVerify codes) (f := leatSlotData n d.aux.slotVerify codes)
    (d := { d with aux.slotOf := none, aux.slotVerify := false }) hr ho
  unfold slotDone
  rw [hu, hn]
  dsimp only at hbus ⊢
  rw [if_neg (by simp [ha]), hbus]

theorem slotDone_none (h : awake d = false ∨ d.aux.user ≠ .leat ∨ d.aux.slotOf = none) : slotDone codes d = d := by
  unfold slotDone
  split
  · rename_i hu hn
    rcases h with h | h | h
    · exact if_pos (by simp [h])
    · exact absurd hu h
    · rw [h] at hn
      cases hn
  · rfl

end Slots

section SlotAnswers

variable {s : State} {codes : List Nat} {f : Dev → Dev} {c : Instr} {a y : Dev}

/-- A slot whose data change the device to a, the SAR then taking its next work. -/
theorem answers_slot (hi : exec c s = runDev s f) (hf : f s.toDev = sarWork (sarRoom y)) (hy : y = a) (hc : Calm a)
    (hr : a.d2d.retrain = false) (hp : a.power = s.power) : Answers c s (Beside (sarWork a)) := by
  refine answers_beside hi ?_ (calm_of_sarWrite (sarWrite_sarWork a) hc) ?_
  · rw [hf, hy, sarRoom_direct hr]
  · rw [power_of_sarWrite (sarWrite_sarWork a), hp]
    exact id

theorem occurred_sarWork {k : Nat} (h : Occurred k a y) (hr : a.d2d.retrain = false) :
    Occurred k (sarWork a) (sarWork (sarRoom y)) := by
  have hwork := sarWrite_sarWork a
  have hroom : sarRoom y = y := by
    refine sarRoom_direct ?_
    rw [eq_withOcc h]
    exact hr
  rw [hroom]
  exact occurred_map h (sarWork_withOcc y a) (host_of_sarWrite hwork) (fault_of_sarWrite hwork)

theorem answers_slotNoted {k : Nat} (hi : exec c s = runDev s f) (hf : f s.toDev = sarWork (sarRoom y)) (hy : Occurred k a y)
    (hc : Calm a) (hr : a.d2d.retrain = false) (hp : a.power = s.power) : Answers c s (Noted k (sarWork a)) := by
  refine answers_occurred hi ?_ (calm_of_sarWrite (sarWrite_sarWork a) hc) ?_
  · rw [hf]
    exact occurred_sarWork hy hr
  · rw [power_of_sarWrite (sarWrite_sarWork a), hp]
    exact id

end SlotAnswers

/-! ## A verification -/

/-- The deviation of a verification (R181). -/
def verifyOff (n : Nat) (codes : List Nat) (d : Dev) : Rat :=
  rabs (leatUv d n (((nth codes 0 0 : Nat) + (nth codes 1 0 : Nat) : Rat) / 2) -
    dacUv (((nth codes 2 0 : Nat) + (nth codes 3 0 : Nat) : Rat) / 2))

/-- The auxiliary path with the verification over and the DAC given back (R174, R181). -/
def verifiedAux (x : Aux) : Aux :=
  { x with verify := none, verifyOn := false, dacUser := .unused, dacSettled := false, bypass := false }

section Verified

variable {n : Nat} {codes : List Nat} {d : Dev}

theorem leatVerified_eq : leatVerified n codes d = dacFree (
    if verifyOff n codes d ≤ leatTol d d.aux.verifyVp then { d with aux.verify := none, aux.verifyOn := false }
    else raiseNS 118 (0x100 + n) { d with aux.verify := none, aux.verifyOn := false
                                          aux.excluded := mset d.aux.excluded (n - 1) true
                                          aux.confirm := mset d.aux.confirm (n - 1) false }) := by
  unfold leatVerified verifyOff
  push_cast
  rfl

theorem leatVerified_within (h : verifyOff n codes d ≤ leatTol d d.aux.verifyVp) :
    leatVerified n codes d = { d with aux := verifiedAux d.aux } := by
  rw [leatVerified_eq, if_pos h]
  rfl

theorem leatVerified_outside (h : leatTol d d.aux.verifyVp < verifyOff n codes d) (hp : Plain d 118) :
    Occurred 118 { d with aux := { verifiedAux d.aux with
      excluded := mset d.aux.excluded (n - 1) true, confirm := mset d.aux.confirm (n - 1) false } } (leatVerified n codes d) := by
  rw [leatVerified_eq, if_neg (not_le.mpr h)]
  exact occurred_map (g := dacFree) (a := { d with aux.verify := none, aux.verifyOn := false
                                                   aux.excluded := mset d.aux.excluded (n - 1) true
                                                   aux.confirm := mset d.aux.confirm (n - 1) false })
    (occurred_raiseNS 118 (0x100 + n) hp) rfl rfl rfl

end Verified

/-- Settles O26: a slot's four codes are a reading, compared or not, or a verification; the DAC's settling serves its user. -/
theorem leatSlotsCompareAndVerify : Obligations.LeatSlotsCompareAndVerify := by
  intro s hc hr hop
  refine ⟨fun ha hp => ?_, fun ha hp => ?_, fun ha => ?_, fun codes n ha hu hn hv => ?_, fun codes n ha hu hn hv => ?_, fun codes h => ?_,
    fun ha hv hd => ?_, fun h => ?_, fun ha => ⟨fun h1 h2 => ?_, fun hd h0 => ?_, fun hd h0 => ?_⟩, fun h => ?_⟩
  · exact answers_beside rfl ((if_neg (by simp [ha])).trans (if_pos hp)) hc id
  · refine answers_beside rfl ((if_neg (by simp [ha])).trans (if_neg (by simp [hp])))
      (calm_of_sarWrite (sarWrite_sarKick { s.toDev with aux.slotPending := true }) hc) ?_
    rw [power_of_sarWrite (sarWrite_sarKick _)]
    exact id
  · exact answers_same rfl hc (if_pos (by simp [ha]))
  · have hdone := slotDone_taken (codes := (codes.take 4).map BitVec.toNat) ha hu hn hr hop
    rw [hv] at hdone
    have hslot : ({ s.toDev with aux.slotOf := none, aux.slotVerify := false } : Dev) = { s.toDev with aux.slotOf := none } := by
      rw [← hv]
    rw [hslot] at hdone
    intro sum since read off failed
    have hread : leatSlotData n false ((codes.take 4).map BitVec.toNat) { s.toDev with aux.slotOf := none } =
      leatReading n sum { s.toDev with aux.slotOf := none } := rfl
    rw [hread] at hdone
    have hexec := exec_leatSlotDone codes s
    refine ⟨fun h => ?_, fun vp hf hp href => ?_⟩
    · refine answers_slot (a := { s.toDev with aux := read }) hexec hdone ?_ hc hr rfl
      cases hq : chFenced s.toDev n || leatPaused s.toDev n with
      | true => exact leatReading_paused (d := { s.toDev with aux.slotOf := none }) hq
      | false =>
        refine (leatReading_compared (d := { s.toDev with aux.slotOf := none }) hq).trans (leatCompare_skips ?_)
        simp only [Bool.or_eq_false_iff] at hq
        have href : leatRef s.toDev n = none := by simpa [hq] using h
        exact href
    · have hq : (chFenced s.toDev n || leatPaused s.toDev n) = false := by simp [hf, hp]
      rw [leatReading_compared (d := { s.toDev with aux.slotOf := none }) hq] at hdone
      have hcmp := fun hout hpl => leatCompare_outside (d := { s.toDev with aux := read }) (n := n) (vp := vp)
        (vl := leatUv s.toDev n ((sum : Rat) / 4)) href hout hpl
      refine ⟨fun hin => ?_, fun hout hpl hw => ?_, fun hout hpl hw => ?_⟩
      · exact answers_slot hexec hdone (leatCompare_within (d := { s.toDev with aux := read }) href hin) hc hr rfl
      · have hocc := hcmp hout hpl
        unfold deviated at hocc
        rw [if_pos hw] at hocc
        exact answers_slotNoted (a := { s.toDev with aux := failed }) hexec hdone hocc hc hr rfl
      · have hocc := hcmp hout hpl
        have htv : read.toVerify = [] := hc.2.2.2.1
        unfold deviated at hocc
        rw [if_neg (by rw [hw]; exact Bool.false_ne_true), htv] at hocc
        have hwork := sarWrite_sarWork { s.toDev with aux := { failed with toVerify := [(n, vp)] } }
        refine answers_servedNoted hexec (hdone ▸ occurred_sarWork hocc hr) ?_ ?_
        · obtain ⟨hbusy, hwait, hcaps, -, -, -, hslice⟩ := hc
          rw [hwork.1]
          exact ⟨hbusy, hwait, hcaps, hslice⟩
        · rw [power_of_sarWrite hwork]
          exact id
  · have hdone := slotDone_taken (codes := (codes.take 4).map BitVec.toNat) ha hu hn hr hop
    rw [hv] at hdone
    intro c off done
    refine ⟨fun hin => ?_, fun hout hp => ?_⟩
    · exact answers_slot (exec_leatSlotDone codes s) hdone
        (leatVerified_within (d := { s.toDev with aux.slotOf := none, aux.slotVerify := false }) hin) (a := { s.toDev with aux := done })
        hc hr rfl
    · exact answers_slotNoted (exec_leatSlotDone codes s) hdone
        (leatVerified_outside (d := { s.toDev with aux.slotOf := none, aux.slotVerify := false }) hout hp)
        hc hr rfl
  · exact answers_same (exec_leatSlotDone codes s) hc (slotDone_none h)
  · exact answers_beside rfl (if_pos (by simp [ha, hd, Option.isSome_iff_ne_none.mpr hv])) hc id
  · refine answers_same rfl hc (if_neg ?_)
    rcases h with h | h | h <;> simp [h]
  · exact answers_beside rfl ((if_neg (by simp [ha, h1])).trans ((if_neg (by simp [h2])).trans (if_neg (by simp [h2])))) hc id
  · exact answers_beside rfl ((if_neg (by simp [ha, hd])).trans (if_pos (by simp [hd, h0]))) hc id
  · exact answers_beside rfl ((if_neg (by simp [ha, hd])).trans ((if_neg (by simp [h0])).trans (if_pos (by simp [hd])))) hc id
  · refine answers_same rfl hc (if_pos ?_)
    rcases h with h | h <;> simp [h]

end Sys2Proof.Proofs
end

section
/-! PROOF. Input diagnosis (06_aux_path_and_leat.md R174 to R177). -/

namespace Sys2Proof.Proofs

open Sys2Proof Sys2Proof.Machine Sys2Proof.Safety Sys2Proof.Laws

/-! ## A check judged -/

theorem diagBit_kept (t : Nat) (f : Bool) (d : Dev) : diagBit t f d =
    { d with aux.openC := (diagBit t f d).aux.openC, aux.openSb := (diagBit t f d).aux.openSb
             aux.pathFail := (diagBit t f d).aux.pathFail, aux.axPathFail := (diagBit t f d).aux.axPathFail } := by
  unfold diagBit
  split
  · rfl
  · split
    · rfl
    · split <;> rfl

/-- The test DAC given back where the check had it (R174). -/
def freeCheckDac (d : Dev) : Dev := if d.aux.dacUser == .diag then dacFree d else d

theorem freeCheckDac_withOcc (e d : Dev) : freeCheckDac (withOcc e d) = withOcc e (freeCheckDac d) := by
  unfold freeCheckDac
  rw [apply_ite (withOcc e)]
  rfl

theorem freeCheckDac_kept (d : Dev) : freeCheckDac d =
    { d with aux.dacUser := (freeCheckDac d).aux.dacUser, aux.dacSettled := (freeCheckDac d).aux.dacSettled
             aux.bypass := (freeCheckDac d).aux.bypass } := by
  unfold freeCheckDac
  split <;> rfl

/-- DIAG_PULL_END (R175, R177). -/
def pullEnd (readings : List Int) (d : Dev) : Dev :=
  if !awake d || !d.aux.pulling || (49 ≤ d.aux.target && d.aux.diagStep < 2) then d
  else freeCheckDac (
    let d1 := diagBit d.aux.target (diagFails d readings) { d with aux.pulling := false, aux.recovering := true }
    if diagFails d readings then raiseOn 119 d.aux.target ((targetCells d1 d.aux.target).map (0x100 + ·)) d1 else d1)

theorem exec_diagPullEnd (readings : List Int) (s : State) : exec (.diagPullEnd readings) s = runDev s (pullEnd readings) := rfl

/-- The check is over and judged: its bit, the recovery, the DAC given back (R175, R177). -/
def judged (f : Bool) (d : Dev) : Dev := freeCheckDac (diagBit d.aux.target f { d with aux.pulling := false, aux.recovering := true })

theorem calm_judged (f : Bool) {d : Dev} (hc : Calm d) : Calm (judged f d) := by
  unfold judged
  rw [freeCheckDac_kept, diagBit_kept]
  exact hc

theorem power_judged (f : Bool) (d : Dev) : (judged f d).power = d.power := by
  unfold judged
  rw [freeCheckDac_kept, diagBit_kept]

section Judged

variable {readings : List Int} {d : Dev}

theorem pullEnd_early (h : awake d = false ∨ d.aux.pulling = false ∨ (49 ≤ d.aux.target ∧ d.aux.diagStep < 2)) : pullEnd readings d = d := by
  refine if_pos ?_
  rcases h with h | h | h <;> simp [h]

theorem pullEnd_over (ha : awake d = true) (hp : d.aux.pulling = true) (ht : d.aux.target < 49 ∨ 2 ≤ d.aux.diagStep) :
    pullEnd readings d = freeCheckDac (
      let d1 := diagBit d.aux.target (diagFails d readings) { d with aux.pulling := false, aux.recovering := true }
      if diagFails d readings then raiseOn 119 d.aux.target ((targetCells d1 d.aux.target).map (0x100 + ·)) d1 else d1) := by
  refine if_neg ?_
  simp only [ha, hp, Bool.not_true, Bool.false_or, Bool.and_eq_true, decide_eq_true_eq]
  omega

theorem pullEnd_passes (ha : awake d = true) (hp : d.aux.pulling = true) (ht : d.aux.target < 49 ∨ 2 ≤ d.aux.diagStep)
    (hf : diagFails d readings = false) : pullEnd readings d = judged false d := by
  rw [pullEnd_over ha hp ht, hf]
  rfl

theorem pullEnd_fails (ha : awake d = true) (hp : d.aux.pulling = true) (ht : d.aux.target < 49 ∨ 2 ≤ d.aux.diagStep)
    (hf : diagFails d readings = true) (hpl : Plain d 119) : Occurred 119 (judged true d) (pullEnd readings d) := by
  rw [pullEnd_over ha hp ht, hf]
  have hplain : Plain (diagBit d.aux.target true { d with aux.pulling := false, aux.recovering := true }) 119 := by
    rw [diagBit_kept]
    exact hpl
  refine occurred_map (occurred_occurWith reactFull 119 _ _ _ hplain) (freeCheckDac_withOcc _ _) ?_ ?_
  · rw [freeCheckDac_kept]
  · rw [freeCheckDac_kept]

end Judged

/-! ## The run goes on -/

/-- DIAG_RECOVER_END: the disturbed channels converted are enabled, the run goes on (R176, R177). -/
def recovered (d : Dev) : Dev :=
  diagNext (d.aux.target + 1) (forEach ((mlist d.conv.disabledDiag).filter (fun c => mbit d.conv.enable c)) enableChannel
    { d with aux.recovering := false, conv.disabledDiag := 0 })

theorem calmButDac_recovered {d : Dev} (hc : Calm d) : CalmButDac (recovered d) ∧ (recovered d).power = d.power := by
  have hchan := convWrite_forEach ((mlist d.conv.disabledDiag).filter (fun c => mbit d.conv.enable c)) (f := enableChannel)
    (fun _ _ => ⟨rfl, id⟩) { d with aux.recovering := false, conv.disabledDiag := 0 }
  unfold recovered
  rw [dacWrite_diagNext, hchan.1]
  exact ⟨⟨hc.1, hc.2.1, hc.2.2.1, hc.2.2.2.2.2.2⟩, rfl⟩

/-- A check without a gap begins with its cells disabled (R176). -/
theorem serveDac_noGap {d : Dev} (hv : d.aux.toVerify = []) (hg : d.aux.gapWait = true) (ha : awake d = true)
    (hr : d.aux.running = true) (ht : d.aux.target ≤ 48)
    (he : diagEligible d d.aux.target = true) (hn : gapNow d (targetCells d d.aux.target) = false) (hno : d.aux.noGap = true) :
    serveDac d = { d with
      aux := { d.aux with pulling := true, gapWait := false, noGap := false, diagStep := 0, bypass := false }
      conv.disabledDiag := mof 24 ((targetCells d d.aux.target).map (· - 1)) } := by
  have hstart : startVerify d = d := by simp [startVerify, hv]
  have hdrop : dropStale d = d := if_pos (by simp [he])
  have htry : tryCheck d = beginCheck (diagDisable d) := by
    unfold tryCheck
    rw [if_neg (by simp [hr, hg, diagDac]; omega), if_neg (by simp [hn]; omega), if_pos (by simp [hno])]
  have hdac : decide (49 ≤ d.aux.target) = false := by simp; omega
  unfold serveDac
  rw [if_pos ha, hstart, hdrop, htry]
  unfold beginCheck diagDisable
  dsimp only
  rw [hdac]
  rfl

/-- Settles O27: the period, the pull's end and the recovery lead the run on; a check without a gap disables its cells. -/
theorem inputDiagnosisRuns : Obligations.InputDiagnosisRuns := by
  intro s
  refine ⟨fun hc => ⟨fun ha hi hr => ?_, fun h => ?_, fun readings ha hp ht => ?_, fun readings h => ?_, fun ha hr => ?_, fun h => ?_, ?_⟩,
    fun hbusy hwait hcaps hv hslice hg ha hr hm ht => ?_⟩
  · intro d1
    have hrun : (if awake s.toDev && itemN s.toDev 0x0209 != 0 then diagRun s.toDev else s.toDev) = diagNext 0 d1 := by
      rw [if_pos (by simp [ha, hi])]
      exact if_neg (by simp [hr])
    unfold diagNext at hrun
    obtain ⟨hbusy, hwait, hcaps, hv, -, -, hslice⟩ := id hc
    cases hfind : (List.range 89).find? (fun i => decide (0 ≤ i) && diagEligible d1 i) with
    | none =>
      rw [hfind] at hrun
      exact answers_beside rfl hrun ⟨hbusy, hwait, hcaps, hv, rfl, fun h => Bool.noConfusion h, hslice⟩ id
    | some i =>
      rw [hfind] at hrun
      exact answers_served rfl hrun ⟨hbusy, hwait, hcaps, hslice⟩ id
  · refine answers_same rfl hc ?_
    by_cases hi : itemN s.toDev 0x0209 = 0
    · exact if_neg (by simp [hi])
    · rcases h with h | h | h
      · exact if_neg (by simp [h])
      · exact absurd h hi
      · refine ite_eq_right_iff.mpr fun _ => if_pos h
  · intro f d1 d2
    have hd2 : d2 = judged f s.toDev := by
      have huser : d1.aux.dacUser = s.aux.dacUser := by
        show (diagBit s.aux.target f _).aux.dacUser = s.aux.dacUser
        rw [diagBit_kept]
      show (if s.aux.dacUser = .diag then dacFree d1 else d1) = if d1.aux.dacUser == .diag then dacFree d1 else d1
      rw [huser]
      simp
    rw [hd2]
    refine ⟨fun hf => ?_, fun hf hpl => ?_⟩
    · rw [hf]
      refine answers_beside (exec_diagPullEnd readings s) (pullEnd_passes ha hp ht hf) (calm_judged false hc) ?_
      rw [power_judged]
      exact id
    · rw [hf]
      refine answers_occurred (exec_diagPullEnd readings s) (pullEnd_fails ha hp ht hf hpl) (calm_judged true hc) ?_
      rw [power_judged]
      exact id
  · exact answers_same (exec_diagPullEnd readings s) hc (pullEnd_early h)
  · obtain ⟨hcalm, hpower⟩ := calmButDac_recovered hc
    refine answers_served (f := fun d => if !awake d || !d.aux.recovering then d else recovered d) rfl (if_neg (by simp [ha, hr])) hcalm ?_
    show (recovered s.toDev).power.safeHold = true → _
    rw [hpower]
    exact id
  · refine answers_same (f := fun d => if !awake d || !d.aux.recovering then d else recovered d) rfl hc (if_pos ?_)
    rcases h with h | h <;> simp [h]
  · exact answers_same rfl hc (if_neg (by simp [hc.2.2.2.2.1]))
  · have hcalm : CalmButDac s.toDev := ⟨hbusy, hwait, hcaps, hslice⟩
    have hans := answers_served (c := .diagNoGapTimeout) (s := s) rfl (if_pos (by simp [ha, hr, hg, hm, ht])) (a := { s.toDev with aux.noGap := true })
      hcalm id
    refine ⟨hans, fun ht' _ he hn => ?_⟩
    rw [serveDac_noGap (d := { s.toDev with aux.noGap := true }) hv hg ha hr ht' he hn rfl] at hans
    exact hans

end Sys2Proof.Proofs
end

section
/-! PROOF. Effective edges of the comparators (07_comparators_and_trip.md R189 to R204). -/

namespace Sys2Proof.Proofs

open Sys2Proof Sys2Proof.Machine Sys2Proof.Safety Sys2Proof.Laws

/-! ## The trip path does not read what an occurrence writes -/

/-- A change after an occurrence that may set FAULTN's stretcher too. -/
theorem occurred_after {k : Nat} {a e x : Dev} {g : Dev → Dev} (h : Occurred k a e) (hg : g (withOcc e a) = withOcc x (g a))
    (hxh : x.host = e.host) (hxf : x.fault.esc = e.fault.esc) (hh : (g a).host = a.host) (hf : (g a).fault.esc = a.fault.esc) :
    Occurred k (g a) (g e) := by
  obtain ⟨hevf, hrecs, hesc, he⟩ := h
  have hge : g e = withOcc x (g a) := (congrArg g he).trans hg
  have hhost : (withOcc x (g a)).host = { a.host with evf := e.host.evf, evt := e.host.evt, evtRecs := e.host.evtRecs
                                                      evtRseq := e.host.evtRseq, evtDrop := e.host.evtDrop } := by
    unfold withOcc
    rw [hxh, hh]
  have hfault : (withOcc x (g a)).fault.esc = e.fault.esc := hxf
  refine ⟨?_, ?_, fun i hi => ?_, ?_⟩
  · rw [hge, hhost, hh]
    exact hevf
  · rw [hge, hhost, hh]
    exact hrecs
  · have hi' := hesc i hi
    unfold esc at hi' ⊢
    rw [hge, hfault, hf]
    exact hi'
  · rw [hge]
    rfl

theorem driveTrip_withOcc (e d : Dev) : driveTrip (withOcc e d) = withOcc e (driveTrip d) := by
  unfold driveTrip
  rw [apply_ite (withOcc e)]
  rfl

theorem insertTrip_withOcc (e d : Dev) : insertTrip (withOcc e d) = withOcc e (insertTrip d) := by
  unfold insertTrip
  rw [apply_ite (withOcc e), apply_ite (withOcc e), apply_ite (withOcc e), driveTrip_withOcc]
  rfl

theorem insertTrip_kept (d : Dev) : insertTrip d = { d with trip := (insertTrip d).trip } := by
  unfold insertTrip driveTrip
  split
  · rfl
  · split
    · rfl
    · split
      · rfl
      · split <;> rfl

/-- TRIPN is asserted: the latches, the stretcher and the timestamp (R206, R212, R491). -/
def tripAsserts (d : Dev) : Dev :=
  let d1 := triggerStretch { d with trip.tripn := true, trip.localLatch := true }
  if d.trip.tsValid then d1
  else { d1 with
    trip.tsValid := true, trip.tsPhase := Word.of ((d.tb.acc + 2 ^ 48 - (2 * d.tb.inc) % 2 ^ 48) % 2 ^ 48 / 2 ^ 16)
    trip.tsPeriod := if decide (d.tb.acc < 2 * d.tb.inc) then (d.tb.period + 2 ^ 32 - 1) % 2 ^ 32 else d.tb.period }

theorem followTrip_eq (d : Dev) : followTrip d =
    if (List.range 48).any (fun k => mbit d.cmp.level k && mbit d.cmp.armed k) && !d.trip.tripn then notePending (insertTrip (tripAsserts d))
    else if !(List.range 48).any (fun k => mbit d.cmp.level k && mbit d.cmp.armed k) && d.trip.tripn then
      notePending { d with trip.tripn := false, trip.deferred := false }
    else notePending d := rfl

theorem tripAsserts_kept (d : Dev) :
    tripAsserts d = { d with trip := (tripAsserts d).trip, fault := { d.fault with stretch := true, latch := true } } := by
  unfold tripAsserts
  dsimp only
  split <;> rfl

theorem tripAsserts_withOcc (e d : Dev) : tripAsserts (withOcc e d) = withOcc (triggerStretch e) (tripAsserts d) := by
  unfold tripAsserts
  rw [apply_ite (withOcc (triggerStretch e))]
  rfl

theorem followTrip_withOcc (e d : Dev) : ∃ x, followTrip (withOcc e d) = withOcc x (followTrip d) ∧ x.host = e.host ∧
    x.fault.esc = e.fault.esc := by
  rw [followTrip_eq, followTrip_eq]
  by_cases hup : ((List.range 48).any (fun k => mbit d.cmp.level k && mbit d.cmp.armed k) && !d.trip.tripn) = true
  · refine ⟨triggerStretch e, ?_, rfl, rfl⟩
    rw [if_pos hup]
    refine (if_pos hup).trans ?_
    rw [tripAsserts_withOcc, insertTrip_withOcc]
    rfl
  · refine ⟨e, ?_, rfl, rfl⟩
    rw [if_neg hup]
    refine (if_neg hup).trans ?_
    rw [apply_ite (withOcc e)]
    rfl

theorem followTrip_kept (d : Dev) : followTrip d =
    { d with trip := (followTrip d).trip
             fault := { d.fault with stretch := (followTrip d).fault.stretch, latch := (followTrip d).fault.latch } } := by
  rw [followTrip_eq]
  split
  · unfold notePending
    rw [insertTrip_kept, tripAsserts_kept]
  · split <;> rfl

theorem noteAxSide_withOcc (k : Nat) (e d : Dev) : noteAxSide k (withOcc e d) = withOcc e (noteAxSide k d) := by
  have hlatest : axLatest (withOcc e d) (k - 48) = axLatest d (k - 48) := rfl
  unfold noteAxSide
  dsimp only
  rw [apply_ite (withOcc e), hlatest]
  refine ite_congr rfl (fun _ => rfl) fun _ => ?_
  cases axLatest d (k - 48) with
  | none => rfl
  | some v =>
    dsimp only
    rw [apply_ite (withOcc e), apply_ite (withOcc e)]
    rfl

theorem noteAxSide_cell {k : Nat} (h : k < 48) (d : Dev) : noteAxSide k d = d := if_pos h

theorem noteAxSide_kept (k : Nat) (d : Dev) : noteAxSide k d = { d with cmp := (noteAxSide k d).cmp, free := (noteAxSide k d).free } := by
  unfold noteAxSide
  split
  · rfl
  · dsimp only
    split
    · split
      · rfl
      · split <;> rfl
    · rfl

/-! ## An effective edge -/

/-- What follows a level for the trip path and an AX window's side (R204, R215). -/
def afterLevel (k : Nat) (d : Dev) : Dev := if k < 48 then followTrip d else noteAxSide k d

theorem afterLevel_kept (k : Nat) (d : Dev) : afterLevel k d =
    { d with cmp := (afterLevel k d).cmp, free := (afterLevel k d).free, trip := (afterLevel k d).trip
             fault := { d.fault with stretch := (afterLevel k d).fault.stretch, latch := (afterLevel k d).fault.latch } } := by
  unfold afterLevel
  split
  · rw [followTrip_kept]
  · rw [noteAxSide_kept]

theorem occurred_afterLevel {i k : Nat} {a e : Dev} (h : Occurred i a e) : Occurred i (afterLevel k a) (afterLevel k e) := by
  have hh : (afterLevel k a).host = a.host := by rw [afterLevel_kept]
  have hf : (afterLevel k a).fault.esc = a.fault.esc := by rw [afterLevel_kept]
  by_cases hk : k < 48
  · obtain ⟨x, hx, hxh, hxf⟩ := followTrip_withOcc e a
    have hg : afterLevel k = followTrip := funext fun d => if_pos hk
    rw [hg] at hh hf ⊢
    exact occurred_after h hx hxh hxf hh hf
  · have hg : afterLevel k = noteAxSide k := funext fun d => if_neg hk
    rw [hg] at hh hf ⊢
    exact occurred_after h (noteAxSide_withOcc k e a) rfl rfl hh hf

theorem calm_afterLevel (k : Nat) {d : Dev} (hc : Calm d) : Calm (afterLevel k d) :=
  calm_of_eq hc (by rw [afterLevel_kept]) (by rw [afterLevel_kept]) (by rw [afterLevel_kept]) (by rw [afterLevel_kept])

/-- The flags of an edge, and WAKE where its class drives it (R194, R197). -/
def edgeFlagged (k : Nat) (hi : Bool) (d : Dev) : Dev :=
  { d with
    cmp := { d.cmp with level := mset d.cmp.level k hi
                        rise := if hi then mset d.cmp.rise k true else d.cmp.rise
                        fall := if hi then d.cmp.fall else mset d.cmp.fall k true
                        inband := if hi ∧ k < 48 then mset d.cmp.inband k false else d.cmp.inband }
    power := { d.power with wakeOut := d.power.wakeOut || (hi && (itemN d 0x030A).testBit (cmpClass k)) }
    trip := { d.trip with wakeClass := if hi && (itemN d 0x030A).testBit (cmpClass k) then mset d.trip.wakeClass (cmpClass k) true
                                       else d.trip.wakeClass } }

theorem setLevel_direct {k : Nat} {hi : Bool} {period : Nat} {phase : Word} {d : Dev} (hl : mbit d.cmp.level k ≠ hi)
    (hr : d.d2d.retrain = false) (ho : d.power.opTarget = none) (hfull : holdFull d = false) :
    setLevel k hi false period phase d =
      if k < 48 then followTrip (edgeToCore k hi false period phase (edgeFlagged k hi d))
      else edgeToCore k hi false period phase (edgeFlagged k hi d) := by
  have hflag : (if hi && (itemN d 0x030A).testBit (cmpClass k) then
      { d with
        cmp.level := mset d.cmp.level k hi
        cmp.rise := if hi then mset d.cmp.rise k true else d.cmp.rise
        cmp.fall := if hi then d.cmp.fall else mset d.cmp.fall k true
        cmp.inband := if hi && k < 48 then mset d.cmp.inband k false else d.cmp.inband
        power.wakeOut := true, trip.wakeClass := mset d.trip.wakeClass (cmpClass k) true }
      else { d with
        cmp.level := mset d.cmp.level k hi
        cmp.rise := if hi then mset d.cmp.rise k true else d.cmp.rise
        cmp.fall := if hi then d.cmp.fall else mset d.cmp.fall k true
        cmp.inband := if hi && k < 48 then mset d.cmp.inband k false else d.cmp.inband }) = edgeFlagged k hi d := by
    unfold edgeFlagged
    cases hw : hi && (itemN d 0x030A).testBit (cmpClass k) <;> simp
  have hsend : sendEdge k hi false period phase (edgeFlagged k hi d) = edgeToCore k hi false period phase (edgeFlagged k hi d) := by
    unfold sendEdge
    rw [if_neg Bool.false_ne_true]
    have hroom : holdFull (edgeFlagged k hi d) = false := hfull
    exact (if_neg (by rw [hroom]; exact Bool.false_ne_true)).trans (viaBus_direct (d := edgeFlagged k hi d) hr ho)
  unfold setLevel
  rw [if_neg hl]
  dsimp only at hflag ⊢
  rw [hflag, hsend]

theorem evtRecord_kept (kind source : Nat) (body : List Word) (d : Dev) :
    evtRecord kind source body d = { d with host := (evtRecord kind source body d).host } := by
  unfold evtRecord
  dsimp only
  split <;> rfl

theorem edgeRecord_kept (k : Nat) (rise forced : Bool) (period : Nat) (phase : Word) (d : Dev) : edgeRecord k rise forced period phase d =
    { d with host := (edgeRecord k rise forced period phase d).host
             cmp.recAt := (edgeRecord k rise forced period phase d).cmp.recAt } := by
  unfold edgeRecord
  dsimp only
  split
  · split
    · rfl
    · rw [evtRecord_kept]
  · simp only [Bool.false_eq_true, if_false]
    rw [evtRecord_kept]

/-- The instant of the output's change (R194). -/
def changedAt (k : Nat) (d : Dev) : Nat × Nat := (akey d.cmp.rawAt k).getD (d.tb.period, phaseNow d)

/-- The device after the effective edge, but for the event of a rise (R194, R195, R204, R215). -/
def edgeDone (k : Nat) (d : Dev) : Dev :=
  let d1 := edgeFlagged k (mbit d.cmp.raw k) d
  afterLevel k (if d.power.coreReset then d1
    else edgeRecord k (mbit d.cmp.raw k) false (changedAt k d).1 (Word.of (changedAt k d).2) d1)

section Effective

variable {k : Nat} {d : Dev}

theorem makeEffective_still (h : mbit d.cmp.armed k = false ∨ isolated d k = true ∨ mbit d.cmp.level k = mbit d.cmp.raw k) :
    makeEffective k d = d := by
  refine if_pos ?_
  rcases h with h | h | h <;> simp [h]

theorem makeEffective_off (h : cmpPowered d = false) : makeEffective k d = d := if_pos (by simp [h])

theorem makeEffective_edge (hp : cmpPowered d = true) (ha : mbit d.cmp.armed k = true) (hi : isolated d k = false)
    (hl : mbit d.cmp.level k ≠ mbit d.cmp.raw k) (hr : d.d2d.retrain = false) (ho : d.power.opTarget = none)
    (hfull : holdFull d = false) : makeEffective k d = afterLevel k (edgeToCore k (mbit d.cmp.raw k) false (changedAt k d).1
      (Word.of (changedAt k d).2) (edgeFlagged k (mbit d.cmp.raw k) d)) := by
  have hset := setLevel_direct (period := (changedAt k d).1) (phase := Word.of (changedAt k d).2) hl hr ho hfull
  unfold makeEffective
  dsimp only
  rw [if_neg (by simp [hp, ha, hi, hl])]
  unfold changedAt at hset
  rw [hset]
  unfold afterLevel
  by_cases hk : k < 48
  · rw [if_pos hk, if_pos hk, noteAxSide_cell hk]
    rfl
  · rw [if_neg hk, if_neg hk]
    rfl

theorem calm_edgeDone (hc : Calm d) : Calm (edgeDone k d) := by
  refine calm_afterLevel k ?_
  split
  · exact calm_of_eq hc rfl rfl rfl rfl
  · exact calm_of_edgeWrite (edgeWrite_edgeRecord _ _ _ _ _ _) (calm_of_eq (b := edgeFlagged k (mbit d.cmp.raw k) d) hc rfl rfl rfl rfl)

theorem safeHold_edgeDone : (edgeDone k d).power.safeHold = d.power.safeHold := by
  unfold edgeDone
  rw [afterLevel_kept]
  split
  · rfl
  · have hrec := edgeWrite_edgeRecord k (mbit d.cmp.raw k) false (changedAt k d).1 (Word.of (changedAt k d).2)
      (edgeFlagged k (mbit d.cmp.raw k) d)
    rw [hrec.1]
    rfl

theorem edgeToCore_quiet {hi : Bool} {period : Nat} {phase : Word} (h : hi = false ∨ d.power.coreReset = true) :
    edgeToCore k hi false period phase d = if d.power.coreReset then d else edgeRecord k hi false period phase d := by
  unfold edgeToCore
  refine ite_congr rfl (fun _ => rfl) fun hcore => ?_
  exact if_neg (by rcases h with h | h <;> simp_all)

theorem edgeToCore_rise {period : Nat} {phase : Word} (hcore : d.power.coreReset = false) (hp : Plain d k) :
    Occurred k (edgeRecord k true false period phase d) (edgeToCore k true false period phase d) := by
  have heq : edgeToCore k true false period phase d =
      raiseOn k ((cmpUnits k).headD k) (cmpUnits k) (edgeRecord k true false period phase d) := by
    unfold edgeToCore
    exact (if_neg (by simp [hcore])).trans (if_pos rfl)
  rw [heq]
  refine occurred_occurWith reactFull k _ _ false ?_
  rw [edgeRecord_kept]
  exact hp

end Effective

section EdgeAnswers

variable {c : Instr} {s : State} {f : Dev → Dev} {k : Nat} {d : Dev}

/-- What a command answers that makes the output of comparator k effective. -/
theorem answers_effective (hi : exec c s = runDev s f) (hf : f s.toDev = makeEffective k d) (hc : Calm d)
    (hsafe : d.power.safeHold = s.power.safeHold) (hp : cmpPowered d = true) (hr : d.d2d.retrain = false)
    (ho : d.power.opTarget = none) (hfull : holdFull d = false) :
    ((mbit d.cmp.armed k = false ∨ isolated d k = true ∨ mbit d.cmp.level k = mbit d.cmp.raw k) → Answers c s (Beside d)) ∧
    (mbit d.cmp.armed k = true → isolated d k = false → mbit d.cmp.level k ≠ mbit d.cmp.raw k →
      ((mbit d.cmp.raw k = false ∨ d.power.coreReset = true) → Answers c s (Beside (edgeDone k d))) ∧
      (mbit d.cmp.raw k = true → d.power.coreReset = false → Plain d k → Answers c s (Noted k (edgeDone k d)))) := by
  refine ⟨fun h => ?_, fun ha hiso hl => ⟨fun h => ?_, fun hraw hcore hpl => ?_⟩⟩
  · exact answers_beside hi (hf.trans (makeEffective_still h)) hc (by rw [hsafe]; exact id)
  · refine answers_beside hi ?_ (calm_edgeDone hc) (by rw [safeHold_edgeDone, hsafe]; exact id)
    rw [hf, makeEffective_edge hp ha hiso hl hr ho hfull, edgeToCore_quiet (d := edgeFlagged k (mbit d.cmp.raw k) d) h]
    rfl
  · refine answers_occurred hi ?_ (calm_edgeDone hc) (by rw [safeHold_edgeDone, hsafe]; exact id)
    have hocc := edgeToCore_rise (d := edgeFlagged k true d) (period := (changedAt k d).1) (phase := Word.of (changedAt k d).2) hcore hpl
    rw [hf, makeEffective_edge hp ha hiso hl hr ho hfull]
    unfold edgeDone
    dsimp only
    rw [hcore, hraw]
    exact occurred_afterLevel hocc

end EdgeAnswers

theorem mbit_mset_self {w i : Nat} (m : BitVec w) (h : i < w) : mbit (mset m i true) i = true := by
  unfold mbit mset one
  rw [if_pos rfl, BitVec.getLsbD_or, BitVec.getLsbD_ofNat]
  simp [h, Nat.testBit_two_pow_self]

/-- The reading of a check only moves the check and the test DAC (R201, R202). -/
theorem checkOn_kept (k : Nat) (d : Dev) : checkOn k d =
    { d with cmp.check := (checkOn k d).cmp.check, cmp.checkStep := (checkOn k d).cmp.checkStep
             aux.dacCode := (checkOn k d).aux.dacCode, aux.dacSettled := (checkOn k d).aux.dacSettled } := by
  unfold checkOn
  dsimp only
  split
  · rfl
  · split <;> rfl

/-- CMP_CHECK_READ of an isolated comparator (R201, R202). -/
def checkRead (k : Nat) (level : Bool) (d : Dev) : Dev := checkOn k { d with cmp.checkBad := d.cmp.checkBad || !checkPasses d k level }

theorem checkRead_kept (k : Nat) (level : Bool) (d : Dev) : checkRead k level d =
    { d with cmp.check := (checkRead k level d).cmp.check, cmp.checkStep := (checkRead k level d).cmp.checkStep
             cmp.checkBad := d.cmp.checkBad || !checkPasses d k level
             aux.dacCode := (checkRead k level d).aux.dacCode, aux.dacSettled := (checkRead k level d).aux.dacSettled } := by
  unfold checkRead
  rw [checkOn_kept]

theorem effectiveNow_delayed {k : Nat} {d : Dev} (h : nth d.cmp.dgl (cmpClass k) 0 ≠ 0) : effectiveNow k d = d := if_neg h

theorem effectiveNow_direct {k : Nat} {d : Dev} (h : nth d.cmp.dgl (cmpClass k) 0 = 0) : effectiveNow k d = makeEffective k d := if_pos h

theorem followTrip_asserts {d : Dev} {k : Nat} (hk : k < 48) (hl : mbit d.cmp.level k = true) (ha : mbit d.cmp.armed k = true)
    (ht : d.trip.tripn = false) : (followTrip d).trip.tripn = true ∧ (followTrip d).trip.localLatch = true ∧
      (followTrip d).fault.stretch = true ∧ (followTrip d).fault.latch = true := by
  have hany : (List.range 48).any (fun k => mbit d.cmp.level k && mbit d.cmp.armed k) = true :=
    List.any_eq_true.mpr ⟨k, List.mem_range.mpr hk, by simp [hl, ha]⟩
  have hlatch : ∀ e : Dev, (insertTrip e).trip.tripn = e.trip.tripn ∧ (insertTrip e).trip.localLatch = e.trip.localLatch := fun e => by
    unfold insertTrip driveTrip
    split
    · exact ⟨rfl, rfl⟩
    · split
      · exact ⟨rfl, rfl⟩
      · split
        · exact ⟨rfl, rfl⟩
        · split <;> exact ⟨rfl, rfl⟩
  have htrip : (tripAsserts d).trip.tripn = true ∧ (tripAsserts d).trip.localLatch = true := by
    unfold tripAsserts
    dsimp only
    split <;> exact ⟨rfl, rfl⟩
  have hfault : (notePending (insertTrip (tripAsserts d))).fault = { d.fault with stretch := true, latch := true } := by
    unfold notePending
    rw [insertTrip_kept, tripAsserts_kept]
  rw [followTrip_eq, if_pos (by simp [hany, ht]), hfault]
  exact ⟨(hlatch _).1.trans htrip.1, (hlatch _).2.trans htrip.2, rfl, rfl⟩

/-- CMP_OUTPUT_CHANGE (R189). -/
def outputChange (k : Nat) (level : Bool) (d : Dev) : Dev :=
  if !cmpPowered d || mbit d.cmp.raw k == level then d
  else effectiveNow k { d with cmp.raw := mset d.cmp.raw k level, cmp.rawAt := aset d.cmp.rawAt k (d.tb.period, phaseNow d) }

theorem exec_cmpOutputChange (k : Fin 64) (level : Bool) (s : State) :
    exec (.cmpOutputChange k level) s = runDev s (outputChange k level) := rfl

theorem exec_cmpCheckRead (k : Fin 64) (level : Bool) (s : State) : exec (.cmpCheckRead k level) s = runDev s (fun d =>
    if !isolated d k then d else effectiveNow k (checkRead k level d)) := rfl

/-- A rise of an armed cell comparator with TRIPN low asserts it (R204, R206). -/
theorem answers_rise {s : State} {k : Fin 64} (hc : Calm s.toDev) (hp : cmpPowered s.toDev = true) (hcore : s.power.coreReset = false)
    (hk : k.val < 48) (hraw : mbit s.cmp.raw k = true) (harm : mbit s.cmp.armed k = true) (hiso : isolated s.toDev k = false)
    (hlev : mbit s.cmp.level k = false) (htn : s.trip.tripn = false) (hpl : Plain s.toDev k) (hr : s.d2d.retrain = false)
    (hop : s.power.opTarget = none) (hfull : holdFull s.toDev = false) :
    Answers (.cmpDeglitchExpiry k) s (fun t => mbit t.cmp.level k = true ∧ mbit t.cmp.rise k = true ∧ mbit t.host.evf k = true ∧
        t.trip.tripn = true ∧ t.trip.localLatch = true ∧ t.fault.stretch = true ∧ t.fault.latch = true) := by
  have hedge := makeEffective_edge hp harm hiso (by rw [hlev, hraw]; exact Bool.false_ne_true) hr hop hfull
  have hocc := edgeToCore_rise (d := edgeFlagged k true s.toDev) (period := (changedAt k s.toDev).1)
    (phase := Word.of (changedAt k s.toDev).2) hcore hpl
  rw [hraw] at hedge
  rw [edgeRecord_kept] at hocc
  generalize edgeToCore k true false _ _ _ = e at hedge hocc
  have he := eq_withOcc hocc
  have hlevel : mbit e.cmp.level k = true := by
    rw [he]
    exact mbit_mset_self _ k.isLt
  have hrise : mbit e.cmp.rise k = true := by
    rw [he]
    exact mbit_mset_self _ k.isLt
  have harmed : mbit e.cmp.armed k = true := by
    rw [he]
    exact harm
  have htripn : e.trip.tripn = false := by
    rw [he]
    exact htn
  have hevf : mbit e.host.evf k = true := by
    obtain ⟨hevf, -⟩ := hocc
    rw [hevf]
    exact mbit_mset_self _ (Nat.lt_trans k.isLt (by decide))
  have hafter : afterLevel k e = followTrip e := if_pos hk
  obtain ⟨hn, hlatch, hstretch, hfl⟩ := followTrip_asserts hk hlevel harmed htripn
  have hkept := followTrip_kept e
  rw [hafter] at hedge
  have hcalm : Calm (makeEffective k s.toDev) := by
    rw [hedge, followTrip_kept, he]
    exact hc
  have hsafe : (makeEffective k s.toDev).power.safeHold = s.power.safeHold := by
    rw [hedge, followTrip_kept, he]
    rfl
  refine ⟨_, rfl, rfl, ?_⟩
  have heffect : effect (makeEffective k) s.toDev = settle (followTrip e) := by
    rw [effect_calm hcalm (by rw [hsafe]; exact id), hedge]
  have hb := beside_settle (followTrip e)
  show mbit (effect (makeEffective k) s.toDev).cmp.level k = true ∧ _
  rw [heffect, cmp_of_beside hb, host_of_beside hb, fault_of_beside hb, trip_of_beside hb]
  refine ⟨?_, ?_, ?_, hn, hlatch, hstretch, hfl⟩
  · rw [hkept]
    exact hlevel
  · rw [hkept]
    exact hrise
  · rw [hkept]
    exact hevf

/-- Settles O28: an output's change is noted, waits for its deglitch or is effective: nothing, an edge, or an edge with its event. -/
theorem comparatorLevelsAndTrip : Obligations.ComparatorLevelsAndTrip := by
  intro s k hc hr hop hfull effective
  refine ⟨fun hp => ⟨?_, fun level hl => ⟨fun hd => ?_, fun hd => ?_⟩, fun level hiso hd => ?_⟩,
    fun ha hcore hk hraw harm hiso hlev htn hpl => ?_, fun level hl => ?_, fun hp => ⟨fun level => ?_, ?_⟩⟩
  · exact answers_effective (f := makeEffective k) rfl rfl hc rfl hp hr hop hfull
  · refine answers_beside (exec_cmpOutputChange k level s) ((if_neg ?_).trans (effectiveNow_delayed hd)) (calm_of_eq hc rfl rfl rfl rfl) id
    simp [hp, hl]
  · refine answers_effective (exec_cmpOutputChange k level s) ((if_neg ?_).trans (effectiveNow_direct hd)) ?_ rfl hp hr hop hfull
    · simp [hp, hl]
    · exact calm_of_eq hc rfl rfl rfl rfl
  · have hkept := checkRead_kept k level s.toDev
    have hread := answers_effective (d := checkRead k level s.toDev) (exec_cmpCheckRead k level s)
      ((if_neg (by simp [hiso])).trans (effectiveNow_direct (by rw [hkept]; exact hd))) (by rw [hkept]; exact hc) (by rw [hkept])
      (by rw [hkept]; exact hp) (by rw [hkept]; exact hr) (by rw [hkept]; exact hop) (by rw [hkept]; exact hfull)
    have hplain : Plain (checkRead k level s.toDev) k ↔ Plain s.toDev k := by rw [hkept]; exact Iff.rfl
    rw [hplain] at hread
    exact hread
  · exact answers_rise hc (by simp [cmpPowered, ha]) hcore hk hraw harm hiso hlev htn hpl hr hop hfull
  · exact answers_same (exec_cmpOutputChange k level s) hc (if_pos (by simp [hl]))
  · exact answers_same (exec_cmpOutputChange k level s) hc (if_pos (by simp [hp]))
  · exact answers_same (f := makeEffective k) rfl hc (makeEffective_off hp)

end Sys2Proof.Proofs
end

section
/-! PROOF. Settings and checks of the comparators, and received TRIPs (07_comparators_and_trip.md R192, R201 to R209). -/

namespace Sys2Proof.Proofs

open Sys2Proof Sys2Proof.Machine Sys2Proof.Safety Sys2Proof.Laws

section Reads

variable {k : Nat} {d : Dev}

theorem checkOn_swap (h : d.cmp.checkStep = 0) : checkOn k d = { d with cmp.checkStep := 1 } := if_pos h

theorem checkOn_next (h0 : 0 < d.cmp.checkStep) (hl : d.cmp.checkStep < lastStep k) : checkOn k d =
    { d with cmp.checkStep := d.cmp.checkStep + 1, aux.dacCode := tieCode d k (d.cmp.checkStep + 1), aux.dacSettled := false } :=
  (if_neg (Nat.ne_of_gt h0)).trans (if_neg (Nat.not_le.mpr hl))

theorem checkOn_last (h : lastStep k ≤ d.cmp.checkStep) : checkOn k d = { d with cmp.check := none, cmp.checkStep := 0 } := by
  have h0 : d.cmp.checkStep ≠ 0 := by
    unfold lastStep at h
    split at h <;> omega
  exact (if_neg h0).trans (if_pos h)

/-- Nothing becomes effective at this reading: a deglitch runs, the comparator is still isolated, unarmed or at its output. -/
theorem checkRead_still {level : Bool} (hiso : isolated d k = true)
    (h : nth d.cmp.dgl (cmpClass k) 0 ≠ 0 ∨ d.cmp.checkStep = 0 ∨ mbit d.cmp.armed k = false ∨ mbit d.cmp.level k = mbit d.cmp.raw k) :
    effectiveNow k (checkRead k level d) = checkRead k level d := by
  have hkept := checkRead_kept k level d
  by_cases hd : nth d.cmp.dgl (cmpClass k) 0 = 0
  · rw [effectiveNow_direct (by rw [hkept]; exact hd)]
    refine makeEffective_still ?_
    rcases h with h | h | h | h
    · exact absurd hd h
    · have hswap := checkOn_swap (k := k) (d := { d with cmp.checkBad := d.cmp.checkBad || !checkPasses d k level }) h
      refine .inr (.inl ?_)
      unfold checkRead
      rw [hswap]
      exact hiso
    · exact .inl (by rw [hkept]; exact h)
    · exact .inr (.inr (by rw [hkept]; exact h))
  · exact effectiveNow_delayed (by rw [hkept]; exact hd)

end Reads

/-- Settles O29: settings come from the items; a reading after the swap, between tie levels, and after the last. -/
theorem comparatorSettingsAndChecks : Obligations.ComparatorSettingsAndChecks := by
  intro s k hc
  refine ⟨fun ha => ?_, fun ha => ?_, fun level hchk hset hq => ?_, fun level h => ?_⟩
  · exact answers_beside rfl (if_pos ha) (calm_of_eq hc rfl rfl rfl rfl) id
  · exact answers_same rfl hc (if_neg (by simp [ha]))
  · have hiso : isolated s.toDev k = true := by simp [isolated, hchk, hset]
    have hread : (if !isolated s.toDev k then s.toDev else effectiveNow k (checkRead k level s.toDev)) = checkRead k level s.toDev := by
      rw [if_neg (by simp [hiso])]
      exact checkRead_still hiso hq
    intro good last read
    refine ⟨fun h0 => ?_, fun h0 hl => ?_, fun hl => ?_⟩
    · exact answers_beside (exec_cmpCheckRead k level s) (hread.trans (checkOn_swap h0)) (calm_of_eq hc rfl rfl rfl rfl) id
    · exact answers_beside (exec_cmpCheckRead k level s) (hread.trans (checkOn_next h0 hl)) hc id
    · exact answers_beside (exec_cmpCheckRead k level s) (hread.trans (checkOn_last hl)) (calm_of_eq hc rfl rfl rfl rfl) id
  · refine answers_same (exec_cmpCheckRead k level s) hc (if_pos ?_)
    rcases h with h | h <;> simp [isolated, h]

/-! ## Received TRIPs -/

/-- TRIP_RX where the comparators are powered: latched, and forwarded (R208). -/
def tripLatched (p : Port) (d : Dev) : Dev :=
  let d1 := { d with
    trip.rxLatch := true
    trip.rxPort := if !d.trip.rxLatch then rxBit p else if decide (d.now ≤ d.trip.rxAt + 12) then d.trip.rxPort ||| rxBit p else d.trip.rxPort
    trip.rxAt := if d.trip.rxLatch then d.trip.rxAt else d.now }
  if d.power.safeForced || (fwdTo p d).isEmpty then d1
  else { d1 with trip.forwarding := true, trip.fwdAt := d.now, trip.fwdPorts := portMask (fwdTo p d) }

theorem exec_tripRx (p : Port) (s : State) : exec (.tripRx p) s = runDev s (fun d =>
    if !cmpPowered d then d
    else if isHead d || itemN d 0x030B = 1 then triggerStretch (tripLatched p d) else tripLatched p d) := rfl

/-- The trip registers after a received TRIP. -/
def receivedTrip (p : Port) (d : Dev) : Trip :=
  { d.trip with
    rxLatch := true
    rxPort := if d.trip.rxLatch = false then (if p = .A then 1 else 2) else if d.now ≤ d.trip.rxAt + 12 then d.trip.rxPort ||| (if p = .A then 1 else 2)
              else d.trip.rxPort
    rxAt := if d.trip.rxLatch then d.trip.rxAt else d.now
    forwarding := d.trip.forwarding || (!d.power.safeForced && !(fwdTo p d).isEmpty)
    fwdAt := if !d.power.safeForced && !(fwdTo p d).isEmpty then d.now else d.trip.fwdAt }

theorem tripLatched_eq (p : Port) (d : Dev) :
    tripLatched p d = { d with trip := { receivedTrip p d with fwdPorts := (tripLatched p d).trip.fwdPorts } } := by
  have hbit : rxBit p = if p = .A then 1 else 2 := by cases p <;> rfl
  unfold tripLatched receivedTrip
  rw [hbit]
  cases d.power.safeForced <;> cases (fwdTo p d).isEmpty <;> cases d.trip.rxLatch <;> simp

/-- The ports a TRIP is forwarded by follow from the rest. -/
theorem beside_fwdPorts {a b t : Dev} {v : BitVec 2} (hb : b = { a with trip := { a.trip with fwdPorts := v } }) (h : Beside b t) :
    Beside a t := by
  subst hb
  refine ⟨h.1, ?_⟩
  rw [h.2]

/-- Settles O30: a TRIP is latched and forwarded, FAULTN follows on the head and where the item asks; a deferred one leaves by the ports. -/
theorem receivedTripsAreLatchedAndForwarded : Obligations.ReceivedTripsAreLatchedAndForwarded := by
  intro s hc
  refine ⟨fun p hp => ?_, fun p hp => ?_, fun hd hs => ⟨fun ht => ?_, fun ht => ?_⟩, fun h => ?_⟩
  · intro bit_ goes trip
    have htrip : trip = receivedTrip p s.toDev := rfl
    refine ⟨fun h => ?_, fun hh hi => ?_⟩
    · have hrun : (if !cmpPowered s.toDev then s.toDev
          else if isHead s.toDev || itemN s.toDev 0x030B = 1 then triggerStretch (tripLatched p s.toDev) else tripLatched p s.toDev) =
          triggerStretch { s.toDev with trip := { trip with fwdPorts := (tripLatched p s.toDev).trip.fwdPorts } } := by
        rw [if_neg (by simp [hp]), if_pos (by simpa using h), htrip, ← tripLatched_eq]
      exact answers_mono (answers_beside (exec_tripRx p s) hrun (calm_of_eq hc rfl rfl rfl rfl) id) fun t ht => beside_fwdPorts rfl ht
    · have hrun : (if !cmpPowered s.toDev then s.toDev
          else if isHead s.toDev || itemN s.toDev 0x030B = 1 then triggerStretch (tripLatched p s.toDev) else tripLatched p s.toDev) =
          { s.toDev with trip := { trip with fwdPorts := (tripLatched p s.toDev).trip.fwdPorts } } := by
        rw [if_neg (by simp [hp]), if_neg (by simp [hh, hi]), htrip, ← tripLatched_eq]
      exact answers_mono (answers_beside (exec_tripRx p s) hrun (calm_of_eq hc rfl rfl rfl rfl) id) fun t ht => beside_fwdPorts rfl ht
  · exact answers_same (exec_tripRx p s) hc (if_pos (by simp [hp]))
  · refine answers_beside rfl ((if_pos (by simp [hd, hs])).trans (if_neg (by simpa using ht))) (calm_of_eq hc rfl rfl rfl rfl) id
  · exact answers_beside rfl ((if_pos (by simp [hd, hs])).trans (if_pos (by simp [ht]))) (calm_of_eq hc rfl rfl rfl rfl) id
  · refine answers_same rfl hc (if_neg ?_)
    rcases h with h | h <;> simp [h]

end Sys2Proof.Proofs
end

section
/-! PROOF. Balance periods and steps (08_balancing.md R221 to R227). -/

namespace Sys2Proof.Proofs

open Sys2Proof Sys2Proof.Machine Sys2Proof.Safety Sys2Proof.Laws

/-- A step below 256 begins with the cap judged afresh (R225). -/
theorem startStep_eq {k : Nat} (h : k < 256) (d : Dev) : startStep k d =
    { d with bal := { d.bal with
      step := k
      capHeld := mof 24 ((capRefused { d with bal.step := k, bal.capHeld := 0 } 0
        (admitOrder { d with bal.step := k, bal.capHeld := 0 })).map (· - 1))
      capSteps := satAdd (2 ^ 32 - 1) d.bal.capSteps (capRefused { d with bal.step := k, bal.capHeld := 0 } 0
        (admitOrder { d with bal.step := k, bal.capHeld := 0 })).length } } := by
  unfold startStep
  rw [Nat.mod_eq_of_lt h]

/-- Settles O31: the boundary and each step judge the cap afresh. -/
theorem balancePeriodsAndSteps : Obligations.BalancePeriodsAndSteps := by
  intro s hc begun f phase
  refine ⟨fun ha => ?_, fun ha hstep => ?_, fun h => ?_, fun ha => ?_, fun ha => ⟨?_, ?_⟩⟩
  · refine answers_beside (f := fun d => if awake d then balBoundary d else d) rfl ((if_pos ha).trans ?_) (calm_of_eq hc rfl rfl rfl rfl) id
    exact startStep_eq (by decide) _
  · refine answers_beside (f := fun d => if awake d && d.bal.step < 255 then startStep (d.bal.step + 1) d else d) rfl
      ((if_pos (by simp [ha, hstep])).trans (startStep_eq (by omega) s.toDev)) (calm_of_eq hc rfl rfl rfl rfl) id
  · refine answers_same (f := fun d => if awake d && d.bal.step < 255 then startStep (d.bal.step + 1) d else d) rfl hc (if_neg ?_)
    rcases h with h | h
    · simp [h]
    · simp
      omega
  · exact answers_beside rfl (if_pos ha) (calm_of_eq hc rfl rfl rfl rfl) id
  · exact answers_same rfl hc (if_neg (by simp [ha]))
  · exact answers_same rfl hc (if_neg (by simp [ha]))

end Sys2Proof.Proofs
end

section
/-! PROOF. Sense intervals (08_balancing.md R219, R220, R229, R237). -/

namespace Sys2Proof.Proofs

open Sys2Proof Sys2Proof.Machine Sys2Proof.Safety Sys2Proof.Laws

/-! ## What the readings of a cell change -/

/-- b is a but for the balancing, the journal's entries and what an occurrence notes. -/
def SenseWrite (a b : Dev) : Prop :=
  b = { a with
    bal := b.bal, jrn := b.jrn
    host := { a.host with evf := b.host.evf, evt := b.host.evt, evtRecs := b.host.evtRecs, evtRseq := b.host.evtRseq,
                          evtDrop := b.host.evtDrop }
    fault := { a.fault with esc := b.fault.esc, stretch := b.fault.stretch, latch := b.fault.latch } }

theorem senseWrite_refl (a : Dev) : SenseWrite a a := rfl

theorem senseWrite_trans {a b c : Dev} (hab : SenseWrite a b) (hbc : SenseWrite b c) : SenseWrite a c := by
  unfold SenseWrite at hab hbc ⊢
  rw [hab] at hbc
  exact hbc

theorem senseWrite_bal (d : Dev) (x : Bal) : SenseWrite d { d with bal := x } := rfl

theorem escReaction_of_senseWrite {a b : Dev} (h : SenseWrite a b) (k : Nat) : escReaction b k = escReaction a k := by
  rw [h]; rfl

theorem senseWrite_raise {d : Dev} (h : escReaction d 121 = 0) (n : Nat) : SenseWrite d (raiseCh 121 n d) := by
  have hocc := occWrite_occurWith reactFull 121 (0x100 + n) [0x100 + n] false h
  unfold SenseWrite raiseCh raiseOn
  rw [hocc.1]

theorem bal_raise {d : Dev} (h : escReaction d 121 = 0) (n : Nat) : (raiseCh 121 n d).bal = d.bal := by
  have hocc := occWrite_occurWith reactFull 121 (0x100 + n) [0x100 + n] false h
  unfold raiseCh raiseOn
  rw [hocc.1]

/-- The open check's state of FET k + 1, and the estimate, stay. -/
def FetKept (k : Nat) (a b : Dev) : Prop :=
  nth b.bal.est k none = nth a.bal.est k none ∧ nth b.bal.openRun k 0 = nth a.bal.openRun k 0 ∧
    mbit b.bal.faultOpen k = mbit a.bal.faultOpen k

theorem fetKept_trans {k : Nat} {a b c : Dev} (hab : FetKept k a b) (hbc : FetKept k b c) : FetKept k a c :=
  ⟨hbc.1.trans hab.1, hbc.2.1.trans hab.2.1, hbc.2.2.trans hab.2.2⟩

/-- Every FET's open check and estimate stay. -/
def OpenKept (a b : Dev) : Prop :=
  b.bal.est = a.bal.est ∧ b.bal.openRun = a.bal.openRun ∧ b.bal.faultOpen = a.bal.faultOpen

theorem fetKept_of_openKept {a b : Dev} (h : OpenKept a b) (k : Nat) : FetKept k a b := by
  obtain ⟨he, ho, hf⟩ := h
  unfold FetKept
  rw [he, ho, hf]
  exact ⟨rfl, rfl, rfl⟩

theorem mbit_mset_ne {w i j : Nat} (m : BitVec w) (b : Bool) (h : i ≠ j) : mbit (mset m j b) i = mbit m i := by
  have hone : (one w j).getLsbD i = false := by
    unfold one
    rw [BitVec.getLsbD_ofNat, Nat.testBit_two_pow_of_ne (Ne.symm h), Bool.and_false]
  unfold mbit mset
  cases b with
  | true => rw [if_pos rfl, BitVec.getLsbD_or, hone, Bool.or_false]
  | false =>
    rw [if_neg Bool.false_ne_true, BitVec.getLsbD_and, BitVec.getLsbD_not, hone]
    by_cases hi : i < w
    · simp [hi]
    · rw [BitVec.getLsbD_of_ge _ _ (Nat.le_of_not_lt hi)]
      rfl

theorem nth_set_ne {α : Type} {l : List α} {i j : Nat} (a e : α) (h : i ≠ j) : nth (l.set j a) i e = nth l i e := by
  simp [nth, List.getD_eq_getElem?_getD, List.getElem?_set_ne (Ne.symm h)]

theorem nth_set_self {α : Type} {l : List α} {i : Nat} (a e : α) (h : i < l.length) : nth (l.set i a) i e = a := by
  simp [nth, h]

section Cells

variable {d : Dev} (h : escReaction d 121 = 0)

include h

theorem shortCheck_writes (i : SenseInt) (n x : Nat) : SenseWrite d (shortCheck i n x d) ∧ OpenKept d (shortCheck i n x d) := by
  unfold shortCheck
  dsimp only
  split
  · split
    · refine ⟨senseWrite_trans (senseWrite_bal d _) (senseWrite_raise ?_ n), ?_⟩
      · exact h
      · unfold OpenKept
        rw [bal_raise (by exact h)]
        exact ⟨rfl, rfl, rfl⟩
    · exact ⟨rfl, rfl, rfl, rfl⟩
  · exact ⟨rfl, rfl, rfl, rfl⟩

omit h in
theorem endPlan_writes (n r : Nat) (d : Dev) : SenseWrite d (endPlan n r d) ∧ OpenKept d (endPlan n r d) := by
  unfold endPlan jchange jput clearCell
  dsimp only
  split <;> exact ⟨rfl, rfl, rfl, rfl⟩

omit h in
theorem chargeCell_writes (n x : Nat) : SenseWrite d (chargeCell n x d) ∧ OpenKept d (chargeCell n x d) := by
  have hq : SenseWrite d (if mbit d.bal.qOn (n - 1) then { d with bal.q := d.bal.q.set (n - 1) (nth d.bal.q (n - 1) 0 + x) } else d) ∧
      OpenKept d (if mbit d.bal.qOn (n - 1) then { d with bal.q := d.bal.q.set (n - 1) (nth d.bal.q (n - 1) 0 + x) } else d) := by
    split <;> exact ⟨rfl, rfl, rfl, rfl⟩
  unfold chargeCell
  dsimp only
  generalize (if mbit d.bal.qOn (n - 1) then { d with bal.q := d.bal.q.set (n - 1) (nth d.bal.q (n - 1) 0 + x) } else d) = d1 at hq ⊢
  obtain ⟨hw, he, ho, hf⟩ := hq
  split
  · split
    · obtain ⟨hw', he', ho', hf'⟩ := endPlan_writes n 3 d1
      exact ⟨senseWrite_trans hw hw', he'.trans he, ho'.trans ho, hf'.trans hf⟩
    · exact ⟨hw, he, ho, hf⟩
  · exact ⟨hw, he, ho, hf⟩

theorem openCheck_writes (i : SenseInt) (n x : Nat) : SenseWrite d (openCheck i n x d) := by
  unfold openCheck
  dsimp only
  split
  · split
    · refine senseWrite_trans (senseWrite_bal d _) (senseWrite_raise ?_ n)
      exact h
    · rfl
  · rfl

theorem openCheck_est (i : SenseInt) (n x : Nat) : (openCheck i n x d).bal.est = d.bal.est := by
  unfold openCheck
  dsimp only
  split
  · split
    · rw [bal_raise (by exact h)]
    · rfl
  · rfl

theorem openCheck_others (i : SenseInt) {n x k : Nat} (hk : k ≠ n - 1) : FetKept k d (openCheck i n x d) := by
  unfold openCheck
  dsimp only
  split
  · split
    · unfold FetKept
      rw [bal_raise (by exact h)]
      exact ⟨rfl, nth_set_ne _ _ hk, mbit_mset_ne _ _ hk⟩
    · exact ⟨rfl, nth_set_ne _ _ hk, rfl⟩
  · refine ⟨rfl, nth_set_ne _ _ hk, ?_⟩
    dsimp only
    split
    · exact mbit_mset_ne _ _ hk
    · rfl

theorem openCheck_eighth (i : SenseInt) {n x : Nat} (hn : n - 1 < 24) (ho : mbit i.onAll (n - 1) = true)
    (hx : x < itemN d 0x0408 * 10) (hr : nth d.bal.openRun (n - 1) 0 = 7) : mbit (openCheck i n x d).bal.faultOpen (n - 1) = true := by
  unfold openCheck
  dsimp only
  rw [if_pos (by simp [ho, hx]), hr]
  cases hf : mbit d.bal.faultOpen (n - 1) with
  | true =>
    rw [if_neg (by simp)]
    exact hf
  | false =>
    rw [if_pos (by simp), bal_raise (by exact h)]
    exact mbit_mset_self _ hn

/-- The estimate that an interval with the FET on throughout gives (R220). -/
def estimated (i : SenseInt) (n x : Nat) (d : Dev) : Dev :=
  if mbit i.onAll (n - 1) then { d with bal.est := d.bal.est.set (n - 1) (some x) } else d

omit h in
theorem senseCell_eq (i : SenseInt) (m : BitVec 24) (n x : Nat) : senseCell i false m n x d =
    (if mbit m (n - 1) then chargeCell n x (shortCheck i n x (openCheck i n x (estimated i n x d)))
     else shortCheck i n x (openCheck i n x (estimated i n x d))) := by
  unfold senseCell estimated
  simp

omit h in
theorem estimated_writes (i : SenseInt) (n x : Nat) : SenseWrite d (estimated i n x d) := by
  unfold estimated
  split <;> rfl

/-- What the reading of a cell does after its estimate and its open check. -/
theorem senseCell_after (i : SenseInt) (m : BitVec 24) (n x : Nat) :
    SenseWrite d (senseCell i false m n x d) ∧ OpenKept (openCheck i n x (estimated i n x d)) (senseCell i false m n x d) := by
  have hest := estimated_writes (d := d) i n x
  have hopen : SenseWrite (estimated i n x d) (openCheck i n x (estimated i n x d)) :=
    openCheck_writes (by rw [escReaction_of_senseWrite hest, h]) i n x
  have hto := senseWrite_trans hest hopen
  obtain ⟨hshort, hs1, hs2, hs3⟩ := shortCheck_writes (by rw [escReaction_of_senseWrite hto, h]) i n x
  rw [senseCell_eq]
  split
  · obtain ⟨hcharge, hc1, hc2, hc3⟩ := chargeCell_writes (d := shortCheck i n x (openCheck i n x (estimated i n x d))) n x
    exact ⟨senseWrite_trans hto (senseWrite_trans hshort hcharge), hc1.trans hs1, hc2.trans hs2, hc3.trans hs3⟩
  · exact ⟨senseWrite_trans hto hshort, hs1, hs2, hs3⟩

theorem senseCell_others (i : SenseInt) (m : BitVec 24) {n x k : Nat} (hk : k ≠ n - 1) : FetKept k d (senseCell i false m n x d) := by
  obtain ⟨-, hkept⟩ := senseCell_after h i m n x
  have hest : FetKept k d (estimated i n x d) := by
    unfold estimated
    split
    · exact ⟨nth_set_ne _ _ hk, rfl, rfl⟩
    · exact ⟨rfl, rfl, rfl⟩
  have hreact : escReaction (estimated i n x d) 121 = 0 := by rw [escReaction_of_senseWrite (estimated_writes i n x), h]
  exact fetKept_trans (fetKept_trans hest (openCheck_others hreact i hk)) (fetKept_of_openKept hkept k)

/-- The reading of a FET that was on throughout: its estimate, and its open fault at the eighth low reading (R220, R237). -/
theorem senseCell_own (i : SenseInt) (m : BitVec 24) {n x : Nat} (hn : n - 1 < 24) (ho : mbit i.onAll (n - 1) = true) :
    (d.bal.est.length = 24 → nth (senseCell i false m n x d).bal.est (n - 1) none = some x) ∧
    (nth d.bal.openRun (n - 1) 0 = 7 → x < itemN d 0x0408 * 10 → mbit (senseCell i false m n x d).bal.faultOpen (n - 1) = true) := by
  obtain ⟨-, he, -, hf⟩ := senseCell_after h i m n x
  have hreact : escReaction (estimated i n x d) 121 = 0 := by rw [escReaction_of_senseWrite (estimated_writes i n x), h]
  have hest : estimated i n x d = { d with bal.est := d.bal.est.set (n - 1) (some x) } := if_pos ho
  refine ⟨fun hl => ?_, fun hr hx => ?_⟩
  · rw [he, openCheck_est hreact, hest]
    exact nth_set_self _ _ (by rw [hl]; exact hn)
  · rw [hf]
    rw [hest] at hreact ⊢
    exact openCheck_eighth hreact i hn ho hx hr

end Cells

/-! ## All readings of an interval -/

section Readings

variable {i : SenseInt} {m : BitVec 24} {xs : Nat → Nat}

theorem senseCells_writes (l : List Nat) {d : Dev} (h : escReaction d 121 = 0) :
    SenseWrite d (forEach l (fun n d => senseCell i false m n (xs n) d) d) := by
  induction l generalizing d with
  | nil => exact senseWrite_refl d
  | cons n t ih =>
    have hn := (senseCell_after h i m n (xs n)).1
    exact senseWrite_trans hn (ih (by rw [escReaction_of_senseWrite hn, h]))

theorem senseCells_others {k : Nat} (l : List Nat) {d : Dev} (h : escReaction d 121 = 0) (hk : ∀ n ∈ l, k ≠ n - 1) :
    FetKept k d (forEach l (fun n d => senseCell i false m n (xs n) d) d) := by
  induction l generalizing d with
  | nil => exact ⟨rfl, rfl, rfl⟩
  | cons n t ih =>
    have hn := (senseCell_after h i m n (xs n)).1
    exact fetKept_trans (senseCell_others h i m (hk n List.mem_cons_self))
      (ih (by rw [escReaction_of_senseWrite hn, h]) fun y hy => hk y (List.mem_cons_of_mem n hy))

theorem senseCell_estLength (n x : Nat) {d : Dev} (h : escReaction d 121 = 0) :
    (senseCell i false m n x d).bal.est.length = d.bal.est.length := by
  have hreact : escReaction (estimated i n x d) 121 = 0 := by rw [escReaction_of_senseWrite (estimated_writes i n x), h]
  rw [(senseCell_after h i m n x).2.1, openCheck_est hreact]
  unfold estimated
  split
  · exact List.length_set
  · rfl

/-- The reading of a FET that was on throughout, among those of the cells from 1 on. -/
theorem senseCells_own {n : Nat} {l : List Nat} {d : Dev} (h : escReaction d 121 = 0) (hnd : l.Nodup) (hl : ∀ y ∈ l, 1 ≤ y) (hn : n ∈ l)
    (h24 : n - 1 < 24) (ho : mbit i.onAll (n - 1) = true) :
    (d.bal.est.length = 24 → nth (forEach l (fun n d => senseCell i false m n (xs n) d) d).bal.est (n - 1) none = some (xs n)) ∧
    (nth d.bal.openRun (n - 1) 0 = 7 → xs n < itemN d 0x0408 * 10 →
      mbit (forEach l (fun n d => senseCell i false m n (xs n) d) d).bal.faultOpen (n - 1) = true) := by
  induction l generalizing d with
  | nil => cases hn
  | cons y t ih =>
    obtain ⟨hyt, ht⟩ := List.nodup_cons.mp hnd
    have hy := (senseCell_after h i m y (xs y)).1
    have hreact : escReaction (senseCell i false m y (xs y) d) 121 = 0 := by rw [escReaction_of_senseWrite hy, h]
    have hlt : ∀ z ∈ t, 1 ≤ z := fun z hz => hl z (List.mem_cons_of_mem y hz)
    by_cases hny : n = y
    · subst hny
      have hrest : ∀ z ∈ t, n - 1 ≠ z - 1 := fun z hz heq => hyt (by
        have h1 := hl n List.mem_cons_self
        have h2 := hlt z hz
        rwa [show n = z by omega])
      obtain ⟨hest, -, hopen⟩ := senseCells_others (i := i) (m := m) (xs := xs) t hreact hrest
      obtain ⟨hown, hfail⟩ := senseCell_own (x := xs n) h i m h24 ho
      exact ⟨fun hlen => hest.trans (hown hlen), fun hr hx => hopen.trans (hfail hr hx)⟩
    · have hnt : n ∈ t := (List.mem_cons.mp hn).resolve_left hny
      have hne : n - 1 ≠ y - 1 := by
        have h1 := hl n hn
        have h2 := hl y List.mem_cons_self
        omega
      obtain ⟨-, hrun, -⟩ := senseCell_others (x := xs y) h i m hne
      obtain ⟨h1, h2⟩ := ih hreact ht hlt hnt
      refine ⟨fun hlen => h1 ((senseCell_estLength y (xs y) h).trans hlen), fun hr hx => h2 (hrun.trans hr) ?_⟩
      have hitem : itemN (senseCell i false m y (xs y) d) 0x0408 = itemN d 0x0408 := by
        rw [hy]
        rfl
      rwa [hitem]

end Readings

theorem cells_le (p : Part) : p.cells ≤ 24 := by cases p <;> decide

theorem mem_cellList {d : Dev} {n : Nat} : n ∈ cellList d ↔ cellPresent d n = true := by
  unfold cellList cellPresent
  simp only [List.mem_map, List.mem_range, Bool.and_eq_true, decide_eq_true_eq]
  exact ⟨fun ⟨j, hj, hn⟩ => by omega, fun ⟨h1, h2⟩ => ⟨n - 1, by omega, by omega⟩⟩

theorem nodup_cellList (d : Dev) : (cellList d).Nodup :=
  List.nodup_range.map fun a b hab => by simpa using hab

theorem cellPresent_lt {d : Dev} {n : Nat} (h : cellPresent d n = true) : 1 ≤ n ∧ n ≤ 24 ∧ n ≤ d.part.cells := by
  unfold cellPresent at h
  simp only [Bool.and_eq_true, decide_eq_true_eq] at h
  exact ⟨h.1, h.2.trans (cells_le d.part), h.2⟩

/-- The reading of cell j + 1 as it is shown where no beat is dropped (R219). -/
def shownReadings (i : SenseInt) (d : Dev) : List Nat :=
  (List.range 24).map (fun j => if j < d.part.cells then min 4095 (nth i.readings j 0) else 0)

theorem senseData_undropped {i : SenseInt} (hi : i.drop = 0) (d : Dev) : senseData i d =
    (let d2 := forEach (cellList d) (fun n d' => senseCell i false (~~~ i.offAll ||| d.bal.faultShort) n
        (nth (shownReadings i d) (n - 1) 0) d') d
     { d2 with bal.sense := shownReadings i d
               bal.sensed := ((i.endAt, shownReadings i d, ~~~ i.offAll ||| d.bal.faultShort) :: d2.bal.sensed).take 4096 }) := by
  have hlost : ∀ n : Nat, mbit i.drop ((n - 1) / 4) = false := fun n => by
    rw [hi]
    simp [mbit]
  unfold senseData shownReadings
  simp only [hlost]
  rw [hi]
  rfl

theorem nth_shownReadings {i : SenseInt} {d : Dev} {n : Nat} (h : cellPresent d n = true) :
    nth (shownReadings i d) (n - 1) 0 = min 4095 (nth i.readings (n - 1) 0) := by
  obtain ⟨h1, h24, hn⟩ := cellPresent_lt h
  unfold shownReadings nth
  rw [List.getD_eq_getElem?_getD, List.getElem?_map, List.getElem?_range (by omega)]
  simp only [Option.map_some, Option.getD_some]
  rw [if_pos (by omega)]

end Sys2Proof.Proofs
end

section
/-! PROOF. An overcurrent latches its FET off whatever its reaction (08_balancing.md R237, 15_faults_and_sluices.md R483, R487). -/

namespace Sys2Proof.Proofs

open Sys2Proof Sys2Proof.Machine Sys2Proof.Safety Sys2Proof.Laws

theorem mbit_mof {w i : Nat} (h : i < w) (l : List Nat) : mbit (mof w l) i = decide (i ∈ l) := by
  have hone : ∀ j, (one w j).getLsbD i = decide (i = j) := fun j => by
    unfold one
    rw [BitVec.getLsbD_ofNat, Nat.testBit_two_pow]
    simp [h, eq_comm]
  have hfold : ∀ m : BitVec w, (l.foldl (fun m j => m ||| one w j) m).getLsbD i = (m.getLsbD i || decide (i ∈ l)) := by
    induction l with
    | nil => simp
    | cons j t ih =>
      intro m
      rw [List.foldl_cons, ih, BitVec.getLsbD_or, hone, Bool.or_assoc]
      by_cases hj : i = j <;> simp [hj]
  unfold mbit mof
  rw [hfold]
  simp

/-- A FET latched by its overcurrent does not conduct (R237). -/
theorem mbit_fetsNow_latched {d : Dev} {n : Nat} (hn : 1 ≤ n) (h24 : n ≤ 24) (h : mbit d.bal.faultOc (n - 1) = true) :
    mbit (fetsNow d) (n - 1) = false := by
  unfold fetsNow
  split
  · rw [mbit_mof (by omega)]
    refine decide_eq_false fun hmem => ?_
    obtain ⟨y, hy, hyn⟩ := List.mem_map.mp hmem
    obtain ⟨hmem, hcond⟩ := List.mem_filter.mp hy
    obtain ⟨h1, -, -⟩ := cellPresent_lt (mem_cellList.mp hmem)
    have hyn' : y = n := by omega
    subst hyn'
    simp [fetHeld, h] at hcond
  · simp [mbit]

/-! ## What fencing a channel or a bank leaves as it was -/

/-- The balancing, the commands, the captures, the power registers and the part stay, and who may wait for the test DAC. -/
structure FenceKept (a b : Dev) : Prop where
  bal : b.bal = a.bal
  cmd : b.cmd = a.cmd
  caps : b.conv.caps = a.conv.caps
  waiting : b.bist.waiting = a.bist.waiting
  power : b.power = a.power
  toVerify : b.aux.toVerify = a.aux.toVerify
  gapWait : b.aux.gapWait = a.aux.gapWait
  running : b.aux.running = a.aux.running
  target : b.aux.target = a.aux.target

theorem fenceKept_refl (a : Dev) : FenceKept a a := ⟨rfl, rfl, rfl, rfl, rfl, rfl, rfl, rfl, rfl⟩

theorem fenceKept_trans {a b c : Dev} (hab : FenceKept a b) (hbc : FenceKept b c) : FenceKept a c :=
  ⟨hbc.bal.trans hab.bal, hbc.cmd.trans hab.cmd, hbc.caps.trans hab.caps, hbc.waiting.trans hab.waiting, hbc.power.trans hab.power,
    hbc.toVerify.trans hab.toVerify, hbc.gapWait.trans hab.gapWait, hbc.running.trans hab.running, hbc.target.trans hab.target⟩

theorem calm_of_fenceKept {a b : Dev} (h : FenceKept a b) (hc : Calm a) : Calm b := by
  unfold Calm Unarmed DacIdle at *
  rw [h.cmd, h.caps, h.toVerify, h.gapWait, h.running, h.target, h.waiting]
  exact hc

theorem fenceKept_of_occWrite {a b : Dev} (h : OccWrite a b) : FenceKept a b := by
  obtain ⟨hb, -⟩ := h
  rw [hb]
  exact ⟨rfl, rfl, rfl, rfl, rfl, rfl, rfl, rfl, rfl⟩

theorem fenceKept_qmsg (src kind addr : Nat) (d : Dev) : FenceKept d (qmsg src kind addr d) := by
  unfold qmsg
  split <;> exact ⟨rfl, rfl, rfl, rfl, rfl, rfl, rfl, rfl, rfl⟩

theorem fenceKept_modEsc (k : Nat) (f : Esc → Esc) (d : Dev) : FenceKept d (modEsc k f d) :=
  ⟨rfl, rfl, rfl, rfl, rfl, rfl, rfl, rfl, rfl⟩

theorem fenceKept_bankStop (b : Nat) (d : Dev) : FenceKept d (bankStop b d) := by
  unfold bankStop
  dsimp only
  split <;> exact ⟨rfl, rfl, rfl, rfl, rfl, rfl, rfl, rfl, rfl⟩

theorem fenceKept_bankFence (b : Nat) (d : Dev) : FenceKept d (bankFence b d) := by
  unfold bankFence
  split
  · exact fenceKept_bankStop b d
  · exact ⟨rfl, rfl, rfl, rfl, rfl, rfl, rfl, rfl, rfl⟩

theorem fenceKept_returnUnit {kind : Nat} (h : kind ≠ 1) (unit : Nat) (failed : Bool) (d : Dev) :
    FenceKept d (returnUnit kind unit failed d) := by
  unfold returnUnit
  dsimp only
  rw [if_neg h]
  split <;> exact ⟨rfl, rfl, rfl, rfl, rfl, rfl, rfl, rfl, rfl⟩

/-- A slice of another kind than an engine's, cut short (R509). -/
theorem fenceKept_cutUnit {kind : Nat} (h : kind ≠ 1) (p : Nat → Bool) (d : Dev) : FenceKept d (cutUnit kind p d) := by
  unfold cutUnit
  split
  · rename_i x hx
    split
    · rename_i hk
      have hkind : x.1 ≠ 1 := by
        simp only [Bool.and_eq_true, decide_eq_true_eq] at hk
        rw [hk.1]
        exact h
      unfold cutSlice
      rw [hx]
      dsimp only
      refine fenceKept_trans (fenceKept_trans ?_ (fenceKept_qmsg _ _ _ _)) (fenceKept_returnUnit hkind _ _ _)
      exact ⟨rfl, rfl, rfl, rfl, rfl, rfl, rfl, rfl, rfl⟩
    · exact fenceKept_refl d
  · exact fenceKept_refl d

/-- The unit codes of a cell's channel and of a bank. -/
def CellUnit (u : Nat) : Prop := (u / 256 = 1 ∧ u % 256 ≠ 25) ∨ u / 256 = 4

theorem fenceKept_fenceUnit {u : Nat} (h : CellUnit u) (d : Dev) : FenceKept d (fenceUnit u d) := by
  unfold fenceUnit
  dsimp only
  rcases h with ⟨h1, h25⟩ | h4
  · rw [h1, if_neg h25]
    refine fenceKept_trans ?_ (fenceKept_cutUnit (by decide) _ _)
    exact ⟨rfl, rfl, rfl, rfl, rfl, rfl, rfl, rfl, rfl⟩
  · rw [h4]
    refine fenceKept_trans (fenceKept_trans ?_ (fenceKept_bankFence _ _)) (fenceKept_cutUnit (by decide) _ _)
    exact ⟨rfl, rfl, rfl, rfl, rfl, rfl, rfl, rfl, rfl⟩

theorem fenceKept_reactOne {u : Nat} (h : CellUnit u) (d : Dev) : FenceKept d (reactOne u d) := by
  unfold reactOne
  split
  · exact fenceKept_qmsg _ _ _ d
  · split
    · exact fenceKept_qmsg _ _ _ d
    · exact fenceKept_trans (fenceKept_fenceUnit h d) (fenceKept_qmsg _ _ _ _)

theorem fenceKept_reactAll {l : List Nat} (h : ∀ u ∈ l, CellUnit u) (d : Dev) : FenceKept d (forEach l reactOne d) := by
  induction l generalizing d with
  | nil => exact fenceKept_refl d
  | cons u t ih =>
    exact fenceKept_trans (fenceKept_reactOne (h u List.mem_cons_self) d) (ih (fun y hy => h y (List.mem_cons_of_mem u hy)) _)

/-- A reaction that names units of cells only and does not force the safe state (R483, R487). -/
theorem fenceKept_reactFull {r k : Nat} {tg : List Nat} {forced : Bool} (hr : r ≠ 5) (h : ∀ u ∈ reactUnits r k tg forced, CellUnit u)
    (d : Dev) : FenceKept d (reactFull r k tg forced d) := by
  have hsub : ∀ u ∈ (reactUnits r k tg forced).filter (fun u => !unitAbsent d u), CellUnit u := fun u hu =>
    h u (List.mem_filter.mp hu).1
  unfold reactFull
  dsimp only
  rw [if_neg hr]
  split
  · exact fenceKept_trans (fenceKept_qmsg _ _ _ d) (fenceKept_modEsc _ _ _)
  · have hall := fenceKept_reactAll hsub d
    split
    · exact fenceKept_trans hall (fenceKept_modEsc _ _ _)
    · exact fenceKept_trans hall (fenceKept_modEsc _ _ _)

theorem cellUnits_react {r k n : Nat} (hk : k ≠ 126) (hn : 1 ≤ n) (h24 : n ≤ 24) :
    ∀ u ∈ reactUnits r k [0x100 + n] false, CellUnit u := by
  have hchan : CellUnit (0x100 + n) := .inl ⟨by omega, by omega⟩
  intro u hu
  unfold reactUnits at hu
  dsimp only at hu
  rw [if_neg hk] at hu
  split at hu
  · rcases List.mem_append.mp hu with hu | hu
    · obtain ⟨y, hy, rfl⟩ := List.mem_map.mp (List.mem_dedup.mp hu)
      have hmem := (List.mem_filter.mp (List.mem_filter.mp hy).1).1
      have hy' : y = 0x100 + n := by simpa using hmem
      refine .inr ?_
      subst hy'
      unfold bankOf
      omega
    · exact .inr (by simpa using (List.mem_filter.mp hu).2)
  · have hmem := (List.mem_filter.mp (List.mem_filter.mp hu).1).1
    have hu' : u = 0x100 + n := by simpa using hmem
    rwa [hu']

/-- The notes of a SAFE_STATE reaction, before the hold (R483). -/
def safeNoted (k : Nat) (d : Dev) : Dev :=
  modEsc k (fun e => { e with inForce := 5 }) { d with
    fault.safePrev := safeSrcNat d, fault.safeSrc := k, fault.safeAt := recentSafe d ++ [d.now], fault.safeReact := true
    power.tripThird := decide (3 ≤ (recentSafe d ++ [d.now]).length), power.wakeSeen := false, power.safeWireC := true }

theorem safeReaction_eq (k : Nat) (d : Dev) : safeReaction k d = enterSafeHold .safeWire (safeNoted k d) := rfl

/-- y is d but for what a fence changes, and perhaps the notes of a SAFE_STATE reaction. -/
def HeldFrom (d y : Dev) : Prop :=
  y.bal = d.bal ∧ (Calm d → Calm y) ∧ y.power.safeHold = d.power.safeHold ∧ y.power.pstate = d.power.pstate

theorem heldFrom_safeNoted {a d : Dev} (h : FenceKept a d) (k : Nat) : HeldFrom a (safeNoted k d) :=
  have hsafe : (safeNoted k d).power.safeHold = d.power.safeHold := rfl
  have hst : (safeNoted k d).power.pstate = d.power.pstate := rfl
  ⟨h.bal, fun hc => calm_of_eq (calm_of_fenceKept h hc) rfl rfl rfl rfl, hsafe.trans (congrArg Power.safeHold h.power),
    hst.trans (congrArg Power.pstate h.power)⟩

/-- What becomes severe on a cell's channel is only kept, or forces the safe state (R482, R483). -/
theorem becomeSevere_kept {k n : Nat} (hk : k ≠ 126) (hn : 1 ≤ n) (h24 : n ≤ 24) (unit : Nat) (d : Dev) :
    FenceKept d (becomeSevere reactFull k unit [0x100 + n] false d) ∨
      ∃ y, becomeSevere reactFull k unit [0x100 + n] false d = enterSafeHold .safeWire y ∧ HeldFrom d y := by
  have hsev : FenceKept d (triggerStretch (modEsc k (fun e => { e with state := 2, count := escCount d k, unit := unit, pulse := true }) d)) :=
    ⟨rfl, rfl, rfl, rfl, rfl, rfl, rfl, rfl, rfl⟩
  unfold becomeSevere
  dsimp only
  generalize triggerStretch (modEsc k (fun e => { e with state := 2, count := escCount d k, unit := unit, pulse := true }) d) = e at hsev ⊢
  split
  · exact .inl hsev
  · by_cases h5 : escReaction d k = 5
    · have hreact : reactFull (escReaction d k) k [0x100 + n] false e = safeReaction k e := if_pos h5
      exact .inr ⟨safeNoted k e, hreact, heldFrom_safeNoted hsev k⟩
    · exact .inl (fenceKept_trans hsev (fenceKept_reactFull h5 (cellUnits_react hk hn h24) e))

/-- An occurrence on a cell's channel only keeps, or forces the safe state on what it keeps (R482, R483). -/
theorem raiseCh_kept {k n : Nat} (hk : k ≠ 126) (hn : 1 ≤ n) (h24 : n ≤ 24) (d : Dev) :
    FenceKept d (raiseCh k n d) ∨ ∃ y, raiseCh k n d = enterSafeHold .safeWire y ∧ HeldFrom d y := by
  have hnote := fenceKept_of_occWrite (occWrite_noteEvent k d)
  have hmod : ∀ f : Esc → Esc, FenceKept d (modEsc k f (noteEvent k d)) := fun f => fenceKept_trans hnote (fenceKept_modEsc k f _)
  unfold raiseCh raiseOn occurWith
  dsimp only
  split
  · exact .inl (fenceKept_refl d)
  · split
    · exact .inl (hmod _)
    · split
      · exact .inl hnote
      · split
        · exact .inl (hmod _)
        · split
          · rcases becomeSevere_kept hk hn h24 (0x100 + n) (noteEvent k d) with hkept | ⟨y, hy, hbal, hcalm, hsafe, hst⟩
            · exact .inl (fenceKept_trans hnote hkept)
            · exact .inr ⟨y, hy, hbal.trans hnote.bal, fun hc => hcalm (calm_of_fenceKept hnote hc),
                hsafe.trans (congrArg Power.safeHold hnote.power), hst.trans (congrArg Power.pstate hnote.power)⟩
          · exact .inl (hmod _)

/-- After an occurrence on a cell's channel on a calm block that is up, what is left is a settled device with the same overcurrents. -/
theorem effect_raiseCh {k n : Nat} {f : Dev → Dev} {d a : Dev} (hk : k ≠ 126) (hn : 1 ≤ n) (h24 : n ≤ 24) (hf : f d = raiseCh k n a)
    (hc : Calm a) (hlow : ¬ Low a) (hs : a.power.safeHold = d.power.safeHold) :
    ∃ x, effect f d = settle x ∧ x.bal.faultOc = a.bal.faultOc := by
  rcases raiseCh_kept hk hn h24 a with hkept | ⟨y, hy, hbal, hcalm, hsafe, hst⟩
  · refine ⟨raiseCh k n a, ?_, by rw [hkept.bal]⟩
    rw [← hf]
    refine effect_calm (by rw [hf]; exact calm_of_fenceKept hkept hc) ?_
    rw [hf, hkept.power, hs]
    exact id
  · have hlow' : ¬ Low y := by
      unfold Low at *
      rw [hst]
      exact hlow
    cases hh : a.power.safeHold with
    | true =>
      have hstay := enterSafeHold_stays .safeWire (.inr (hsafe.trans hh) : Low y ∨ y.power.safeHold = true)
      refine ⟨y, ?_, by rw [hbal]⟩
      have hfy : f d = y := hf.trans (hy.trans hstay)
      rw [← hfy]
      refine effect_calm (by rw [hfy]; exact hcalm hc) ?_
      rw [hfy, hsafe, hs]
      exact id
    | false =>
      have hw : EdgeWrite (holdOf .safeWire y) (rearm (holdOf .safeWire y)) := edgeWrite_rearm (.inl rfl)
      refine ⟨rearm (holdOf .safeWire y), ?_, ?_⟩
      · unfold effect
        rw [hf, hy, enterSafeHold_enters .safeWire hlow' (hsafe.trans hh),
          wake_hold (hs.symm.trans hh) rfl (calm_of_edgeWrite hw (calm_holdOf .safeWire (hcalm hc)))]
      · rw [hw.1, ← hbal]
        rfl

theorem calm_of_senseWrite {a b : Dev} (h : SenseWrite a b) (hc : Calm a) : Calm b :=
  calm_of_eq hc (by rw [h]) (by rw [h]) (by rw [h]) (by rw [h])

theorem power_of_senseWrite {a b : Dev} (h : SenseWrite a b) : b.power = a.power := by rw [h]

/-- An interval taken with no beat dropped: the readings, and what a FET that was on throughout shows (R219, R220, R237). -/
theorem senseData_shows {i : SenseInt} {d : Dev} (hi : i.drop = 0) (h : escReaction d 121 = 0) : SenseWrite d (senseData i d) ∧
    ∀ n, cellPresent d n = true → nth (senseData i d).bal.sense (n - 1) 0 = min 4095 (nth i.readings (n - 1) 0) ∧
      (mbit i.onAll (n - 1) = true → d.bal.est.length = 24 →
        nth (senseData i d).bal.est (n - 1) none = some (min 4095 (nth i.readings (n - 1) 0))) ∧
      (mbit i.onAll (n - 1) = true → nth d.bal.openRun (n - 1) 0 = 7 → min 4095 (nth i.readings (n - 1) 0) < itemN d 0x0408 * 10 →
        mbit (senseData i d).bal.faultOpen (n - 1) = true) := by
  rw [senseData_undropped hi]
  have hcells := senseCells_writes (i := i) (m := ~~~ i.offAll ||| d.bal.faultShort)
    (xs := fun n => nth (shownReadings i d) (n - 1) 0) (cellList d) h
  refine ⟨senseWrite_trans hcells (senseWrite_bal _ _), fun n hp => ?_⟩
  obtain ⟨h1, h24, -⟩ := cellPresent_lt hp
  have hread := nth_shownReadings (i := i) hp
  have hown := fun ho => senseCells_own (i := i) (m := ~~~ i.offAll ||| d.bal.faultShort)
    (xs := fun n => nth (shownReadings i d) (n - 1) 0) h (nodup_cellList d)
    (fun y hy => (cellPresent_lt (mem_cellList.mp hy)).1) (mem_cellList.mpr hp) (by omega) ho
  dsimp only at hown ⊢
  rw [hread] at hown
  exact ⟨hread, fun ho => (hown ho).1, fun ho hr hx => (hown ho).2 hr hx⟩

/-- ISENSE_INTERVAL_END: the interval that has ended (R219, R25). -/
def endedInterval (readings : List Nat) (d : Dev) : SenseInt :=
  ⟨d.now, (List.range d.part.cells).map (fun j => nth readings j 0),
    if d.d2d.retrain then droppedBeats (d.part.cells / 4) (32 - holdSize d) else 0, d.bal.onAll, d.bal.offAll⟩

theorem nth_endedInterval {readings : List Nat} {d : Dev} {n : Nat} (h : cellPresent d n = true) :
    nth (endedInterval readings d).readings (n - 1) 0 = nth readings (n - 1) 0 := by
  obtain ⟨h1, -, hn⟩ := cellPresent_lt h
  unfold endedInterval
  rw [nth, List.getD_eq_getElem?_getD, List.getElem?_map, List.getElem?_range (by omega)]
  rfl

/-- ISENSE_INTERVAL_END (R219, R25). -/
def intervalEnds (readings : List Nat) (d : Dev) : Dev :=
  if !awake d then d
  else viaBus (.sense (endedInterval readings d)) (senseData (endedInterval readings d))
    { d with bal.onAll := d.pins.sb, bal.offAll := ~~~ d.pins.sb }

theorem exec_isenseIntervalEnd (readings : List Nat) (s : State) :
    exec (.isenseIntervalEnd readings) s = runDev s (intervalEnds readings) := rfl

/-- BAL_FET_OVERCURRENT (R237). -/
def overcurrent (n : Nat) (d : Dev) : Dev :=
  if awake d && cellPresent d n && !mbit d.bal.faultOc (n - 1) then
    raiseCh 121 n { d with bal.faultOc := mset d.bal.faultOc (n - 1) true } else d

/-- Settles O32: an interval is taken, held, or waits; an overcurrent and the end of a plan act on their own cell. -/
theorem senseReadingsAndFetFaults : Obligations.SenseReadingsAndFetFaults := by
  intro s hc
  refine ⟨fun readings ha => ?_, fun n ha hp ho => ?_, fun n h => ?_, fun n hp hpl => ?_, fun n h => ?_, fun readings ha => ?_⟩
  · have hawake : intervalEnds readings s.toDev = viaBus (.sense (endedInterval readings s.toDev))
        (senseData (endedInterval readings s.toDev)) { s.toDev with bal.onAll := s.pins.sb, bal.offAll := ~~~ s.pins.sb } :=
      if_neg (by simp [ha])
    intro i d1
    refine ⟨fun hr hop hreact => ?_, fun hr => ?_, fun hr hop => ?_⟩
    · have hdrop : (endedInterval readings s.toDev).drop = 0 := if_neg (by simp [hr])
      obtain ⟨hw, hshows⟩ := senseData_shows (d := d1) hdrop hreact
      have hans := answers_beside (exec_isenseIntervalEnd readings s) (hawake.trans (viaBus_direct (d := d1) hr hop))
        (calm_of_senseWrite hw (calm_of_eq hc rfl rfl rfl rfl)) (by rw [power_of_senseWrite hw]; exact id)
      refine answers_mono hans fun t ht => ⟨ht, fun n hp => ?_⟩
      obtain ⟨h1, h2, h3⟩ := hshows n hp
      rw [nth_endedInterval hp] at h1 h2 h3
      rw [bal_of_beside ht]
      exact ⟨h1, h2, h3⟩
    · exact answers_beside (exec_isenseIntervalEnd readings s) (hawake.trans (if_pos hr)) (calm_of_eq hc rfl rfl rfl rfl) id
    · refine answers_beside (exec_isenseIntervalEnd readings s) (hawake.trans ((if_neg (by simp [hr])).trans (if_pos ?_)))
        (calm_of_eq hc rfl rfl rfl rfl) id
      exact Option.isSome_iff_ne_none.mpr hop
  · obtain ⟨h1, h24, -⟩ := cellPresent_lt hp
    have hrun : overcurrent n s.toDev = raiseCh 121 n { s.toDev with bal.faultOc := mset s.bal.faultOc (n - 1) true } :=
      if_pos (by simp [ha, hp, ho])
    have hcalm : Calm { s.toDev with bal.faultOc := mset s.bal.faultOc (n - 1) true } := calm_of_eq hc rfl rfl rfl rfl
    obtain ⟨x, hx, hoc⟩ := effect_raiseCh (by decide) h1 h24 hrun hcalm (not_low_of_awake ha) rfl
    have hexec : exec (.balFetOvercurrent n) s = .next { s with toDev := settle x } := by
      show runDev s (overcurrent n) = _
      unfold runDev
      rw [hx]
    have hlatched : mbit (settle x).bal.faultOc (n - 1) = true := by
      rw [bal_of_beside (beside_settle x)]
      show mbit x.bal.faultOc (n - 1) = true
      rw [hoc]
      exact mbit_mset_self _ (by omega)
    refine ⟨_, hexec, rfl, hlatched, ?_, fun hpl => ?_⟩
    · obtain ⟨-, hsb, -⟩ := levelsHold_settle x
      rw [hsb]
      exact mbit_fetsNow_latched h1 h24 hlatched
    · have hnoted := answers_occurred (c := .balFetOvercurrent n) (s := s) (f := overcurrent n) (k := 121) rfl
        (by rw [hrun]; exact occurred_occurWith reactFull 121 _ _ _ hpl) hcalm id
      obtain ⟨t, ht, -, hn⟩ := hnoted
      rw [hexec] at ht
      cases ht
      exact hn
  · refine answers_same rfl hc (if_neg ?_)
    rcases h with h | h | h <;> simp [h]
  · refine answers_beside (c := .balPlanTimeLimit n) rfl (if_pos (by simp [hp, Option.isSome_iff_ne_none.mpr hpl])) ?_ ?_
    · exact calm_of_senseWrite (endPlan_writes n 3 s.toDev).1 hc
    · exact fun h => (congrArg Power.safeHold (power_of_senseWrite (endPlan_writes n 3 s.toDev).1)).symm.trans h
  · refine answers_same rfl hc (if_neg ?_)
    rcases h with h | h <;> simp [h]
  · exact answers_same (exec_isenseIntervalEnd readings s) hc (if_pos (by simp [ha]))

end Sys2Proof.Proofs
end

section
/-! PROOF. BAL_TIMEOUT (08_balancing.md R231). -/

namespace Sys2Proof.Proofs

open Sys2Proof Sys2Proof.Machine Sys2Proof.Safety Sys2Proof.Laws

/-! ## Cells -/

/-- The duty, owner and plan of cell k + 1 stay. -/
def CellKept (k : Nat) (a b : Dev) : Prop :=
  nth b.bal.duty k 0 = nth a.bal.duty k 0 ∧ nth b.bal.owner k 0 = nth a.bal.owner k 0 ∧ nth b.bal.plans k none = nth a.bal.plans k none

theorem cellKept_trans {k : Nat} {a b c : Dev} (hab : CellKept k a b) (hbc : CellKept k b c) : CellKept k a c :=
  ⟨hbc.1.trans hab.1, hbc.2.1.trans hab.2.1, hbc.2.2.trans hab.2.2⟩

/-- Cell n has a duty of BAL_SET without a plan (R231). -/
def Timed (n : Nat) (d : Dev) : Prop := nth d.bal.owner (n - 1) 0 = 0x38 ∧ nth d.bal.plans (n - 1) none = none

theorem timed_of_cellKept {n : Nat} {a b : Dev} (h : CellKept (n - 1) a b) : Timed n b ↔ Timed n a := by
  unfold Timed
  rw [h.2.1, h.2.2]

/-- b is a but for duties, owners, plans and the journal's entries. -/
def CellWrite (a b : Dev) : Prop := b = { a with bal := { a.bal with duty := b.bal.duty, owner := b.bal.owner, plans := b.bal.plans }, jrn := b.jrn }

theorem cellWrite_trans {a b c : Dev} (hab : CellWrite a b) (hbc : CellWrite b c) : CellWrite a c := by
  unfold CellWrite at hab hbc ⊢
  rw [hab] at hbc
  exact hbc

section Cells

variable {n : Nat} {d : Dev}

theorem timeoutCell_untimed (h : ¬ Timed n d) : timeoutCell n d = d := by
  refine if_neg fun hc => h ?_
  simpa [Timed] using hc

theorem jchange_kept (c : Ctx) (it : Nat) (old new : Word) (d : Dev) : jchange c it old new d = { d with jrn := (jchange c it old new d).jrn } := by
  unfold jchange jput
  split <;> rfl

theorem timeoutCell_timed (h : Timed n d) : timeoutCell n d = { clearCell n d with jrn := (timeoutCell n d).jrn } := by
  have heq : timeoutCell n d = jchange (fwCtx 4) (0x0480 + n) (Word.of (nth d.bal.duty (n - 1) 0)) 0 (clearCell n d) :=
    if_pos (by simp [h.1, h.2])
  rw [heq]
  exact jchange_kept _ _ _ _ _

theorem timeoutCell_writes : CellWrite d (timeoutCell n d) := by
  by_cases h : Timed n d
  · rw [timeoutCell_timed h]
    rfl
  · rw [timeoutCell_untimed h]
    rfl

theorem timeoutCell_others {k : Nat} (hk : k ≠ n - 1) : CellKept k d (timeoutCell n d) := by
  by_cases h : Timed n d
  · rw [timeoutCell_timed h]
    refine ⟨nth_set_ne _ _ hk, ?_, nth_set_ne _ _ hk⟩
    show nth (if nth d.bal.owner (n - 1) 0 = 0x38 then d.bal.owner.set (n - 1) 0 else d.bal.owner) k 0 = _
    split
    · exact nth_set_ne _ _ hk
    · rfl
  · rw [timeoutCell_untimed h]
    exact ⟨rfl, rfl, rfl⟩

theorem nth_set_default {α : Type} (l : List α) (i : Nat) (a : α) : nth (l.set i a) i a = a := by
  simp only [nth, List.getD_eq_getElem?_getD, List.getElem?_set_self']
  cases l[i]? <;> rfl

theorem timeoutCell_own (h : Timed n d) : nth (timeoutCell n d).bal.duty (n - 1) 0 = 0 ∧ nth (timeoutCell n d).bal.owner (n - 1) 0 = 0 ∧
    nth (timeoutCell n d).bal.plans (n - 1) none = none := by
  rw [timeoutCell_timed h]
  refine ⟨nth_set_default _ _ _, ?_, nth_set_default _ _ _⟩
  show nth (if nth d.bal.owner (n - 1) 0 = 0x38 then d.bal.owner.set (n - 1) 0 else d.bal.owner) (n - 1) 0 = 0
  rw [if_pos h.1]
  exact nth_set_default _ _ _

end Cells

section CellLists

theorem timeoutCells_writes (l : List Nat) (d : Dev) : CellWrite d (forEach l timeoutCell d) := by
  induction l generalizing d with
  | nil => rfl
  | cons n t ih => exact cellWrite_trans timeoutCell_writes (ih _)

theorem timeoutCells_others {k : Nat} (l : List Nat) (d : Dev) (h : ∀ n ∈ l, k ≠ n - 1 ∨ ¬ Timed n d) : CellKept k d (forEach l timeoutCell d) := by
  induction l generalizing d with
  | nil => exact ⟨rfl, rfl, rfl⟩
  | cons n t ih =>
    have hn : CellKept k d (timeoutCell n d) := by
      rcases h n List.mem_cons_self with hk | ht
      · exact timeoutCell_others hk
      · rw [timeoutCell_untimed ht]
        exact ⟨rfl, rfl, rfl⟩
    refine cellKept_trans hn (ih _ fun y hy => ?_)
    by_cases hk : k = y - 1
    · subst hk
      rw [timed_of_cellKept hn]
      exact (h y (List.mem_cons_of_mem n hy)).imp id id
    · exact .inl hk

theorem timeoutCells_own {n : Nat} {l : List Nat} {d : Dev} (hnd : l.Nodup) (hl : ∀ y ∈ l, 1 ≤ y) (hn : n ∈ l) (ht : Timed n d) :
    nth (forEach l timeoutCell d).bal.duty (n - 1) 0 = 0 ∧ nth (forEach l timeoutCell d).bal.owner (n - 1) 0 = 0 ∧
      nth (forEach l timeoutCell d).bal.plans (n - 1) none = none := by
  induction l generalizing d with
  | nil => cases hn
  | cons y t ih =>
    obtain ⟨hyt, hnt⟩ := List.nodup_cons.mp hnd
    have hlt : ∀ z ∈ t, 1 ≤ z := fun z hz => hl z (List.mem_cons_of_mem y hz)
    by_cases hny : n = y
    · subst hny
      obtain ⟨h1, h2, h3⟩ := timeoutCell_own ht
      have hrest := timeoutCells_others (k := n - 1) t (timeoutCell n d) fun z hz => .inl fun heq => hyt (by
        have h1 := hl n List.mem_cons_self
        have h2 := hlt z hz
        rwa [show n = z by omega])
      exact ⟨hrest.1.trans h1, hrest.2.1.trans h2, hrest.2.2.trans h3⟩
    · have hmem := (List.mem_cons.mp hn).resolve_left hny
      have hne : n - 1 ≠ y - 1 := by
        have h1 := hl n hn
        have h2 := hl y List.mem_cons_self
        omega
      exact ih hnt hlt hmem ((timed_of_cellKept (timeoutCell_others hne)).mpr ht)

end CellLists

/-! ## Bank drivers -/

section Banks

variable {b c : Nat} {d : Dev}

theorem bank_owner_lt (h : (bank d b).owner = 0x3A) : b < d.banks.length := by
  by_contra hn
  rw [bank, nth, List.getD_eq_default _ _ (Nat.le_of_not_lt hn)] at h
  cases h

theorem bank_modBank_inside (f : Bank → Bank) (h : c < d.banks.length) : bank (modBank c f d) b = if b = c then f (bank d b) else bank d b := by
  unfold bank modBank nth
  simp only [List.getD_eq_getElem?_getD, List.getElem?_modify]
  split
  · rename_i hcb
    subst hcb
    rw [if_pos rfl, List.getElem?_eq_getElem h]
    rfl
  · rename_i hcb
    rw [if_neg (Ne.symm hcb)]
    simp

theorem timeoutBank_bank : bank (timeoutBank c d) b = if b = c ∧ (bank d b).owner = 0x3A then { bank d b with cmd := 0 } else bank d b := by
  unfold timeoutBank
  by_cases ho : (bank d c).owner = 0x3A
  · rw [if_pos (by simp [ho]), jchange_kept]
    have hmod := bank_modBank_inside (b := b) (fun x => { x with cmd := 0 }) (bank_owner_lt ho)
    refine Eq.trans hmod ?_
    by_cases hb : b = c
    · subst hb
      rw [if_pos rfl, if_pos ⟨rfl, ho⟩]
    · rw [if_neg hb, if_neg fun h => hb h.1]
  · rw [if_neg (by simp [ho]), if_neg fun ⟨hb, hn⟩ => ho (hb ▸ hn)]

theorem timeoutBank_kept : timeoutBank c d = { d with banks := (timeoutBank c d).banks, jrn := (timeoutBank c d).jrn } := by
  unfold timeoutBank
  split
  · rw [jchange_kept]
    rfl
  · rfl

theorem timeoutBank_map {β : Type} (g : Bank → β) (hg : ∀ x, g { x with cmd := 0 } = g x) : (timeoutBank c d).banks.map g = d.banks.map g := by
  unfold timeoutBank
  split
  · rw [jchange_kept]
    refine List.ext_getElem? fun i => ?_
    simp only [modBank, List.getElem?_map, List.getElem?_modify]
    cases d.banks[i]? with
    | none => rfl
    | some x =>
      simp only [Option.map_some, Option.map_eq_map]
      split
      · rw [hg]
      · rfl
  · rfl

end Banks

/-- The commands of the four drivers after the time-out (R231). -/
theorem timeoutBanks_cmd {b : Nat} (hb : b < 4) (d : Dev) :
    (bank (forEach [0, 1, 2, 3] timeoutBank d) b).cmd = if (bank d b).owner = 0x3A then 0 else (bank d b).cmd := by
  have hstep : ∀ c e, (bank (timeoutBank c e) b).owner = (bank e b).owner ∧
      (bank (timeoutBank c e) b).cmd = if b = c ∧ (bank e b).owner = 0x3A then 0 else (bank e b).cmd := fun c e => by
    rw [timeoutBank_bank]
    split <;> exact ⟨rfl, rfl⟩
  have hall : forEach [0, 1, 2, 3] timeoutBank d = timeoutBank 3 (timeoutBank 2 (timeoutBank 1 (timeoutBank 0 d))) := rfl
  rw [hall, (hstep 3 _).2, (hstep 2 _).2, (hstep 2 _).1, (hstep 1 _).2, (hstep 1 _).1, (hstep 0 _).2, (hstep 0 _).1]
  by_cases ho : (bank d b).owner = 0x3A
  · simp only [ho, and_true, if_true]
    have hcases : b = 0 ∨ b = 1 ∨ b = 2 ∨ b = 3 := by omega
    rcases hcases with rfl | rfl | rfl | rfl <;> simp
  · simp [ho]

theorem timeoutBanks_map {β : Type} (g : Bank → β) (hg : ∀ x, g { x with cmd := 0 } = g x) (l : List Nat) (d : Dev) :
    (forEach l timeoutBank d).banks.map g = d.banks.map g := by
  induction l generalizing d with
  | nil => rfl
  | cons c t ih => exact (ih _).trans (timeoutBank_map g hg)

/-- b is a but for the bank drivers and the journal's entries. -/
def BanksWrite (a b : Dev) : Prop := b = { a with banks := b.banks, jrn := b.jrn }

theorem banksWrite_trans {a b c : Dev} (hab : BanksWrite a b) (hbc : BanksWrite b c) : BanksWrite a c := by
  unfold BanksWrite at hab hbc ⊢
  rw [hab] at hbc
  exact hbc

theorem timeoutBanks_writes (l : List Nat) (d : Dev) : BanksWrite d (forEach l timeoutBank d) := by
  induction l generalizing d with
  | nil => rfl
  | cons c t ih => exact banksWrite_trans timeoutBank_kept (ih _)

/-- The device with the time-out noted and the cells' duties cleared (R231). -/
def cellsTimedOut (d : Dev) : Dev := forEach (cellList d) timeoutCell { d with bal.timeout := true, bal.timerOn := false }

/-- BAL_TIMEOUT where its timer runs (R231). -/
def timedOut (d : Dev) : Dev := forEach [0, 1, 2, 3] timeoutBank (cellsTimedOut d)

section TimedOut

variable (d : Dev)

theorem cellsTimedOut_writes : CellWrite { d with bal.timeout := true, bal.timerOn := false } (cellsTimedOut d) :=
  timeoutCells_writes _ _

theorem timedOut_writes : BanksWrite (cellsTimedOut d) (timedOut d) := timeoutBanks_writes _ _

theorem timedOut_bal : (timedOut d).bal = (cellsTimedOut d).bal := by rw [timedOut_writes d]

theorem writes_both {a b c : Dev} (hab : CellWrite a b) (hbc : BanksWrite b c) : c = { a with
    bal := { a.bal with duty := b.bal.duty, owner := b.bal.owner, plans := b.bal.plans }, banks := c.banks, jrn := c.jrn } := by
  unfold CellWrite at hab
  unfold BanksWrite at hbc
  rw [hab] at hbc
  exact hbc

theorem timedOut_kept : timedOut d = { d with
    bal := { d.bal with timeout := true, timerOn := false, duty := (timedOut d).bal.duty, owner := (timedOut d).bal.owner
                        plans := (timedOut d).bal.plans }
    banks := (timedOut d).banks, jrn := (timedOut d).jrn } := by
  rw [timedOut_bal]
  exact writes_both (cellsTimedOut_writes d) (timedOut_writes d)

variable {d}

theorem timedOut_own {n : Nat} (hp : cellPresent d n = true) (ht : Timed n d) :
    nth (timedOut d).bal.duty (n - 1) 0 = 0 ∧ nth (timedOut d).bal.owner (n - 1) 0 = 0 ∧ nth (timedOut d).bal.plans (n - 1) none = none := by
  rw [timedOut_bal]
  exact timeoutCells_own (d := { d with bal.timeout := true, bal.timerOn := false }) (nodup_cellList d)
    (fun y hy => (cellPresent_lt (mem_cellList.mp hy)).1) (mem_cellList.mpr hp) ht

theorem timedOut_others {n : Nat} (hn : 1 ≤ n) (h : cellPresent d n = false ∨ ¬ Timed n d) : CellKept (n - 1) d (timedOut d) := by
  unfold CellKept
  rw [timedOut_bal]
  refine timeoutCells_others (k := n - 1) (cellList d) { d with bal.timeout := true, bal.timerOn := false } fun y hy => ?_
  have hy' := mem_cellList.mp hy
  have h1 := (cellPresent_lt hy').1
  by_cases hny : n = y
  · subst hny
    exact .inr (h.resolve_left (by simp [hy']))
  · exact .inl (by omega)

theorem timedOut_plans (k : Nat) : nth (timedOut d).bal.plans k none = nth d.bal.plans k none := by
  by_cases h : cellPresent d (k + 1) = true ∧ Timed (k + 1) d
  · exact (timedOut_own h.1 h.2).2.2.trans h.2.2.symm
  · refine (timedOut_others (n := k + 1) (by omega) ?_).2.2
    cases hp : cellPresent d (k + 1) with
    | false => exact .inl rfl
    | true => exact .inr fun ht => h ⟨hp, ht⟩

theorem timedOut_calm (hc : Calm d) : Calm (timedOut d) := by
  rw [timedOut_kept]
  exact hc

variable (d)

theorem timedOut_holds (hs : (timedOut d).power.safeHold = true) : d.power.safeHold = true := by
  rw [timedOut_kept] at hs
  exact hs

theorem cellsTimedOut_banks : (cellsTimedOut d).banks = d.banks := by rw [cellsTimedOut_writes d]

theorem timedOut_cmd {b : Nat} (hb : b < 4) (d : Dev) : (bank (timedOut d) b).cmd = if (bank d b).owner = 0x3A then 0 else (bank d b).cmd := by
  have hbank : bank (cellsTimedOut d) b = bank d b := congrArg (nth · b Bank.reset) (cellsTimedOut_banks d)
  rw [timedOut, timeoutBanks_cmd hb, hbank]

theorem timedOut_cores : (timedOut d).banks.map (fun x => { bankCore x with cmd := 0 }) = d.banks.map (fun x => { bankCore x with cmd := 0 }) := by
  rw [timedOut, timeoutBanks_map _ (fun x => rfl), cellsTimedOut_banks]

end TimedOut

/-- Settles O33: the duties of BAL_SET and the commands of ACTIVE_SET end, and nothing else. -/
theorem balanceTimeoutClearsCommands : Obligations.BalanceTimeoutClearsCommands := by
  intro s hc
  refine ⟨fun ht hi => ?_, fun h => ?_⟩
  · have hans : Answers .balTimeout s (Beside (timedOut s.toDev)) :=
      answers_beside (c := .balTimeout) (s := s) (f := fun d => if d.bal.timerOn && itemN d 0x0407 != 0 then timedOut d else d)
        rfl (if_pos (by simp [ht, hi])) (timedOut_calm hc) (timedOut_holds s.toDev)
    have hkept := timedOut_kept s.toDev
    have hown := fun n => timedOut_own (d := s.toDev) (n := n)
    have hothers := fun n => timedOut_others (d := s.toDev) (n := n)
    have hcmd := fun b hb => timedOut_cmd (b := b) hb s.toDev
    have hcores := timedOut_cores s.toDev
    have hplans := timedOut_plans (d := s.toDev)
    refine answers_mono hans fun t hb => ?_
    generalize timedOut s.toDev = e at hb hkept hown hothers hcmd hcores hplans
    have hduty : t.bal.duty = e.bal.duty ∧ t.bal.owner = e.bal.owner ∧ t.bal.plans = e.bal.plans := by
      rw [bal_of_beside hb]
      exact ⟨rfl, rfl, rfl⟩
    rw [hduty.1, hduty.2.1, hduty.2.2]
    refine ⟨fun n hp ho hpl => ?_, fun n hn h => ?_, fun b hb4 => ?_, ?_, ?_, hplans⟩
    · obtain ⟨h1, h2, -⟩ := hown n hp ⟨ho, hpl⟩
      exact ⟨h1, h2⟩
    · obtain ⟨h1, h2, -⟩ := hothers n hn (h.imp id fun h ht => h.elim (absurd ht.1) (absurd ht.2))
      exact ⟨h1, h2⟩
    · rw [← hcmd b hb4]
      show (bankCore (bank t b)).cmd = (bankCore (bank e b)).cmd
      rw [bankCore_of_beside hb b]
    · rw [← hcores]
      have hcore : ∀ l : List Bank, l.map (fun x => { bankCore x with cmd := 0 }) = (l.map bankCore).map (fun x => { x with cmd := 0 }) :=
        fun l => by rw [List.map_map]; rfl
      rw [hcore t.banks, hb.1, ← hcore]
    · refine ⟨rfl, ?_⟩
      rw [jrn_of_beside hb]
      have hrest := hb.2
      rw [hkept] at hrest
      exact hrest
  · refine answers_same rfl hc (if_neg ?_)
    rcases h with h | h <;> simp [h]

end Sys2Proof.Proofs
end

section
/-! PROOF. Bank drivers and the excitation of FETs (08_balancing.md R239 to R247). -/

namespace Sys2Proof.Proofs

open Sys2Proof Sys2Proof.Machine Sys2Proof.Safety Sys2Proof.Laws

/-! ## The applied command under the interlock -/

section Applied

variable {b : Nat} {d : Dev}

theorem followOne_applied (c : Nat) (hb : b < d.banks.length) (hl : bankLevels d b = false) :
    (bank (followOne c d) b).applied = (bank d b).applied := by
  by_cases hc : c = b
  · subst hc
    cases hi : (bank d c).interlock with
    | true =>
      have heq : followOne c d = modBank c (fun x => { x with interlock := false }) d := by
        rw [followOne, hl, hi]
        rfl
      rw [heq, Laws.bank_modBank _ _ _ _ hb, if_pos rfl]
    | false =>
      have heq : followOne c d = d := by
        rw [followOne, hl, hi]
        rfl
      rw [heq]
  · rw [followOne_other _ _ _ hb hc]

theorem forEach_followOne_applied (l : List Nat) (hb : b < d.banks.length) (hl : bankLevels d b = false) :
    (bank (forEach l followOne d) b).applied = (bank d b).applied := by
  induction l generalizing d with
  | nil => rfl
  | cons c t ih =>
    have hlen : b < (followOne c d).banks.length := by
      rw [(followOne_kept c d).2]
      exact hb
    exact (ih hlen ((followOne_levels c b d).trans hl)).trans (followOne_applied c hb hl)

theorem followInterlock_eq (d : Dev) : followInterlock d = if d.part.hasBanks then forEach [0, 1, 2, 3] followOne d else d := rfl

/-- With the bank's comparators silent the applied command is no matter of the interlock (R242). -/
theorem settle_applied (hb : b < d.banks.length) (hl : bankLevels d b = false) :
    (bank (settle d) b).applied = (bank d b).applied := by
  have hfall := (part_banks_noteFallback (followInterlock (grantTransfers d))).2
  have hbanks : (settle d).banks = (followInterlock (grantTransfers d)).banks := hfall
  have hbank : bank (settle d) b = bank (followInterlock (grantTransfers d)) b := congrArg (nth · b Bank.reset) hbanks
  rw [hbank, followInterlock_eq]
  split
  · exact forEach_followOne_applied (d := grantTransfers d) [0, 1, 2, 3] hb hl
  · rfl

end Applied

/-! ## A PWM period -/

/-- A driver after one PWM period with the applied command a and a reading (R239, R241). -/
def pwmBank (d d0 : Dev) (a : Int) (mV : Nat) (x : Bank) : Bank :=
  { x with
    applied := a, badRun := if decide (mV < 250) || decide (4750 < mV) then min 4 (x.badRun + 1) else 0
    seen := ((d.now, senseCurrent d mV) :: x.seen).take 16384
    appSum := x.appSum + a, appCnt := x.appCnt + 1, refMean := x.refMean || x.excite
    limit := x.limit || (x.excite && d0.eis.muted != 0) }

/-- ACT_PWM_PERIOD as a change of the device (R239, R241, R246). -/
def pwmRun (b mV : Nat) (d : Dev) : Dev :=
  if !d.part.hasBanks || !awake d || !(bank d b).on || bankFenced d (b + 1) then d
  else
    let d0 := if (bank d b).excite then noteMuted d else d
    rampedOff b (modBank b (pwmBank d d0 (nextApplied d0 b (bank d b)) mV) d0)

theorem noteMuted_kept (d : Dev) : noteMuted d = { d with eis := { d.eis with muted := (noteMuted d).eis.muted } } := by
  unfold noteMuted
  split <;> rfl

theorem calm_noteMuted {d : Dev} (hc : Calm d) : Calm (noteMuted d) := by
  rw [noteMuted_kept]
  exact hc

theorem modBank_modBank (b : Nat) (f g : Bank → Bank) (d : Dev) : modBank b g (modBank b f d) = modBank b (g ∘ f) d := by
  have hlist : (d.banks.modify b f).modify b g = d.banks.modify b (g ∘ f) := by
    refine List.ext_getElem? fun i => ?_
    simp only [List.getElem?_modify]
    cases d.banks[i]? with
    | none => rfl
    | some x =>
      by_cases hi : b = i
      · simp [hi]
      · simp [hi]
  exact congrArg (fun l => { d with banks := l }) hlist

theorem modBank_congr {b : Nat} {f g : Bank → Bank} {d : Dev} (h : b < d.banks.length → f (bank d b) = g (bank d b)) :
    modBank b f d = modBank b g d := by
  have hlist : d.banks.modify b f = d.banks.modify b g := by
    refine List.ext_getElem? fun i => ?_
    simp only [List.getElem?_modify]
    by_cases hi : b = i
    · subst hi
      by_cases hlt : b < d.banks.length
      · have hx : d.banks[b]? = some (bank d b) := by
          rw [bank, nth, List.getD_eq_getElem?_getD, List.getElem?_eq_getElem hlt]
          rfl
        simp [hx, h hlt]
      · rw [List.getElem?_eq_none (Nat.le_of_not_lt hlt)]
        rfl
    · simp [hi]
  exact congrArg (fun l => { d with banks := l }) hlist

/-- The driver turns off as it has ramped to 0, or goes on (R231, R240). -/
theorem rampedOff_modBank {b : Nat} {f : Bank → Bank} {d : Dev} (hb : b < d.banks.length) (hon : (f (bank d b)).on = true) :
    let x := f (bank d b)
    let off := !x.excite && x.cmd = 0 && x.applied = 0 && x.owner == 0x3A && !d.power.ramping
    rampedOff b (modBank b f d) = modBank b (fun y => { f y with on := !off, owner := if off then 0 else x.owner }) d := by
  intro x off
  have hx : bank (modBank b f d) b = x := (Laws.bank_modBank _ _ _ _ hb).trans (if_pos rfl)
  have heq : rampedOff b (modBank b f d) = if x.on && off then modBank b (fun x => { x with on := false, owner := 0 }) (modBank b f d)
      else modBank b f d := by
    rw [rampedOff, hx]
    simp only [off, Bool.and_assoc]
    rfl
  rw [heq, show x.on = true from hon, Bool.true_and]
  cases off with
  | true => exact modBank_modBank b f _ d
  | false =>
    refine modBank_congr fun _ => ?_
    show f (bank d b) = { x with on := true, owner := x.owner }
    rw [← hon]

theorem noteMuted_if_banks (c : Bool) (d : Dev) : (if c then noteMuted d else d).banks = d.banks := by
  rw [noteMuted_kept]
  split <;> rfl

theorem noteMuted_if_power (c : Bool) (d : Dev) : (if c then noteMuted d else d).power = d.power := by
  rw [noteMuted_kept]
  split <;> rfl

theorem noteMuted_if_cmp (c : Bool) (d : Dev) : (if c then noteMuted d else d).cmp = d.cmp := by
  rw [noteMuted_kept]
  split <;> rfl

theorem calm_noteMuted_if {d : Dev} (c : Bool) (hc : Calm d) : Calm (if c then noteMuted d else d) := by
  split
  · exact calm_noteMuted hc
  · exact hc

/-- A driver after one PWM period, turned off where it has ramped to 0 (R231, R239 to R241). -/
def pwmEnd (d d0 : Dev) (a : Int) (mV : Nat) (x y : Bank) : Bank :=
  let off := !x.excite && x.cmd = 0 && a = 0 && x.owner == 0x3A && !d.power.ramping
  { y with
    applied := a, badRun := if mV < 250 ∨ 4750 < mV then min 4 (x.badRun + 1) else 0
    seen := ((d.now, senseCurrent d mV) :: x.seen).take 16384
    appSum := x.appSum + a, appCnt := x.appCnt + 1, refMean := x.refMean || x.excite
    limit := x.limit || (x.excite && d0.eis.muted != 0)
    on := !off, owner := if off then 0 else x.owner }

section Pwm

variable {b mV : Nat} {d : Dev}

theorem pwmRun_idle (h : d.part.hasBanks = false ∨ awake d = false ∨ (bank d b).on = false ∨ bankFenced d (b + 1) = true) :
    pwmRun b mV d = d := by
  refine if_pos ?_
  rcases h with h | h | h | h <;> simp [h]

theorem pwmRun_on (hp : d.part.hasBanks = true) (ha : awake d = true) (hon : (bank d b).on = true) (hf : bankFenced d (b + 1) = false)
    (hb : b < d.banks.length) :
    pwmRun b mV d = modBank b (pwmEnd d (if (bank d b).excite then noteMuted d else d)
      (nextApplied (if (bank d b).excite then noteMuted d else d) b (bank d b)) mV (bank d b))
        (if (bank d b).excite then noteMuted d else d) := by
  have hbanks := noteMuted_if_banks (bank d b).excite d
  have hpower := noteMuted_if_power (bank d b).excite d
  have hrun : pwmRun b mV d = rampedOff b (modBank b (pwmBank d (if (bank d b).excite then noteMuted d else d)
      (nextApplied (if (bank d b).excite then noteMuted d else d) b (bank d b)) mV) (if (bank d b).excite then noteMuted d else d)) :=
    if_neg (by simp [hp, ha, hon, hf])
  rw [hrun]
  generalize (if (bank d b).excite then noteMuted d else d) = d0 at hbanks hpower ⊢
  have hx : bank d0 b = bank d b := congrArg (nth · b Bank.reset) hbanks
  have hb0 : b < d0.banks.length := by rwa [hbanks]
  generalize nextApplied d0 b (bank d b) = a
  rw [rampedOff_modBank (f := pwmBank d d0 a mV) hb0 (by rw [hx]; exact hon)]
  refine modBank_congr fun _ => ?_
  rw [hx, hpower]
  simp only [pwmBank, pwmEnd, Bool.or_eq_true, decide_eq_true_eq]

end Pwm

theorem answers_pwm {s : State} {b : Fin 4} {mV : Nat} (hc : Calm s.toDev) (hp : s.part.hasBanks = true) (ha : awake s.toDev = true)
    (hon : (bank s.toDev b).on = true) (hf : bankFenced s.toDev (b + 1) = false) (h4 : s.banks.length = 4) :
    let d0 := if (bank s.toDev b).excite then noteMuted s.toDev else s.toDev
    let a := nextApplied d0 b (bank s.toDev b)
    Answers (.actPwmPeriod b mV) s (fun t => Beside (modBank b (pwmEnd s.toDev d0 a mV (bank s.toDev b)) d0) t ∧
      (bankLevels s.toDev b = false → (bank t b).applied = a)) := by
  intro d0 a
  have hb : (b : Nat) < s.banks.length := by omega
  have hrun : pwmRun b mV s.toDev = _ := pwmRun_on hp ha hon hf hb
  have hpower : d0.power = s.power := noteMuted_if_power _ _
  have hbanks : d0.banks = s.banks := noteMuted_if_banks _ _
  have hcmp : d0.cmp = s.cmp := noteMuted_if_cmp _ _
  have hcalm : Calm (modBank b (pwmEnd s.toDev d0 a mV (bank s.toDev b)) d0) := (calm_noteMuted_if _ hc : Calm d0)
  have heff : effect (pwmRun b mV) s.toDev = settle (modBank b (pwmEnd s.toDev d0 a mV (bank s.toDev b)) d0) := by
    rw [effect_calm (by rw [hrun]; exact hcalm) ?_, hrun]
    rw [hrun]
    intro hs
    rw [← hpower]
    exact hs
  refine ⟨{ s with toDev := settle (modBank b (pwmEnd s.toDev d0 a mV (bank s.toDev b)) d0) }, ?_, rfl, beside_settle _, fun hl => ?_⟩
  · rw [← heff]
    rfl
  · have hb0 : (b : Nat) < d0.banks.length := by rwa [hbanks]
    have hb1 : (b : Nat) < (modBank b (pwmEnd s.toDev d0 a mV (bank s.toDev b)) d0).banks.length := by
      rw [modBank, List.length_modify]
      exact hb0
    have hl1 : bankLevels (modBank b (pwmEnd s.toDev d0 a mV (bank s.toDev b)) d0) b = false := by
      rw [← hl, bankLevels, bankLevels, ← hcmp]
      rfl
    refine (settle_applied hb1 hl1).trans ?_
    rw [Laws.bank_modBank _ _ _ _ hb0, if_pos rfl]
    rfl

/-- The applied command ramps toward the set one (R241). -/
theorem nextApplied_ramp {d : Dev} {b : Nat} {x : Bank} (hi : x.interlock = false) (he : x.excite = false) (hr : d.power.ramping = false) :
    nextApplied d b x = x.applied + clampInt (-((itemN d 0x0431 * 250 : Nat) : Int)) ((itemN d 0x0431 * 250 : Nat) : Int) (x.cmd * 1000 - x.applied) := by
  rw [nextApplied, hi, he, hr]
  push_cast
  rfl

/-! ## Faults of a driver -/

theorem noted_of_beside {k : Nat} {a a' t : Dev} (h : Beside a' a) (hn : Noted k a t) : Noted k a' t := by
  obtain ⟨hevf, hrecs, hesc, hb⟩ := hn
  have hhost := host_of_beside h
  have hfault := fault_of_beside h
  refine ⟨by rw [hevf, hhost], fun he => by rw [← hhost] at he ⊢; exact hrecs he, fun i hi => ?_, beside_trans ?_ hb⟩
  · rw [hesc i hi, esc, esc, hfault]
  · refine ⟨h.1, ?_⟩
    rw [hhost, hfault]
    have h2 := h.2
    generalize a.banks = banks at h2 ⊢
    rw [h2]

/-- Turning a driver off disturbs at most the window (R249). -/
theorem beside_bankStop (b : Nat) (d : Dev) :
    Beside (modBank b (fun x => { x with on := false, applied := 0, excite := false }) d) (bankStop b d) := by
  unfold bankStop
  dsimp only
  split
  · exact ⟨rfl, rfl⟩
  · exact beside_refl _

theorem calm_bankStop {b : Nat} {d : Dev} (hc : Calm d) : Calm (bankStop b d) := by
  unfold bankStop
  dsimp only
  split <;> exact hc

theorem power_bankStop (b : Nat) (d : Dev) : (bankStop b d).power = d.power := by
  unfold bankStop
  dsimp only
  split <;> rfl

theorem plain_bankStop {b k : Nat} {d : Dev} (h : Plain d k) : Plain (bankStop b d) k := by
  unfold bankStop
  dsimp only
  split <;> exact h

/-- A driver stops with EV122 after a change f of it (R239, R243). -/
theorem answers_bankFault {s : State} {c : Instr} {g : Dev → Dev} {b : Nat} {f : Bank → Bank} (hi : exec c s = runDev s g)
    (hg : g s.toDev = raiseBank 122 (b + 1) (bankStop b (modBank b f s.toDev))) (hc : Calm s.toDev) (hp : Plain s.toDev 122) :
    Answers c s (Noted 122 (modBank b (fun y => { f y with on := false, applied := 0, excite := false }) s.toDev)) := by
  have hplain : Plain (bankStop b (modBank b f s.toDev)) 122 := plain_bankStop (hp : Plain (modBank b f s.toDev) 122)
  have hcalm : Calm (bankStop b (modBank b f s.toDev)) := calm_bankStop (hc : Calm (modBank b f s.toDev))
  refine answers_mono (answers_noted reactFull (0x400 + (b + 1)) [0x400 + (b + 1)] false hi hg hcalm hplain ?_) fun t hn => ?_
  · rw [power_bankStop]
    exact id
  · refine noted_of_beside ?_ hn
    have hb := beside_bankStop b (modBank b f s.toDev)
    rw [modBank_modBank] at hb
    exact hb

/-! ## Readings of 1 ms -/

/-- The mean of 1 ms of a driver lies outside ACT_ERR_MA of its command (R243). -/
def meanBad (b : Nat) (d : Dev) : Bool :=
  let x := bank d b
  let e := meanMeas d x * 100 - meanRef x
  let lim : Int := itemN d 0x0432 * 1000
  x.on && !bankFenced d (b + 1) && !ramping x && (decide (lim < e) || decide (e < -lim))

/-- A driver after 1 ms, with the run of its means out of range (R239, R243). -/
def meanBank (mean : Int) (excite : Bool) (run : Nat) (y : Bank) : Bank :=
  { y with iMeas := mean, appSum := 0, appCnt := 0, refMean := excite, devRun := run }

/-- ACT_MEAN_MS as a change of the device (R239, R243). -/
def meanRun (b : Nat) (d : Dev) : Dev :=
  if !d.part.hasBanks || !awake d then d
  else
    let run := if meanBad b d then (bank d b).devRun + 1 else 0
    let d1 := modBank b (fun x => { x with iMeas := meanMeas d (bank d b), appSum := 0, appCnt := 0, refMean := x.excite, devRun := run % 10 }) d
    if 10 ≤ run then raiseBank 122 (b + 1) (bankStop b (modBank b (fun x => { x with faultErr := true }) d1)) else d1

/-- EXCITE_FET_EDGE as a change of the device (R247). -/
def fetEdgeRun (n : Nat) (d : Dev) : Dev :=
  match d.eis.plan with
  | some p =>
    if cellPresent d n && fetExcited d n && mbit d.eis.fetsOn (n - 1) then
      let d1 := noteMuted d
      { d1 with bal.exciteOn := mset d1.bal.exciteOn (n - 1) (fetOnHalf d p n && d1.eis.muted == 0) }
    else d
  | none => d

/-- ACT_SENSE_FAULT as a change of the device (R239). -/
def senseFaultRun (b : Nat) (d : Dev) : Dev :=
  if d.part.hasBanks && (bank d b).on && 4 ≤ (bank d b).badRun then
    raiseBank 122 (b + 1) (bankStop b (modBank b (fun x => { x with faultSense := true, badRun := 0 }) d))
  else d

section Mean

variable {b : Nat} {d : Dev}

theorem meanRun_idle (h : d.part.hasBanks = false ∨ awake d = false) : meanRun b d = d :=
  if_pos (by rcases h with h | h <;> simp [h])

/-- What 1 ms leaves of the driver (R239, R243). -/
def meant (b : Nat) (d : Dev) (y : Bank) : Bank :=
  { y with iMeas := meanMeas d (bank d b), appSum := 0, appCnt := 0, refMean := (bank d b).excite
           devRun := if meanBad b d then ((bank d b).devRun + 1) % 10 else 0 }

theorem meanRun_good (hp : d.part.hasBanks = true) (ha : awake d = true) (h : meanBad b d = false ∨ (bank d b).devRun < 9) :
    meanRun b d = modBank b (meant b d) d := by
  have hrun : ¬ 10 ≤ if meanBad b d then (bank d b).devRun + 1 else 0 := by
    rcases h with h | h
    · simp [h]
    · split <;> omega
  rw [meanRun, if_neg (by simp [hp, ha])]
  dsimp only
  rw [if_neg hrun]
  refine modBank_congr fun _ => ?_
  simp only [meant]
  split <;> rfl

theorem meanRun_bad (hp : d.part.hasBanks = true) (ha : awake d = true) (h : meanBad b d = true) (hr : 9 ≤ (bank d b).devRun) :
    meanRun b d = raiseBank 122 (b + 1) (bankStop b (modBank b (fun y => { meant b d y with faultErr := true }) d)) := by
  have hrun : 10 ≤ if meanBad b d then (bank d b).devRun + 1 else 0 := by
    rw [if_pos h]
    omega
  rw [meanRun, if_neg (by simp [hp, ha])]
  dsimp only
  rw [if_pos hrun, modBank_modBank]
  congr 2
  refine modBank_congr fun _ => ?_
  simp only [meant, h, if_true, Function.comp]

end Mean

section Edges

variable {b n : Nat} {d : Dev}

theorem senseFaultRun_fault (hp : d.part.hasBanks = true) (hon : (bank d b).on = true) (hr : 4 ≤ (bank d b).badRun) :
    senseFaultRun b d = raiseBank 122 (b + 1) (bankStop b (modBank b (fun x => { x with faultSense := true, badRun := 0 }) d)) :=
  if_pos (by simp [hp, hon, hr])

theorem senseFaultRun_idle (h : d.part.hasBanks = false ∨ (bank d b).on = false ∨ (bank d b).badRun < 4) : senseFaultRun b d = d := by
  refine if_neg ?_
  rcases h with h | h | h <;> simp [h]

theorem fetEdgeRun_excited {p : EisPlan} (hp : d.eis.plan = some p) (hn : cellPresent d n = true) (hex : fetExcited d n = true)
    (hon : mbit d.eis.fetsOn (n - 1) = true) :
    fetEdgeRun n d = { noteMuted d with
      bal.exciteOn := mset d.bal.exciteOn (n - 1) (fetOnHalf d p n && (noteMuted d).eis.muted == 0) } := by
  rw [fetEdgeRun, hp]
  refine (if_pos (by simp [hn, hex, hon])).trans ?_
  rw [noteMuted_kept]

theorem fetEdgeRun_idle (h : d.eis.plan = none ∨ cellPresent d n = false ∨ fetExcited d n = false ∨ mbit d.eis.fetsOn (n - 1) = false) :
    fetEdgeRun n d = d := by
  rw [fetEdgeRun]
  cases hp : d.eis.plan with
  | none => rfl
  | some p =>
    refine if_neg ?_
    rcases h with h | h | h | h
    · simp [hp] at h
    all_goals simp [h]

end Edges

/-- Settles O34: by the branches of each row; what a stopped driver does beside its fault is the window's note. -/
theorem bankDriversRampAndFault : Obligations.BankDriversRampAndFault := by
  intro s b hc x upd stopped d0 a off mean e lim bad meant
  refine ⟨fun mV hp ha hon hf h4 => answers_pwm hc hp ha hon hf h4, fun hi he hr => ?_, fun mV h => ?_, fun hp hon hrun hpl => ?_,
    fun h => ?_, fun hp ha => ⟨fun h => ?_, fun hb hr hpl => ?_⟩, fun h => ?_, fun n p hp hn hex hon => ?_, fun n h => ?_⟩
  · have hd0 : d0 = s.toDev := if_neg (by simp [he])
    show nextApplied d0 b x = _
    rw [hd0]
    exact nextApplied_ramp hi he hr
  · exact answers_same (f := pwmRun b mV) rfl hc (pwmRun_idle h)
  · exact answers_bankFault (g := senseFaultRun b) rfl (senseFaultRun_fault hp hon hrun) hc hpl
  · exact answers_same (f := senseFaultRun b) rfl hc (senseFaultRun_idle h)
  · exact answers_beside (f := meanRun b) rfl (meanRun_good hp ha h) hc id
  · exact answers_bankFault (g := meanRun b) rfl (meanRun_bad hp ha hb hr) hc hpl
  · exact answers_same (f := meanRun b) rfl hc (meanRun_idle h)
  · exact answers_beside (f := fetEdgeRun n) rfl (fetEdgeRun_excited hp hn hex hon) (calm_noteMuted hc) (by rw [noteMuted_kept]; exact id)
  · exact answers_same (f := fetEdgeRun n) rfl hc (fetEdgeRun_idle h)

end Sys2Proof.Proofs
end

section
/-! PROOF. Dispatch and start of jobs (10_engines_and_flumes.md R286, R292, R293, R299, R300). -/

namespace Sys2Proof.Proofs

open Sys2Proof Sys2Proof.Machine Sys2Proof.Safety Sys2Proof.Laws

/-! ## The dispatcher's class -/

/-- The descriptor at the head of a class flume. -/
def classHead (d : Dev) (c : Nat) : Option Desc := (nth d.eng.classes c []).head?.bind (desc d)

/-- The heads of the class flumes with their classes. -/
def classHeads (d : Dev) : List (Nat × Desc) := (List.range 8).filterMap (fun c => (classHead d c).map (fun x => (c, x)))

theorem dispatchClass_eq (d : Dev) :
    dispatchClass d = (match (classHeads d).find? (fun h => h.1 == 0), (classHeads d).find? (fun h => decide (256 ≤ h.2.passed)) with
      | some h, _ => some h.1
      | none, some h => some h.1
      | none, none => (classHeads d).head?.map (fun h => h.1)) := rfl

section Class

variable {d : Dev}

theorem mem_classHeads {c : Nat} {x : Desc} : (c, x) ∈ classHeads d ↔ c < 8 ∧ classHead d c = some x := by
  unfold classHeads
  simp [List.mem_filterMap]

/-- The first head of a lower class than all others that p marks. -/
theorem find_classHeads {c : Nat} {x : Desc} {p : Nat × Desc → Bool} (hc : c < 8) (hx : classHead d c = some x) (hp : p (c, x) = true)
    (hlow : ∀ i y, i < c → classHead d i = some y → p (i, y) = false) : (classHeads d).find? p = some (c, x) := by
  have hsplit : List.range 8 = List.range c ++ c :: (List.range (7 - c)).map (· + (c + 1)) := by
    have h8 : c + (1 + (7 - c)) = 8 := by omega
    rw [← h8, List.range_add, List.range_add]
    simp only [List.range_one, List.map_map, List.map_cons, List.cons_append, List.nil_append, Nat.add_zero]
    refine congrArg (fun l => List.range c ++ c :: l) (List.map_congr_left fun i _ => ?_)
    simp only [Function.comp]
    omega
  unfold classHeads
  rw [hsplit, List.filterMap_append, List.find?_append, List.find?_eq_none.mpr ?_, List.filterMap_cons, hx]
  · simp [hp]
  · rintro ⟨i, y⟩ hmem
    obtain ⟨j, hj, hjy⟩ := List.mem_filterMap.mp hmem
    obtain ⟨z, hz, hzy⟩ := Option.map_eq_some_iff.mp hjy
    cases hzy
    simp [hlow i y (List.mem_range.mp hj) hz]

theorem find_classHeads_none {p : Nat × Desc → Bool} (h : ∀ i y, i < 8 → classHead d i = some y → p (i, y) = false) :
    (classHeads d).find? p = none := by
  refine List.find?_eq_none.mpr ?_
  rintro ⟨i, y⟩ hmem
  obtain ⟨hi, hy⟩ := mem_classHeads.mp hmem
  simp [h i y hi hy]

theorem dispatchClass_first {c : Nat} {x : Desc} (hc : c < 8) (hx : classHead d c = some x) (hlow : ∀ i, i < c → classHead d i = none)
    (hp : c = 0 ∨ ∀ i y, i < 8 → classHead d i = some y → y.passed < 256) : dispatchClass d = some c := by
  have hnone : ∀ i y, i < c → classHead d i = some y → False := fun i y hi hy => by
    rw [hlow i hi] at hy
    cases hy
  rw [dispatchClass_eq]
  by_cases h0 : c = 0
  · subst h0
    rw [find_classHeads (p := fun h => h.1 == 0) hc hx rfl fun i y hi hy => (hnone i y hi hy).elim]
  · have hfirst := find_classHeads (p := fun _ => true) hc hx rfl fun i y hi hy => (hnone i y hi hy).elim
    have hhead : (classHeads d).head? = some (c, x) := by
      rw [← hfirst]
      cases classHeads d <;> rfl
    rw [find_classHeads_none (p := fun h => h.1 == 0), find_classHeads_none (p := fun h => decide (256 ≤ h.2.passed)), hhead]
    · rfl
    · intro i y hi hy
      have := (hp.resolve_left h0) i y hi hy
      simpa using this
    · intro i y hi hy
      refine beq_false_of_ne fun h : i = 0 => ?_
      rw [h, hlow 0 (by omega)] at hy
      cases hy

theorem dispatchClass_passed {c : Nat} {y : Desc} (hc : c < 8) (h0 : classHead d 0 = none) (hy : classHead d c = some y)
    (hp : 256 ≤ y.passed) (hlow : ∀ i z, i < c → classHead d i = some z → z.passed < 256) : dispatchClass d = some c := by
  rw [dispatchClass_eq, find_classHeads_none (p := fun h => h.1 == 0), find_classHeads (p := fun h => decide (256 ≤ h.2.passed)) hc hy]
  · simpa using hp
  · intro i z hi hz
    simpa using hlow i z hi hz
  · intro i z hi hz
    refine beq_false_of_ne fun h : i = 0 => ?_
    rw [h, h0] at hz
    cases hz

end Class

/-! ## Engines and descriptors -/

section EnginesAndDescs

variable {e f : Nat} {d : Dev}

theorem eng_modEng_ne (g : Engine → Engine) (h : f ≠ e) : eng (modEng e g d) f = eng d f := by
  unfold eng modEng nth
  simp [List.getD_eq_getElem?_getD, Ne.symm h]

theorem eng_modEng_self (g : Engine → Engine) (h : e < d.eng.engines.length) : eng (modEng e g d) e = g (eng d e) := by
  unfold eng modEng nth
  simp [List.getD_eq_getElem?_getD, h]

/-- Only an engine of the list is in another state than LOADING. -/
theorem eng_inside (h : (eng d e).state ≠ .loading) : e < d.eng.engines.length := by
  by_contra hn
  refine h ?_
  rw [eng, nth, List.getD_eq_default _ _ (Nat.le_of_not_lt hn)]
  rfl

theorem inService_inside (h : inService (eng d e) = true) : e < d.eng.engines.length := by
  refine eng_inside fun hl => ?_
  rw [inService, hl] at h
  cases h

theorem desc_modDesc (i id : Nat) (g : Desc → Desc) (hg : ∀ x, (g x).id = x.id) (d : Dev) :
    desc (modDesc id g d) i = (desc d i).map (fun x => if x.id == id then g x else x) := by
  unfold desc modDesc
  rw [List.find?_map]
  congr 1
  refine List.find?_congr fun x _ => ?_
  simp only [Function.comp]
  split
  · rw [hg]
  · rfl

/-- The device with the other heads' counts of dispatches that passed them over. -/
theorem desc_id {i : Nat} {x : Desc} (h : desc d i = some x) : x.id = i := by
  have := List.find?_some h
  simpa using this

/-- b is a but for the pool's descriptors, whose classes stay. -/
def PoolWrite (a b : Dev) : Prop :=
  b = { a with eng.pool := b.eng.pool } ∧ ∀ i, (desc b i).map (fun y => y.cls) = (desc a i).map (fun y => y.cls)

theorem poolWrite_refl (a : Dev) : PoolWrite a a := ⟨rfl, fun _ => rfl⟩

theorem poolWrite_trans {a b c : Dev} (hab : PoolWrite a b) (hbc : PoolWrite b c) : PoolWrite a c := by
  obtain ⟨hb, hbd⟩ := hab
  obtain ⟨hc, hcd⟩ := hbc
  refine ⟨?_, fun i => (hcd i).trans (hbd i)⟩
  rw [hb] at hc
  exact hc

theorem poolWrite_modDesc (id : Nat) (g : Desc → Desc) (hid : ∀ x, (g x).id = x.id) (hcls : ∀ x, (g x).cls = x.cls) (d : Dev) :
    PoolWrite d (modDesc id g d) := by
  refine ⟨rfl, fun i => ?_⟩
  rw [desc_modDesc i id g hid, Option.map_map]
  congr 1
  funext x
  simp only [Function.comp]
  split
  · exact hcls x
  · rfl

theorem poolWrite_forEach {α : Type} (l : List α) (g : α → Dev → Dev) (h : ∀ x d, PoolWrite d (g x d)) (d : Dev) :
    PoolWrite d (forEach l g d) := by
  induction l generalizing d with
  | nil => exact poolWrite_refl d
  | cons x t ih => exact poolWrite_trans (h x d) (ih _)

theorem poolWrite_notePartner (x : Desc) (e : Nat) (d : Dev) : PoolWrite d (notePartner x e d) := by
  unfold notePartner
  split
  · exact poolWrite_modDesc _ _ (fun y => by split <;> rfl) (fun y => by split <;> rfl) d
  · exact poolWrite_refl d

end EnginesAndDescs

/-! ## Placement -/

section Placement

variable {x : Desc} {c e : Nat} {d : Dev}

/-- The device with the heads of the other classes passed over once more (R299). -/
def passedOver (c : Nat) (d : Dev) : Dev :=
  forEach (((List.range 8).filter (· != c)).filterMap (fun i => (nth d.eng.classes i []).head?))
    (fun id d => modDesc id (fun y => { y with passed := y.passed + 1 }) d) d

theorem passedOver_writes (c : Nat) (d : Dev) : PoolWrite d (passedOver c d) :=
  poolWrite_forEach _ _ (fun id d => poolWrite_modDesc id (fun y => { y with passed := y.passed + 1 }) (fun _ => rfl) (fun _ => rfl) d) d

/-- The job out of every class flume. -/
def offClasses (x : Desc) (d : Dev) : Dev := { d with eng.classes := d.eng.classes.map (fun l => l.filter (· != x.id)) }

theorem placeOn_eq (x : Desc) (c e : Nat) (d : Dev) :
    placeOn x c e d = notePartner x e (modEng e (fun y => { y with flume := insertJob (offClasses x (passedOver c d)) x y.flume })
      (offClasses x (passedOver c d))) := rfl

theorem placed_flumes (x : Desc) (c e : Nat) (d : Dev) :
    (placeOn x c e d).eng.classes = d.eng.classes.map (fun l => l.filter (· != x.id)) ∧
    (placeOn x c e d).eng.engines = d.eng.engines.modify e (fun y => { y with flume := insertJob (passedOver c d) x y.flume }) ∧
    placeOn x c e d = { d with eng := (placeOn x c e d).eng } := by
  rw [placeOn_eq, (poolWrite_notePartner x e _).1]
  have hp := (passedOver_writes c d).1
  generalize passedOver c d = b at hp
  have hins : insertJob (offClasses x b) x = insertJob b x := by
    funext l
    induction l with
    | nil => rfl
    | cons a t ih => simp only [insertJob, ih]; rfl
  rw [hins]
  refine ⟨?_, ?_, ?_⟩
  · rw [hp]
    rfl
  · rw [hp]
    rfl
  · rw [hp]
    rfl

theorem insertJob_behind {l : List Nat} (h : ∀ a ∈ l, ∃ y, desc d a = some y ∧ y.cls ≤ x.cls) : insertJob d x l = l ++ [x.id] := by
  induction l with
  | nil => rfl
  | cons a t ih =>
    obtain ⟨y, hy, hle⟩ := h a List.mem_cons_self
    have hn : ¬ x.cls < ((desc d a).map (fun y => y.cls)).getD 0 := by
      rw [hy]
      exact Nat.not_lt.mpr hle
    rw [insertJob, if_neg hn, ih fun b hb => h b (List.mem_cons_of_mem a hb)]
    rfl

theorem insertJob_before {l : List Nat} (h : ∀ a ∈ l, ∃ y, desc d a = some y ∧ x.cls < y.cls) : insertJob d x l = x.id :: l := by
  cases l with
  | nil => rfl
  | cons a t =>
    obtain ⟨y, hy, hlt⟩ := h a List.mem_cons_self
    exact if_pos (by rw [hy]; exact hlt)

theorem insertJob_congr {a b : Dev} (h : ∀ i, (desc b i).map (fun y => y.cls) = (desc a i).map (fun y => y.cls)) (l : List Nat) :
    insertJob b x l = insertJob a x l := by
  induction l with
  | nil => rfl
  | cons i t ih => rw [insertJob, insertJob, h i, ih]

theorem bestEngine_least (he : e ∈ candidates d x)
    (hleast : ∀ f ∈ candidates d x, engineLoad d e ≤ engineLoad d f ∧ (engineLoad d f ≤ engineLoad d e → e ≤ f)) :
    bestEngine d (candidates d x) = some e := by
  have hall : (candidates d x).all (fun f => decide (engineLoad d e ≤ engineLoad d f)) = true :=
    List.all_eq_true.mpr fun f hf => decide_eq_true (hleast f hf).1
  have hsorted : (candidates d x).Pairwise (· < ·) := List.Pairwise.filter _ List.pairwise_lt_range
  obtain ⟨f, hf⟩ : ∃ f, bestEngine d (candidates d x) = some f := by
    rw [← Option.isSome_iff_exists, bestEngine, List.find?_isSome]
    exact ⟨e, he, hall⟩
  obtain ⟨hfall, l1, l2, hl, hbefore⟩ := List.find?_eq_some_iff_append.mp hf
  have hfmem : f ∈ candidates d x := List.mem_of_find?_eq_some hf
  have hef : e ≤ f := (hleast f hfmem).2 (of_decide_eq_true (List.all_eq_true.mp hfall e he))
  have hfe : f ≤ e := by
    rw [hl] at he hsorted
    rcases List.mem_append.mp he with h1 | h2
    · have hb := hbefore e h1
      rw [hall] at hb
      cases hb
    · rcases List.mem_cons.mp h2 with rfl | h2
      · exact le_rfl
      · exact Nat.le_of_lt ((List.pairwise_cons.mp (List.pairwise_append.mp hsorted).2.1).1 e h2)
  rw [hf, Nat.le_antisymm hfe hef]

end Placement

/-! ## A dispatch -/

/-- JOB_DISPATCH (R299, R302). -/
def dispatchRun (d : Dev) : Dev :=
  match dispatchClass d with
  | none => d
  | some c =>
    match (nth d.eng.classes c []).head?.bind (desc d) with
    | none => d
    | some x =>
      if awake d && (!pairWaits d x || 2 ≤ (candidates d x).length) then
        match bestEngine d (candidates d x) with
        | some e => placeOn x c e d
        | none => d
      else d

theorem exec_jobDispatch (s : State) : exec .jobDispatch s = runDev s dispatchRun := rfl

section Dispatch

variable {d : Dev} {c e : Nat} {x : Desc}

theorem dispatchRun_head (hc : dispatchClass d = some c) (hx : classHead d c = some x) :
    dispatchRun d = if awake d && (!pairWaits d x || 2 ≤ (candidates d x).length) then
      (match bestEngine d (candidates d x) with
        | some e => placeOn x c e d
        | none => d) else d := by
  unfold classHead at hx
  simp only [dispatchRun, hc, hx]

theorem dispatchRun_places (ha : awake d = true) (hc : dispatchClass d = some c) (hx : classHead d c = some x)
    (hpair : pairWaits d x = false ∨ 2 ≤ (candidates d x).length) (he : bestEngine d (candidates d x) = some e) :
    dispatchRun d = placeOn x c e d := by
  rw [dispatchRun_head hc hx, if_pos (by rcases hpair with h | h <;> simp [ha, h]), he]

theorem dispatchRun_idle (h : awake d = false ∨ dispatchClass d = none ∨ ∃ c x, dispatchClass d = some c ∧ classHead d c = some x ∧
    (candidates d x = [] ∨ (pairWaits d x = true ∧ (candidates d x).length < 2))) : dispatchRun d = d := by
  rcases h with h | h | ⟨c, x, hc, hx, h⟩
  · unfold dispatchRun
    simp only [h]
    split
    · rfl
    · split <;> rfl
  · rw [dispatchRun, h]
  · rw [dispatchRun_head hc hx]
    rcases h with h | ⟨hpair, hlen⟩
    · rw [h]
      split <;> rfl
    · exact if_neg (by simp [hpair, hlen])

end Dispatch

theorem engine_of_beside {a t : Dev} (h : Beside a t) (e : Nat) : Machine.eng t e = Machine.eng a e := by
  unfold Machine.eng
  rw [eng_of_beside h]

theorem desc_of_beside {a t : Dev} (h : Beside a t) (i : Nat) : desc t i = desc a i := by
  unfold desc
  rw [eng_of_beside h]

theorem candidate_inside {d : Dev} {x : Desc} {e : Nat} (h : e ∈ candidates d x) : e < d.eng.engines.length := by
  refine eng_inside fun hl => ?_
  have := (List.mem_filter.mp h).2
  rw [hl] at this
  simp at this

theorem answers_dispatched {s : State} {c e : Nat} {x : Desc} (hc : Calm s.toDev) (hrun : dispatchRun s.toDev = placeOn x c e s.toDev)
    (he : e < s.eng.engines.length) : Answers .jobDispatch s (fun t => Beside (placeOn x c e s.toDev) t ∧
        t.eng.classes = s.eng.classes.map (fun l => l.filter (· != x.id)) ∧
        ((∀ a ∈ (eng s.toDev e).flume, ∃ y, desc s.toDev a = some y ∧ y.cls ≤ x.cls) →
          (eng t e).flume = (eng s.toDev e).flume ++ [x.id]) ∧
        ((∀ a ∈ (eng s.toDev e).flume, ∃ y, desc s.toDev a = some y ∧ x.cls < y.cls) →
          (eng t e).flume = x.id :: (eng s.toDev e).flume) ∧
        (∀ f, f ≠ e → eng t f = eng s.toDev f)) := by
  obtain ⟨hclasses, hengines, hrest⟩ := placed_flumes x c e s.toDev
  have hcalm : Calm (placeOn x c e s.toDev) := by
    rw [hrest]
    exact hc
  refine answers_mono (answers_beside (exec_jobDispatch s) hrun hcalm (by rw [hrest]; exact id)) fun t hb => ?_
  have heng : ∀ f, eng t f = eng (modEng e (fun y => { y with flume := insertJob (passedOver c s.toDev) x y.flume }) s.toDev) f := fun f => by
    rw [engine_of_beside hb, eng, hengines]
    rfl
  have hins := insertJob_congr (x := x) (passedOver_writes c s.toDev).2
  have hown : (eng t e).flume = insertJob s.toDev x (eng s.toDev e).flume := by
    rw [heng e, eng_modEng_self _ he, ← hins]
  refine ⟨hb, ?_, fun h => ?_, fun h => ?_, fun f hf => ?_⟩
  · rw [eng_of_beside hb]
    exact hclasses
  · rw [hown, insertJob_behind h]
  · rw [hown, insertJob_before h]
  · rw [heng f, eng_modEng_ne _ hf]

/-! ## A start -/

/-- The words that hold a descriptor. -/
def descWords (x : Desc) : List Nat := (List.range 4).map (fun i => 4 * x.id + i)

/-- The job off the flume of its engine. -/
def offFlume (e : Nat) (x : Desc) (d : Dev) : Dev := modEng e (fun y => { y with flume := y.flume.filter (· != x.id) }) d

/-- The descriptor as it was read, damaged or not (R292). -/
def readDesc (x : Desc) (damage : BitVec 256) : Desc := if damage = 0 then x else descOfImage (descImage x ^^^ damage) x

/-- JOB_START (R286, R292, R293). -/
def startRun (e : Nat) (damage : BitVec 256) (d : Dev) : Dev :=
  if !awake d || !inService (eng d e) || (eng d e).running.isSome then d
  else match (eng d e).flume.head?.bind (desc d) with
    | none => d
    | some x =>
      let d1 := sramRead 2 (descWords x) (offFlume e x d)
      if (descWords x).any (sramFailed d 2) || (damage != 0 && !imageGood (descImage x ^^^ damage)) then
        afterJob (raise 85 (crcLost x { d1 with eng.descCrc := satInc 255 d1.eng.descCrc }))
      else if (readDesc x damage).gen != currentGen d (readDesc x damage).kernel then afterJob (freeDesc x.id d1)
      else runDesc e (readDesc x damage) (modDesc x.id (fun _ => readDesc x damage) d1)

theorem exec_jobStart (e : Fin 16) (damage : BitVec 256) (s : State) : exec (.jobStart e damage) s = runDev s (startRun e damage) := rfl

section Start

variable {d : Dev} {e : Nat} {x : Desc} {damage : BitVec 256}

theorem startRun_idle (h : awake d = false ∨ inService (eng d e) = false ∨ (eng d e).running ≠ none ∨
    (eng d e).flume.head?.bind (desc d) = none) : startRun e damage d = d := by
  unfold startRun
  rcases h with h | h | h | h
  · exact if_pos (by simp [h])
  · exact if_pos (by simp [h])
  · exact if_pos (by simp [Option.isSome_iff_ne_none, h])
  · rw [h]
    split <;> rfl

/-- Where no memory word is bad, the descriptor is judged by its damage alone (R292, R480). -/
theorem startRun_reads (ha : awake d = true) (hs : inService (eng d e) = true) (hr : (eng d e).running = none)
    (hx : (eng d e).flume.head?.bind (desc d) = some x) (hbad : d.fault.sramBad = []) :
    startRun e damage d =
      if damage != 0 && !imageGood (descImage x ^^^ damage) then
        afterJob (raise 85 (crcLost x { offFlume e x d with eng.descCrc := satInc 255 d.eng.descCrc }))
      else if (readDesc x damage).gen != currentGen d (readDesc x damage).kernel then afterJob (freeDesc x.id (offFlume e x d))
      else runDesc e (readDesc x damage) (modDesc x.id (fun _ => readDesc x damage) (offFlume e x d)) := by
  have hread : ∀ keys, sramRead 2 keys (offFlume e x d) = offFlume e x d := fun keys =>
    if_pos (show d.fault.sramBad.isEmpty = true by rw [hbad]; rfl)
  have hfail : ∀ keys : List Nat, keys.any (sramFailed d 2) = false := fun keys => by
    refine List.any_eq_false.mpr fun k _ => ?_
    rw [sramFailed, hbad]
    simp [akey]
  unfold startRun
  rw [if_neg (by simp [ha, hs, hr]), hx]
  dsimp only
  rw [hread, hfail, Bool.false_or]
  rfl

theorem descOfImage_id (b : BitVec 256) (x : Desc) : (descOfImage b x).id = x.id := rfl

theorem readDesc_id : (readDesc x damage).id = x.id := by
  unfold readDesc
  generalize descImage x ^^^ damage = b
  split
  · rfl
  · exact descOfImage_id b x

theorem serveWindows_noPlan (h : d.eis.plan = none) : serveWindows d = d := by rw [serveWindows, h]

theorem drainOut_none (h : ∀ f, f < 16 → (eng d f).state ≠ .draining) : drainOut d = d := by
  refine forEach_id _ _ _ fun f hf => if_neg ?_
  have := h f (List.mem_range.mp hf)
  simp [this]

/-- With no plan and no engine DRAINING a job's end is all (R287, R298). -/
theorem afterJob_idle (hp : d.eis.plan = none) (h : ∀ f, f < 16 → (eng d f).state ≠ .draining) : afterJob d = d := by
  rw [afterJob, drainOut_none h, serveWindows_noPlan hp]

theorem state_modEng {g : Engine → Engine} (hg : ∀ y, (g y).state = y.state) (f : Nat) : (eng (modEng e g d) f).state = (eng d f).state := by
  by_cases hf : f = e
  · subst hf
    by_cases hlt : f < d.eng.engines.length
    · rw [eng_modEng_self g hlt, hg]
    · have hout : ∀ a : Dev, a.eng.engines.length = d.eng.engines.length → eng a f = Engine.reset := fun a ha =>
        List.getD_eq_default _ _ (by rw [ha]; exact Nat.le_of_not_lt hlt)
      rw [hout d rfl, hout _ (by simp [modEng])]
  · rw [eng_modEng_ne g hf]

theorem state_offFlume (f : Nat) : (eng (offFlume e x d) f).state = (eng d f).state :=
  state_modEng (g := fun y => { y with flume := y.flume.filter (· != x.id) }) (fun _ => rfl) f

theorem state_freeDesc (id f : Nat) : (eng (freeDesc id d) f).state = (eng d f).state := by
  unfold eng freeDesc nth
  simp only [List.getD_eq_getElem?_getD, List.getElem?_map]
  cases d.eng.engines[f]? <;> rfl

theorem runDesc_engines (y : Desc) (d : Dev) (f : Nat) :
    eng (runDesc e y d) f = eng (modEng e (fun z => { z with running := some y.id, startAt := d.now, countAt := d.now }) d) f := by
  unfold runDesc
  dsimp only
  generalize hb : modClass y.cls _ _ = b
  have heng : b.eng.engines = (modEng e (fun z => { z with running := some y.id, startAt := d.now, countAt := d.now }) d).eng.engines := by
    rw [← hb]
    rfl
  unfold eng
  rw [(poolWrite_notePartner y e b).1, ← heng]

theorem runDesc_kept (y : Desc) (d : Dev) : runDesc e y d = { d with eng := (runDesc e y d).eng } := by
  unfold runDesc
  dsimp only
  rw [(poolWrite_notePartner y e _).1]
  rfl

/-- A lost descriptor other than an arbiter's leaves the engines' states and the plan (R292). -/
theorem crcLost_kept (h : x.role ≠ 3) (d : Dev) :
    crcLost x d = { d with eng := (crcLost x d).eng, eis := (crcLost x d).eis } ∧ (crcLost x d).eis.plan = d.eis.plan ∧
      ∀ f, (eng (crcLost x d) f).state = (eng d f).state := by
  have hlost : ∀ f, (eng (freeDesc x.id (loseRecords x d)) f).state = (eng d f).state := fun f => state_freeDesc (d := loseRecords x d) _ _
  unfold crcLost
  rw [if_neg h]
  dsimp only
  split
  · exact ⟨rfl, rfl, hlost⟩
  · exact ⟨rfl, rfl, hlost⟩

end Start

section Starts

variable {s : State} {e : Fin 16} {x : Desc} {damage : BitVec 256}

theorem answers_runs (hc : Calm s.toDev) (he : (e : Nat) < s.eng.engines.length)
    (hrun : startRun e damage s.toDev = runDesc e (readDesc x damage) (modDesc x.id (fun _ => readDesc x damage) (offFlume e x s.toDev))) :
    Answers (.jobStart e damage) s (fun t =>
        Beside (runDesc e (readDesc x damage) (modDesc x.id (fun _ => readDesc x damage) (offFlume e x s.toDev))) t ∧
        (eng t e).running = some x.id ∧ (eng t e).startAt = s.now ∧
        (eng t e).flume = (eng s.toDev e).flume.filter (· != x.id)) := by
  have hid : (readDesc x damage).id = x.id := readDesc_id
  generalize readDesc x damage = y at hrun hid ⊢
  have hkept := runDesc_kept (e := e) y (modDesc x.id (fun _ => y) (offFlume e x s.toDev))
  have hengines := runDesc_engines (e := e) y (modDesc x.id (fun _ => y) (offFlume e x s.toDev)) e
  have hcalm : Calm (runDesc e y (modDesc x.id (fun _ => y) (offFlume e x s.toDev))) := by
    rw [hkept]
    exact hc
  refine answers_mono (answers_beside (exec_jobStart e damage s) hrun hcalm (by rw [hkept]; exact id)) fun t hb => ⟨hb, ?_⟩
  rw [engine_of_beside hb, hengines, eng_modEng_self _ (by simpa [modDesc, offFlume, modEng] using he)]
  refine ⟨congrArg some hid, rfl, ?_⟩
  show (eng (offFlume e x s.toDev) e).flume = _
  rw [offFlume, eng_modEng_self _ he]

theorem answers_stale (hc : Calm s.toDev) (hp : s.eis.plan = none) (hd : ∀ f, f < 16 → (eng s.toDev f).state ≠ .draining)
    (hrun : startRun e damage s.toDev = afterJob (freeDesc x.id (offFlume e x s.toDev))) :
    Answers (.jobStart e damage) s (Beside (freeDesc x.id (offFlume e x s.toDev))) := by
  have hidle : afterJob (freeDesc x.id (offFlume e x s.toDev)) = freeDesc x.id (offFlume e x s.toDev) :=
    afterJob_idle hp fun f hf => by
      rw [state_freeDesc, state_offFlume]
      exact hd f hf
  exact answers_beside (exec_jobStart e damage s) (hrun.trans hidle) hc id

theorem answers_crcLost (hc : Calm s.toDev) (hp : s.eis.plan = none) (hd : ∀ f, f < 16 → (eng s.toDev f).state ≠ .draining)
    (hr : x.role ≠ 3) (hpl : Plain s.toDev 85)
    (hrun : startRun e damage s.toDev =
      afterJob (raise 85 (crcLost x { offFlume e x s.toDev with eng.descCrc := satInc 255 s.eng.descCrc }))) :
    Answers (.jobStart e damage) s (Noted 85 (crcLost x { offFlume e x s.toDev with eng.descCrc := satInc 255 s.eng.descCrc })) := by
  obtain ⟨hkept, hplan, hstate⟩ := crcLost_kept hr { offFlume e x s.toDev with eng.descCrc := satInc 255 s.eng.descCrc }
  have hstate' : ∀ f, (eng (crcLost x { offFlume e x s.toDev with eng.descCrc := satInc 255 s.eng.descCrc }) f).state = (eng s.toDev f).state :=
    fun f => (hstate f).trans (state_offFlume f)
  generalize crcLost x { offFlume e x s.toDev with eng.descCrc := satInc 255 s.eng.descCrc } = a at hkept hplan hstate' hrun ⊢
  have hplain : Plain a 85 := by
    rw [hkept]
    exact hpl
  have hcalm : Calm a := by
    rw [hkept]
    exact hc
  obtain ⟨-, -, -, hocc⟩ := occurred_raise 85 hplain
  have hidle : afterJob (raise 85 a) = raise 85 a := by
    refine afterJob_idle ?_ fun f hf => ?_
    · rw [hocc]
      exact hplan.trans hp
    · rw [eng, hocc]
      exact fun h => hd f hf ((hstate' f).symm.trans h)
  exact answers_noted reactFull 0xFFFF [] false (exec_jobStart e damage s) (hrun.trans hidle) hcalm hplain (by rw [hkept]; exact id)

end Starts

/-- Settles O35: the class, the engine and the place are what the lists' order gives; a start follows its check. -/
theorem jobsAreDispatchedAndStarted : Obligations.JobsAreDispatchedAndStarted := by
  intro s hc head
  refine ⟨fun c x hc8 hx hlow hp => dispatchClass_first hc8 hx hlow hp, fun c y hc8 h0 hy hp hlow => dispatchClass_passed hc8 h0 hy hp hlow,
    fun c x e ha hcl hx hpair he hleast => ?_, fun h => ?_, fun e x damage ha hs hr hx hbad => ?_, fun e damage h => ?_⟩
  · exact answers_dispatched hc (dispatchRun_places ha hcl hx hpair (bestEngine_least he hleast)) (candidate_inside he)
  · exact answers_same (exec_jobDispatch s) hc (dispatchRun_idle h)
  · intro d1 y good
    have hrun := startRun_reads (e := e) (damage := damage) ha hs hr hx hbad
    have hjudge : (damage != 0 && !imageGood (descImage x ^^^ damage)) = true ↔ ¬ good := by
      by_cases h0 : damage = 0 <;> simp [good, h0]
    refine ⟨fun hg hgen => ?_, fun hg hgen hp hd => ?_, fun hg hp hd hrole hpl => ?_⟩
    · rw [if_neg (mt hjudge.mp (not_not_intro hg)), if_neg] at hrun
      · exact answers_runs hc (inService_inside hs) hrun
      · have hgen' : (readDesc x damage).gen = currentGen s.toDev (readDesc x damage).kernel := hgen
        simpa using hgen'
    · rw [if_neg (mt hjudge.mp (not_not_intro hg)), if_pos] at hrun
      · exact answers_stale hc hp hd hrun
      · have hgen' : (readDesc x damage).gen ≠ currentGen s.toDev (readDesc x damage).kernel := hgen
        simpa using hgen'
    · rw [if_pos (hjudge.mpr hg)] at hrun
      exact answers_crcLost hc hp hd hrole hpl hrun
  · exact answers_same (exec_jobStart e damage s) hc (startRun_idle h)

end Sys2Proof.Proofs
end

section
/-! PROOF. What faults and their reactions leave as it was where no source forces the safe state (15_faults_and_sluices.md R481 to
R487, 10_engines_and_flumes.md R295 to R309). -/

namespace Sys2Proof.Proofs

open Sys2Proof Sys2Proof.Machine Sys2Proof.Safety Sys2Proof.Laws

/-- No source is set to SAFE_STATE. -/
abbrev NoSafe (d : Dev) : Prop := ∀ k, k < 128 → escReaction d k ≠ 5

/-- A device without what faults and their reactions may change. -/
def core (d : Dev) : Dev :=
  { d with
    free := 0, clk := Clocks.reset, tb := Timebase.reset, banks := [], eis := Eis.reset, eng := Eng.reset, link := Link.reset
    ring := Ring.reset, head := Head.reset
    bal := { d.bal with exciteOn := 0 }
    host := { d.host with evf := 0, evt := [], evtRecs := [], evtRseq := 0, evtDrop := 0 }
    fault := { d.fault with esc := [], fencedCh := 0, fencedEng := 0, fencedPort := 0, fencedBank := 0, msgDrop := 0, latch := false
                            stretch := false, sramBad := [] }
    bist := { d.bist with kinds := [], slice := none, spare := none, withdrawn := none, failHold := none }
    aux := { d.aux with dacUser := .unused, dacSettled := false }
    cmp := { d.cmp with check := none, checkStep := 0 } }

/-- b is a but for what faults and their reactions may change: event flags are only set, and with no slice in progress the results
of self-test stay. -/
structure Kept (a b : Dev) : Prop where
  core : core b = core a
  evf : ∀ i, mbit a.host.evf i = true → mbit b.host.evf i = true
  slice : a.bist.slice = none → b.bist.slice = none ∧ b.bist.kinds = a.bist.kinds

/-- Where no source of a is set to SAFE_STATE, b is a but for what faults and their reactions may change. -/
def Mild (a b : Dev) : Prop := NoSafe a → Kept a b

/-- What keeps a block calm: the power registers, the commands, the captures, who may wait for the test DAC, with the items, the
part and the start-up checks. -/
structure Heart where
  power : Power
  cmd : Cmd
  caps : List Capture
  toVerify : List (Nat × Rat)
  gapWait : Bool
  running : Bool
  target : Nat
  waiting : Option (Nat × Nat × Nat)
  cfg : List (Nat × Int)
  part : Part
  startup : Bool
  critical : Bool

/-- The heart of a device. -/
def heart (d : Dev) : Heart :=
  ⟨d.power, d.cmd, d.conv.caps, d.aux.toVerify, d.aux.gapWait, d.aux.running, d.aux.target, d.bist.waiting, d.cfg, d.part,
    d.fault.startup, d.fault.critical⟩

/-- Where no source of a is set to SAFE_STATE, b has the heart of a. -/
def Soft (a b : Dev) : Prop := NoSafe a → heart b = heart a

/-- A flag set stays set where another is. -/
theorem mbit_mset_true {w i k : Nat} {m : BitVec w} (h : mbit m i = true) : mbit (mset m k true) i = true := by
  by_cases hik : i = k
  · subst hik
    by_cases hw : i < w
    · exact mbit_mset_self _ hw
    · rw [mbit, BitVec.getLsbD_of_ge _ _ (Nat.le_of_not_lt hw)] at h
      cases h
  · rw [mbit_mset_ne _ _ hik]
    exact h

section Heart

variable {a b c d : Dev}

theorem heart_of_core (h : core b = core a) : heart b = heart a := by
  have hcore : ∀ x, heart x = heart (core x) := fun _ => rfl
  rw [hcore b, hcore a, h]

theorem power_of_heart (h : heart b = heart a) : b.power = a.power := congrArg Heart.power h

theorem cfg_part_of_heart (h : heart b = heart a) : b.cfg = a.cfg ∧ b.part = a.part :=
  ⟨congrArg Heart.cfg h, congrArg Heart.part h⟩

theorem calm_of_heart (h : heart b = heart a) (hc : Calm a) : Calm b := by
  have hcmd : b.cmd = a.cmd := congrArg Heart.cmd h
  have hcaps : b.conv.caps = a.conv.caps := congrArg Heart.caps h
  have hv : b.aux.toVerify = a.aux.toVerify := congrArg Heart.toVerify h
  have hg : b.aux.gapWait = a.aux.gapWait := congrArg Heart.gapWait h
  have hr : b.aux.running = a.aux.running := congrArg Heart.running h
  have ht : b.aux.target = a.aux.target := congrArg Heart.target h
  have hw : b.bist.waiting = a.bist.waiting := congrArg Heart.waiting h
  unfold Calm Unarmed DacIdle at *
  rw [hcmd, hcaps, hv, hg, hr, ht, hw]
  exact hc

theorem escReaction_of_heart (h : heart b = heart a) (k : Nat) : escReaction b k = escReaction a k := by
  obtain ⟨hcfg, hpart⟩ := cfg_part_of_heart h
  rw [escReaction, escReaction, itemN, itemN, item, item, hcfg, hpart]

theorem noSafe_of_heart (h : heart b = heart a) (hn : NoSafe a) : NoSafe b := fun k hk => by
  rw [escReaction_of_heart h]
  exact hn k hk

theorem kept_refl (a : Dev) : Kept a a := ⟨rfl, fun _ => id, fun h => ⟨h, rfl⟩⟩

theorem kept_trans (hab : Kept a b) (hbc : Kept b c) : Kept a c :=
  ⟨hbc.core.trans hab.core, fun i hi => hbc.evf i (hab.evf i hi), fun h =>
    have hb := hab.slice h
    have hc := hbc.slice hb.1
    ⟨hc.1, hc.2.trans hb.2⟩⟩

/-- A change of what faults may change, but not of event flags, nor of a slice or its results. -/
theorem mild_same (h : core b = core a) (he : b.host.evf = a.host.evf := by rfl) (hs : b.bist.slice = a.bist.slice := by rfl)
    (hk : b.bist.kinds = a.bist.kinds := by rfl) : Mild a b := fun _ =>
  ⟨h, fun i hi => by rw [he]; exact hi, fun hn => ⟨hs.trans hn, hk⟩⟩

theorem mild_refl (a : Dev) : Mild a a := fun _ => kept_refl a

theorem mild_trans (hab : Mild a b) (hbc : Mild b c) : Mild a c := fun hn =>
  kept_trans (hab hn) (hbc (noSafe_of_heart (heart_of_core (hab hn).core) hn))

/-- The last step first, so that what is between is found from it. -/
theorem mild_after (hbc : Mild b c) (hab : Mild a b) : Mild a c := mild_trans hab hbc

theorem mild_forEach {α : Type} (l : List α) (f : α → Dev → Dev) (h : ∀ x ∈ l, ∀ d, Mild d (f x d)) (d : Dev) : Mild d (forEach l f d) := by
  induction l generalizing d with
  | nil => exact mild_refl d
  | cons x t ih => exact mild_trans (h x List.mem_cons_self d) (ih (fun y hy => h y (List.mem_cons_of_mem x hy)) _)

theorem soft_of_mild (h : Mild a b) : Soft a b := fun hn => heart_of_core (h hn).core

theorem soft_of_heart (h : heart b = heart a) : Soft a b := fun _ => h

theorem soft_refl (a : Dev) : Soft a a := fun _ => rfl

theorem soft_trans (hab : Soft a b) (hbc : Soft b c) : Soft a c := fun hn => (hbc (noSafe_of_heart (hab hn) hn)).trans (hab hn)

/-- The last step first, so that what is between is found from it. -/
theorem soft_after (hbc : Soft b c) (hab : Soft a b) : Soft a c := soft_trans hab hbc

theorem soft_forEach {α : Type} (l : List α) (f : α → Dev → Dev) (h : ∀ x ∈ l, ∀ d, Soft d (f x d)) (d : Dev) : Soft d (forEach l f d) := by
  induction l generalizing d with
  | nil => exact soft_refl d
  | cons x t ih => exact soft_trans (h x List.mem_cons_self d) (ih (fun y hy => h y (List.mem_cons_of_mem x hy)) _)

/-- A command whose own function is soft answers with it, but for what follows from the state. -/
theorem answers_soft {s : State} {i : Instr} {f : Dev → Dev} {a : Dev} (hi : exec i s = runDev s f) (hf : f s.toDev = a)
    (hc : Calm s.toDev) (hn : NoSafe s.toDev) (hm : Soft s.toDev a) : Answers i s (Beside a) :=
  answers_beside hi hf (calm_of_heart (hm hn) hc) (by rw [power_of_heart (hm hn)]; exact id)

end Heart

/-! ## Occurrences -/

section Events

variable {d : Dev} {k : Nat}

theorem mild_noteEvent (k : Nat) (d : Dev) : Mild d (noteEvent k d) := by
  have hrec : ∀ kind source body x, Mild x (evtRecord kind source body x) := fun kind source body x => by
    unfold evtRecord
    dsimp only
    split <;> exact mild_same rfl
  have hflag : Mild d { d with host.evf := mset d.host.evf k true } := fun _ =>
    ⟨rfl, fun i hi => mbit_mset_true hi, fun h => ⟨h, rfl⟩⟩
  unfold noteEvent
  split
  · exact mild_refl d
  · dsimp only
    split
    · exact mild_after (hrec _ _ _ _) hflag
    · exact hflag

theorem mild_becomeSevere {react : React} (h : ∀ r d, r ≠ 5 → Mild d (react r k tg forced d)) (hk : k < 128) (unit : Nat) (d : Dev) :
    Mild d (becomeSevere react k unit tg forced d) := by
  intro hn
  have hsev : Kept d (triggerStretch (modEsc k (fun e => { e with state := 2, count := escCount d k, unit := unit, pulse := true }) d)) :=
    mild_same rfl rfl rfl rfl hn
  unfold becomeSevere
  dsimp only
  generalize triggerStretch (modEsc k (fun e => { e with state := 2, count := escCount d k, unit := unit, pulse := true }) d) = e at hsev ⊢
  split
  · exact hsev
  · exact kept_trans hsev (h _ e (hn k hk) (noSafe_of_heart (heart_of_core hsev.core) hn))

theorem mild_occurWith {react : React} (h : ∀ r d, r ≠ 5 → Mild d (react r k tg forced d)) (hk : k < 128) (unit : Nat) (d : Dev) :
    Mild d (occurWith react k unit tg forced d) := by
  have hnote := mild_noteEvent k d
  have hmod : ∀ f : Esc → Esc, Mild d (modEsc k f (noteEvent k d)) := fun f => mild_trans hnote (mild_same rfl)
  unfold occurWith
  dsimp only
  split
  · exact mild_refl d
  · split
    · exact hmod _
    · split
      · exact hnote
      · split
        · exact hmod _
        · split
          · exact mild_trans hnote (mild_becomeSevere h hk unit _)
          · exact hmod _

theorem mild_raiseNS (hk : k < 128) (unit : Nat) (d : Dev) : Mild d (raiseNS k unit d) :=
  mild_occurWith (fun _ _ hr => by rw [reactSafe, if_neg hr]; exact mild_refl _) hk unit d

theorem mild_qmsg (src kind addr : Nat) (d : Dev) : Mild d (qmsg src kind addr d) := by
  unfold qmsg
  split <;> exact mild_same rfl

theorem mild_sramReadWord (w : Nat) (d : Dev) : Mild d (sramReadWord w d) := by
  unfold sramReadWord
  split
  · exact mild_after (mild_raiseNS (by decide) w _) (mild_same rfl)
  · exact mild_raiseNS (by decide) w d
  · exact mild_refl d

theorem mild_sramRead (kind : Nat) (keys : List Nat) (d : Dev) : Mild d (sramRead kind keys d) := by
  unfold sramRead
  split
  · exact mild_refl d
  · exact mild_forEach _ _ (fun w _ => mild_sramReadWord w) d

end Events

/-! ## The array -/

section Array

variable {d : Dev}

theorem mild_noteQuorum (d : Dev) : Mild d (noteQuorum d) := by
  unfold noteQuorum
  split
  · split
    · exact mild_refl d
    · exact mild_after (mild_raiseNS (by decide) _ _) (mild_same rfl)
  · exact mild_same rfl

theorem mild_startGens (d : Dev) : Mild d (startGens d) := by
  unfold startGens
  refine mild_forEach _ _ (fun _ _ _ => ?_) d
  dsimp only
  split
  · exact mild_same rfl
  · exact mild_refl _

theorem mild_setEngState (e : Nat) (st : EngState) (d : Dev) : Mild d (setEngState e st d) := by
  unfold setEngState
  refine mild_after (mild_noteQuorum _) (mild_after (mild_startGens _) ?_)
  split <;> exact mild_same rfl

theorem mild_drainOut (d : Dev) : Mild d (drainOut d) := by
  unfold drainOut
  refine mild_forEach _ _ (fun e _ d => ?_) d
  dsimp only
  split
  · exact mild_setEngState e .out d
  · exact mild_refl d

theorem mild_unresolved (d : Dev) : Mild d (unresolved d) :=
  mild_after (mild_raiseNS (by decide) _ _) (mild_same rfl)

theorem mild_freeDesc (id : Nat) (d : Dev) : Mild d (freeDesc id d) := mild_same rfl

theorem mild_dropTwin (x : Desc) (d : Dev) : Mild d (dropTwin x d) := by
  unfold dropTwin
  dsimp only
  refine mild_after (mild_freeDesc _ _) (mild_after (mild_forEach _ _ (fun id _ d => ?_) _) ?_)
  · split
    · exact mild_refl d
    · exact mild_freeDesc id d
  · split
    · exact mild_refl d
    · exact mild_unresolved d

theorem mild_abandonJob (e : Nat) (again : Bool) (d : Dev) : Mild d (abandonJob e again d) := by
  unfold abandonJob
  split
  · exact mild_refl d
  · dsimp only
    split
    · exact mild_same rfl
    · split
      · exact mild_same rfl
      · exact mild_after (mild_dropTwin _ _) (mild_same rfl)

theorem mild_openOne (g : Gate) (d : Dev) : Mild d (openOne g d) := mild_same rfl

theorem mild_openGate (g : Gate) (d : Dev) : Mild d (openGate g d).1 := by
  unfold openGate
  split
  · exact mild_refl d
  · exact mild_forEach _ _ (fun g _ => mild_openOne g) d

theorem mild_askOpen (g : Gate) (d : Dev) : Mild d (askOpen g d) := by
  unfold askOpen
  split
  · exact mild_openGate g d
  · exact mild_same rfl

theorem mild_closeOne (g : Gate) (d : Dev) : Mild d (closeOne g d) := by
  unfold closeOne
  split
  · exact mild_refl d
  · exact mild_same rfl

theorem mild_gateOffEngine (e : Nat) (d : Dev) : Mild d (gateOffEngine e d) := mild_after (mild_closeOne _ _) (mild_closeOne _ _)

theorem mild_gateOnEngine (e : Nat) (d : Dev) : Mild d (gateOnEngine e d) := mild_after (mild_askOpen _ _) (mild_askOpen _ _)

theorem mild_fenceEngine (e : Nat) (d : Dev) : Mild d (fenceEngine e d) := by
  unfold fenceEngine
  exact mild_after (mild_gateOffEngine _ _) (mild_after (mild_setEngState _ _ _) (mild_after (mild_abandonJob _ _ _) (mild_same rfl)))

theorem mild_unfenceEngine (e : Nat) (d : Dev) : Mild d (unfenceEngine e d) := by
  unfold unfenceEngine
  exact mild_after (mild_gateOnEngine _ _) (mild_after (mild_setEngState _ _ _) (mild_same rfl))

theorem mild_refuseJob (cls : Nat) (d : Dev) : Mild d (refuseJob cls d) := by
  unfold refuseJob
  split
  · exact mild_after (mild_raiseNS (by decide) _ _) (mild_same rfl)
  · exact mild_after (mild_raiseNS (by decide) _ _) (mild_same rfl)

theorem mild_placeJob (t : Desc) (d : Dev) : Mild d (placeJob t d).1 := by
  have hfree : ∀ a, Mild a (noteFree a) := fun _ => mild_same rfl
  have hclass : ∀ c f a, Mild a (modClass c f a) := fun _ _ _ => mild_same rfl
  have hpush : ∀ c id a, Mild a (pushClass c id a) := fun _ _ _ => mild_same rfl
  have hsram : ∀ keys a, Mild a (sramWritten 2 keys a) := fun _ _ => mild_same rfl
  have hpool : ∀ l, Mild d { d with eng.pool := l } := fun _ => mild_same rfl
  unfold placeJob
  dsimp only
  exact mild_after (hfree _) (mild_after (hclass _ _ _) (mild_after (hpush _ _ _) (mild_after (hsram _ _) (hpool _))))

theorem mild_createJob (t : Desc) (d : Dev) : Mild d (createJob t d).1 := by
  unfold createJob
  split
  · exact mild_placeJob t d
  · exact mild_refuseJob t.cls d

end Array

/-! ## Slices, plans and ports -/

section Units

/-- A slice that ends, its unit given back but for an engine's state (R203, R505). -/
theorem mild_sliceEnds (d : Dev) (w h : Option Nat) : Mild d { d with
    bist.slice := none, bist.spare := none, bist.withdrawn := w, bist.failHold := h
    aux.dacUser := if d.aux.dacUser == .selftest then .unused else d.aux.dacUser
    aux.dacSettled := d.aux.dacSettled && d.aux.dacUser != .selftest } := fun _ =>
  ⟨rfl, fun _ => id, fun _ => ⟨rfl, rfl⟩⟩

theorem mild_returnUnit (kind unit : Nat) (failed : Bool) (d : Dev) : Mild d (returnUnit kind unit failed d) := by
  unfold returnUnit
  dsimp only
  split
  · split
    · exact mild_sliceEnds d none (some unit)
    · split
      · exact mild_sliceEnds d none d.bist.failHold
      · exact mild_after (mild_setEngState _ _ _) (mild_sliceEnds d none d.bist.failHold)
  · split
    · exact mild_trans (mild_sliceEnds d d.bist.withdrawn d.bist.failHold) (mild_same rfl)
    · exact mild_sliceEnds d d.bist.withdrawn d.bist.failHold

theorem mild_cutSlice (d : Dev) : Mild d (cutSlice d) := by
  intro hn
  unfold cutSlice
  split
  · exact kept_refl d
  · rename_i x hx
    have hkind : core (modKind x.1 (fun k => { k with last := 3, unit := sliceUnit x.1 x.2, incomplete := satInc 65535 k.incomplete }) d) =
      core d := rfl
    have hrest := mild_after (mild_returnUnit x.1 x.2 false _) (mild_qmsg (sliceSource x.1) 0x06 (sliceAddr x.1 x.2)
      (modKind x.1 (fun k => { k with last := 3, unit := sliceUnit x.1 x.2, incomplete := satInc 65535 k.incomplete }) d))
      (noSafe_of_heart (heart_of_core hkind) hn)
    exact ⟨hrest.core.trans hkind, hrest.evf, fun h => absurd (hx.symm.trans h) (by simp)⟩

theorem mild_cutUnit (kind : Nat) (p : Nat → Bool) (d : Dev) : Mild d (cutUnit kind p d) := by
  unfold cutUnit
  split
  · split
    · exact mild_cutSlice d
    · exact mild_refl d
  · exact mild_refl d

theorem mild_suspendPlan (d : Dev) : Mild d (suspendPlan d) := by
  unfold suspendPlan
  split
  · exact mild_after (mild_raiseNS (by decide) _ _) (mild_same rfl)
  · exact mild_refl d

theorem mild_setTbState (st : TbState) (d : Dev) : Mild d (setTbState st d) := by
  unfold setTbState
  dsimp only
  split
  · exact mild_after (mild_raiseNS (by decide) _ _) (mild_same rfl)
  · exact mild_same rfl

theorem mild_enterFlywheel (d : Dev) : Mild d (enterFlywheel d) := mild_trans (mild_setTbState .flywheel d) (mild_same rfl)

theorem mild_refFallback (d : Dev) : Mild d (refFallback d) := by
  unfold refFallback
  dsimp only
  split
  · refine mild_after (mild_raiseNS (by decide) _ _) ?_
    split <;> exact mild_same rfl
  · exact mild_refl d

theorem mild_setLock (p : Port) (v : Bool) (d : Dev) : Mild d (setLock p v d) := by
  cases p <;> exact mild_same rfl

theorem mild_setLos (p : Port) (d : Dev) : Mild d (setLos p d) := by
  cases p <;> exact mild_same rfl

theorem mild_requeue (f : Flight) (d : Dev) : Mild d (requeue f d) := by
  unfold requeue
  split
  · exact mild_same rfl
  · split
    · exact mild_same rfl
    · exact mild_refl d

theorem mild_dropFrames (d : Dev) : Mild d (dropFrames d) := by
  have hfold : ∀ l : List Flight, Mild d (l.foldr requeue d) := fun l => by
    induction l with
    | nil => exact mild_refl d
    | cons f t ih => exact mild_trans ih (mild_requeue f _)
  exact mild_trans (hfold _) (mild_same rfl)

theorem mild_breakRing (mark : Bool) (d : Dev) : Mild d (breakRing mark d) := by
  unfold breakRing
  dsimp only
  refine mild_after (mild_raiseNS (by decide) _ _) (mild_trans (mild_dropFrames d) ?_)
  exact mild_same rfl

/-- What a member does on a loss of signal (R323, R374). -/
def lostMember (d : Dev) : Dev :=
  match d.ring.mode with
  | .normal => { d with ring.marking := true, ring.reversePend := true }
  | .arm | .reversed | .fold =>
    { d with ring.mode := .unattached, ring.headPort := none, ring.returning := false, ring.turning := false }
  | _ => d

theorem mild_lostMember (d : Dev) : Mild d (lostMember d) := by
  unfold lostMember
  split <;> exact mild_same rfl

/-- A loss of signal on a port that is expected to receive, with its slice cut (R323, R509). -/
def lossNoted (p : Port) (d : Dev) : Dev := cutUnit 4 (fun u => u == p.num) (raiseNS 66 p.num (setLos p (setLock p false d)))

theorem mild_lossNoted (p : Port) (d : Dev) : Mild d (lossNoted p d) := by
  unfold lossNoted
  exact mild_after (mild_cutUnit _ _ _) (mild_after (mild_raiseNS (by decide) _ _) (mild_after (mild_setLos _ _) (mild_setLock _ _ _)))

theorem losOn_eq (p : Port) (d : Dev) :
    losOn p d = if !expectedRx d p then d
      else if isHead (lossNoted p d) then
        if isHead d && p == .A && d.ring.stat == .closed then headBreak (lossNoted p d)
        else if isHead d && d.ring.stat == .enumerating then { lossNoted p d with ring.disturbed := true }
        else lossNoted p d
      else lostMember (if (refFallback (lossNoted p d)).tb.state == .locked then enterFlywheel (refFallback (lossNoted p d))
        else refFallback (lossNoted p d)) := rfl

theorem mild_losOn (p : Port) (d : Dev) : Mild d (losOn p d) := by
  have hloss := mild_lossNoted p d
  rw [losOn_eq]
  generalize lossNoted p d = e at hloss ⊢
  split
  · exact mild_refl d
  · refine mild_trans hloss ?_
    split
    · split
      · exact mild_breakRing true e
      · split
        · exact mild_same rfl
        · exact mild_refl e
    · refine mild_after (mild_lostMember _) (mild_trans (mild_refFallback e) ?_)
      split
      · exact mild_enterFlywheel _
      · exact mild_refl _

theorem mild_bankStop (b : Nat) (d : Dev) : Mild d (bankStop b d) := by
  unfold bankStop
  dsimp only
  split <;> exact mild_same rfl

theorem mild_bankFence (b : Nat) (d : Dev) : Mild d (bankFence b d) := by
  unfold bankFence
  split
  · exact mild_bankStop b d
  · exact mild_same rfl

end Units

/-! ## Fences and reactions -/

section Fences

theorem mild_fenceUnit (u : Nat) (d : Dev) : Mild d (fenceUnit u d) := by
  unfold fenceUnit
  dsimp only
  split
  · have hcut : Mild d (cutUnit 2 (fun x => x / 2 + 1 == u % 256) { d with fault.fencedCh := mset d.fault.fencedCh (u % 256 - 1) true }) :=
      mild_after (mild_cutUnit _ _ _) (mild_same rfl)
    split
    · split
      · split
        · exact mild_after (mild_suspendPlan _) hcut
        · exact hcut
      · exact hcut
    · exact hcut
  · exact mild_after (mild_cutUnit _ _ _) (mild_fenceEngine _ d)
  · exact mild_after (mild_setLock _ _ _) (mild_trans (mild_losOn _ d) (mild_same rfl))
  · exact mild_after (mild_cutUnit _ _ _) (mild_after (mild_bankFence _ _) (mild_same rfl))
  · exact mild_refl d

theorem mild_reactOne (u : Nat) (d : Dev) : Mild d (reactOne u d) := by
  unfold reactOne
  split
  · exact mild_qmsg _ _ _ d
  · split
    · exact mild_qmsg _ _ _ d
    · exact mild_after (mild_qmsg _ _ _ _) (mild_fenceUnit u d)

theorem mild_reactFull {r : Nat} (hr : r ≠ 5) (k : Nat) (tg : List Nat) (forced : Bool) (d : Dev) : Mild d (reactFull r k tg forced d) := by
  unfold reactFull
  dsimp only
  rw [if_neg hr]
  split
  · exact mild_trans (mild_qmsg _ _ _ d) (mild_same rfl)
  · have hall : ∀ l : List Nat, Mild d (forEach l reactOne d) := fun l => mild_forEach l _ (fun u _ => mild_reactOne u) d
    split
    · exact mild_trans (hall _) (mild_same rfl)
    · exact mild_trans (hall _) (mild_same rfl)

/-- An occurrence with any reaction but SAFE_STATE is mild (R483, R487). -/
theorem mild_occurs {k : Nat} (hk : k < 128) (unit : Nat) (tg : List Nat) (forced : Bool) (d : Dev) :
    Mild d (occurWith reactFull k unit tg forced d) :=
  mild_occurWith (fun _ d hr => mild_reactFull hr k tg forced d) hk unit d

theorem mild_raise {k : Nat} (hk : k < 128) (d : Dev) : Mild d (raise k d) := mild_occurs hk _ _ _ d
theorem mild_raiseCh {k : Nat} (hk : k < 128) (n : Nat) (d : Dev) : Mild d (raiseCh k n d) := mild_occurs hk _ _ _ d
theorem mild_raiseEng {k : Nat} (hk : k < 128) (e : Nat) (d : Dev) : Mild d (raiseEng k e d) := mild_occurs hk _ _ _ d
theorem mild_raisePort {k : Nat} (hk : k < 128) (p : Port) (d : Dev) : Mild d (raisePort k p d) := mild_occurs hk _ _ _ d
theorem mild_raiseBank {k : Nat} (hk : k < 128) (b : Nat) (d : Dev) : Mild d (raiseBank k b d) := mild_occurs hk _ _ _ d
theorem mild_raiseBist (kind unit : Nat) (d : Dev) : Mild d (raiseBist kind unit d) := mild_occurs (by decide) _ _ _ d
theorem mild_raiseForced {k : Nat} (hk : k < 128) (d : Dev) : Mild d (raiseForced k d) := mild_occurs hk _ _ _ d

end Fences

end Sys2Proof.Proofs
end

section
/-! PROOF. A completed twin that waits on a DRAINING engine's flume as well is rescued, and its twin learns the engine
(10_engines_and_flumes.md R302, R303). -/

namespace Sys2Proof.Proofs

open Sys2Proof Sys2Proof.Machine Sys2Proof.Safety Sys2Proof.Laws

/-- Twin A, of a pair with twin B. -/
def listedTwin : Desc := { Desc.reset with id := 0, role := 1, twin := 1 }

/-- A block on which twin A runs on engine 0 and is listed in the flume of engine 1 too, which drains; twin B has not written. -/
def listedTwice : State :=
  { State.reset with eng := { Eng.reset with
      engines := { Engine.reset with state := .active, running := some 0 } :: { Engine.reset with state := .draining, flume := [0] } ::
        List.replicate 14 Engine.reset
      pool := [listedTwin, { Desc.reset with id := 1, role := 2, twin := 0 }] } }

/-- What twin A's completion leaves, before what waited for it. -/
def listedDone : Dev := rescue 0 (twinDone listedTwin [0] (leaveRun 0 listedTwin [0] (stopRun 0 listedTwice.toDev)))

theorem listedTwice_calm : Calm listedTwice.toDev := by decide +kernel

theorem listedTwice_noSafe : NoSafe listedTwice.toDev := by decide +kernel

/-- Twin B has learnt that twin A moved to engine 0. -/
theorem listedDone_partner : (desc (serveWindows (drainOut listedDone)) 1).map (fun y => y.partner) = some (some 0) := by decide +kernel

/-- Refutes O36: twin A completes on engine 0 while engine 1, DRAINING, lists it at the head of its flume; engine 0 rescues it
(R303), and the descriptor of twin B, which has not written, is not kept: it names engine 0 as the partner's. -/
theorem not_jobsEndAndTwinsAreCompared : ¬ Obligations.JobsEndAndTwinsAreCompared := by
  intro h
  obtain ⟨hbeside, hdetail, -⟩ := h listedTwice listedTwice_calm listedTwice_noSafe
  obtain ⟨t, ht, -, hb⟩ := hbeside 0 listedTwin [0] rfl
  obtain ⟨u, hu, -, -, -, -, htwins⟩ := hdetail 0 listedTwin [0] rfl rfl rfl
  obtain ⟨hwaits, -⟩ := htwins { Desc.reset with id := 1, role := 2, twin := 0 } rfl (by decide) rfl rfl (by decide) rfl
  have hkept : desc u.toDev 1 = some { Desc.reset with id := 1, role := 2, twin := 0 } := (hwaits rfl).2
  have htu : t = u := Host.Outcome.next.inj (ht.symm.trans hu)
  have hpartner : (desc t.toDev 1).map (fun y => y.partner) = some (some 0) := by
    rw [desc_of_beside hb]
    exact listedDone_partner
  rw [htu, hkept] at hpartner
  cases hpartner

end Sys2Proof.Proofs
end

section
/-! PROOF. Overruns, traps, stealing, loading and copies (10_engines_and_flumes.md R287, R301, R308, R314, R315). -/

namespace Sys2Proof.Proofs

open Sys2Proof Sys2Proof.Machine Sys2Proof.Safety Sys2Proof.Laws

/-! ## An abandoned job -/

theorem esc_noteEvent (k i : Nat) (d : Dev) : esc (noteEvent k d) i = esc d i := by
  unfold noteEvent evtRecord
  split
  · rfl
  · dsimp only
    split
    · split <;> rfl
    · rfl

/-- An occurrence that may only force the safe state, and does not, changes no other source's counter. -/
theorem esc_raiseNS_ne {k i : Nat} (unit : Nat) {d : Dev} (h : escReaction d k ≠ 5) (hi : i ≠ k) : esc (raiseNS k unit d) i = esc d i := by
  have hmod : ∀ f : Esc → Esc, esc (modEsc k f (noteEvent k d)) i = esc d i := fun f => by
    rw [esc_modEsc_ne k i f _ hi, esc_noteEvent]
  unfold raiseNS occurWith
  split
  · rfl
  · dsimp only
    split
    · exact hmod _
    · split
      · exact esc_noteEvent k i d
      · split
        · exact hmod _
        · split
          · unfold becomeSevere
            rw [escReaction_of_occWrite (occWrite_noteEvent k d) k]
            dsimp only
            split
            · exact hmod _
            · rw [reactSafe, if_neg h]
              exact hmod _
          · exact hmod _

/-- b is a with a job abandoned: the plan, the engines' states and the other counters than EV81's stay. -/
structure Abandoned (a b : Dev) : Prop where
  heart : heart b = heart a
  plan : b.eis.plan = a.eis.plan
  states : ∀ f, (eng b f).state = (eng a f).state
  escs : ∀ i, i ≠ 81 → esc b i = esc a i
  idle : ∀ f, (eng a f).running = none → (eng b f).running = none

section Abandon

variable {a b c d : Dev} {e : Nat} {x : Desc}

theorem abandoned_refl (a : Dev) : Abandoned a a := ⟨rfl, rfl, fun _ => rfl, fun _ _ => rfl, fun _ => id⟩

theorem abandoned_trans (hab : Abandoned a b) (hbc : Abandoned b c) : Abandoned a c :=
  ⟨hbc.heart.trans hab.heart, hbc.plan.trans hab.plan, fun f => (hbc.states f).trans (hab.states f),
    fun i hi => (hbc.escs i hi).trans (hab.escs i hi), fun f hf => hbc.idle f (hab.idle f hf)⟩

theorem running_freeDesc (id f : Nat) (d : Dev) : (eng (freeDesc id d) f).running = (eng d f).running := by
  unfold eng freeDesc nth
  simp only [List.getD_eq_getElem?_getD, List.getElem?_map]
  cases d.eng.engines[f]? <;> rfl

theorem abandoned_freeDesc (id : Nat) (d : Dev) : Abandoned d (freeDesc id d) :=
  ⟨rfl, rfl, state_freeDesc id, fun _ _ => rfl, fun f hf => (running_freeDesc id f d).trans hf⟩

theorem abandoned_unresolved (h : NoSafe d) : Abandoned d (unresolved d) := by
  have hr : escReaction { d with eng.unresolved := satInc 255 d.eng.unresolved } 81 ≠ 5 := h 81 (by decide)
  have hw := (occWrite_raiseNS 81 0xFFFF hr).1
  refine ⟨heart_of_core (mild_unresolved d h).core, ?_, fun f => ?_, fun i hi => esc_raiseNS_ne 0xFFFF hr hi, fun f hf => ?_⟩
  · rw [unresolved, hw]
  · rw [unresolved, eng, hw]
    rfl
  · rw [unresolved, eng, hw]
    exact hf

theorem abandoned_freeOthers (l : List Nat) (d : Dev) :
    Abandoned d (forEach l (fun id d => if isRunning d id then d else freeDesc id d) d) := by
  induction l generalizing d with
  | nil => exact abandoned_refl d
  | cons id t ih =>
    refine abandoned_trans ?_ (ih _)
    dsimp only
    split
    · exact abandoned_refl d
    · exact abandoned_freeDesc id d

theorem abandoned_dropTwin (x : Desc) (h : NoSafe d) : Abandoned d (dropTwin x d) := by
  unfold dropTwin
  dsimp only
  refine abandoned_trans ?_ (abandoned_freeDesc _ _)
  refine abandoned_trans ?_ (abandoned_freeOthers _ _)
  split
  · exact abandoned_refl d
  · exact abandoned_unresolved h

theorem running_stopRun (e : Nat) (d : Dev) : (eng (stopRun e d) e).running = none := by
  by_cases h : e < d.eng.engines.length
  · rw [stopRun, eng_modEng_self _ h]
  · have hlen : (stopRun e d).eng.engines.length ≤ e := by
      simpa [stopRun, modEng] using h
    rw [eng, nth, List.getD_eq_default _ _ hlen]
    rfl

theorem abandoned_stopRun (e : Nat) (d : Dev) : Abandoned d (stopRun e d) :=
  ⟨rfl, rfl, state_modEng (g := fun x => { x with running := none, busy := x.busy + (d.now - x.countAt) }) fun _ => rfl, fun _ _ => rfl,
    fun f hf => by
      by_cases hfe : f = e
      · rw [hfe]
        exact running_stopRun e d
      · rw [stopRun, eng_modEng_ne _ hfe, hf]⟩

theorem abandonJob_running (again : Bool) (hr : (eng d e).running = some x.id) (hx : desc d x.id = some x) :
    abandonJob e again d = if !x.retry && again then
        pushClassHead x.cls x.id (modDesc x.id (fun y => { y with retry := true }) (stopRun e d))
      else dropTwin x (loseRecords x (modClass x.cls (fun c => { c with discarded := satInc 255 c.discarded }) (stopRun e d))) := by
  have hx' : desc (stopRun e d) x.id = some x := hx
  unfold abandonJob
  rw [hr]
  dsimp only
  rw [hx']

theorem abandoned_abandonJob (again : Bool) (hn : NoSafe d) (hr : (eng d e).running = some x.id) (hx : desc d x.id = some x) :
    Abandoned d (abandonJob e again d) := by
  rw [abandonJob_running again hr hx]
  have hstop := abandoned_stopRun e d
  split
  · exact abandoned_trans hstop ⟨rfl, rfl, fun _ => rfl, fun _ _ => rfl, fun _ => id⟩
  · have hlost : Abandoned d (loseRecords x (modClass x.cls (fun c => { c with discarded := satInc 255 c.discarded }) (stopRun e d))) :=
      abandoned_trans hstop ⟨rfl, rfl, fun _ => rfl, fun _ _ => rfl, fun _ => id⟩
    exact abandoned_trans hlost (abandoned_dropTwin x (noSafe_of_heart hlost.heart hn))

theorem plain_of_heart {k : Nat} (h : heart b = heart a) (he : esc b k = esc a k) (hp : Plain a k) : Plain b k := by
  obtain ⟨hcfg, hpart⟩ := cfg_part_of_heart h
  have hcount : escCount b k = escCount a k := by rw [escCount, escCount, itemN, itemN, item, item, hcfg, hpart]
  unfold Plain at hp ⊢
  rw [hpart, escReaction_of_heart h, he, hcount]
  exact hp

end Abandon

/-! ## Faults of a running job -/

section Faults

variable {s : State} {c : Instr} {f : Dev → Dev} {k : Nat} {a : Dev}

/-- An occurrence without a reaction after an abandoned job, with no plan and no engine DRAINING (R308). -/
theorem answers_jobFault (unit : Nat) (tg : List Nat) (hi : exec c s = runDev s f)
    (hf : f s.toDev = afterJob (occurWith reactFull k unit tg false a)) (hk : k ≠ 81) (hc : Calm s.toDev) (hp : s.eis.plan = none)
    (hd : ∀ f, f < 16 → (eng s.toDev f).state ≠ .draining) (ha : Abandoned s.toDev a) (hpl : Plain s.toDev k) :
    Answers c s (Noted k a) := by
  have hplain : Plain a k := plain_of_heart ha.heart (ha.escs k hk) hpl
  obtain ⟨-, -, -, hocc⟩ := occurred_occurWith reactFull k unit tg false hplain
  have hidle : afterJob (occurWith reactFull k unit tg false a) = occurWith reactFull k unit tg false a := by
    refine afterJob_idle ?_ fun f hf => ?_
    · rw [hocc]
      exact ha.plan.trans hp
    · rw [eng, hocc]
      exact fun h => hd f hf ((ha.states f).symm.trans h)
  exact answers_noted reactFull unit tg false hi (hf.trans hidle) (calm_of_heart ha.heart hc) hplain
    (by rw [power_of_heart ha.heart]; exact id)

end Faults

theorem running_modEng {e : Nat} {d : Dev} {g : Engine → Engine} (hg : ∀ y, (g y).running = y.running) (f : Nat) :
    (eng (modEng e g d) f).running = (eng d f).running := by
  unfold eng modEng nth
  simp only [List.getD_eq_getElem?_getD, List.getElem?_modify]
  cases d.eng.engines[f]? with
  | none => rfl
  | some y =>
    by_cases hfe : e = f
    · simp [hfe, hg]
    · simp [hfe]

theorem abandoned_modEng {a b : Dev} (h : Abandoned a b) {g : Engine → Engine} (hg : ∀ y, (g y).state = y.state)
    (hr : ∀ y, (g y).running = y.running) (e : Nat) : Abandoned a (modEng e g b) :=
  abandoned_trans h ⟨rfl, rfl, state_modEng hg, fun _ _ => rfl, fun f hf => (running_modEng hr f).trans hf⟩

theorem abandoned_modKernel {a b : Dev} (h : Abandoned a b) (k : Nat) (g : Kernel → Kernel) : Abandoned a (modKernel k g b) :=
  abandoned_trans h ⟨rfl, rfl, fun _ => rfl, fun _ _ => rfl, fun _ => id⟩

/-- JOB_OVERRUN (R290, R308). -/
def overrunRun (e : Nat) (d : Dev) : Dev :=
  if runsCustom d e == some false then
    afterJob (raiseEng 83 e (modEng e (fun y => { y with overruns := satInc 255 y.overruns }) (abandonJob e true d)))
  else d

/-- KERNEL_OVERRUN (R315). -/
def kernelOverrunRun (e : Nat) (d : Dev) : Dev :=
  match (eng d e).running.bind (desc d) with
  | some x => if 0x80 ≤ x.kernel then afterJob (raise 84 (countOverrun (x.kernel - 0x80) (abandonJob e false d))) else d
  | none => d

/-- ENGINE_TRAP (R308). -/
def trapRun (e : Nat) (d : Dev) : Dev :=
  if (eng d e).running.isSome then
    afterJob (raiseEng 82 e (modEng e (fun y => { y with traps := satInc 255 y.traps }) (abandonJob e true d)))
  else d

section Runs

variable {d : Dev} {e : Nat} {x : Desc}

theorem runsCustom_running (hr : (eng d e).running = some x.id) (hx : desc d x.id = some x) :
    runsCustom d e = some (decide (0x80 ≤ x.kernel)) := by
  unfold runsCustom
  rw [hr, Option.bind_some, hx]
  rfl

theorem kernelOverrunRun_running (hr : (eng d e).running = some x.id) (hx : desc d x.id = some x) :
    kernelOverrunRun e d = if 0x80 ≤ x.kernel then afterJob (raise 84 (countOverrun (x.kernel - 0x80) (abandonJob e false d))) else d := by
  unfold kernelOverrunRun
  rw [hr, Option.bind_some, hx]

theorem nth_modify_self {α : Type} {l : List α} {i : Nat} (f : α → α) (z : α) (h : i < l.length) : nth (l.modify i f) i z = f (nth l i z) := by
  unfold nth
  simp [List.getD_eq_getElem?_getD, h]

theorem desc_freeDesc_self (id : Nat) (d : Dev) : desc (freeDesc id d) id = none := by
  unfold desc freeDesc
  refine List.find?_eq_none.mpr fun y hy => ?_
  have := (List.mem_filter.mp hy).2
  simpa using this

/-- What is left of an abandoned job (R308). -/
theorem abandonJob_leaves (h8 : d.eng.classes.length = 8) (hcls : x.cls < 8) (hr : (eng d e).running = some x.id) (hx : desc d x.id = some x) :
    (x.retry = false → (nth (abandonJob e true d).eng.classes x.cls []).head? = some x.id ∧
      desc (abandonJob e true d) x.id = some { x with retry := true }) ∧
    (x.retry = true → x.role = 0 → desc (abandonJob e true d) x.id = none) ∧
    (x.role = 0 → desc (abandonJob e false d) x.id = none) := by
  have hx' : desc (stopRun e d) x.id = some x := hx
  refine ⟨fun h => ?_, fun h _ => ?_, fun _ => ?_⟩
  · rw [abandonJob_running true hr hx, if_pos (by simp [h])]
    refine ⟨?_, ?_⟩
    · have hlt : x.cls < (modDesc x.id (fun y => { y with retry := true }) (stopRun e d)).eng.classes.length := by
        show x.cls < d.eng.classes.length
        omega
      show (nth ((modDesc x.id (fun y => { y with retry := true }) (stopRun e d)).eng.classes.modify x.cls fun l => x.id :: l) x.cls []).head? = _
      rw [nth_modify_self _ _ hlt]
      rfl
    · refine (desc_modDesc x.id x.id (fun y => { y with retry := true }) (fun _ => rfl) (stopRun e d)).trans ?_
      rw [hx']
      simp
  · rw [abandonJob_running true hr hx, if_neg (by simp [h])]
    exact desc_freeDesc_self _ _
  · rw [abandonJob_running false hr hx, if_neg (by simp)]
    exact desc_freeDesc_self _ _

theorem abandonJob_idle (hn : NoSafe d) (again : Bool) (hr : (eng d e).running = some x.id) (hx : desc d x.id = some x) :
    (eng (abandonJob e again d) e).running = none := by
  rw [abandonJob_running again hr hx]
  refine Abandoned.idle (a := stopRun e d) ?_ e (running_stopRun e d)
  have hlost : Abandoned (stopRun e d) (loseRecords x (modClass x.cls (fun c => { c with discarded := satInc 255 c.discarded }) (stopRun e d))) :=
    ⟨rfl, rfl, fun _ => rfl, fun _ _ => rfl, fun _ => id⟩
  split
  · exact ⟨rfl, rfl, fun _ => rfl, fun _ _ => rfl, fun _ => id⟩
  · exact abandoned_trans hlost (abandoned_dropTwin x (noSafe_of_heart hlost.heart hn))

end Runs

/-- Settles O37: the job is abandoned, then the event occurs; with no plan and no engine DRAINING that is all. -/
theorem engineFaultsAbandonTheirJob : Obligations.EngineFaultsAbandonTheirJob := by
  intro s e hc hp hd hn
  refine ⟨fun x hr hx => ?_, fun hr => ?_⟩
  · have hab := fun again => abandoned_abandonJob again hn hr hx
    have hcustom := runsCustom_running hr hx
    refine ⟨fun hk hpl => ?_, fun hpl => ?_, fun k hk hpl => ?_, fun h8 hcls => ⟨abandonJob_idle hn true hr hx, abandonJob_leaves h8 hcls hr hx⟩,
      fun hk => ?_, fun hk => ?_⟩
    · have hrun : overrunRun e s.toDev = _ := if_pos (by simp [hcustom, hk])
      exact answers_jobFault _ _ (f := overrunRun e) rfl hrun (by decide) hc hp hd
        (abandoned_modEng (g := fun y => { y with overruns := satInc 255 y.overruns }) (hab true) (fun _ => rfl) (fun _ => rfl) e) hpl
    · have hrun : trapRun e s.toDev = _ := if_pos (by simp [hr])
      exact answers_jobFault _ _ (f := trapRun e) rfl hrun (by decide) hc hp hd
        (abandoned_modEng (g := fun y => { y with traps := satInc 255 y.traps }) (hab true) (fun _ => rfl) (fun _ => rfl) e) hpl
    · have hrun := kernelOverrunRun_running hr hx
      have hslot : x.kernel - 0x80 = k.val := by omega
      rw [if_pos (by omega), hslot] at hrun
      exact answers_jobFault _ _ (f := kernelOverrunRun e) rfl hrun (by decide) hc hp hd (abandoned_modKernel (hab false) _ _) hpl
    · refine answers_same (f := overrunRun e) rfl hc (if_neg ?_)
      simp [hcustom, hk]
    · refine answers_same (f := kernelOverrunRun e) rfl hc ?_
      rw [kernelOverrunRun_running hr hx, if_neg (by omega)]
  · refine ⟨answers_same (f := overrunRun e) rfl hc (if_neg ?_), answers_same (f := trapRun e) rfl hc (if_neg ?_),
      answers_same (f := kernelOverrunRun e) rfl hc ?_⟩
    · simp [runsCustom, hr]
    · simp [hr]
    · rw [kernelOverrunRun, hr]
      rfl

end Sys2Proof.Proofs
end

section
/-! PROOF. Stealing, loading and copies (10_engines_and_flumes.md R287, R301, R314). -/

namespace Sys2Proof.Proofs

open Sys2Proof Sys2Proof.Machine Sys2Proof.Safety Sys2Proof.Laws

/-- A command whose own function keeps the heart answers with it, but for what follows from the state. -/
theorem answers_heart {s : State} {i : Instr} {f : Dev → Dev} {a : Dev} (hi : exec i s = runDev s f) (hf : f s.toDev = a)
    (hc : Calm s.toDev) (hh : heart a = heart s.toDev) : Answers i s (Beside a) :=
  answers_beside hi hf (calm_of_heart hh hc) (by rw [power_of_heart hh]; exact id)

theorem heart_forEach {α : Type} (l : List α) (f : α → Dev → Dev) (h : ∀ x d, heart (f x d) = heart d) (d : Dev) :
    heart (forEach l f d) = heart d := by
  induction l generalizing d with
  | nil => rfl
  | cons x t ih => exact (ih _).trans (h x d)

theorem heart_startGens (d : Dev) : heart (startGens d) = heart d := by
  unfold startGens
  refine heart_forEach _ _ (fun k d => ?_) d
  dsimp only
  split <;> rfl

/-- What a thief leaves (R301, R302). -/
def stolen (e f : Nat) (x : Desc) (d : Dev) : Dev :=
  notePartner x e (modEng e (fun y => { y with flume := [x.id], steals := satInc 65535 y.steals })
    (modEng f (fun y => { y with flume := y.flume.filter (· != x.id) }) d))

/-- ENGINE_STEAL (R301, R302). -/
def stealRun (e : Nat) (d : Dev) : Dev :=
  if awake d && (eng d e).state == .active && (eng d e).running.isNone && (eng d e).flume.isEmpty then
    match (victims d e).findSome? (stealFrom d e) with
    | some (f, x) => stolen e f x d
    | none => d
  else d

/-- ENGINE_LOADED (R287). -/
def loadedRun (e : Nat) (d : Dev) : Dev :=
  if coreRuns d && (eng d e).state == .loading then
    setEngState e .active (holdKernels e (mof 4 ((List.range 4).filter (fun k => (kernelAt d k).loaded)))
      { d with eng.copies := d.eng.copies.filter (fun c => c.1 != e) })
  else d

/-- KERNEL_COPY (R294, R314). -/
def copyRun (e slot : Nat) (d : Dev) : Dev :=
  if inService (eng d e) && (eng d e).running.isNone && (d.eng.copies.take d.eng.copyHeld).contains (e, slot) then
    startGens (holdKernels e (mset (eng d e).kernels slot true) { d with eng.copies := d.eng.copies.erase (e, slot) })
  else d

/-- Engine e looks for work (R301). -/
def Thief (e : Nat) (d : Dev) : Prop :=
  awake d = true ∧ (eng d e).state = .active ∧ (eng d e).running = none ∧ (eng d e).flume = []

section Steal

variable {d : Dev} {e f : Nat} {x : Desc}

theorem stealRun_steals (h : Thief e d) (hx : (victims d e).findSome? (stealFrom d e) = some (f, x)) : stealRun e d = stolen e f x d := by
  obtain ⟨ha, hs, hr, hf⟩ := h
  rw [stealRun, if_pos (by simp [ha, hs, hr, hf]), hx]

theorem stealRun_idle (h : ¬ Thief e d ∨ (victims d e).findSome? (stealFrom d e) = none) : stealRun e d = d := by
  rcases h with h | h
  · refine if_neg fun hn => h ?_
    simp only [Bool.and_eq_true, beq_iff_eq, Option.isNone_iff_eq_none, List.isEmpty_iff] at hn
    exact ⟨hn.1.1.1, hn.1.1.2, hn.1.2, hn.2⟩
  · rw [stealRun, h]
    split <;> rfl

theorem heart_stolen (e f : Nat) (x : Desc) (d : Dev) : heart (stolen e f x d) = heart d := by
  unfold stolen
  rw [(poolWrite_notePartner x e _).1]
  rfl

/-- The last job of the only flume with jobs, a single one, is the one taken (R301). -/
theorem steals_last (ha : (eng d f).state = .active) (hf : f < 16) (hfe : f ≠ e) (hlast : (eng d f).flume.getLast? = some x.id)
    (hothers : ∀ g, g < 16 → g ≠ f → (eng d g).flume = []) (hx : desc d x.id = some x) (hr : x.role = 0) :
    (victims d e).findSome? (stealFrom d e) = some (f, x) := by
  have hne : (eng d f).flume ≠ [] := fun h => by
    rw [h] at hlast
    cases hlast
  have honly : (List.range 16).filter (fun g => g != e && (eng d g).state == .active && !(eng d g).flume.isEmpty) = [f] := by
    have hp : ∀ g ∈ List.range 16, (g != e && (eng d g).state == .active && !(eng d g).flume.isEmpty) = (g == f) := fun g hg => by
      by_cases hgf : g = f
      · subst hgf
        simp [hfe, ha, hne]
      · simp [hothers g (List.mem_range.mp hg) hgf, hgf]
    rw [List.filter_congr hp, List.filter_beq, List.count_eq_one_of_mem List.nodup_range (List.mem_range.mpr hf)]
    rfl
  have hvictims : victims d e = [f] := by
    unfold victims
    rw [honly]
    exact List.mergeSort_singleton f
  have htake : ∃ l, (eng d f).flume.reverse.take 4 = x.id :: l := by
    have hhead : (eng d f).flume.reverse.head? = some x.id := by rw [List.head?_reverse, hlast]
    obtain ⟨l, hl⟩ := List.head?_eq_some_iff.mp hhead
    exact ⟨l.take 3, by rw [hl]; rfl⟩
  have helig : eligible x e = true := by simp [eligible, hr]
  obtain ⟨l, hl⟩ := htake
  rw [hvictims, List.findSome?_cons, stealFrom, hl, List.filterMap_cons, hx]
  simp [helig]

end Steal

/-- Settles O38: by the branches of each row; what a thief or a copy changes lies in the array. -/
theorem enginesStealAndLoad : Obligations.EnginesStealAndLoad := by
  intro s e hc thief
  refine ⟨fun f x ht hx => ?_, fun f x _ ha hf hfe hlast hothers hx hr => steals_last ha hf hfe hlast hothers hx hr, fun h => ?_,
    fun hcore hl hn => ?_, fun h => ?_, fun k => ?_⟩
  · exact answers_heart (f := stealRun e) rfl (stealRun_steals ht hx) hc (heart_stolen e f x s.toDev)
  · exact answers_same (f := stealRun e) rfl hc (stealRun_idle h)
  · refine answers_soft (f := loadedRun e) rfl (if_pos (by simp [hcore, hl])) hc hn (soft_of_mild ?_)
    exact mild_after (mild_setEngState _ _ _) (mild_same rfl)
  · refine answers_same (f := loadedRun e) rfl hc (if_neg ?_)
    rcases h with h | h <;> simp [h]
  · intro ready m
    have hready : (inService (eng s.toDev e) && (eng s.toDev e).running.isNone &&
        (s.eng.copies.take s.eng.copyHeld).contains (e.val, k.val)) = true ↔ ready := by
      simp [ready, and_assoc]
    refine ⟨fun h => ?_, fun h => ?_⟩
    · exact answers_heart (f := copyRun e k) rfl (if_pos (hready.mpr h)) hc (heart_startGens _)
    · exact answers_same (f := copyRun e k) rfl hc (if_neg (mt hready.mp h))

end Sys2Proof.Proofs
end

section
/-! PROOF. Timed steps of escalation, FAULTN read back, the start-up checks (15_faults_and_sluices.md R482 to R495). -/

namespace Sys2Proof.Proofs

open Sys2Proof Sys2Proof.Machine Sys2Proof.Safety Sys2Proof.Laws

/-! ## Counters -/

section Counters

variable {d : Dev} {k : Nat}

/-- A counter that is not as at reset is one of the list. -/
theorem esc_inside {β : Type} (g : Esc → β) (h : g (esc d k) ≠ g Esc.reset) : k < d.fault.esc.length := by
  by_contra hn
  refine h ?_
  rw [esc, nth, List.getD_eq_default _ _ (Nat.le_of_not_lt hn)]

theorem esc_modEsc_self (f : Esc → Esc) (h : k < d.fault.esc.length) : esc (modEsc k f d) k = f (esc d k) :=
  nth_modify_self f Esc.reset h

theorem esc_of_beside {a t : Dev} (h : Beside a t) (i : Nat) : esc t i = esc a i := by
  rw [esc, esc, fault_of_beside h]

/-- A changed counter, the others as they were (R482, R483). -/
theorem answers_modEsc {s : State} {c : Instr} {f : Dev → Dev} {g : Esc → Esc} (hi : exec c s = runDev s f)
    (hf : f s.toDev = modEsc k g s.toDev) (hc : Calm s.toDev) (hk : k < s.fault.esc.length) :
    Answers c s (fun t => esc t k = g (esc s.toDev k) ∧ (∀ i, i ≠ k → esc t i = esc s.toDev i) ∧
      Beside { s.toDev with fault := { s.fault with esc := t.fault.esc } } t) := by
  refine answers_mono (answers_beside hi hf hc id) fun t hb => ⟨?_, fun i hi => ?_, ?_⟩
  · rw [esc_of_beside hb, esc_modEsc_self g hk]
  · rw [esc_of_beside hb, esc_modEsc_ne _ _ _ _ hi]
  · rw [fault_of_beside hb]
    exact hb

end Counters

/-! ## Handling ends -/

/-- ESC_WINDOW_EXPIRY (R482). -/
def windowRun (k : Nat) (d : Dev) : Dev :=
  if !isInfo k && (esc d k).state = 1 then modEsc k (fun e => { e with state := 0, count := 0 }) d else d

/-- ESC_HANDLING_END (R483, R505). -/
def handlingRun (k : Nat) (d : Dev) : Dev :=
  if (esc d k).state = 2 && !(esc d k).pulse && (esc d k).journal.isNone then freeFailed (endHandling k d) else d

/-- REACTION_JOURNAL (R430, R483, R516). -/
def entryRun (k : Nat) (d : Dev) : Dev :=
  match (esc d k).journal with
  | some (it, old, new, r) =>
    if awake d && d.cmd.hkReady && d.cmd.busy.isNone then
      jput ⟨oREACTION, k, r⟩ it old new (modEsc k (fun e => { e with journal := none }) d)
    else d
  | none => d

section Handling

variable {d : Dev} {k : Nat}

theorem mild_freeFailed (d : Dev) : Mild d (freeFailed d) := by
  unfold freeFailed
  split
  · split
    · exact mild_refl d
    · dsimp only
      split
      · exact mild_after (mild_setEngState _ _ _) (mild_same rfl)
      · exact mild_same rfl
  · exact mild_refl d

theorem freeFailed_none (h : d.bist.failHold = none) : freeFailed d = d := by rw [freeFailed, h]

/-- The failed engine that is OUT loads once EV126 is not severe (R505). -/
theorem freeFailed_loads {e : Nat} (hf : d.bist.failHold = some e) (ho : (eng d e).state = .out) (h126 : (esc d 126).state ≠ 2) :
    freeFailed d = setEngState e .loading { d with bist.failHold := none } := by
  unfold freeFailed
  rw [hf]
  dsimp only
  rw [if_neg h126, ho]
  rfl

theorem esc_endHandling_self (h : (esc d k).state = 2) :
    esc (endHandling k d) k = { esc d k with state := 0, count := 0, pulse := false, journal := none } :=
  esc_modEsc_self _ (esc_inside (fun e => e.state) (by rw [h]; decide))

theorem startGens_engines (d : Dev) : (startGens d).eng.engines = d.eng.engines ∧ (startGens d).bist = d.bist := by
  have hall : ∀ (l : List Nat) (g : Nat → Dev → Dev), (∀ k x, (g k x).eng.engines = x.eng.engines ∧ (g k x).bist = x.bist) →
      ∀ x : Dev, (forEach l g x).eng.engines = x.eng.engines ∧ (forEach l g x).bist = x.bist := fun l g hg x => by
    induction l generalizing x with
    | nil => exact ⟨rfl, rfl⟩
    | cons k t ih => exact ⟨(ih _).1.trans (hg k x).1, (ih _).2.trans (hg k x).2⟩
  unfold startGens
  refine hall _ _ (fun k x => ?_) d
  dsimp only
  split <;> exact ⟨rfl, rfl⟩

theorem noteQuorum_engines (h : NoSafe d) : (noteQuorum d).eng.engines = d.eng.engines ∧ (noteQuorum d).bist = d.bist := by
  unfold noteQuorum
  split
  · split
    · exact ⟨rfl, rfl⟩
    · have hr : escReaction { d with eng.quorum := true } 88 ≠ 5 := h 88 (by decide)
      rw [(occWrite_raiseNS 88 0xFFFF hr).1]
      exact ⟨rfl, rfl⟩
  · exact ⟨rfl, rfl⟩

/-- Of the engines a change of state changes the one named; self-test is not touched (R287). -/
theorem setEngState_engines (e : Nat) (st : EngState) (h : NoSafe d) :
    (setEngState e st d).eng.engines = (modEng e (fun y => { y with state := st }) d).eng.engines ∧ (setEngState e st d).bist = d.bist := by
  have hset : ∀ x : Dev, x.eng.engines = (modEng e (fun y => { y with state := st }) d).eng.engines → x.bist = d.bist → NoSafe x →
      (noteQuorum (startGens x)).eng.engines = (modEng e (fun y => { y with state := st }) d).eng.engines ∧
        (noteQuorum (startGens x)).bist = d.bist := fun x hx hxb hxn => by
    have hn : NoSafe (startGens x) := noSafe_of_heart (heart_startGens x) hxn
    exact ⟨(noteQuorum_engines hn).1.trans ((startGens_engines x).1.trans hx),
      (noteQuorum_engines hn).2.trans ((startGens_engines x).2.trans hxb)⟩
  unfold setEngState
  dsimp only
  split
  · exact hset _ rfl rfl h
  · exact hset _ rfl rfl h

theorem setEngState_self (e : Nat) (st : EngState) (h : NoSafe d) (hin : e < d.eng.engines.length) :
    (eng (setEngState e st d) e).state = st := by
  have heng : eng (setEngState e st d) e = eng (modEng e (fun y => { y with state := st }) d) e := by
    rw [eng, (setEngState_engines e st h).1]
    rfl
  rw [heng, eng_modEng_self _ hin]

theorem setEngState_other {e f : Nat} (st : EngState) (h : NoSafe d) (hf : f ≠ e) : eng (setEngState e st d) f = eng d f := by
  have heng : eng (setEngState e st d) f = eng (modEng e (fun y => { y with state := st }) d) f := by
    rw [eng, (setEngState_engines e st h).1]
    rfl
  rw [heng, eng_modEng_ne _ hf]

end Handling

/-! ## FAULTN read back -/

section Pins

variable {d : Dev}

theorem readHigh_settle (d : Dev) : (settle d).pins.faultnReadHigh = (d.pins.faultnReadHigh && faultnLow d) := by
  have hone : ∀ b a, (followOne b a).pins = a.pins := fun b a => by
    unfold followOne
    dsimp only
    split
    · split <;> rfl
    · split <;> rfl
  have hfollow : ∀ a, (followInterlock a).pins = a.pins := fun a => by
    rw [followInterlock_eq]
    split
    · show (followOne 3 (followOne 2 (followOne 1 (followOne 0 a)))).pins = _
      rw [hone, hone, hone, hone]
    · rfl
  have hfall : ∀ a, (noteFallback a).pins = a.pins := fun a => by
    unfold noteFallback
    split
    · split <;> rfl
    · rfl
  have hread : ∀ a, (noteWindow (settleFets a)).pins.faultnReadHigh = a.pins.faultnReadHigh := fun _ => rfl
  have hlow : faultnLow (settle d) = faultnLow d := by
    have hb := beside_settle d
    have htrip : (settle d).trip.tripn = d.trip.tripn := by rw [trip_of_beside hb]
    unfold faultnLow faultLive
    rw [power_of_beside hb, fault_of_beside hb, htrip]
  have hpins : (settle d).pins.faultnReadHigh = ((noteWindow (settleFets (noteFallback (followInterlock (grantTransfers d))))).pins.faultnReadHigh &&
      faultnLow (settle d)) := rfl
  rw [hpins, hread, hfall, hfollow, hlow]
  rfl

/-- An occurrence without a reaction ends neither FAULTN's pulse nor its LATCH (R491). -/
theorem pulse_occurred (react : React) {k : Nat} (unit : Nat) (tg : List Nat) (forced : Bool) (h : Plain d k) :
    (d.fault.stretch = true → (occurWith react k unit tg forced d).fault.stretch = true) ∧
      (d.fault.latch = true → (occurWith react k unit tg forced d).fault.latch = true) := by
  have hn : (noteEvent k d).fault = d.fault := by
    unfold noteEvent evtRecord
    split
    · rfl
    · dsimp only
      split
      · split <;> rfl
      · rfl
  have hmod : ∀ f : Esc → Esc, (modEsc k f (noteEvent k d)).fault.stretch = d.fault.stretch ∧
      (modEsc k f (noteEvent k d)).fault.latch = d.fault.latch := fun f => by
    rw [← hn]
    exact ⟨rfl, rfl⟩
  have hkeep : ∀ {e : Dev}, e.fault.stretch = d.fault.stretch ∧ e.fault.latch = d.fault.latch →
      (d.fault.stretch = true → e.fault.stretch = true) ∧ (d.fault.latch = true → e.fault.latch = true) := fun he =>
    ⟨fun h => he.1.trans h, fun h => he.2.trans h⟩
  unfold occurWith
  split
  · exact hkeep ⟨rfl, rfl⟩
  · dsimp only
    split
    · exact hkeep (hmod _)
    · split
      · exact hkeep ⟨by rw [hn], by rw [hn]⟩
      · split
        · exact hkeep (hmod _)
        · split
          · rename_i hinfo _ hstate hcount
            have hzero : escReaction d k = 0 := by
              rcases h.2 with h | h | h | h
              · exact absurd h hinfo
              · exact h
              · exact absurd h hstate
              · omega
            unfold becomeSevere
            rw [escReaction_of_occWrite (occWrite_noteEvent k d) k, hzero]
            exact ⟨fun _ => rfl, fun _ => rfl⟩
          · exact hkeep (hmod _)

/-- FAULTN driven low stays so through an occurrence without a reaction. -/
theorem faultnLow_occurred {k : Nat} (h : Plain d k) (ha : awake d = true) (hl : faultnLow d = true) : faultnLow (raise k d) = true := by
  obtain ⟨-, -, -, hocc⟩ := occurred_raise k h
  obtain ⟨hstretch, hlatch⟩ := pulse_occurred reactFull 0xFFFF [] false h
  have hpower : (raise k d).power = d.power := by rw [hocc]
  have hauto : (raise k d).fault.auto = d.fault.auto := by rw [hocc]
  have hforce : (raise k d).fault.force = d.fault.force := by rw [hocc]
  have hstartup : (raise k d).fault.startup = d.fault.startup := by rw [hocc]
  have hlive : faultLive (raise k d) = faultLive d := by rw [faultLive, faultLive, hocc]
  unfold faultnLow at hl ⊢
  rw [hpower, hauto, hforce, hstartup, hlive]
  rcases awake_pstate ha with hp | hp | hp <;>
  · rw [hp] at hl ⊢
    simp only [Bool.or_eq_true, Bool.and_eq_true] at hl ⊢
    rcases hl with (((hl | hl) | hl) | hl) | hl
    · exact .inl (.inl (.inl (.inl hl)))
    · exact .inl (.inl (.inl (.inr hl)))
    · exact .inl (.inl (.inr (hstretch hl)))
    · exact .inl (.inr ⟨hlatch hl.1, hl.2⟩)
    · exact .inr hl

end Pins

/-- FAULTN_STUCK (R493). -/
def stuckRun (d : Dev) : Dev := if awake d && faultnLow d then raise 127 { d with pins.faultnReadHigh := true } else d

theorem answers_stuck {s : State} (hc : Calm s.toDev) (ha : awake s.toDev = true) (hl : faultnLow s.toDev = true) (hp : Plain s.toDev 127) :
    Answers .faultnStuck s (fun t => t.pins.faultnReadHigh = true ∧ Noted 127 s.toDev t) := by
  have hcalm : Calm { s.toDev with pins.faultnReadHigh := true } := hc
  have hplain : Plain { s.toDev with pins.faultnReadHigh := true } 127 := hp
  have hrun : stuckRun s.toDev = raise 127 { s.toDev with pins.faultnReadHigh := true } := if_pos (by simp [ha, hl])
  obtain ⟨hnoted, hcalm', hpower⟩ := noted_raised reactFull 127 0xFFFF [] false _ hcalm hplain
  refine ⟨{ s with toDev := settle (raise 127 { s.toDev with pins.faultnReadHigh := true }) }, ?_, rfl, ?_, noted_of_beside ⟨rfl, rfl⟩ hnoted⟩
  · have heff : effect stuckRun s.toDev = settle (raise 127 { s.toDev with pins.faultnReadHigh := true }) := by
      rw [effect_calm (by rw [hrun]; exact hcalm') (by rw [hrun, raise, raiseOn, hpower]; exact id), hrun]
    rw [← heff]
    rfl
  · obtain ⟨-, -, -, hocc⟩ := occurred_raise 127 hplain
    have hread : (raise 127 { s.toDev with pins.faultnReadHigh := true }).pins.faultnReadHigh = true := by rw [hocc]
    show (settle (raise 127 { s.toDev with pins.faultnReadHigh := true })).pins.faultnReadHigh = true
    rw [readHigh_settle, hread, faultnLow_occurred hplain ha hl]
    rfl

/-! ## Start-up checks -/

/-- STARTUP_CHECKS_DONE (R494, R495). -/
def checksRun (fails : List (Nat × Nat)) (d : Dev) : Dev :=
  if awake d && d.fault.startup && !d.fault.critical then
    let l := fails.filter (checkMade d)
    let bad := l.any checkCritical
    qmsg 0x0C 0x00 l.length (forEach l checkFails { d with fault.critical := bad, fault.startup := bad })
  else d

theorem soft_checkFails (f : Nat × Nat) (d : Dev) : Soft d (checkFails f d) := by
  have hnote : Soft d (jput ⟨oBIST, 0xFF, 0⟩ 0x0BF7 0 (msgWord f.1 0x01 f.2) (qmsg f.1 0x01 f.2 d)) :=
    soft_trans (soft_of_mild (mild_qmsg _ _ _ d)) (soft_of_heart rfl)
  unfold checkFails
  dsimp only
  split
  · exact soft_after (soft_of_mild (mild_raiseBist _ _ _)) hnote
  · exact soft_after (soft_of_mild (mild_raiseBist _ _ _)) hnote
  · exact soft_after (soft_of_mild (mild_raise (by decide) _)) hnote

section Checks

variable {s : State}

/-- The device once the start-up checks have ended (R494). -/
def checksEnd (l : List (Nat × Nat)) (d : Dev) : Dev :=
  qmsg 0x0C 0x00 l.length (forEach l checkFails { d with fault.critical := l.any checkCritical, fault.startup := l.any checkCritical })

theorem checksRun_ends (fails : List (Nat × Nat)) {d : Dev} (ha : awake d = true) (hs : d.fault.startup = true) (hcr : d.fault.critical = false) :
    checksRun fails d = checksEnd (fails.filter (checkMade d)) d := if_pos (by simp [ha, hs, hcr])

theorem soft_checksEnd (l : List (Nat × Nat)) (d : Dev) :
    Soft { d with fault.critical := l.any checkCritical, fault.startup := l.any checkCritical } (checksEnd l d) := by
  unfold checksEnd
  exact soft_after (soft_of_mild (mild_qmsg _ _ _ _)) (soft_forEach _ _ (fun f _ => soft_checkFails f) _)

theorem answers_checks (fails : List (Nat × Nat)) (hc : Calm s.toDev) (hn : NoSafe s.toDev) (ha : awake s.toDev = true)
    (hs : s.fault.startup = true) (hcr : s.fault.critical = false) :
    Answers (.startupChecksDone fails) s (fun t => t.fault.startup = (fails.filter (checkMade s.toDev)).any checkCritical ∧
      t.fault.critical = (fails.filter (checkMade s.toDev)).any checkCritical ∧
      Beside (checksEnd (fails.filter (checkMade s.toDev)) s.toDev) t) := by
  have hrun := checksRun_ends fails ha hs hcr
  generalize fails.filter (checkMade s.toDev) = l at hrun ⊢
  have hn' : NoSafe { s.toDev with fault.critical := l.any checkCritical, fault.startup := l.any checkCritical } := hn
  have hheart := soft_checksEnd l s.toDev hn'
  have hcalm : Calm (checksEnd l s.toDev) := calm_of_heart hheart hc
  refine answers_mono (answers_beside (f := checksRun fails) rfl hrun hcalm (by rw [power_of_heart hheart]; exact id)) fun t hb => ⟨?_, ?_, hb⟩
  · rw [fault_of_beside hb]
    exact congrArg Heart.startup hheart
  · rw [fault_of_beside hb]
    exact congrArg Heart.critical hheart

theorem qmsg_room (src kind addr : Nat) {d : Dev} (hm : d.eng.msgs.length < 32) (hf : 0 < freeCount d) :
    qmsg src kind addr d = { d with eng.msgs := d.eng.msgs ++ [msgWord src kind addr] } := if_pos (by simp [hm, hf])

/-- An event without a reaction files at most one record (R404). -/
theorem evtRecs_occurred {k : Nat} {d : Dev} (h : Plain d k) : (raise k d).host.evtRecs.length ≤ d.host.evtRecs.length + 1 := by
  have hnote : (noteEvent k d).host.evtRecs.length ≤ d.host.evtRecs.length + 1 := by
    unfold noteEvent evtRecord
    split
    · omega
    · dsimp only
      split
      · split
        · rw [List.length_append]
          rfl
        · exact Nat.le_succ _
      · exact Nat.le_succ _
  have hmod : ∀ f : Esc → Esc, (modEsc k f (noteEvent k d)).host.evtRecs.length ≤ d.host.evtRecs.length + 1 := fun _ => hnote
  unfold raise raiseOn occurWith
  split
  · omega
  · dsimp only
    split
    · exact hmod _
    · split
      · exact hnote
      · split
        · exact hmod _
        · split
          · rename_i hinfo _ hstate hcount
            have hzero : escReaction d k = 0 := by
              rcases h.2 with h | h | h | h
              · exact absurd h hinfo
              · exact h
              · exact absurd h hstate
              · omega
            unfold becomeSevere
            rw [escReaction_of_occWrite (occWrite_noteEvent k d) k, hzero]
            exact hnote
          · exact hmod _

/-- One failure of no unit, with room for its messages (R494, R495). -/
theorem checksEnd_one {d : Dev} {src addr : Nat} (h5 : src ≠ 5) (h8 : src ≠ 8) (hm : d.eng.msgs.length < 31) (hf : 64 < freeCount d)
    (hp : Plain d 126) :
    mbit (checksEnd [(src, addr)] d).host.evf 126 = true ∧
      (checksEnd [(src, addr)] d).eng.msgs = d.eng.msgs ++ [msgWord src 1 addr, msgWord 0x0C 0 1] ∧
      ∃ e : Entry, (checksEnd [(src, addr)] d).jrn.q27 = d.jrn.q27 ++ [e] ∧ e.origin = 6 ∧ e.ctxA = 0xFF ∧ e.item = 0x0BF7 ∧ e.old = 0 ∧
        e.new = msgWord src 1 addr := by
  let d0 : Dev := { d with fault.critical := [(src, addr)].any checkCritical, fault.startup := [(src, addr)].any checkCritical }
  let d1 : Dev := jput ⟨oBIST, 0xFF, 0⟩ 0x0BF7 0 (msgWord src 0x01 addr) { d0 with eng.msgs := d.eng.msgs ++ [msgWord src 0x01 addr] }
  have hmsg : qmsg src 0x01 addr d0 = { d0 with eng.msgs := d.eng.msgs ++ [msgWord src 0x01 addr] } :=
    qmsg_room _ _ _ (Nat.lt_succ_of_lt hm) (Nat.lt_of_lt_of_le (by decide : 0 < 65) hf)
  have hfails : checkFails (src, addr) d0 = raise 126 d1 := by
    have heq : checkFails (src, addr) d0 = raise 126 (jput ⟨oBIST, 0xFF, 0⟩ 0x0BF7 0 (msgWord src 0x01 addr) (qmsg src 0x01 addr d0)) := by
      unfold checkFails
      dsimp only
      split
      · exact absurd rfl h5
      · exact absurd rfl h8
      · rfl
    rw [heq, hmsg]
  have hplain : Plain d1 126 := hp
  have hrecs := evtRecs_occurred hplain
  obtain ⟨hevf, -, -, hocc⟩ := occurred_raise 126 hplain
  have hend : checksEnd [(src, addr)] d = qmsg 0x0C 0x00 1 (raise 126 d1) := by
    rw [← hfails]
    rfl
  have hlen : (raise 126 d1).eng.msgs.length < 32 := by
    rw [hocc]
    show (d.eng.msgs ++ [msgWord src 0x01 addr]).length < 32
    rw [List.length_append]
    exact Nat.succ_lt_succ hm
  have hroom : 0 < freeCount (raise 126 d1) := by
    have hq : d1.jrn.q27.length = d.jrn.q27.length + 1 := List.length_append
    have hml : d1.eng.msgs.length = d.eng.msgs.length + 1 := List.length_append
    have hfree : freeCount (raise 126 d1) = d.part.pool - (d.eng.pool.length + min 16 d1.jrn.q27.length + d1.eng.msgs.length +
        (raise 126 d1).host.evtRecs.length + d.host.strmRecs.length + d.eng.linkHeld + d.eng.capXfer.length + d.eng.copyHeld) := by
      rw [freeCount, hocc]
      rfl
    have hhost : d1.host.evtRecs.length = d.host.evtRecs.length := rfl
    rw [hhost] at hrecs
    rw [hfree, hq, hml]
    unfold freeCount at hf
    omega
  rw [hend, qmsg_room _ _ _ hlen hroom]
  refine ⟨?_, ?_, { time := timeMs d1 % 2 ^ 40, unsynced := !d.jrn.synced, origin := 6, item := 0x0BF7, old := 0, new := msgWord src 1 addr
                    ctxA := 0xFF, ctxB := 0 }, ?_, rfl, rfl, rfl, rfl, rfl⟩
  · show mbit (raise 126 d1).host.evf 126 = true
    rw [hevf]
    exact mbit_mset_self _ (by decide)
  · show (raise 126 d1).eng.msgs ++ [msgWord 0x0C 0x00 1] = _
    rw [hocc]
    exact List.append_assoc _ _ _
  · show (raise 126 d1).jrn.q27 = _
    rw [hocc]
    rfl

end Checks

/-- STRETCH_END (R483, R491). -/
def stretchRun (d : Dev) : Dev :=
  if d.fault.stretch then
    { d with fault.stretch := false, fault.esc := d.fault.esc.map (fun (e : Esc) => { e with pulse := false }) }
  else d

/-- The other counters and the engine of a handling that ends (R483, R505). -/
theorem answers_handlingEnd {s : State} {k : Fin 128} (hc : Calm s.toDev) (hn : NoSafe s.toDev) (h2 : (esc s.toDev k).state = 2)
    (hp : (esc s.toDev k).pulse = false) (hj : (esc s.toDev k).journal = none) :
    Answers (.escHandlingEnd k) s (fun t => Beside (freeFailed (endHandling k s.toDev)) t ∧
        (s.bist.failHold = none → esc t k = { esc s.toDev k with state := 0, count := 0 } ∧
          (∀ i, i ≠ k.val → esc t i = esc s.toDev i) ∧ Beside { s.toDev with fault := { s.fault with esc := t.fault.esc } } t) ∧
        (∀ e, e < 16 → s.bist.failHold = some e → (eng s.toDev e).state = .out → (k.val = 126 ∨ (esc s.toDev 126).state ≠ 2) →
          t.bist.failHold = none ∧ (eng t e).state = .loading)) := by
  have hrun : handlingRun k s.toDev = freeFailed (endHandling k s.toDev) := if_pos (by simp [h2, hp, hj])
  have hself := esc_endHandling_self h2
  have hne : ∀ i, i ≠ k.val → esc (endHandling k s.toDev) i = esc s.toDev i := fun i hi => esc_modEsc_ne k.val i _ s.toDev hi
  have hmild : Mild s.toDev (freeFailed (endHandling k s.toDev)) := mild_after (mild_freeFailed _) (mild_same rfl)
  refine answers_mono (answers_soft (f := handlingRun k) rfl hrun hc hn (soft_of_mild hmild)) fun t hb => ⟨hb, fun hf => ?_, fun e _ hf ho h126 => ?_⟩
  · rw [freeFailed_none (show (endHandling k s.toDev).bist.failHold = none from hf)] at hb
    refine ⟨?_, fun i hi => ?_, ?_⟩
    · rw [esc_of_beside hb, hself, ← hp, ← hj]
    · rw [esc_of_beside hb, hne i hi]
    · rw [fault_of_beside hb]
      exact hb
  · have hsevere : (esc (endHandling k s.toDev) 126).state ≠ 2 := by
      by_cases hk : k.val = 126
      · rw [← hk, hself]
        show (0 : Nat) ≠ 2
        decide
      · rw [hne 126 (Ne.symm hk)]
        exact h126.resolve_left hk
    rw [freeFailed_loads (show (endHandling k s.toDev).bist.failHold = some e from hf) ho hsevere] at hb
    have hin : e < s.eng.engines.length := eng_inside (by rw [ho]; decide)
    have hn' : NoSafe { endHandling k s.toDev with bist.failHold := none } := hn
    refine ⟨?_, ?_⟩
    · rw [bist_of_beside hb, (setEngState_engines e .loading hn').2]
    · rw [engine_of_beside hb, setEngState_self e .loading hn' hin]

/-- Settles O39: each row is its own change of counters; the start-up checks raise what they list. -/
theorem escalationTimersAndReactionEntries : Obligations.EscalationTimersAndReactionEntries := by
  intro s k hc hn
  have hinside : (esc s.toDev k).state ≠ 0 → k.val < s.fault.esc.length := esc_inside (fun e => e.state)
  refine ⟨fun hi h1 => ?_, fun h => ?_, fun h2 hp hj => answers_handlingEnd hc hn h2 hp hj, fun h => ?_, fun it old new r hj ha hr => ?_,
    fun h => ?_, fun hs => ?_, fun hs => ?_, fun ha hl hp => answers_stuck hc ha hl hp, fun h => ?_, fun hr hp => ?_, fun hr => ?_,
    fun ha hs hcr => ⟨fun fails => answers_checks fails hc hn ha hs hcr, fun hm hf => ?_, fun src addr h5 h8 hm hf hp => ?_⟩, fun h l => ?_⟩
  · exact answers_modEsc (f := windowRun k) rfl (if_pos (by simp [hi, h1])) hc (hinside (by rw [h1]; decide))
  · refine answers_same (f := windowRun k) rfl hc (if_neg ?_)
    rcases h with h | h <;> simp [h]
  · refine answers_same (f := handlingRun k) rfl hc (if_neg ?_)
    rcases h with h | h | h <;> simp [h]
  · have hk : k.val < s.fault.esc.length := esc_inside (fun e => e.journal) (by rw [hj]; exact fun h => by cases h)
    have hrun : entryRun k s.toDev = jput ⟨oREACTION, k, r⟩ it old new (modEsc k (fun e => { e with journal := none }) s.toDev) := by
      rw [entryRun, hj]
      exact if_pos (by simp [ha, hr, hc.1])
    refine answers_mono (answers_heart (f := entryRun k) rfl hrun hc rfl) fun t hb => ⟨?_, fun i hi => ?_, ?_, ?_⟩
    · rw [esc_of_beside hb]
      exact esc_modEsc_self _ hk
    · rw [esc_of_beside hb]
      exact esc_modEsc_ne k.val i _ s.toDev hi
    · rw [jrn_of_beside hb]
      rfl
    · rw [fault_of_beside hb, jrn_of_beside hb]
      exact hb
  · refine answers_same (f := entryRun k) rfl hc ?_
    unfold entryRun
    split
    · refine if_neg ?_
      rcases h with h | h | h
      · simp [h]
      · simp [h]
      · simp_all
    · rfl
  · refine answers_mono (answers_heart (f := stretchRun) rfl (if_pos hs) hc rfl) fun t hb => ⟨?_, fun i => ?_, ?_⟩
    · rw [fault_of_beside hb]
    · rw [esc_of_beside hb]
      unfold esc nth
      simp only [List.getD_eq_getElem?_getD, List.getElem?_map]
      cases s.fault.esc[i]? <;> rfl
    · rw [fault_of_beside hb]
      exact hb
  · exact answers_same (f := stretchRun) rfl hc (if_neg (by simp [hs]))
  · refine answers_same (f := stuckRun) rfl hc (if_neg ?_)
    rcases h with h | h <;> simp [h]
  · exact answers_noted (f := fun d => whenDo (coreRuns d) (raise 96) d) reactFull 0xFFFF [] false rfl (if_pos hr) hc hp id
  · exact answers_same (f := fun d => whenDo (coreRuns d) (raise 96) d) rfl hc (if_neg (by simp [hr]))
  · have hrun : checksRun [] s.toDev = _ := (checksRun_ends [] ha hs hcr).trans
      (qmsg_room (d := { s.toDev with fault.critical := false, fault.startup := false }) 0x0C 0x00 0 hm hf)
    exact answers_beside (f := checksRun []) rfl hrun hc id
  · have hmade : [(src, addr)].filter (checkMade s.toDev) = [(src, addr)] := by
      have : checkMade s.toDev (src, addr) = true := by
        unfold checkMade
        dsimp only
        split
        · exact absurd rfl h5
        · exact absurd rfl h8
        · rfl
      simp [this]
    have hans := answers_checks [(src, addr)] hc hn ha hs hcr
    rw [hmade] at hans
    obtain ⟨hevf, hmsgs, e, hq, horigin, hctx, hitem, hold, hnew⟩ := checksEnd_one (addr := addr) h5 h8 hm hf hp
    refine answers_mono hans fun t ⟨hstartup, _, hb⟩ => ⟨?_, ?_, ?_, e, ?_, horigin, hctx, hitem, hold, hnew⟩
    · rw [hstartup]
      rw [Bool.eq_iff_iff]
      simp [checkCritical, or_assoc]
    · rw [host_of_beside hb]
      exact hevf
    · rw [eng_of_beside hb]
      exact hmsgs
    · rw [jrn_of_beside hb]
      exact hq
  · refine answers_same (f := checksRun l) rfl hc (if_neg ?_)
    rcases h with h | h | h <;> simp [h]

end Sys2Proof.Proofs
end

section
/-! PROOF. Slots and slices of the periodic self-test (16_periodic_self_test.md R500 to R513). -/

namespace Sys2Proof.Proofs

open Sys2Proof Sys2Proof.Machine Sys2Proof.Safety Sys2Proof.Laws

/-! ## Kinds and cycles -/

section Kinds

variable {d : Dev} {k : Nat}

theorem kindAt_modKind (f : Kind → Kind) (h : k < d.bist.kinds.length) : kindAt (modKind k f d) k = f (kindAt d k) :=
  nth_modify_self f Kind.reset h

/-- What a cycle's end leaves of the self-test: everything but the cycle's own registers and places (R507, R513). -/
structure CycleKept (a b : Dev) : Prop where
  rest : b = { a with bist := b.bist }
  slice : b.bist.slice = a.bist.slice
  waiting : b.bist.waiting = a.bist.waiting
  withdrawn : b.bist.withdrawn = a.bist.withdrawn
  deferred : b.bist.deferred = a.bist.deferred
  rot : b.bist.rot = a.bist.rot
  length : b.bist.kinds.length = a.bist.kinds.length
  kind : ∀ k, (kindAt b k).last = (kindAt a k).last ∧ (kindAt b k).fails = (kindAt a k).fails ∧
    (kindAt b k).incomplete = (kindAt a k).incomplete

theorem cycleEnd_kept (d : Dev) : CycleKept d (cycleEnd d) := by
  unfold cycleEnd
  dsimp only
  split
  · refine ⟨rfl, rfl, rfl, rfl, rfl, rfl, List.length_map _, fun k => ?_⟩
    unfold kindAt nth
    simp only [List.getD_eq_getElem?_getD, List.getElem?_map]
    cases d.bist.kinds[k]? <;> exact ⟨rfl, rfl, rfl⟩
  · exact ⟨rfl, rfl, rfl, rfl, rfl, rfl, rfl, fun _ => ⟨rfl, rfl, rfl⟩⟩

theorem cycleEnd_busy (h : d.bist.slice ≠ none ∨ d.bist.waiting ≠ none) : cycleEnd d = d := by
  refine if_neg fun hc => ?_
  simp only [Bool.and_eq_true, Option.isNone_iff_eq_none] at hc
  rcases h with h | h
  · exact h hc.1.1.1
  · exact h hc.1.1.2

theorem heart_cycleEnd (d : Dev) : heart (cycleEnd d) = heart d := by
  have hk := cycleEnd_kept d
  rw [hk.rest]
  unfold heart
  rw [hk.waiting]

theorem soft_cycleEnd (d : Dev) : Soft d (cycleEnd d) := soft_of_heart (heart_cycleEnd d)

end Kinds

/-! ## A slice deferred or begun -/

section Slices

variable {d : Dev} {k u : Nat}

theorem qmsg_bist (src kind addr : Nat) (d : Dev) : (qmsg src kind addr d).bist = d.bist ∧ (qmsg src kind addr d).eng.engines = d.eng.engines := by
  unfold qmsg
  split <;> exact ⟨rfl, rfl⟩

/-- What a DEFERRED slice leaves (R508, R511). -/
theorem deferSlice_leaves (k u : Nat) (d : Dev) :
    (deferSlice k u d).eng.engines = d.eng.engines ∧ (deferSlice k u d).bist.slice = d.bist.slice ∧
      (deferSlice k u d).bist.rot = d.bist.rot ∧ (deferSlice k u d).bist.withdrawn = d.bist.withdrawn ∧
      (deferSlice k u d).bist.deferred = satInc 65535 d.bist.deferred ∧ (k < d.bist.kinds.length → (kindAt (deferSlice k u d) k).last = 4) := by
  unfold deferSlice
  generalize hx : spend k u (modKind k (fun x => { x with last := 4, unit := sliceUnit k u })
    { d with bist.deferred := satInc 65535 d.bist.deferred }) = x
  obtain ⟨hb, he⟩ := qmsg_bist (sliceSource k) 0x07 (sliceAddr k u) x
  rw [he, kindAt, hb, ← hx]
  refine ⟨rfl, rfl, rfl, rfl, rfl, fun hk => ?_⟩
  have hlen : k < (modKind k (fun x => { x with last := 4, unit := sliceUnit k u })
      { d with bist.deferred := satInc 65535 d.bist.deferred }).bist.kinds.length := by
    show k < (d.bist.kinds.modify k _).length
    rw [List.length_modify]
    exact hk
  refine (congrArg Kind.last (kindAt_modKind _ hlen)).trans ?_
  exact congrArg Kind.last (kindAt_modKind (d := { d with bist.deferred := satInc 65535 d.bist.deferred }) _ hk)

theorem soft_deferSlice (k u : Nat) (d : Dev) : Soft d (deferSlice k u d) :=
  soft_after (soft_of_mild (mild_qmsg _ _ _ _)) (soft_of_heart rfl)

/-- Reading a word touches neither the self-test nor the array (R480). -/
theorem sramReadWord_kept (w : Nat) (h : NoSafe d) : (sramReadWord w d).bist = d.bist ∧ (sramReadWord w d).eng = d.eng := by
  unfold sramReadWord
  split
  · have hr : escReaction { d with fault.sramBad := adel d.fault.sramBad w } 90 ≠ 5 := h 90 (by decide)
    rw [(occWrite_raiseNS 90 w hr).1]
    exact ⟨rfl, rfl⟩
  · rw [(occWrite_raiseNS 91 w (h 91 (by decide))).1]
    exact ⟨rfl, rfl⟩
  · exact ⟨rfl, rfl⟩

theorem sramReadWords_kept (l : List Nat) (h : NoSafe d) :
    (forEach l sramReadWord d).bist = d.bist ∧ (forEach l sramReadWord d).eng = d.eng := by
  induction l generalizing d with
  | nil => exact ⟨rfl, rfl⟩
  | cons w t ih =>
    have hw := sramReadWord_kept w h
    have ht := ih (d := sramReadWord w d) (noSafe_of_heart (heart_of_core (mild_sramReadWord w d h).core) h)
    exact ⟨ht.1.trans hw.1, ht.2.trans hw.2⟩

/-- What the beginning of a slice leaves (R500, R501). -/
theorem beginSlice_leaves (k u : Nat) (h : NoSafe d) : heart (beginSlice k u d) = heart d ∧ (beginSlice k u d).eng = d.eng ∧
    (beginSlice k u d).bist.slice = some (k, u) ∧ (beginSlice k u d).bist.rot = d.bist.rot ∧
    (beginSlice k u d).bist.withdrawn = d.bist.withdrawn ∧ (k < d.bist.kinds.length → (kindAt (beginSlice k u d) k).next = u + 1) := by
  have hnext : k < d.bist.kinds.length → (kindAt (spend k u { d with bist.slice := some (k, u) }) k).next = u + 1 := fun hk =>
    congrArg Kind.next (kindAt_modKind (d := { d with bist.slice := some (k, u) }) _ hk)
  have hstart : ∀ x : Dev, heart x = heart d → x.eng = d.eng →
      x.bist = { (spend k u { d with bist.slice := some (k, u) }).bist with spare := x.bist.spare } →
      heart x = heart d ∧ x.eng = d.eng ∧ x.bist.slice = some (k, u) ∧ x.bist.rot = d.bist.rot ∧ x.bist.withdrawn = d.bist.withdrawn ∧
        (k < d.bist.kinds.length → (kindAt x k).next = u + 1) := fun x hx he hb => by
    refine ⟨hx, he, ?_, ?_, ?_, fun hk => ?_⟩
    · rw [hb]
      rfl
    · rw [hb]
      rfl
    · rw [hb]
      rfl
    · rw [← hnext hk, kindAt, hb]
      rfl
  have hspend : heart (spend k u { d with bist.slice := some (k, u) }) = heart d := rfl
  unfold beginSlice
  dsimp only
  split
  · have hn : NoSafe (spend 0 u { d with bist.slice := some (0, u) }) := noSafe_of_heart hspend h
    obtain ⟨hb, he⟩ := sramReadWords_kept ((d.fault.sramBad.map (fun e => e.1)).filter (fun w => w / 512 == u)) hn
    have hheart := (mild_forEach ((d.fault.sramBad.map (fun e => e.1)).filter (fun w => w / 512 == u)) sramReadWord
      (fun w _ => mild_sramReadWord w) (spend 0 u { d with bist.slice := some (0, u) }) hn).core
    refine hstart _ ?_ he ?_
    · exact (heart_of_core hheart : heart (forEach _ sramReadWord _) = _).trans hspend
    · rw [← hb]
  · exact hstart _ rfl rfl rfl
  · exact hstart _ rfl rfl rfl
  · exact hstart _ hspend rfl rfl

end Slices

/-! ## A slice that waits for the test DAC -/

/-- In the wake of a command that leaves this device nothing happens: calm but perhaps for a slice that goes on waiting. -/
def Rests (a : Dev) : Prop :=
  a.cmd.busy = none ∧ a.cmd.waiting = [] ∧ Unarmed a ∧ (a.aux.toVerify = [] ∧ a.aux.gapWait = false ∧ (a.aux.running = true → a.aux.target < 73)) ∧
    serveSlice a = a

theorem rests_of_calm {a : Dev} (h : Calm a) : Rests a :=
  ⟨h.1, h.2.1, h.2.2.1, ⟨h.2.2.2.1, h.2.2.2.2.1, h.2.2.2.2.2.1⟩, serveSlice_idle h.2.2.2⟩

theorem serveDac_unasked {a : Dev} (h : a.aux.toVerify = [] ∧ a.aux.gapWait = false ∧ (a.aux.running = true → a.aux.target < 73)) :
    serveDac a = a := by
  obtain ⟨hv, hg, hr⟩ := h
  have hstart : startVerify a = a := by simp [startVerify, hv]
  have hstale : dropStale a = a := by
    unfold dropStale
    cases hrun : a.aux.running with
    | false => simp
    | true => simp [hg, Nat.not_le.mpr (hr hrun)]
  have htry : tryCheck a = a := by simp [tryCheck, hg]
  unfold serveDac
  rw [hstart, hstale, htry, ite_self]

theorem answers_rests {s : State} {i : Instr} {f : Dev → Dev} {a : Dev} (hi : exec i s = runDev s f) (hf : f s.toDev = a) (hr : Rests a)
    (hp : a.power = s.power) : Answers i s (Beside a) := by
  obtain ⟨hb, hw, hcaps, hdac, hslice⟩ := hr
  have hhold : a.power.safeHold = true → s.toDev.power.safeHold = true := by rw [hp]; exact id
  refine ⟨{ s with toDev := settle a }, ?_, rfl, beside_settle a⟩
  have heff : effect f s.toDev = settle a := by
    unfold effect wake
    rw [hf, armInHold_kept hhold, afterEvents_unarmed 4 _ _ hcaps, longEnds_calm hb hw, serveDac_unasked hdac, hslice]
  rw [hi, runDev, heff]

section Turns

variable {s : State} {d : Dev} {k u : Nat}

/-- The slice of a slot waits for the test DAC (R508). -/
def slotWaits (k u : Nat) (d : Dev) : Dev := { d with bist.waiting := some (k, u, dacDeadline d k u) }

/-- A slice that waits goes on waiting at once: its deadline lies ahead, and nothing of its slot has changed (R508). -/
theorem rests_slotWaits (hc : Calm d) (ha : active d = true) (hb : sliceBarred d k u = false) (hu : d.aux.dacUser ≠ .unused) :
    Rests (slotWaits k u d) := by
  obtain ⟨hbusy, hwait, hcaps, hv, hg, hrun, -⟩ := hc
  refine ⟨hbusy, hwait, hcaps, ⟨hv, hg, hrun⟩, ?_⟩
  have hline : ¬ dacDeadline d k u < (slotWaits k u d).now := Nat.not_lt.mpr (Nat.le_add_right _ _)
  have hact : active (slotWaits k u d) = true := ha
  have hbar : sliceBarred (slotWaits k u d) k u = false := hb
  have hdac : (slotWaits k u d).aux.dacUser ≠ .unused := hu
  have hw : (slotWaits k u d).bist.waiting = some (k, u, dacDeadline d k u) := rfl
  generalize slotWaits k u d = x at hline hact hbar hdac hw ⊢
  rw [serveSlice, hw]
  dsimp only
  rw [if_neg (by simp [hline, hact, hbar]), if_neg (by simpa using hdac)]

theorem slotSlice_barred (h : sliceBarred d k u = true) : slotSlice k u d = deferSlice k u d := if_pos h

theorem slotSlice_waits (h : sliceBarred d k u = false) (hk : (k = 2 ∨ k = 3) ∧ d.aux.dacUser ≠ .unused) :
    slotSlice k u d = slotWaits k u d := by
  rw [slotSlice, if_neg (by simp [h]), if_pos (by simpa using hk)]
  rfl

theorem slotSlice_begins (h : sliceBarred d k u = false) (hk : ¬ ((k = 2 ∨ k = 3) ∧ d.aux.dacUser ≠ .unused)) :
    slotSlice k u d = beginSlice k u d := by
  rw [slotSlice, if_neg (by simp [h]), if_neg (by simpa using hk)]

/-- A slot's slice, with what it leaves for the wake. -/
theorem rests_slotSlice (hc : Calm d) (hn : NoSafe d) (ha : active d = true) (k u : Nat) :
    Rests (cycleEnd (slotSlice k u d)) ∧ (cycleEnd (slotSlice k u d)).power = d.power := by
  have hcalm : ∀ x : Dev, heart x = heart d → Rests (cycleEnd x) ∧ (cycleEnd x).power = d.power := fun x hx => by
    have hx' : heart (cycleEnd x) = heart d := (heart_cycleEnd x).trans hx
    exact ⟨rests_of_calm (calm_of_heart hx' hc), power_of_heart hx'⟩
  cases hb : sliceBarred d k u with
  | true =>
    rw [slotSlice_barred hb]
    exact hcalm _ (soft_deferSlice k u d hn)
  | false =>
    by_cases hk : (k = 2 ∨ k = 3) ∧ d.aux.dacUser ≠ .unused
    · rw [slotSlice_waits hb hk, cycleEnd_busy (.inr (by rw [slotWaits]; simp))]
      exact ⟨rests_slotWaits hc ha hb hk.2, rfl⟩
    · rw [slotSlice_begins hb hk]
      exact hcalm _ (beginSlice_leaves k u hn).1

/-- A turn leaves who is withdrawn and the array (R504). -/
theorem slotSlice_keeps (hn : NoSafe d) (k u : Nat) :
    (slotSlice k u d).bist.withdrawn = d.bist.withdrawn ∧ (slotSlice k u d).eng.engines = d.eng.engines := by
  unfold slotSlice
  split
  · exact ⟨(deferSlice_leaves k u d).2.2.2.1, (deferSlice_leaves k u d).1⟩
  · split
    · exact ⟨rfl, rfl⟩
    · exact ⟨(beginSlice_leaves k u hn).2.2.2.2.1, congrArg Eng.engines (beginSlice_leaves k u hn).2.1⟩

end Turns

/-! ## A slot -/

/-- BIST_SLOT (R288, R504, R505, R508). -/
def slotRun (d : Dev) : Dev :=
  if !active d || itemN d 0x0903 = 0 || d.bist.slice.isSome || d.bist.waiting.isSome then d
  else
    cycleEnd (match engineReady (cycleEnd d) with
      | some e =>
        if sliceBarred { cycleEnd d with bist.rot := 2 } 1 e then
          setEngState e .loading { deferSlice 1 e { cycleEnd d with bist.rot := 2 } with bist.withdrawn := none }
        else beginSlice 1 e { cycleEnd d with bist.rot := 2 }
      | none => slotTurn (cycleEnd d))

/-- A slot acts (R504). -/
def Falls (d : Dev) : Prop := active d = true ∧ itemN d 0x0903 ≠ 0 ∧ d.bist.slice = none

/-- The next turn's device (R504). -/
def turned (k : Nat) (d : Dev) : Dev := { d with bist.rot := (k + 1) % 5 }

/-- The device with an engine withdrawn for its test (R288, R505). -/
def withdrawn (e : Nat) (d : Dev) : Dev := drainOut (setEngState e .draining { d with bist.rot := 2, bist.withdrawn := some e })

/-- An engine's turn is deferred (R288, R508). -/
def unfit (e : Nat) (d : Dev) : Bool :=
  d.power.opTarget.isSome || !d.power.vdOk || decide ((itemN d 0x0901 : Rat) < sliceNeed d 1 e) || withdrawRefused d

section Slot

variable {d : Dev} {e k u : Nat} {l : List Nat}

theorem slotRun_idle (h : ¬ Falls d) : slotRun d = d := by
  refine if_pos ?_
  by_contra hn
  simp only [Bool.or_eq_true, Bool.not_eq_true', decide_eq_true_eq, not_or, Bool.not_eq_false, Bool.not_eq_true, Option.isSome_eq_false_iff,
    Option.isNone_iff_eq_none] at hn
  exact h ⟨hn.1.1.1, hn.1.1.2, hn.1.2⟩

theorem slotRun_falls (h : Falls d) (hw : d.bist.waiting = none) : slotRun d = cycleEnd (match engineReady (cycleEnd d) with
      | some e =>
        if sliceBarred { cycleEnd d with bist.rot := 2 } 1 e then
          setEngState e .loading { deferSlice 1 e { cycleEnd d with bist.rot := 2 } with bist.withdrawn := none }
        else beginSlice 1 e { cycleEnd d with bist.rot := 2 }
      | none => slotTurn (cycleEnd d)) := by
  obtain ⟨ha, hi, hs⟩ := h
  exact if_neg (by simp [ha, hi, hs, hw])

theorem slotTurn_none (h : nextKind d d.bist.rot = none) : slotTurn d = d := by rw [slotTurn, h]

theorem slotTurn_kind (h : nextKind d d.bist.rot = some k) (hk : k ≠ 1) (hu : dueUnits d k = u :: l) :
    slotTurn d = slotSlice k u (turned k d) := by
  unfold slotTurn
  rw [h]
  split
  · rename_i heq
    cases heq
  · rename_i heq
    exact absurd (Option.some.inj heq) hk
  · rename_i heq
    cases heq
    rw [takeTurn, hu]
    rfl

theorem slotTurn_engine (h : nextKind d d.bist.rot = some 1) (hp : pickEngine d = some e) :
    slotTurn d = if unfit e d then deferSlice 1 e { d with bist.rot := 2 }
      else (nextKind (withdrawn e d) 2).elim (withdrawn e d) (fun k => takeTurn k (withdrawn e d)) := by
  unfold slotTurn
  rw [h]
  dsimp only
  rw [hp]
  dsimp only
  by_cases hu : unfit e d = true
  · rw [if_pos hu]
    exact if_pos hu
  · rw [if_neg hu]
    refine (if_neg hu).trans ?_
    change (match nextKind (withdrawn e d) 2 with
      | some k => takeTurn k (withdrawn e d)
      | none => withdrawn e d) = _
    generalize withdrawn e d = x
    cases nextKind x 2 <;> rfl

theorem nextKind_lt (h : nextKind d k = some u) : u < 5 := by
  obtain ⟨i, -, hi⟩ := List.mem_map.mp (List.mem_of_find?_eq_some h)
  omega

end Slot

/-! ## The end of a slice -/

section Ends

variable {d : Dev} {k u : Nat}

/-- The event itself is noted whatever its reaction (R477). -/
theorem evf_occurWith {react : React} {i : Nat} {tg : List Nat} {forced : Bool} (h : ∀ r d, r ≠ 5 → Mild d (react r i tg forced d)) (hi : i < 128)
    (unit : Nat) (hn : NoSafe d) (hp : srcAbsent d.part i = false) : mbit (occurWith react i unit tg forced d).host.evf i = true := by
  have hnote : mbit (noteEvent i d).host.evf i = true := by
    rw [(noteEvent_frame i d hp).1]
    exact mbit_mset_self _ hi
  have hn' : NoSafe (noteEvent i d) := noSafe_of_heart (heart_of_core (mild_noteEvent i d hn).core) hn
  have hmod : ∀ f : Esc → Esc, mbit (modEsc i f (noteEvent i d)).host.evf i = true := fun _ => hnote
  unfold occurWith
  rw [if_neg (by simp [hp])]
  dsimp only
  split
  · exact hmod _
  · split
    · exact hnote
    · split
      · exact hmod _
      · split
        · exact (mild_becomeSevere h hi unit _ hn').evf i hnote
        · exact hmod _

theorem evf_occurs {i : Nat} (hi : i < 128) (unit : Nat) (tg : List Nat) (forced : Bool) (hn : NoSafe d) (hp : srcAbsent d.part i = false) :
    mbit (occurWith reactFull i unit tg forced d).host.evf i = true :=
  evf_occurWith (fun _ d hr => mild_reactFull hr i tg forced d) hi unit hn hp

theorem evf_raiseNS {i : Nat} (hi : i < 128) (unit : Nat) (hn : NoSafe d) (hp : srcAbsent d.part i = false) :
    mbit (raiseNS i unit d).host.evf i = true :=
  evf_occurWith (fun _ _ hr => by rw [reactSafe, if_neg hr]; exact mild_refl _) hi unit hn hp

/-- The unit given back (R505, R510). -/
theorem returnUnit_leaves (k u : Nat) (failed : Bool) (hn : NoSafe d) :
    (returnUnit k u failed d).bist.slice = none ∧ (returnUnit k u failed d).bist.kinds = d.bist.kinds := by
  unfold returnUnit
  dsimp only
  split
  · split
    · exact ⟨rfl, rfl⟩
    · split
      · exact ⟨rfl, rfl⟩
      · have hkept : ∀ x, NoSafe x → (setEngState u .loading x).bist = x.bist :=
          fun x hx => (setEngState_engines u .loading hx).2
        rw [hkept]
        · exact ⟨rfl, rfl⟩
        · exact hn
  · split <;> exact ⟨rfl, rfl⟩

theorem soft_modKind (f : Kind → Kind) (d : Dev) : Soft d (modKind k f d) := soft_of_heart rfl

/-- The device of a slice that has failed, before EV126 (R511, R513, R519). -/
def failNoted (k u : Nat) (dac : Bool) (word : Nat) (d : Dev) : Dev :=
  returnUnit k u true (jput ⟨oBIST, k, 0⟩ 0x0BF7 0 (msgWord (failMsg k u dac).1 0x01 (failMsg k u dac).2)
    (qmsg (failMsg k u dac).1 0x01 (failMsg k u dac).2 (modKind k (fun x => { x with
      last := 2, unit := if k = 0 ∧ u ≠ 0xFFFF then word else sliceUnit k u, fails := satInc 65535 x.fails }) d)))

theorem failSlice_eq (k u : Nat) (dac : Bool) (word : Nat) (d : Dev) :
    failSlice k u dac word d = if k = 2 && dac then raise 126 (failNoted k u dac word d) else raiseBist k u (failNoted k u dac word d) := rfl

/-- What a failed slice leaves (R509, R511, R513, R519). -/
theorem failSlice_leaves (u : Nat) (dac : Bool) (word : Nat) (hn : NoSafe d) (hk : k < d.bist.kinds.length) :
    heart (failSlice k u dac word d) = heart d ∧ (failSlice k u dac word d).bist.slice = none ∧
      (kindAt (failSlice k u dac word d) k).last = 2 ∧
      (kindAt (failSlice k u dac word d) k).fails = satInc 65535 (kindAt d k).fails ∧
      mbit (failSlice k u dac word d).host.evf 126 = true ∧
      ∃ e : Entry, e ∈ (failSlice k u dac word d).jrn.q27 ∧ e.origin = 6 ∧ e.ctxA = k ∧ e.item = 0x0BF7 := by
  let d1 := modKind k (fun x => { x with
    last := 2, unit := if k = 0 ∧ u ≠ 0xFFFF then word else sliceUnit k u, fails := satInc 65535 x.fails }) d
  have hkind : kindAt d1 k = { kindAt d k with
      last := 2, unit := if k = 0 ∧ u ≠ 0xFFFF then word else sliceUnit k u, fails := satInc 65535 (kindAt d k).fails } :=
    kindAt_modKind _ hk
  have hd1 : heart d1 = heart d := rfl
  have hqb := (qmsg_bist (failMsg k u dac).1 0x01 (failMsg k u dac).2 d1).1
  have hq := (mild_qmsg (failMsg k u dac).1 0x01 (failMsg k u dac).2 d1 (noSafe_of_heart hd1 hn)).core
  have hnq := noSafe_of_heart ((heart_of_core hq).trans hd1) hn
  generalize hx : qmsg (failMsg k u dac).1 0x01 (failMsg k u dac).2 d1 = x at hqb hq hnq
  obtain ⟨e, he, horigin, hctx, hitem⟩ : ∃ e : Entry,
      (jput ⟨oBIST, k, 0⟩ 0x0BF7 0 (msgWord (failMsg k u dac).1 0x01 (failMsg k u dac).2) x).jrn.q27 = x.jrn.q27 ++ [e] ∧
        e.origin = 6 ∧ e.ctxA = k ∧ e.item = 0x0BF7 := ⟨_, rfl, rfl, rfl, rfl⟩
  have hy : failNoted k u dac word d = returnUnit k u true
      (jput ⟨oBIST, k, 0⟩ 0x0BF7 0 (msgWord (failMsg k u dac).1 0x01 (failMsg k u dac).2) x) := by
    rw [← hx]
    rfl
  have hj : heart (jput ⟨oBIST, k, 0⟩ 0x0BF7 0 (msgWord (failMsg k u dac).1 0x01 (failMsg k u dac).2) x) = heart x := rfl
  have hjb : (jput ⟨oBIST, k, 0⟩ 0x0BF7 0 (msgWord (failMsg k u dac).1 0x01 (failMsg k u dac).2) x).bist = x.bist := rfl
  generalize jput ⟨oBIST, k, 0⟩ 0x0BF7 0 (msgWord (failMsg k u dac).1 0x01 (failMsg k u dac).2) x = z at he hy hj hjb
  have hnz : NoSafe z := noSafe_of_heart hj hnq
  obtain ⟨hslice, hkinds⟩ := returnUnit_leaves (d := z) k u true hnz
  have hreturn := mild_returnUnit k u true z hnz
  rw [← hy] at hslice hkinds hreturn
  have hny : NoSafe (failNoted k u dac word d) := noSafe_of_heart (heart_of_core hreturn.core) hnz
  have habsent : ∀ p, srcAbsent p 126 = false := fun p => by cases p <;> rfl
  have hevent : Kept (failNoted k u dac word d) (failSlice k u dac word d) ∧ mbit (failSlice k u dac word d).host.evf 126 = true := by
    rw [failSlice_eq]
    split
    · exact ⟨mild_raise (by decide) _ hny, evf_occurs (by decide) _ _ _ hny (habsent _)⟩
    · exact ⟨mild_raiseBist k u _ hny, evf_occurs (by decide) _ _ _ hny (habsent _)⟩
  obtain ⟨hkept, hevf⟩ := hevent
  obtain ⟨hs, hks⟩ := hkept.slice hslice
  have hkinds' : kindAt (failSlice k u dac word d) k = kindAt d1 k := by
    rw [kindAt, hks, hkinds, hjb, hqb]
    rfl
  have hjrn : (failSlice k u dac word d).jrn = z.jrn :=
    (congrArg Dev.jrn (hkept.core.trans hreturn.core) : (core (failSlice k u dac word d)).jrn = (core z).jrn)
  refine ⟨?_, hs, ?_, ?_, hevf, e, ?_, horigin, hctx, hitem⟩
  · exact (heart_of_core (hkept.core.trans hreturn.core)).trans (hj.trans ((heart_of_core hq).trans hd1))
  · rw [hkinds', hkind]
  · rw [hkinds', hkind]
  · rw [hjrn, he]
    exact List.mem_append_right _ List.mem_cons_self

end Ends

/-! ## A withdrawal -/

section Withdrawal

variable {d : Dev} {e : Nat}

/-- The engine withdrawn for its test: its state, and that the self-test knows it (R288, R505). -/
structure Leaving (e : Nat) (d : Dev) : Prop where
  inside : e < d.eng.engines.length
  state : (eng d e).state = .draining ∨ (eng d e).state = .out
  known : d.bist.withdrawn = some e

theorem leaving_setEngState {f : Nat} (h : Leaving e d) (hn : NoSafe d) : Leaving e (setEngState f .out d) := by
  have hlen : e < (setEngState f .out d).eng.engines.length := by
    rw [(setEngState_engines f .out hn).1]
    show e < (d.eng.engines.modify f _).length
    rw [List.length_modify]
    exact h.inside
  refine ⟨hlen, ?_, by rw [(setEngState_engines f .out hn).2]; exact h.known⟩
  by_cases hf : e = f
  · subst hf
    exact .inr (setEngState_self e .out hn h.inside)
  · rw [setEngState_other .out hn hf]
    exact h.state

theorem leaving_drainOut (h : Leaving e d) (hn : NoSafe d) : Leaving e (drainOut d) := by
  unfold drainOut
  generalize List.range 16 = l
  induction l generalizing d with
  | nil => exact h
  | cons f t ih =>
    refine ih (d := if (eng d f).state == .draining && (eng d f).flume.isEmpty && (eng d f).running.isNone then setEngState f .out d else d) ?_ ?_
    · split
      · exact leaving_setEngState h hn
      · exact h
    · split
      · exact noSafe_of_heart (heart_of_core (mild_setEngState f .out d hn).core) hn
      · exact hn

theorem leaving_withdrawn (hin : e < d.eng.engines.length) (hn : NoSafe d) : Leaving e (withdrawn e d) := by
  have hset : ∀ x : Dev, NoSafe x → e < x.eng.engines.length → x.bist.withdrawn = some e →
      Leaving e (setEngState e .draining x) ∧ NoSafe (setEngState e .draining x) := fun x hx hl hw => by
    refine ⟨⟨?_, .inl (setEngState_self e .draining hx hl), ?_⟩, noSafe_of_heart (heart_of_core (mild_setEngState e .draining x hx).core) hx⟩
    · rw [(setEngState_engines e .draining hx).1]
      show e < (x.eng.engines.modify e _).length
      rw [List.length_modify]
      exact hl
    · rw [(setEngState_engines e .draining hx).2]
      exact hw
  obtain ⟨hl, hx⟩ := hset { d with bist.rot := 2, bist.withdrawn := some e } hn hin rfl
  exact leaving_drainOut hl hx

theorem soft_withdrawn (e : Nat) (d : Dev) : Soft d (withdrawn e d) :=
  soft_after (soft_of_mild (mild_drainOut _)) (soft_after (soft_of_mild (mild_setEngState _ _ _)) (soft_of_heart rfl))

/-- An engine that is picked is in service (R288). -/
theorem pickEngine_inside (h : pickEngine d = some e) : e < d.eng.engines.length := by
  have hmem := List.mem_of_mem_filter (List.mem_of_find?_eq_some h)
  refine eng_inside ?_
  have hact := List.of_mem_filter hmem
  rw [eq_of_beq hact]
  decide

theorem leaving_takeTurn (k : Nat) (h : Leaving e d) (hn : NoSafe d) : Leaving e (takeTurn k d) := by
  unfold takeTurn
  dsimp only
  split
  · rename_i u t hu
    obtain ⟨hw, he⟩ := slotSlice_keeps (d := turned k d) hn k u
    refine ⟨by rw [show (slotSlice k u { d with bist.rot := (k + 1) % 5 }).eng.engines = _ from he]; exact h.inside, ?_, hw.trans h.known⟩
    have heng : eng (slotSlice k u { d with bist.rot := (k + 1) % 5 }) e = eng d e := by
      unfold eng
      rw [show (slotSlice k u { d with bist.rot := (k + 1) % 5 }).eng.engines = _ from he]
      rfl
    rw [heng]
    exact h.state
  · exact ⟨h.inside, h.state, h.known⟩

theorem leaving_cycleEnd (h : Leaving e d) : Leaving e (cycleEnd d) := by
  have hk := cycleEnd_kept d
  have heng : (cycleEnd d).eng = d.eng := by rw [hk.rest]
  refine ⟨by rw [heng]; exact h.inside, ?_, hk.withdrawn.trans h.known⟩
  rw [show eng (cycleEnd d) e = eng d e by unfold eng; rw [heng]]
  exact h.state

theorem rests_takeTurn (hc : Calm d) (hn : NoSafe d) (ha : active d = true) (k : Nat) :
    Rests (cycleEnd (takeTurn k d)) ∧ (cycleEnd (takeTurn k d)).power = d.power := by
  unfold takeTurn
  dsimp only
  split
  · exact rests_slotSlice (d := turned k d) hc hn ha k _
  · have hx : heart (cycleEnd (turned k d)) = heart d := heart_cycleEnd _
    exact ⟨rests_of_calm (calm_of_heart hx hc), power_of_heart hx⟩

end Withdrawal

/-! ## The end of a slice -/

section Done

variable {d : Dev} {k u : Nat}

/-- BIST_SLICE_DONE (R505, R509, R511). -/
def doneRun (ok : Bool) (result direct : Int) (word : Nat) (d : Dev) : Dev :=
  match d.bist.slice with
  | none => d
  | some (k, u) =>
    cycleEnd (freeFailed (if slicePasses d k u ok result direct then
      returnUnit k u false (modKind k (fun x => { x with last := 1, unit := sliceUnit k u }) d)
    else failSlice k u (dacWrong u direct) word d))

/-- BIST_BUDGET_EXPIRY (R509, R510). -/
def budgetRun (d : Dev) : Dev :=
  match d.bist.slice, d.bist.waiting with
  | none, none => d
  | none, some (k, u, _) => cycleEnd (deferSlice k u { d with bist.waiting := none })
  | some (k, u), _ => cycleEnd (if k = 3 && d.cmp.checkBad then failSlice k u false 0 d else cutSlice d)

theorem doneRun_slice (h : d.bist.slice = some (k, u)) (ok : Bool) (result direct : Int) (word : Nat) :
    doneRun ok result direct word d = cycleEnd (freeFailed (if slicePasses d k u ok result direct then
      returnUnit k u false (modKind k (fun x => { x with last := 1, unit := sliceUnit k u }) d)
    else failSlice k u (dacWrong u direct) word d)) := by
  rw [doneRun, h]

theorem doneRun_none (h : d.bist.slice = none) (ok : Bool) (result direct : Int) (word : Nat) : doneRun ok result direct word d = d := by
  rw [doneRun, h]

theorem budgetRun_slice (h : d.bist.slice = some (k, u)) :
    budgetRun d = cycleEnd (if k = 3 && d.cmp.checkBad then failSlice k u false 0 d else cutSlice d) := by
  rw [budgetRun, h]

theorem budgetRun_none (h : d.bist.slice = none) (hw : d.bist.waiting = none) : budgetRun d = d := by
  rw [budgetRun, h, hw]

theorem passReturn_leaves (u : Nat) (hn : NoSafe d) (hk : k < d.bist.kinds.length) :
    let t := returnUnit k u false (modKind k (fun x => { x with last := 1, unit := sliceUnit k u }) d)
    heart t = heart d ∧ t.bist.slice = none ∧ (kindAt t k).last = 1 ∧ (kindAt t k).fails = (kindAt d k).fails := by
  have hx : heart (modKind k (fun x => { x with last := 1, unit := sliceUnit k u }) d) = heart d := rfl
  have hkind := kindAt_modKind (fun x => { x with last := 1, unit := sliceUnit k u }) hk
  dsimp only
  generalize modKind k (fun x => { x with last := 1, unit := sliceUnit k u }) d = x at hx hkind ⊢
  have hnx := noSafe_of_heart hx hn
  obtain ⟨hs, hks⟩ := returnUnit_leaves (d := x) k u false hnx
  have hkinds : kindAt (returnUnit k u false x) k = kindAt x k := by
    rw [kindAt, hks]
    rfl
  refine ⟨(heart_of_core (mild_returnUnit k u false x hnx).core).trans hx, hs, ?_, ?_⟩
  · rw [hkinds, hkind]
  · rw [hkinds, hkind]

theorem cutSlice_leaves (h : d.bist.slice = some (k, u)) (hn : NoSafe d) (hk : k < d.bist.kinds.length) :
    heart (cutSlice d) = heart d ∧ (cutSlice d).bist.slice = none ∧ (kindAt (cutSlice d) k).last = 3 ∧
      (kindAt (cutSlice d) k).incomplete = satInc 65535 (kindAt d k).incomplete := by
  have hx : heart (modKind k (fun x => { x with last := 3, unit := sliceUnit k u, incomplete := satInc 65535 x.incomplete }) d) = heart d := rfl
  have hkind := kindAt_modKind (fun x => { x with last := 3, unit := sliceUnit k u, incomplete := satInc 65535 x.incomplete }) hk
  have heq : cutSlice d = returnUnit k u false (qmsg (sliceSource k) 0x06 (sliceAddr k u)
      (modKind k (fun x => { x with last := 3, unit := sliceUnit k u, incomplete := satInc 65535 x.incomplete }) d)) := by
    rw [cutSlice, h]
  rw [heq]
  generalize modKind k (fun x => { x with last := 3, unit := sliceUnit k u, incomplete := satInc 65535 x.incomplete }) d = x at hx hkind ⊢
  have hnx := noSafe_of_heart hx hn
  have hq := heart_of_core (mild_qmsg (sliceSource k) 0x06 (sliceAddr k u) x hnx).core
  have hqb := (qmsg_bist (sliceSource k) 0x06 (sliceAddr k u) x).1
  generalize qmsg (sliceSource k) 0x06 (sliceAddr k u) x = y at hq hqb ⊢
  have hny := noSafe_of_heart hq hnx
  obtain ⟨hs, hks⟩ := returnUnit_leaves (d := y) k u false hny
  have hkinds : kindAt (returnUnit k u false y) k = kindAt x k := by
    rw [kindAt, hks, hqb]
    rfl
  refine ⟨(heart_of_core (mild_returnUnit k u false y hny).core).trans (hq.trans hx), hs, ?_, ?_⟩
  · rw [hkinds, hkind]
  · rw [hkinds, hkind]

/-- What the end of a slice shows beside what the slice left: nothing of it changes with a failed engine's release and the
end of a cycle (R505, R507). -/
structure EndKept (a t : Dev) : Prop where
  slice : t.bist.slice = none
  kind : ∀ k, (kindAt t k).last = (kindAt a k).last ∧ (kindAt t k).fails = (kindAt a k).fails ∧
    (kindAt t k).incomplete = (kindAt a k).incomplete
  evf : ∀ i, mbit a.host.evf i = true → mbit t.host.evf i = true
  jrn : t.jrn = a.jrn

theorem endKept_cycleEnd {a b : Dev} (h : EndKept a b) : EndKept a (cycleEnd b) := by
  have hk := cycleEnd_kept b
  refine ⟨hk.slice.trans h.slice, fun k => ?_, fun i hi => ?_, ?_⟩
  · obtain ⟨h1, h2, h3⟩ := hk.kind k
    obtain ⟨g1, g2, g3⟩ := h.kind k
    exact ⟨h1.trans g1, h2.trans g2, h3.trans g3⟩
  · rw [hk.rest]
    exact h.evf i hi
  · rw [hk.rest]
    exact h.jrn

theorem endKept_of_kept {a b : Dev} (hs : a.bist.slice = none) (h : Kept a b) : EndKept a b := by
  obtain ⟨hsb, hkb⟩ := h.slice hs
  have hkind : ∀ k, kindAt b k = kindAt a k := fun k => by
    rw [kindAt, hkb]
    rfl
  refine ⟨hsb, fun k => ?_, h.evf, (congrArg Dev.jrn h.core : (core b).jrn = (core a).jrn)⟩
  rw [hkind]
  exact ⟨rfl, rfl, rfl⟩

theorem endKept_of_beside {a b t : Dev} (h : EndKept a b) (ht : Beside b t) : EndKept a t := by
  have hb := bist_of_beside ht
  have hkind : ∀ k, kindAt t k = kindAt b k := fun k => by
    rw [kindAt, hb]
    rfl
  refine ⟨by rw [hb]; exact h.slice, fun k => by rw [hkind]; exact h.kind k, fun i hi => ?_, ?_⟩
  · rw [host_of_beside ht]
    exact h.evf i hi
  · rw [jrn_of_beside ht]
    exact h.jrn

end Done

section Clauses

variable {s : State} {e k u : Nat} {x : Dev}

theorem itemN_cycleEnd (d : Dev) (i : Nat) : itemN (cycleEnd d) i = itemN d i := by
  unfold itemN item
  rw [(cfg_part_of_heart (heart_cycleEnd d)).1, (cfg_part_of_heart (heart_cycleEnd d)).2]

theorem active_of_power {a b : Dev} (h : b.power = a.power) : active b = active a := by
  unfold active
  rw [h]

/-- A slot without an engine waiting leaves what its turn leaves. -/
theorem answers_turn (hf : Falls s.toDev) (hc : Calm s.toDev) (he : engineReady (cycleEnd s.toDev) = none) (hx : slotTurn (cycleEnd s.toDev) = x)
    (hr : Rests (cycleEnd x) ∧ (cycleEnd x).power = s.power) : Answers .bistSlot s (Beside (cycleEnd x)) := by
  refine answers_rests (f := slotRun) rfl ?_ hr.1 hr.2
  rw [slotRun_falls hf hc.2.2.2.2.2.2, he]
  exact congrArg cycleEnd hx

/-- A slot for the withdrawn engine leaves what becomes of it. -/
theorem answers_ready (hf : Falls s.toDev) (hc : Calm s.toDev) (he : engineReady (cycleEnd s.toDev) = some e)
    (hx : (if sliceBarred (turned 1 (cycleEnd s.toDev)) 1 e then
      setEngState e .loading { deferSlice 1 e (turned 1 (cycleEnd s.toDev)) with bist.withdrawn := none }
      else beginSlice 1 e (turned 1 (cycleEnd s.toDev))) = x)
    (hr : heart x = heart s.toDev) : Answers .bistSlot s (Beside (cycleEnd x)) := by
  have hh : heart (cycleEnd x) = heart s.toDev := (heart_cycleEnd x).trans hr
  refine answers_heart (f := slotRun) rfl ?_ hc hh
  rw [slotRun_falls hf hc.2.2.2.2.2.2, he]
  exact congrArg cycleEnd hx

theorem slot_deferred (hf : Falls s.toDev) (hx : Answers .bistSlot s (Beside (cycleEnd (deferSlice k u (turned k (cycleEnd s.toDev))))))
    (hk : k < s.bist.kinds.length) : Answers .bistSlot s (fun t => Beside (cycleEnd (deferSlice k u (turned k (cycleEnd s.toDev)))) t ∧
      t.eng.engines = s.eng.engines ∧ t.bist.slice = none ∧ t.bist.rot = (k + 1) % 5 ∧
      t.bist.deferred = satInc 65535 s.bist.deferred ∧ (kindAt t k).last = 4) := by
  have hcyc := cycleEnd_kept s.toDev
  have heng : (cycleEnd s.toDev).eng = s.eng := by rw [hcyc.rest]
  have hk5 : k < (turned k (cycleEnd s.toDev)).bist.kinds.length := hcyc.length.symm ▸ hk
  obtain ⟨hengs, hsl, hrot, -, hdef, hlast⟩ := deferSlice_leaves k u (turned k (cycleEnd s.toDev))
  have hend := cycleEnd_kept (deferSlice k u (turned k (cycleEnd s.toDev)))
  refine answers_mono hx fun t ht => ⟨ht, ?_, ?_, ?_, ?_, ?_⟩
  · rw [eng_of_beside ht, hend.rest]
    exact hengs.trans (congrArg Eng.engines heng)
  · rw [bist_of_beside ht, hend.slice, hsl]
    exact hcyc.slice.trans hf.2.2
  · rw [bist_of_beside ht, hend.rot, hrot]
    rfl
  · rw [bist_of_beside ht, hend.deferred, hdef]
    exact congrArg _ hcyc.deferred
  · rw [kindAt, bist_of_beside ht]
    exact (hend.kind k).1.trans (hlast hk5)

theorem slot_waits (hx : Answers .bistSlot s (Beside (cycleEnd (slotWaits k u (turned k (cycleEnd s.toDev)))))) :
    Answers .bistSlot s (Beside { turned k (cycleEnd s.toDev) with
      bist.waiting := some (k, u, s.now + (384 * ((itemN s.toDev 0x0901 : Rat) - sliceNeed (turned k (cycleEnd s.toDev)) k u)).floor.toNat) }) := by
  have hnow : (turned k (cycleEnd s.toDev)).now = s.now := by
    show (cycleEnd s.toDev).now = _
    rw [(cycleEnd_kept s.toDev).rest]
  have hitem : itemN (turned k (cycleEnd s.toDev)) 0x0901 = itemN s.toDev 0x0901 := itemN_cycleEnd s.toDev _
  have hline : dacDeadline (turned k (cycleEnd s.toDev)) k u =
      s.now + (384 * ((itemN s.toDev 0x0901 : Rat) - sliceNeed (turned k (cycleEnd s.toDev)) k u)).floor.toNat := by
    rw [dacDeadline, hnow, hitem]
  rw [cycleEnd_busy (.inr (by rw [slotWaits]; simp))] at hx
  rw [← hline]
  exact hx

theorem slot_begins (hn : NoSafe s.toDev) (hk : k < s.bist.kinds.length)
    (hx : Answers .bistSlot s (Beside (cycleEnd (beginSlice k u (turned k (cycleEnd s.toDev)))))) :
    Answers .bistSlot s (fun t => Beside (beginSlice k u (turned k (cycleEnd s.toDev))) t ∧
        t.bist.slice = some (k, u) ∧ t.bist.rot = (k + 1) % 5 ∧ (kindAt t k).next = u + 1) := by
  have hnt : NoSafe (turned k (cycleEnd s.toDev)) := noSafe_of_heart (heart_cycleEnd s.toDev) hn
  have hk5 : k < (turned k (cycleEnd s.toDev)).bist.kinds.length := (cycleEnd_kept s.toDev).length.symm ▸ hk
  obtain ⟨-, -, hsl, hrot, -, hnext⟩ := beginSlice_leaves k u hnt
  rw [cycleEnd_busy (.inl (by rw [hsl]; simp))] at hx
  refine answers_mono hx fun t ht => ⟨ht, ?_, ?_, ?_⟩
  · rw [bist_of_beside ht, hsl]
  · rw [bist_of_beside ht, hrot]
    rfl
  · rw [kindAt, bist_of_beside ht]
    exact hnext hk5

theorem unfit_iff (d : Dev) (e : Nat) : unfit e d = true ↔ (d.power.opTarget ≠ none ∨ d.power.vdOk = false ∨
    (itemN d 0x0901 : Rat) < sliceNeed (turned 1 d) 1 e ∨ withdrawRefused d = true) := by
  unfold unfit
  simp only [Bool.or_eq_true, Bool.not_eq_true', decide_eq_true_eq, Option.isSome_iff_ne_none, or_assoc]
  exact Iff.rfl

/-- The slot of an engine that is withdrawn goes to the next kind (R505). -/
theorem slot_withdraws (hc : Calm s.toDev) (hn : NoSafe s.toDev) (hf : Falls s.toDev) (hp : pickEngine (cycleEnd s.toDev) = some e)
    (hx : x = (nextKind (withdrawn e (cycleEnd s.toDev)) 2).elim (withdrawn e (cycleEnd s.toDev)) (fun k => takeTurn k (withdrawn e (cycleEnd s.toDev)))) :
    (Rests (cycleEnd x) ∧ (cycleEnd x).power = s.power) ∧ Leaving e (cycleEnd x) := by
  have hh : heart (cycleEnd s.toDev) = heart s.toDev := heart_cycleEnd s.toDev
  have hw : heart (withdrawn e (cycleEnd s.toDev)) = heart s.toDev :=
    (soft_withdrawn e (cycleEnd s.toDev) (noSafe_of_heart hh hn)).trans hh
  have hl : Leaving e (withdrawn e (cycleEnd s.toDev)) := leaving_withdrawn (pickEngine_inside hp) (noSafe_of_heart hh hn)
  subst hx
  generalize withdrawn e (cycleEnd s.toDev) = w at hw hl ⊢
  have hpow : w.power = s.power := power_of_heart hw
  have hcw := calm_of_heart hw hc
  have hnw := noSafe_of_heart hw hn
  cases nextKind w 2 with
  | none =>
    have hcyc := (heart_cycleEnd w).trans hw
    exact ⟨⟨rests_of_calm (calm_of_heart hcyc hc), power_of_heart hcyc⟩, leaving_cycleEnd hl⟩
  | some k =>
    obtain ⟨hr, hpr⟩ := rests_takeTurn hcw hnw ((active_of_power hpow).trans hf.1) k
    exact ⟨⟨hr, hpr.trans hpow⟩, leaving_cycleEnd (leaving_takeTurn k hl hnw)⟩

end Clauses

section DoneClauses

variable {s : State} {k u : Nat}

theorem slicePasses_iff (d : Dev) (k u : Nat) (ok : Bool) (result direct : Int) : slicePasses d k u ok result direct = true ↔
    (ok = true ∧ (k = 2 → (result - direct).natAbs ≤ 10000 + (if u % 2 = 0 then 1000000 else 4000000) / 200) ∧
      (k = 3 → d.cmp.checkBad = false)) := by
  unfold slicePasses pathGood sliceUv
  by_cases h2 : k = 2
  · subst h2
    simp
  · by_cases h3 : k = 3
    · subst h3
      simp
    · simp [h2, h3]

theorem dacWrong_eq (u : Nat) (direct : Int) :
    dacWrong u direct = decide (20000 < (direct - (if u % 2 = 0 then 1000000 else 4000000)).natAbs) := by
  unfold dacWrong sliceUv
  split <;> rfl

/-- The end of a slice that leaves a device of the same heart shows what that device shows. -/
theorem answers_end {i : Instr} {f : Dev → Dev} {a b : Dev} (hc : Calm s.toDev) (hi : exec i s = runDev s f) (hf : f s.toDev = cycleEnd b)
    (hb : heart b = heart s.toDev) (hk : EndKept a b) : Answers i s (fun t => EndKept a t ∧ Beside (cycleEnd b) t) :=
  answers_mono (answers_heart hi hf hc ((heart_cycleEnd b).trans hb)) fun _ ht => ⟨endKept_of_beside (endKept_cycleEnd hk) ht, ht⟩

theorem endKept_refl {a : Dev} (h : a.bist.slice = none) : EndKept a a := ⟨h, fun _ => ⟨rfl, rfl, rfl⟩, fun _ => id, rfl⟩

theorem freeFailed_leaves {a : Dev} (hn : NoSafe s.toDev) (ha : heart a = heart s.toDev) (hs : a.bist.slice = none) :
    heart (freeFailed a) = heart s.toDev ∧ EndKept a (freeFailed a) := by
  have hm := mild_freeFailed a (noSafe_of_heart ha hn)
  exact ⟨(heart_of_core hm.core).trans ha, endKept_of_kept hs hm⟩

end DoneClauses

/-- Settles O40: a slot's turn is followed case by case; the wake after it finds nothing to do, be it that a slice goes on
waiting for the test DAC; what a slice's end leaves outlives the release of a failed engine and the cycle's end. -/
theorem selfTestSlotsAndSlices : Obligations.SelfTestSlotsAndSlices := by
  intro s hc hn hlen
  dsimp only
  have hwait : s.bist.waiting = none := hc.2.2.2.2.2.2
  have hheart : heart (cycleEnd s.toDev) = heart s.toDev := heart_cycleEnd s.toDev
  have hcd : Calm (cycleEnd s.toDev) := calm_of_heart hheart hc
  have hnd : NoSafe (cycleEnd s.toDev) := noSafe_of_heart hheart hn
  have hpow : (cycleEnd s.toDev).power = s.power := power_of_heart hheart
  have hdac : (cycleEnd s.toDev).aux = s.aux := by rw [(cycleEnd_kept s.toDev).rest]
  have hidle : ∀ {f : Dev → Dev} {i : Instr}, exec i s = runDev s f → f s.toDev = s.toDev → Answers i s (Beside s.toDev) :=
    fun hi hf => answers_heart hi hf hc rfl
  refine ⟨fun h => hidle (f := slotRun) rfl (slotRun_idle h), fun hf he hk => ?_, fun k u l hf he hk hk1 hu => ?_,
    fun e hf he hk hp => ?_, fun e hf he => ?_, fun k u hs hk => ?_, fun hs => ?_⟩
  · have hcyc := (heart_cycleEnd _).trans hheart
    exact answers_turn hf hc he (slotTurn_none hk) ⟨rests_of_calm (calm_of_heart hcyc hc), power_of_heart hcyc⟩
  · have hk5 : k < s.bist.kinds.length := hlen ▸ nextKind_lt hk
    obtain ⟨hr, hpr⟩ := rests_slotSlice (d := turned k (cycleEnd s.toDev)) hcd hnd ((active_of_power hpow).trans hf.1) k u
    have hans := answers_turn hf hc he (slotTurn_kind hk hk1 hu) ⟨hr, hpr.trans hpow⟩
    have hclaim : (turned k (cycleEnd s.toDev)).aux.dacUser = s.aux.dacUser := congrArg Aux.dacUser hdac
    refine ⟨fun hb => ?_, fun hb hcl => ?_, fun hb hcl => ?_⟩
    · rw [slotSlice_barred (d := turned k (cycleEnd s.toDev)) hb] at hans
      exact answers_mono (slot_deferred hf hans hk5) fun t ⟨ht, _, h⟩ => ⟨ht, h⟩
    · rw [slotSlice_waits (d := turned k (cycleEnd s.toDev)) hb ⟨hcl.1, hclaim ▸ hcl.2⟩] at hans
      exact slot_waits hans
    · rw [slotSlice_begins (d := turned k (cycleEnd s.toDev)) hb (hclaim ▸ hcl)] at hans
      exact slot_begins hn hk5 hans
  · have hturn := slotTurn_engine hk hp
    have hunfit := unfit_iff (cycleEnd s.toDev) e
    rw [hpow, itemN_cycleEnd] at hunfit
    refine ⟨fun hu => ?_, fun hu => ?_⟩
    · rw [if_pos (hunfit.mpr hu)] at hturn
      have hx : heart (cycleEnd (deferSlice 1 e (turned 1 (cycleEnd s.toDev)))) = heart s.toDev :=
        (heart_cycleEnd _).trans ((soft_deferSlice 1 e (turned 1 (cycleEnd s.toDev)) hnd).trans hheart)
      have hans := answers_turn hf hc he hturn ⟨rests_of_calm (calm_of_heart hx hc), power_of_heart hx⟩
      exact answers_mono (slot_deferred (k := 1) hf hans (by omega)) fun t ⟨ht, he, _, _, hd, hl⟩ => ⟨ht, he, hd, hl⟩
    · rw [if_neg (fun h => hu (hunfit.mp h))] at hturn
      obtain ⟨hr, hl⟩ := slot_withdraws hc hn hf hp rfl
      refine answers_mono (answers_turn hf hc he hturn hr) fun t ht => ⟨?_, ?_, ht⟩
      · rw [bist_of_beside ht]
        exact hl.known
      · rw [engine_of_beside ht]
        exact hl.state
  · have hready := fun {x : Dev} => answers_ready (x := x) hf hc he
    refine ⟨fun hb => ?_, fun hb => ?_⟩
    · obtain ⟨hx, -, hsl, -⟩ := beginSlice_leaves (d := turned 1 (cycleEnd s.toDev)) 1 e hnd
      have hans := hready (if_neg (by rw [show sliceBarred (turned 1 (cycleEnd s.toDev)) 1 e = false from hb]; simp)) (hx.trans hheart)
      rw [cycleEnd_busy (.inl (by rw [hsl]; simp))] at hans
      refine answers_mono hans fun t ht => ⟨?_, ht⟩
      rw [bist_of_beside ht]
      exact hsl
    · have hdefer := deferSlice_leaves 1 e (turned 1 (cycleEnd s.toDev))
      have hh : heart (deferSlice 1 e (turned 1 (cycleEnd s.toDev))) = heart s.toDev :=
        (soft_deferSlice 1 e (turned 1 (cycleEnd s.toDev)) hnd).trans hheart
      have hy : heart { deferSlice 1 e (turned 1 (cycleEnd s.toDev)) with bist.withdrawn := none } = heart s.toDev := hh
      have hx := (heart_of_core (mild_setEngState e .loading _ (noSafe_of_heart hy hn)).core).trans hy
      have hb' := (setEngState_engines e .loading (noSafe_of_heart hy hn)).2
      refine answers_mono (hready (if_pos hb) hx) fun t ht => ⟨?_, ?_, ht⟩
      · rw [bist_of_beside ht, (cycleEnd_kept _).withdrawn, hb']
      · rw [bist_of_beside ht, (cycleEnd_kept _).deferred, hb']
        exact hdefer.2.2.2.2.1.trans (congrArg _ (cycleEnd_kept s.toDev).deferred)
  · have hk5 : k < s.bist.kinds.length := hlen ▸ hk
    refine ⟨fun ok result direct word => ⟨fun hp => ?_, fun hp => ?_⟩, fun hb => ?_, fun h3 hb => ?_⟩
    · obtain ⟨hh, hsl, hlast, hfails⟩ := passReturn_leaves (d := s.toDev) u hn hk5
      obtain ⟨hfh, hfk⟩ := freeFailed_leaves hn hh hsl
      have hdone := doneRun_slice (d := s.toDev) hs ok result direct word
      rw [if_pos ((slicePasses_iff s.toDev k u ok result direct).mpr hp)] at hdone
      refine answers_mono (answers_end (i := .bistSliceDone ok result direct word) hc (f := doneRun ok result direct word) rfl hdone hfh hfk) fun t ⟨hk, ht⟩ => ⟨hk.slice, ?_, ?_, ht⟩
      · exact (hk.kind k).1.trans hlast
      · exact (hk.kind k).2.1.trans hfails
    · obtain ⟨hh, hsl, hlast, hfails, hevf, e, he⟩ := failSlice_leaves (d := s.toDev) u (dacWrong u direct) word hn hk5
      obtain ⟨hfh, hfk⟩ := freeFailed_leaves hn hh hsl
      have hdone := doneRun_slice (d := s.toDev) hs ok result direct word
      rw [if_neg (fun h => hp ((slicePasses_iff s.toDev k u ok result direct).mp h))] at hdone
      have hans := answers_end (i := .bistSliceDone ok result direct word) hc (f := doneRun ok result direct word) rfl hdone hfh hfk
      rw [dacWrong_eq] at hans hlast hfails hevf he
      refine answers_mono hans fun t ⟨hk, ht⟩ => ⟨hk.slice, (hk.kind k).1.trans hlast, (hk.kind k).2.1.trans hfails, hk.evf _ hevf, ?_, ht⟩
      exact ⟨e, hk.jrn ▸ he.1, he.2⟩
    · obtain ⟨hh, hsl, hlast, hinc⟩ := cutSlice_leaves hs hn hk5
      have hrun := budgetRun_slice hs
      rw [if_neg (by simpa using hb)] at hrun
      refine answers_mono (answers_end (i := .bistBudgetExpiry) hc (f := budgetRun) rfl hrun hh (endKept_refl hsl)) fun t ⟨hk, ht⟩ => ⟨hk.slice, ?_, ?_, ht⟩
      · exact (hk.kind k).1.trans hlast
      · exact (hk.kind k).2.2.trans hinc
    · obtain ⟨hh, hsl, hlast, -, hevf, -⟩ := failSlice_leaves (d := s.toDev) u false 0 hn hk5
      have hrun := budgetRun_slice hs
      rw [if_pos (by simpa using ⟨h3, hb⟩)] at hrun
      refine answers_mono (answers_end (i := .bistBudgetExpiry) hc (f := budgetRun) rfl hrun hh (endKept_refl hsl)) fun t ⟨hk, ht⟩ => ⟨hk.slice, ?_, hk.evf _ hevf, ht⟩
      exact (hk.kind k).1.trans hlast
  · exact ⟨fun ok result direct word => hidle (f := doneRun ok result direct word) rfl (doneRun_none hs ok result direct word),
      hidle (f := budgetRun) rfl (budgetRun_none hs hwait)⟩

end Sys2Proof.Proofs
end

section
/-! PROOF. The journal's writer, the programming of a generation, the ends of sessions and nonces
(17_journal_otp_security.md R514 to R536, 14_aeddo_command_reference.md R441, R473). -/

namespace Sys2Proof.Proofs

open Sys2Proof Sys2Proof.Machine Sys2Proof.Safety Sys2Proof.Laws

/-! ## Responses -/

/-- b is a but for responses delivered and cached (R405, R409, R410, R413). -/
def AnswerWrite (a b : Dev) : Prop :=
  b = { a with
    host := { a.host with outst := b.host.outst, submitted := b.host.submitted, rsps := b.host.rsps }
    cmd := { a.cmd with out := b.cmd.out, cache := b.cmd.cache } }

section Answers

variable {a b c d : Dev}

theorem answerWrite_refl (a : Dev) : AnswerWrite a a := rfl

theorem answerWrite_trans (hab : AnswerWrite a b) (hbc : AnswerWrite b c) : AnswerWrite a c := by
  unfold AnswerWrite at *
  rw [hab] at hbc
  exact hbc

theorem answerWrite_deliver (bcast silent : Bool) (code seq len : Nat) (ws : List Word) (d : Dev) :
    AnswerWrite d (deliver bcast silent code seq len ws d) := by
  unfold deliver
  dsimp only
  split
  · split <;> rfl
  · split <;> rfl

theorem answerWrite_answer (code seq len : Nat) (quiet bcast gap : Bool) (st : Status) (data : List Word) (d : Dev) :
    AnswerWrite d (answer code seq len quiet bcast gap st data d) := by
  unfold answer
  exact answerWrite_trans (b := { d with cmd.cache := (⟨seq, code, rspWords (ownAddr d) code seq gap false 0 st
    (withAccept d bcast code seq data)⟩ :: d.cmd.cache).take 8 }) rfl (answerWrite_deliver _ _ _ _ _ _ _)

theorem answerWrite_forEach {α : Type} (l : List α) (f : α → Dev → Dev) (h : ∀ x d, AnswerWrite d (f x d)) (d : Dev) :
    AnswerWrite d (forEach l f d) := by
  induction l generalizing d with
  | nil => exact answerWrite_refl d
  | cons x t ih => exact answerWrite_trans (h x d) (ih _)

theorem answerWrite_finishBusy {x : Busy} (hb : d.cmd.busy = some x) (st : Status) (data : List Word) :
    AnswerWrite { d with cmd.busy := none } (finishBusy st data d) := by
  have heq : finishBusy st data d = (fun y => forEach x.copies (fun _ d => deliver x.bcast false x.code x.seq x.len
      (match y.cmd.cache with | z :: _ => dupWords (ownAddr y) z.words | [] => []) d) y)
      (answer x.code x.seq x.len x.quiet x.bcast x.gap st data { d with cmd.busy := none }) := by
    rw [finishBusy, hb] <;> rfl
  rw [heq]
  exact answerWrite_trans (answerWrite_answer _ _ _ _ _ _ _ _ _) (answerWrite_forEach _ _ (fun _ d => answerWrite_deliver _ _ _ _ _ _ d) _)

theorem rsps_deliver (hh : isHead d = true) (code seq len : Nat) (ws : List Word) :
    (deliver false false code seq len ws d).host.rsps = d.host.rsps ++ [⟨1, ws⟩] := by
  rw [deliver, if_pos hh]
  rfl

/-- The head's answer to a command that it has itself, with no copies (R405, R409, R413). -/
theorem finishBusy_head {x : Busy} (hb : d.cmd.busy = some x) (hh : isHead d = true) (hbc : x.bcast = false) (hcopies : x.copies = [])
    (st : Status) (data : List Word) (hq : (x.quiet && st.code == 0) = false) :
    (finishBusy st data d).host.rsps = d.host.rsps ++ [⟨1, rspWords 1 x.code x.seq x.gap false 0 st data⟩] := by
  have haddr : ownAddr { d with cmd.busy := none } = 1 := if_pos hh
  have heq : finishBusy st data d = answer x.code x.seq x.len x.quiet false x.gap st data { d with cmd.busy := none } := by
    rw [finishBusy, hb]
    dsimp only
    rw [hcopies, hbc]
    rfl
  rw [heq, answer, haddr, hq]
  refine rsps_deliver (d := { d with cmd := _ }) ?_ _ _ _ _
  exact hh

end Answers

/-! ## Reading OTP -/

/-- b is a after OTP words have been read: occurrences without a reaction, and the injections used up (R497, R525). -/
def OtpWrite (a b : Dev) : Prop :=
  b = { a with
    host := { a.host with evf := b.host.evf, evt := b.host.evt, evtRecs := b.host.evtRecs, evtRseq := b.host.evtRseq,
                          evtDrop := b.host.evtDrop }
    fault := { a.fault with esc := b.fault.esc, stretch := b.fault.stretch, latch := b.fault.latch, otpBad := b.fault.otpBad } }

theorem otpWrite_trans {a b c : Dev} (hab : OtpWrite a b) (hbc : OtpWrite b c) : OtpWrite a c := by
  unfold OtpWrite at *
  rw [hab] at hbc
  exact hbc

theorem otpWrite_of_occWrite {a b : Dev} (h : OccWrite a b) : OtpWrite a b := by
  have he := h.1
  unfold OtpWrite
  exact he.trans (by rw [he])

theorem noSafe_of_otpWrite {a b : Dev} (h : OtpWrite a b) (hn : NoSafe a) : NoSafe b := fun k hk => by
  have he : escReaction b k = escReaction a k := by
    rw [h]
    rfl
  rw [he]
  exact hn k hk

theorem otpWrite_otpRead (lo n : Nat) (d : Dev) (hn : NoSafe d) : OtpWrite d (otpRead lo n d).1 := by
  have hfold : ∀ (l : List Nat) (acc : Dev × List Nat), NoSafe acc.1 → OtpWrite acc.1 (l.foldl (fun acc w =>
      let inj := akey acc.1.fault.otpBad w
      let d1 := { acc.1 with fault.otpBad := adel acc.1.fault.otpBad w }
      if inj == some 2 || acc.1.otp.bad.contains w then (raiseNS 93 w d1, acc.2 ++ [w])
      else if inj == some 1 then (raiseNS 92 w d1, acc.2)
      else (d1, acc.2)) acc).1 := fun l => by
    induction l with
    | nil => exact fun acc _ => rfl
    | cons w t ih =>
      intro acc hacc
      have hused : OtpWrite acc.1 { acc.1 with fault.otpBad := adel acc.1.fault.otpBad w } := rfl
      have hstep : ∀ x : Dev × List Nat, OtpWrite acc.1 x.1 → OtpWrite acc.1 (t.foldl _ x).1 :=
        fun x hx => otpWrite_trans hx (ih x (noSafe_of_otpWrite hx hacc))
      have hraise : ∀ k, k < 128 → OtpWrite acc.1 (raiseNS k w { acc.1 with fault.otpBad := adel acc.1.fault.otpBad w }) := fun k hk =>
        otpWrite_trans hused (otpWrite_of_occWrite (occWrite_raiseNS k w (noSafe_of_otpWrite hused hacc k hk)))
      rw [List.foldl_cons]
      refine hstep _ ?_
      dsimp only
      split
      · exact hraise 93 (by decide)
      · split
        · exact hraise 92 (by decide)
        · exact hused
  exact hfold _ (d, []) hn

/-! ## The end of programming -/

section Programming

variable {d : Dev} {x : Busy} {g : Nat} {blk : List Word}

/-- OTP_LIMIT_DEPART (R441, R532). -/
def limitRun (d : Dev) : Dev :=
  match d.otp.burning with
  | some (g, blk) => if busyWith d 0x12 then commitFails g blk d else d
  | none => d

/-- OTP_PROGRAM_DONE (R441, R532). -/
def programRun (ok : Bool) (d : Dev) : Dev :=
  match d.otp.burning with
  | some (g, blk) =>
    if !busyWith d 0x12 then d
    else if ok && (otpRead (128 + 32 * g) 32 { d with otp.gens := d.otp.gens.set g blk }).2.isEmpty then
      finishBusy stOK [Word.of g, crc32 blk] (validateGen (commitCtx d) g blk (burnBlock g blk
        (otpRead (128 + 32 * g) 32 { d with otp.gens := d.otp.gens.set g blk }).1))
    else commitFails g blk (otpRead (128 + 32 * g) 32 { d with otp.gens := d.otp.gens.set g blk }).1
  | none => d

theorem limitRun_idle (h : d.otp.burning = none ∨ busyWith d 0x12 = false) : limitRun d = d := by
  unfold limitRun
  split
  · rename_i hb
    rcases h with h | h
    · rw [h] at hb
      cases hb
    · exact if_neg (by simp [h])
  · rfl

theorem programRun_idle (ok : Bool) (h : d.otp.burning = none ∨ busyWith d 0x12 = false) : programRun ok d = d := by
  unfold programRun
  split
  · rename_i hb
    rcases h with h | h
    · rw [h] at hb
      cases hb
    · exact if_pos (by simp [h])
  · rfl

theorem busyWith_of (hb : d.cmd.busy = some x) (hx : x.code = 0x12) : busyWith d 0x12 = true := by
  rw [busyWith, hb]
  simp [hx]

/-- A command that ends with its answer leaves a calm device. -/
theorem calm_finishBusy {y : Dev} (hb : d.cmd.busy = some x) (hw : d.cmd.waiting = []) (hu : Unarmed d) (hdac : DacIdle d)
    (hc : y.cmd = d.cmd) (hk : y.conv.caps = d.conv.caps) (ha : y.aux = d.aux) (hs : y.bist = d.bist) (st : Status) (data : List Word) :
    Calm (finishBusy st data y) := by
  have hfin := answerWrite_finishBusy (d := y) (hc ▸ hb) st data
  refine calm_of_eq (a := { d with cmd := (finishBusy st data y).cmd }) ⟨?_, ?_, hu, hdac⟩ rfl ?_ ?_ ?_
  · show (finishBusy st data y).cmd.busy = none
    rw [hfin]
  · show (finishBusy st data y).cmd.waiting = []
    rw [hfin]
    show y.cmd.waiting = []
    rw [hc, hw]
  · rw [hfin]
    exact hk
  · rw [hfin]
    exact ha
  · rw [hfin]
    exact hs

/-- OTP with a generation programmed and RETIRED (R528, R532). -/
def retiredOtp (g : Nat) (blk : List Word) (o : Otp) : Otp :=
  { o with gens := o.gens.set g blk, burning := none, retired := o.retired.set g (0x5A5A5A5A00000000 : BitVec 64) }

/-- OTP with a generation programmed and VALID (R528). -/
def validOtp (g : Nat) (blk : List Word) (o : Otp) : Otp :=
  { o with gens := o.gens.set g blk, burning := none, valid := o.valid.set g (BitVec.ofNat 64 (0xA5A5A5A5 * 2 ^ 32 + (crc32 blk).toNat)) }

/-- What a failed programming leaves (R441, R532). -/
theorem commitFails_leaves {y : Dev} (hb : y.cmd.busy = some x) :
    (commitFails g blk y).otp = retiredOtp g blk y.otp ∧ (commitFails g blk y).cmd.busy = none ∧ (commitFails g blk y).power = y.power := by
  have hr : (retireGen (commitCtx y) g (burnBlock g blk y)).cmd.busy = some x := hb
  have hfin := answerWrite_finishBusy hr stCHECK []
  unfold commitFails
  rw [hfin]
  exact ⟨rfl, rfl, rfl⟩

/-- What a failed programming leaves behind beside its answer. -/
theorem beside_commitFails {s : State} {i : Instr} {f : Dev → Dev} {y : Dev} (hi : exec i s = runDev s f) (hf : f s.toDev = commitFails g blk y)
    (hb : s.cmd.busy = some x) (hw : s.cmd.waiting = []) (hu : Unarmed s.toDev) (hdac : DacIdle s.toDev)
    (hy : OtpWrite { s.toDev with otp := y.otp } y) : Answers i s (Beside (commitFails g blk y)) := by
  have hyb : y.cmd.busy = some x := by rw [hy]; exact hb
  have hcalm : Calm (commitFails g blk y) := calm_finishBusy (d := s.toDev) hb hw hu hdac (by rw [hy]; rfl) (by rw [hy]; rfl) (by rw [hy]; rfl)
    (by rw [hy]; rfl) stCHECK []
  refine answers_beside hi hf hcalm ?_
  have hpow : y.power = s.power := by rw [hy]
  rw [(commitFails_leaves hyb).2.2, hpow]
  exact id

/-- The reading back of the generation just programmed (R441). -/
def readBack (g : Nat) (blk : List Word) (d : Dev) : Dev × List Nat := otpRead (128 + 32 * g) 32 { d with otp.gens := d.otp.gens.set g blk }

theorem limitRun_burns (hburn : d.otp.burning = some (g, blk)) (hb : d.cmd.busy = some x) (hx : x.code = 0x12) :
    limitRun d = commitFails g blk d := by
  rw [limitRun, hburn]
  exact if_pos (busyWith_of hb hx)

theorem programRun_fails (hburn : d.otp.burning = some (g, blk)) (hb : d.cmd.busy = some x) (hx : x.code = 0x12) (ok : Bool)
    (h : ok = false ∨ (readBack g blk d).2 ≠ []) : programRun ok d = commitFails g blk (readBack g blk d).1 := by
  rw [programRun, hburn]
  dsimp only
  rw [if_neg (by simp [busyWith_of hb hx])]
  refine if_neg fun hc => ?_
  rw [Bool.and_eq_true, List.isEmpty_iff] at hc
  rcases h with h | h
  · rw [h] at hc
    exact absurd hc.1 (by decide)
  · exact h hc.2

/-- The device whose generation is programmed and valid, before the answer (R441, R528). -/
def validated (g : Nat) (blk : List Word) (d : Dev) : Dev := validateGen (commitCtx d) g blk (burnBlock g blk d)

theorem programRun_ends (hburn : d.otp.burning = some (g, blk)) (hb : d.cmd.busy = some x) (hx : x.code = 0x12)
    (h : (readBack g blk d).2 = []) : programRun true d =
      finishBusy stOK [Word.of g, crc32 blk] (validateGen (commitCtx d) g blk (burnBlock g blk (readBack g blk d).1)) := by
  rw [programRun, hburn]
  dsimp only
  rw [if_neg (by simp [busyWith_of hb hx])]
  unfold readBack at h ⊢
  simp only [h, List.isEmpty_nil, Bool.and_self, if_true]

end Programming

section Ends

variable {s : State} {g : Fin 4} {blk : List Word} {b : Busy}

/-- A generation's programming that ends: RETIRED or VALID, and the command answered (R441, R528, R532). -/
theorem programming_ends (hw : s.cmd.waiting = []) (hu : Unarmed s.toDev) (hdac : DacIdle s.toDev) (hn : NoSafe s.toDev)
    (hburn : s.otp.burning = some (g.val, blk)) (hb : s.cmd.busy = some b) (hcode : b.code = 0x12)
    (hgens : s.otp.gens.length = 4) (hvalid : s.otp.valid.length = 4) (hretired : s.otp.retired.length = 4) :
    let full : Prop := isHead s.toDev = true ∧ b.bcast = false ∧ b.copies = []
    let r := otpRead (128 + 32 * g) 32 { s.toDev with otp.gens := s.otp.gens.set g blk }
    Answers .otpLimitDepart s (fun t => t.otp.burning = none ∧ nth t.otp.gens g [] = blk ∧ nth t.otp.retired g 0 = 0x5A5A5A5A00000000 ∧
      t.otp.valid = s.otp.valid ∧ t.cmd.busy = none ∧
      (full → t.host.rsps = s.host.rsps ++ [⟨1, rspWords 1 0x12 b.seq b.gap false 0 stCHECK []⟩]) ∧
      Beside (commitFails g blk s.toDev) t) ∧
    (∀ ok, (ok = false ∨ r.2 ≠ []) → Answers (.otpProgramDone ok) s (fun t => t.otp.burning = none ∧ nth t.otp.gens g [] = blk ∧
      nth t.otp.retired g 0 = 0x5A5A5A5A00000000 ∧ t.otp.valid = s.otp.valid ∧ t.cmd.busy = none ∧ Beside (commitFails g blk r.1) t)) ∧
    (r.2 = [] → Answers (.otpProgramDone true) s (fun t =>
      t.otp.burning = none ∧ nth t.otp.gens g [] = blk ∧ t.otp.retired = s.otp.retired ∧
      nth t.otp.valid g 0 = BitVec.ofNat 64 (0xA5A5A5A5 * 2 ^ 32 + (crc32 blk).toNat) ∧ t.cmd.busy = none ∧
      (full → b.quiet = false → s.fault.otpBad = [] →
        t.host.rsps = s.host.rsps ++ [⟨1, rspWords 1 0x12 b.seq b.gap false 0 stOK [Word.of g, crc32 blk]⟩]) ∧
      (∃ e : Entry, e ∈ t.jrn.q27 ∧ e.item = 0x0BF5 ∧ e.new = crc32 blk) ∧
      Beside (finishBusy stOK [Word.of g, crc32 blk] (validateGen (commitCtx r.1) g blk (burnBlock g blk r.1))) t)) := by
  dsimp only
  have hr : OtpWrite { s.toDev with otp.gens := s.otp.gens.set g blk } (readBack g blk s.toDev).1 :=
    otpWrite_otpRead (128 + 32 * g) 32 { s.toDev with otp.gens := s.otp.gens.set g blk } hn
  have hread : otpRead (128 + 32 * g) 32 { s.toDev with otp.gens := s.otp.gens.set g blk } = readBack g blk s.toDev := rfl
  rw [hread]
  have hends := fun h => programRun_ends (d := s.toDev) hburn hb hcode h
  have hfails := fun ok h => programRun_fails (d := s.toDev) hburn hb hcode ok h
  generalize readBack g blk s.toDev = r at hr hends hfails
  have hctx : commitCtx s.toDev = commitCtx r.1 := by
    unfold commitCtx
    rw [hr]
  rw [hctx] at hends
  have hotp : r.1.otp = { s.otp with gens := s.otp.gens.set g blk } := by rw [hr]
  have hcmd : r.1.cmd = s.cmd := by rw [hr]
  have hbr : r.1.cmd.busy = some b := by rw [hcmd]; exact hb
  have hgen : nth (s.otp.gens.set g blk) g [] = blk := nth_set_self _ _ (by omega)
  have hgen2 : nth ((s.otp.gens.set g blk).set g blk) g [] = blk := nth_set_self _ _ (by rw [List.length_set]; omega)
  have hret : nth (s.otp.retired.set g (0x5A5A5A5A00000000 : BitVec 64)) g 0 = 0x5A5A5A5A00000000 := nth_set_self _ _ (by omega)
  refine ⟨?_, fun ok h => ?_, fun h => ?_⟩
  · have hans := beside_commitFails (y := s.toDev) (g := g.val) (blk := blk) (i := .otpLimitDepart) (f := limitRun) rfl
      (limitRun_burns hburn hb hcode) hb hw hu hdac rfl
    obtain ⟨ho, hbusy, -⟩ := commitFails_leaves (g := g.val) (blk := blk) hb
    refine answers_mono hans fun t ht => ?_
    rw [otp_of_beside ht, cmd_of_beside ht, host_of_beside ht, ho]
    refine ⟨rfl, hgen, hret, rfl, hbusy, fun ⟨hh, hbc, hcp⟩ => ?_, ht⟩
    have hy : (retireGen (commitCtx s.toDev) g.val (burnBlock g.val blk s.toDev)).cmd.busy = some b := hb
    rw [commitFails, finishBusy_head hy hh hbc hcp _ _ (by rw [Bool.and_eq_false_iff]; exact .inr rfl), hcode]
    rfl
  · have hans := beside_commitFails (y := r.1) (g := g.val) (blk := blk) (i := .otpProgramDone ok) (f := programRun ok) rfl
      (hfails ok h) hb hw hu hdac (by rw [hotp]; exact hr)
    obtain ⟨ho, hbusy, -⟩ := commitFails_leaves (g := g.val) (blk := blk) hbr
    refine answers_mono hans fun t ht => ?_
    rw [otp_of_beside ht, cmd_of_beside ht, ho, hotp]
    exact ⟨rfl, hgen2, hret, rfl, hbusy, ht⟩
  · have hv : (validated g blk r.1).cmd.busy = some b := hbr
    have hfin := answerWrite_finishBusy hv stOK [Word.of g, crc32 blk]
    have hcalm : Calm (finishBusy stOK [Word.of g, crc32 blk] (validated g blk r.1)) :=
      calm_finishBusy (d := s.toDev) (y := validated g blk r.1) hb hw hu hdac hcmd (by show r.1.conv.caps = _; rw [hr]) (by show r.1.aux = _; rw [hr])
        (by show r.1.bist = _; rw [hr]) stOK _
    have hpow : (finishBusy stOK [Word.of g, crc32 blk] (validated g blk r.1)).power = s.power := by
      rw [hfin]
      show r.1.power = s.power
      rw [hr]
    have hrun : programRun true s.toDev = finishBusy stOK [Word.of g, crc32 blk] (validated g blk r.1) := hends h
    have hans := answers_beside (c := .otpProgramDone true) (f := programRun true) rfl hrun hcalm (by rw [hpow]; exact id)
    refine answers_mono hans fun t ht => ?_
    have hvotp : (validated g blk r.1).otp = validOtp g blk r.1.otp := rfl
    have hfotp : (finishBusy stOK [Word.of g, crc32 blk] (validated g blk r.1)).otp = (validated g blk r.1).otp := by rw [hfin]
    have hfjrn : (finishBusy stOK [Word.of g, crc32 blk] (validated g blk r.1)).jrn = (validated g blk r.1).jrn := by rw [hfin]
    rw [otp_of_beside ht, cmd_of_beside ht, host_of_beside ht, jrn_of_beside ht, hfotp, hvotp, hotp, hfjrn]
    refine ⟨rfl, hgen2, rfl, nth_set_self _ _ (by show g.val < s.otp.valid.length; omega), ?_, fun ⟨hh, hbc, hcp⟩ hq _ => ?_, ?_, ht⟩
    · rw [hfin]
    · have hhead : isHead (validated g blk r.1) = true := by
        show isHead r.1 = true
        rw [hr]
        exact hh
      have hrsps : (validated g blk r.1).host.rsps = s.host.rsps := by
        show r.1.host.rsps = _
        rw [hr]
      rw [finishBusy_head hv hhead hbc hcp _ _ (by rw [hq]; rfl), hrsps, hcode]
    · exact ⟨_, List.mem_append_right _ List.mem_cons_self, rfl, rfl⟩

end Ends

/-! ## The journal -/

section Journal

variable {s : State}

theorem drop_entry (l : List (List Word)) (w : List Word) :
    (if journalDepth < (l ++ [w]).length then (l ++ [w]).drop 1 else l ++ [w]) = (l ++ [w]).drop (if l.length < 8192 then 0 else 1) := by
  unfold journalDepth
  rw [List.length_append, List.length_singleton]
  by_cases h : l.length < 8192
  · rw [if_neg (by omega), if_pos h]
    rfl
  · rw [if_pos (by omega), if_neg h]

theorem journal_writes {e : Entry} {l : List Entry} (hc : Calm s.toDev) (hr : coreRuns s.toDev = true) (hq : s.jrn.q27 = e :: l) :
    Answers .journalWrite s (fun t => t.jrn.q27 = l ∧ t.jrn.next = (s.jrn.next + 1) % 2 ^ 32 ∧
        t.jrn.prev = entryWords e s.jrn.next s.jrn.prev ∧
        t.jrn.entries = (s.jrn.entries ++ [t.jrn.prev]).drop (if s.jrn.entries.length < 8192 then 0 else 1) ∧
        t.jrn.wraps = (if s.jrn.next ≠ 0 ∧ s.jrn.next % 8192 = 0 then satInc 65535 s.jrn.wraps else s.jrn.wraps) ∧
        Beside { s.toDev with
          jrn := { s.jrn with q27 := t.jrn.q27, next := t.jrn.next, prev := t.jrn.prev, entries := t.jrn.entries, wraps := t.jrn.wraps }
          fault := { s.fault with sramBad := t.fault.sramBad } } t ∧
        (∀ w ∈ t.fault.sramBad, w ∈ s.fault.sramBad)) := by
  have hwrite : ∃ k, writeNext s.toDev = sramWritten 1 k { s.toDev with
      jrn.q27 := l
      jrn.entries := (s.jrn.entries ++ [entryWords e s.jrn.next s.jrn.prev]).drop (if s.jrn.entries.length < 8192 then 0 else 1)
      jrn.prev := entryWords e s.jrn.next s.jrn.prev
      jrn.wraps := if s.jrn.next ≠ 0 ∧ s.jrn.next % 8192 = 0 then satInc 65535 s.jrn.wraps else s.jrn.wraps
      jrn.next := (s.jrn.next + 1) % 2 ^ 32 } := by
    refine ⟨(List.range 3).map (fun i => s.jrn.next % journalDepth * 3 + i), ?_⟩
    rw [writeNext, hq]
    dsimp only
    rw [drop_entry]
    rfl
  obtain ⟨k, hwrite⟩ := hwrite
  have hans := answers_beside (a := writeNext s.toDev) (f := fun d => if coreRuns d then writeNext d else d) (c := .journalWrite) rfl (if_pos hr)
    (calm_of_eq hc (by rw [hwrite]; rfl) (by rw [hwrite]; rfl) (by rw [hwrite]; rfl) (by rw [hwrite]; rfl)) (by rw [hwrite]; exact id)
  rw [hwrite] at hans
  refine answers_mono hans fun t ht => ?_
  rw [jrn_of_beside ht, fault_of_beside ht]
  exact ⟨rfl, rfl, rfl, rfl, rfl, ht, fun w hw => List.mem_of_mem_filter hw⟩

end Journal

/-- Settles O41: OTP's words are read with occurrences that lead to no safe state; the answer to the command in progress
touches neither OTP nor the journal; the writer's and the sessions' clauses are their operations. -/
theorem journalOtpAndSessionEvents : Obligations.JournalOtpAndSessionEvents := by
  intro s hw hu hdac hn
  have hcalm : s.cmd.busy = none → Calm s.toDev := fun hb => ⟨hb, hw, hu, hdac⟩
  refine ⟨fun e l hb hr hq => journal_writes (hcalm hb) hr hq, fun hb h => ?_, fun g blk b hburn hb hcode hgens hvalid hretired => ?_,
    fun h hb => ⟨?_, fun ok => ?_⟩, fun hb ho => ?_, fun hb ho => ?_, fun hb => ?_⟩
  · refine answers_beside (f := fun d => if coreRuns d then writeNext d else d) rfl ?_ (hcalm hb) id
    rcases h with h | h
    · exact if_neg (by simp [h])
    · have hnone : writeNext s.toDev = s.toDev := by rw [writeNext, h]
      show (if coreRuns s.toDev then writeNext s.toDev else s.toDev) = s.toDev
      rw [hnone, ite_self]
  · exact programming_ends hw hu hdac hn hburn hb hcode hgens hvalid hretired
  · exact answers_beside (f := limitRun) rfl (limitRun_idle h) (hcalm hb) id
  · exact answers_beside (f := programRun ok) rfl (programRun_idle ok h) (hcalm hb) id
  · refine answers_mono (answers_beside (f := endSession 1) rfl (if_pos ho) (calm_of_eq (hcalm hb) rfl rfl rfl rfl) id) fun t ht => ?_
    rw [jrn_of_beside ht]
    exact ⟨⟨_, rfl, rfl, rfl, rfl, rfl, rfl⟩, ht⟩
  · exact answers_beside (f := endSession 1) rfl (if_neg (by simp [ho])) (hcalm hb) id
  · exact answers_beside (f := fun d => { d with sess.nonce := none }) rfl rfl (calm_of_eq (hcalm hb) rfl rfl rfl rfl) id

end Sys2Proof.Proofs
end

section
/-! PROOF. Beats of the die-to-die bus: what is sent, taken, acknowledged, refused and sent again, and the lanes' retrain
(01_architecture.md R17 to R25). -/

namespace Sys2Proof.Proofs

open Sys2Proof Sys2Proof.Machine Sys2Proof.Safety Sys2Proof.Laws

/-! ## Beats -/

section Words

theorem crcStep_lt {w p reg : Nat} (b : Bool) (hp : p < 2 ^ w) : crcStep w p reg b < 2 ^ w := by
  unfold crcStep
  have hlow : (reg <<< 1) % 2 ^ w < 2 ^ w := Nat.mod_lt _ (Nat.two_pow_pos w)
  split
  · exact Nat.xor_lt_two_pow hlow hp
  · exact hlow

theorem crcBits_lt {w p : Nat} (hp : p < 2 ^ w) : ∀ (n v reg : Nat), reg < 2 ^ w → crcBits w p n v reg < 2 ^ w
  | 0, _, _, h => h
  | n + 1, v, _, _ => crcBits_lt hp n v _ (crcStep_lt _ hp)

theorem crc8_lt (n v : Nat) : crc8 n v < 256 := crcBits_lt (w := 8) (by decide) n v 0xFF (by decide)

/-- The 64 bits of a beat that its CRC is taken over. -/
def beatBits (typ seq ack : Nat) (content : BitVec 52) : Nat := typ * 2 ^ 60 + seq * 2 ^ 56 + ack * 2 ^ 52 + content.toNat

variable {typ seq ack : Nat} {content : BitVec 52}

theorem toNat_mkBeat (ht : typ < 16) (hs : seq < 16) (ha : ack < 16) :
    (mkBeat typ seq ack content).toNat = crc8 64 (beatBits typ seq ack content) * 2 ^ 64 + beatBits typ seq ack content ∧
      beatBits typ seq ack content < 2 ^ 64 := by
  have hc := content.isLt
  have hb : beatBits typ seq ack content < 2 ^ 64 := by
    unfold beatBits
    omega
  have h8 := crc8_lt 64 (beatBits typ seq ack content)
  refine ⟨?_, hb⟩
  show (BitVec.ofNat 72 (crc8 64 (beatBits typ seq ack content) * 2 ^ 64 + beatBits typ seq ack content)).toNat = _
  rw [BitVec.toNat_ofNat]
  exact Nat.mod_eq_of_lt (by omega)

theorem beatGood_mkBeat (ht : typ < 16) (hs : seq < 16) (ha : ack < 16) : beatGood (mkBeat typ seq ack content) = true := by
  obtain ⟨hn, hb⟩ := toNat_mkBeat (content := content) ht hs ha
  have h8 := crc8_lt 64 (beatBits typ seq ack content)
  have hbody : beatBody (mkBeat typ seq ack content) = beatBits typ seq ack content := by
    rw [beatBody, hn]
    omega
  have hcrc : beatCrc (mkBeat typ seq ack content) = crc8 64 (beatBits typ seq ack content) := by
    rw [beatCrc, hn, Nat.shiftRight_eq_div_pow]
    omega
  rw [beatGood, hbody, hcrc]
  exact beq_self_eq_true _

theorem fields_mkBeat (ht : typ < 16) (hs : seq < 16) (ha : ack < 16) :
    beatType (mkBeat typ seq ack content) = typ ∧ beatSeq (mkBeat typ seq ack content) = seq ∧
      beatContent (mkBeat typ seq ack content) = content := by
  obtain ⟨hn, -⟩ := toNat_mkBeat (content := content) ht hs ha
  have hc := content.isLt
  unfold beatType beatSeq beatContent
  rw [hn]
  generalize crc8 64 (beatBits typ seq ack content) = x
  unfold beatBits
  refine ⟨?_, ?_, ?_⟩
  · rw [Nat.shiftRight_eq_div_pow]
    omega
  · rw [Nat.shiftRight_eq_div_pow]
    omega
  · apply BitVec.eq_of_toNat_eq
    rw [BitVec.toNat_ofNat]
    omega

end Words

/-! ## Lanes -/

section Lanes

variable {d : Dev} {up : Bool} {typ : Nat} {content : BitVec 52}

theorem lane_modLane_self (up : Bool) (f : Lane → Lane) (d : Dev) : lane (modLane up f d) up = f (lane d up) := by
  cases up <;> rfl

theorem lane_modLane_other (up : Bool) (f : Lane → Lane) (d : Dev) : lane (modLane up f d) (!up) = lane d (!up) := by
  cases up <;> rfl

/-- b is a but for the lanes and the front die's hold buffer. -/
def LaneWrite (a b : Dev) : Prop := b = { a with d2d := { a.d2d with up := b.d2d.up, down := b.d2d.down, hold := b.d2d.hold } }

theorem laneWrite_refl (a : Dev) : LaneWrite a a := rfl

theorem laneWrite_trans {a b c : Dev} (hab : LaneWrite a b) (hbc : LaneWrite b c) : LaneWrite a c := by
  unfold LaneWrite at *
  rw [hab] at hbc
  exact hbc

theorem laneWrite_modLane (up : Bool) (f : Lane → Lane) (d : Dev) : LaneWrite d (modLane up f d) := by
  cases up <;> rfl

theorem heart_of_laneWrite {a b : Dev} (h : LaneWrite a b) : heart b = heart a := by
  rw [h]
  rfl

theorem outstanding_leaves (up : Bool) (n : Nat) (d : Dev) : LaneWrite d (outstanding up n d) ∧
    lane (outstanding up n d) up = { lane d up with unacked := n } ∧ lane (outstanding up n d) (!up) = lane d (!up) ∧
    (up = false → (outstanding up n d).d2d.hold = d.d2d.hold) ∧ (∀ h ∈ (outstanding up n d).d2d.hold, h ∈ d.d2d.hold) := by
  cases up
  · exact ⟨rfl, rfl, rfl, fun _ => rfl, fun _ => id⟩
  · exact ⟨rfl, rfl, rfl, nofun, fun h hh => List.mem_of_mem_filter hh⟩

/-- A NAK's transmitter replays (R22). -/
theorem nakDo_leaves (up : Bool) (seq : Nat) (d : Dev) : LaneWrite d (nakDo up seq d) ∧
    (let n := ((lane d up).txSeq + 16 - seq) % 16
     lane (nakDo up seq d) up = { lane d up with unacked := n, nak := none, resend := (lane d up).replay.drop ((lane d up).replay.length - n) }) ∧
    lane (nakDo up seq d) (!up) = lane d (!up) ∧ (up = false → (nakDo up seq d).d2d.hold = d.d2d.hold) ∧
    (∀ h ∈ (nakDo up seq d).d2d.hold, h ∈ d.d2d.hold) := by
  obtain ⟨hw, hself, hother, hhold, hmem⟩ := outstanding_leaves up (((lane d up).txSeq + 16 - seq) % 16) d
  have hd : ∀ f : Lane → Lane, ∀ x, (modLane up f x).d2d.hold = x.d2d.hold := fun f x => by cases up <;> rfl
  have hlane : ∀ f : Lane → Lane, LaneWrite d (modLane up f (outstanding up (((lane d up).txSeq + 16 - seq) % 16) d)) :=
    fun f => laneWrite_trans hw (laneWrite_modLane up f _)
  refine ⟨hlane (fun l => { l with resend := l.replay.drop (l.replay.length - ((lane d up).txSeq + 16 - seq) % 16), nak := none }), ?_, (lane_modLane_other _ _ _).trans hother, fun h => (hd _ _).trans (hhold h), fun h hh => ?_⟩
  · exact (lane_modLane_self _ _ _).trans (by rw [hself])
  · exact hmem h ((hd _ _) ▸ hh)

theorem laneAcked_leaves (up : Bool) (ack : Nat) (d : Dev) : LaneWrite d (laneAcked up ack d) ∧
    lane (laneAcked up ack d) (!up) = lane d (!up) := by
  obtain ⟨hw, -, ho, -⟩ := outstanding_leaves up (min (lane d up).unacked (((lane d up).txSeq + 15 - ack) % 16)) d
  exact ⟨hw, ho⟩

/-! ## Sending -/

theorem sendNew_leaves (up : Bool) (typ : Nat) (content : BitVec 52) (d : Dev) : LaneWrite d (sendNew up typ content d).2 ∧
    (sendNew up typ content d).1 = mkBeat typ (lane d up).txSeq (ackOf (lane d (!up))) content ∧
    lane (sendNew up typ content d).2 up = laneSend (sendNew up typ content d).1 (lane d up) := by
  unfold sendNew whenDo holdPut
  dsimp only
  split <;> cases up <;> exact ⟨rfl, rfl, rfl⟩

theorem sendBeat_nakless (ht : typ = 15) (hn : (lane d (!up)).nak = none) : sendBeat up typ content d = none := by
  rw [sendBeat, if_pos ht, hn]
  rfl

theorem sendBeat_barred (ht : typ ≠ 15) (hr : (lane d up).resend = [])
    (h : 15 ≤ (lane d up).unacked ∨ ((lane d up).queue = [] ∧ (typeGoes up typ = false ∨ (up = true ∧ 2 ≤ typ ∧ holdFull d = true)))) :
    sendBeat up typ content d = none := by
  unfold sendBeat
  rw [if_neg ht, hr]
  dsimp only
  split
  · rfl
  · rename_i hu
    obtain ⟨hq, h⟩ := h.resolve_left hu
    rw [hq]
    dsimp only
    refine if_pos ?_
    rcases h with h | ⟨h1, h2, h3⟩
    · simp [h]
    · simp [heldType, h1, h2, h3]

/-- New content sent (R17, R21, R25). -/
theorem sendBeat_new {x : BitVec 72 × Dev} (ht : typ ≠ 15) (hr : (lane d up).resend = []) (hq : (lane d up).queue = [])
    (h : sendBeat up typ content d = some x) : x = sendNew up typ content d ∧ typeGoes up typ = true := by
  unfold sendBeat at h
  rw [if_neg ht, hr] at h
  dsimp only at h
  split at h
  · cases h
  · rw [hq] at h
    dsimp only at h
    split at h
    · cases h
    · rename_i hg
      simp only [Bool.or_eq_true, Bool.not_eq_true', not_or, Bool.not_eq_false] at hg
      exact ⟨(Option.some.inj h).symm, hg.1⟩

/-- What is sent leaves the rest of the block, and the receiver's side of its lanes (R17, R21, R22). -/
theorem sendBeat_leaves {x : BitVec 72 × Dev} (h : sendBeat up typ content d = some x) : LaneWrite d x.2 ∧
    (lane x.2 up).rxSeq = (lane d up).rxSeq ∧ (lane x.2 up).fails = (lane d up).fails := by
  have hnew : ∀ (y : Nat) (c : BitVec 52) (e : Dev), LaneWrite d e → (lane e up).rxSeq = (lane d up).rxSeq → (lane e up).fails = (lane d up).fails →
      some (sendNew up y c e) = some x → LaneWrite d x.2 ∧ (lane x.2 up).rxSeq = (lane d up).rxSeq ∧ (lane x.2 up).fails = (lane d up).fails :=
    fun y c e he hrx hf hx => by
      obtain rfl := Option.some.inj hx
      obtain ⟨hw, -, hl⟩ := sendNew_leaves up y c e
      refine ⟨laneWrite_trans he hw, ?_, ?_⟩
      · rw [hl]
        exact hrx
      · rw [hl]
        exact hf
  have hmod : ∀ f : Lane → Lane, (∀ l, (f l).rxSeq = l.rxSeq ∧ (f l).fails = l.fails) → LaneWrite d (modLane up f d) ∧
      (lane (modLane up f d) up).rxSeq = (lane d up).rxSeq ∧ (lane (modLane up f d) up).fails = (lane d up).fails := fun f hf => by
    rw [lane_modLane_self]
    exact ⟨laneWrite_modLane up f d, hf _⟩
  unfold sendBeat at h
  split at h
  · obtain ⟨q, -, rfl⟩ := Option.map_eq_some_iff.mp h
    exact ⟨rfl, rfl, rfl⟩
  · dsimp only at h
    cases hr : (lane d up).resend with
    | cons b t =>
      rw [hr] at h
      obtain rfl := Option.some.inj h
      exact hmod (fun l => { l with resend := t }) fun _ => ⟨rfl, rfl⟩
    | nil =>
      rw [hr] at h
      dsimp only at h
      split at h
      · cases h
      · cases hq : (lane d up).queue with
        | cons e t =>
          rw [hq] at h
          obtain ⟨hw, h1, h2⟩ := hmod (fun l => { l with queue := t }) fun _ => ⟨rfl, rfl⟩
          exact hnew e.1 e.2 _ hw h1 h2 h
        | nil =>
          rw [hq] at h
          dsimp only at h
          split at h
          · cases h
          · exact hnew typ content d rfl rfl rfl h

end Lanes

/-! ## What faults leave of the buses and the conversion -/

theorem d2d_of_core {a b : Dev} (h : core b = core a) : b.d2d = a.d2d := (congrArg Dev.d2d h : (core b).d2d = (core a).d2d)

theorem conv_of_core {a b : Dev} (h : core b = core a) : b.conv = a.conv := (congrArg Dev.conv h : (core b).conv = (core a).conv)

/-! ## Receiving -/

section Receiving

variable {d : Dev} {up : Bool} {typ : Nat} {content : BitVec 52} {damage : BitVec 72} {x : BitVec 72 × Dev}

theorem heart_intake (typ : Nat) (content : BitVec 52) (d : Dev) : heart (intake typ content d) = heart d := by
  unfold intake pushMod
  dsimp only
  split
  · rfl
  · split <;> rfl

theorem lanes_intake (typ : Nat) (content : BitVec 52) (d : Dev) (u : Bool) : lane (intake typ content d) u = lane d u := by
  unfold intake pushMod
  dsimp only
  split
  · rfl
  · split <;> rfl

/-- Content of TYPE 2 and higher is held by its TYPE (R17). -/
theorem intake_held (h : 2 ≤ typ) (content : BitVec 52) (d : Dev) :
    intake typ content d = { d with d2d.delivered := aset d.d2d.delivered typ content } := by
  unfold intake
  rw [if_neg (by omega), if_neg (by omega)]

theorem akey_aset_self {α : Type} (l : List (Nat × α)) (k : Nat) (v : α) : akey (aset l k v) k = some v := by
  have hnone : (l.filter (fun e => e.1 != k)).find? (fun e => e.1 == k) = none :=
    List.find?_eq_none.mpr fun e he => by simpa using List.of_mem_filter he
  unfold akey aset
  rw [List.find?_append, hnone]
  simp

theorem akey_aset_ne {α : Type} (l : List (Nat × α)) {k j : Nat} (v : α) (h : j ≠ k) : akey (aset l k v) j = akey l j := by
  have hfind : (l.filter (fun e => e.1 != k)).find? (fun e => e.1 == j) = l.find? (fun e => e.1 == j) := by
    rw [List.find?_filter]
    congr 1
    funext e
    by_cases he : e.1 = j
    · simp [he, h]
    · simp [he]
  unfold akey aset
  rw [List.find?_append, hfind, List.find?_singleton, if_neg (by simp [Ne.symm h]), Option.or_none]

/-- A beat on its way: what the receiver's register takes, and the block with it (R17, R497). -/
def onTheWay (up : Bool) (damage : BitVec 72) (x : BitVec 72 × Dev) : BitVec 72 × Dev :=
  let b := x.1 ^^^ damage ^^^ (if (takeBeatInject up x.2).1 then BitVec.ofNat 72 (0xFF * 2 ^ 64) else 0)
  (b, modLane up (fun l => { l with rxReg := b }) (takeBeatInject up x.2).2)

theorem beatRx_idle (h : awake d = false ∨ d.d2d.retrain = true ∨ sendBeat up typ content d = none) : beatRx up typ content damage d = d := by
  unfold beatRx
  split
  · rfl
  · rename_i hn
    simp only [Bool.or_eq_true, Bool.not_eq_true', not_or, Bool.not_eq_false, Bool.not_eq_true] at hn
    rw [(h.resolve_left (by simp [hn.1])).resolve_left (by simp [hn.2])]

theorem beatRx_sent (ha : awake d = true) (hr : d.d2d.retrain = false) (hx : sendBeat up typ content d = some x) :
    beatRx up typ content damage d = if beatGood (onTheWay up damage x).1 then beatPasses up (onTheWay up damage x).1 (onTheWay up damage x).2
      else beatFails up x.1 (onTheWay up damage x).2 := by
  unfold beatRx
  rw [if_neg (by simp [ha, hr]), hx]
  rfl

/-- The injections apart, a beat on its way touches the lanes only. -/
theorem onTheWay_kept (up : Bool) (damage : BitVec 72) (x : BitVec 72 × Dev) : heart (onTheWay up damage x).2 = heart x.2 := by
  have hin : heart (takeBeatInject up x.2).2 = heart x.2 := by
    unfold takeBeatInject
    split
    · split <;> rfl
    · rfl
  exact (heart_of_laneWrite (laneWrite_modLane _ _ _)).trans hin

theorem onTheWay_plain (h : x.2.fault.inject = []) (up : Bool) (damage : BitVec 72) :
    onTheWay up damage x = (x.1 ^^^ damage, modLane up (fun l => { l with rxReg := x.1 ^^^ damage }) x.2) := by
  have hi : takeBeatInject up x.2 = (false, x.2) := by
    unfold takeBeatInject
    rw [h]
  unfold onTheWay
  rw [hi]
  have hzero : x.1 ^^^ damage ^^^ (0 : BitVec 72) = x.1 ^^^ damage := by simp
  simp only [Bool.false_eq_true, if_false]
  rw [hzero]

theorem soft_modLoss (d : Dev) : Soft d (modLoss d) := by
  have hjudge : ∀ (r : Rec) (y : Dev), Soft y (judgePast r y) := fun r y => by
    unfold judgePast
    split
    · exact soft_refl y
    · exact soft_of_heart rfl
  have hloss : Soft d (forEach d.conv.flight judgePast { d with conv.mods := [] }) :=
    soft_after (soft_forEach _ _ (fun r _ y => hjudge r y) _) (soft_of_heart rfl)
  unfold modLoss whenDo
  dsimp only
  split
  · exact soft_after (soft_of_heart rfl) hloss
  · exact hloss

theorem soft_laneLost (up : Bool) (d : Dev) : Soft d (laneLost up d) :=
  soft_after (soft_of_mild (mild_cutUnit _ _ _)) (soft_after (soft_modLoss _) (soft_after (soft_of_mild (mild_raiseNS (by decide) _ _))
    (soft_of_heart rfl)))

theorem soft_beatFails (up : Bool) (sent : BitVec 72) (d : Dev) : Soft d (beatFails up sent d) := by
  have hraise : Soft d (raiseNS 94 (dirCode up) (modLane up (fun l => { l with
      discarding := true, nak := some l.rxSeq, fails := l.fails + b2n (beatType sent != 15 && beatSeq sent == (lane d up).rxSeq) }) d)) :=
    soft_after (soft_of_mild (mild_raiseNS (by decide) _ _)) (soft_of_heart (heart_of_laneWrite (laneWrite_modLane _ _ _)))
  unfold beatFails
  dsimp only
  split
  · exact soft_after (soft_laneLost up _) hraise
  · exact hraise

theorem heart_arrive {h : Held} {act : Dev → Dev} (hact : heart (act d) = heart d) : heart (arrive h act d) = heart d := by
  unfold arrive
  split
  · rfl
  · exact hact

theorem heart_beatPasses (up : Bool) (b : BitVec 72) (d : Dev) : heart (beatPasses up b d) = heart d := by
  have hack : heart (laneAcked (!up) (beatAck b) d) = heart d := heart_of_laneWrite (laneAcked_leaves _ _ _).1
  unfold beatPasses
  dsimp only
  split
  · exact (heart_of_laneWrite (nakDo_leaves _ _ _).1).trans hack
  · split
    · exact hack
    · have htake : heart (modLane up (fun l => { l with rxSeq := (l.rxSeq + 1) % 16, discarding := false, fails := 0, nak := none })
          (laneAcked (!up) (beatAck b) d)) = heart d := (heart_of_laneWrite (laneWrite_modLane _ _ _)).trans hack
      split
      · exact (heart_arrive (heart_intake _ _ _)).trans htake
      · exact (heart_intake _ _ _).trans htake

theorem soft_beatRx (up : Bool) (typ : Nat) (content : BitVec 52) (damage : BitVec 72) (d : Dev) : Soft d (beatRx up typ content damage d) := by
  by_cases h : awake d = false ∨ d.d2d.retrain = true ∨ sendBeat up typ content d = none
  · rw [beatRx_idle h]
    exact soft_refl d
  · simp only [not_or, Bool.not_eq_false, Bool.not_eq_true, ← ne_eq, Option.ne_none_iff_exists'] at h
    obtain ⟨ha, hr, x, hx⟩ := h
    have hway : heart (onTheWay up damage x).2 = heart d :=
      (onTheWay_kept up damage x).trans (heart_of_laneWrite (sendBeat_leaves hx).1)
    rw [beatRx_sent ha hr hx]
    split
    · exact soft_of_heart ((heart_beatPasses _ _ _).trans hway)
    · exact soft_after (soft_beatFails up x.1 _) (soft_of_heart hway)

/-- New content sent and received with no damage, before it goes on: the expected beat is taken, the other lane acknowledged
(R17, R21, R22). -/
theorem beatRx_good (ha : awake d = true) (hr : d.d2d.retrain = false) (hx : sendBeat up typ content d = some x) (hi : d.fault.inject = [])
    (ht : typ ≠ 15) (hres : (lane d up).resend = []) (hq : (lane d up).queue = []) (hseq : (lane d up).rxSeq = (lane d up).txSeq)
    (hlt : (lane d up).txSeq < 16) :
    ∃ y, LaneWrite d y ∧ lane y up = { laneSend x.1 (lane d up) with
        rxReg := x.1, rxSeq := ((lane d up).rxSeq + 1) % 16, discarding := false, fails := 0, nak := none } ∧
      beatRx up typ content 0 d = if up && typ != 0 then arrive (.raw (lane d up).txSeq typ content) (intake typ content) y
        else intake typ content y := by
  obtain ⟨rfl, hgoes⟩ := sendBeat_new ht hres hq hx
  obtain ⟨hw, hb, hl⟩ := sendNew_leaves up typ content d
  have htyp : typ < 16 := by
    unfold typeGoes at hgoes
    cases up <;> simp at hgoes <;> omega
  have hack : ackOf (lane d (!up)) < 16 := Nat.mod_lt _ (by decide)
  have hgood : beatGood (sendNew up typ content d).1 = true := by
    rw [hb]
    exact beatGood_mkBeat htyp hlt hack
  obtain ⟨htype, hbseq, hcontent⟩ := fields_mkBeat (content := content) htyp hlt hack
  rw [← hb] at htype hbseq hcontent
  have hinj : (sendNew up typ content d).2.fault.inject = [] := by
    rw [hw]
    exact hi
  have hzero : (sendNew up typ content d).1 ^^^ (0 : BitVec 72) = (sendNew up typ content d).1 := by simp
  rw [beatRx_sent ha hr hx, onTheWay_plain hinj, hzero]
  dsimp only
  rw [if_pos hgood]
  generalize sendNew up typ content d = z at *
  have hreg := laneWrite_modLane up (fun l => { l with rxReg := z.1 }) z.2
  have hregl : lane (modLane up (fun l => { l with rxReg := z.1 }) z.2) up = { lane z.2 up with rxReg := z.1 } := lane_modLane_self _ _ _
  generalize modLane up (fun l => { l with rxReg := z.1 }) z.2 = y at hreg hregl ⊢
  obtain ⟨hackw, hackl⟩ := laneAcked_leaves (!up) (beatAck z.1) y
  rw [Bool.not_not] at hackl
  have hexp : (lane (laneAcked (!up) (beatAck z.1) y) up).rxSeq = (lane d up).rxSeq := by
    rw [hackl, hregl, hl]
    rfl
  unfold beatPasses
  dsimp only
  rw [if_neg (by rw [htype]; exact ht), if_neg (by rw [hexp, hbseq, hseq]; simp), htype, hbseq, hcontent]
  refine ⟨_, laneWrite_trans hw (laneWrite_trans hreg (laneWrite_trans hackw (laneWrite_modLane up _ _))), ?_, rfl⟩
  rw [lane_modLane_self, hackl, hregl, hl]
  rfl

/-- A failed beat: its NAK, its count, EV94; at the third failure the lanes are lost (R22, R23). -/
theorem beatRx_bad (ha : awake d = true) (hr : d.d2d.retrain = false) (hx : sendBeat up typ content d = some x) (hi : d.fault.inject = [])
    (hb : beatGood (x.1 ^^^ damage) = false) :
    ∃ y, LaneWrite d y ∧ lane y up = { lane y up with
        discarding := true, nak := some (lane d up).rxSeq, rxSeq := (lane d up).rxSeq
        fails := (lane d up).fails + (if beatType x.1 ≠ 15 ∧ beatSeq x.1 = (lane d up).rxSeq then 1 else 0) } ∧
      beatRx up typ content damage d = if 3 ≤ (lane (raiseNS 94 (dirCode up) y) up).fails then laneLost up (raiseNS 94 (dirCode up) y)
        else raiseNS 94 (dirCode up) y := by
  obtain ⟨hw, hrx, hf⟩ := sendBeat_leaves hx
  have hinj : x.2.fault.inject = [] := by
    rw [hw]
    exact hi
  rw [beatRx_sent ha hr hx, onTheWay_plain hinj]
  dsimp only
  have hbad : ¬ beatGood (x.1 ^^^ damage) = true := by rw [hb]; decide
  rw [if_neg hbad]
  have hreg := laneWrite_modLane up (fun l => { l with rxReg := x.1 ^^^ damage }) x.2
  have hregl : lane (modLane up (fun l => { l with rxReg := x.1 ^^^ damage }) x.2) up = { lane x.2 up with rxReg := x.1 ^^^ damage } :=
    lane_modLane_self _ _ _
  generalize modLane up (fun l => { l with rxReg := x.1 ^^^ damage }) x.2 = z at hreg hregl ⊢
  have hzrx : (lane z up).rxSeq = (lane d up).rxSeq := by rw [hregl]; exact hrx
  have hzf : (lane z up).fails = (lane d up).fails := by rw [hregl]; exact hf
  have hhit : b2n (beatType x.1 != 15 && beatSeq x.1 == (lane z up).rxSeq) =
      if beatType x.1 ≠ 15 ∧ beatSeq x.1 = (lane d up).rxSeq then 1 else 0 := by
    rw [hzrx]
    unfold b2n
    simp
  refine ⟨_, laneWrite_trans hw (laneWrite_trans hreg (laneWrite_modLane up _ _)), ?_, rfl⟩
  rw [lane_modLane_self, ← hhit, ← hzf, ← hzrx]

theorem modLoss_leaves (d : Dev) :
    (modLoss d).conv.mods = [] ∧ (modLoss d).host = d.host ∧ (modLoss d).d2d = d.d2d ∧ heart (modLoss d) = heart d := by
  have hjudge : ∀ (l : List Rec) (y : Dev), (forEach l judgePast y).conv.mods = y.conv.mods ∧ (forEach l judgePast y).host = y.host ∧
      (forEach l judgePast y).d2d = y.d2d ∧ heart (forEach l judgePast y) = heart y := fun l => by
    induction l with
    | nil => exact fun y => ⟨rfl, rfl, rfl, rfl⟩
    | cons r t ih =>
      intro y
      obtain ⟨h1, h2, h3, h4⟩ := ih (judgePast r y)
      have hone : (judgePast r y).conv.mods = y.conv.mods ∧ (judgePast r y).host = y.host ∧ (judgePast r y).d2d = y.d2d ∧
          heart (judgePast r y) = heart y := by
        unfold judgePast
        split <;> exact ⟨rfl, rfl, rfl, rfl⟩
      exact ⟨h1.trans hone.1, h2.trans hone.2.1, h3.trans hone.2.2.1, h4.trans hone.2.2.2⟩
  unfold modLoss whenDo
  dsimp only
  split <;> exact hjudge d.conv.flight { d with conv.mods := [] }

/-- What the loss of the lanes leaves (R23, R25). -/
theorem laneLost_leaves (up : Bool) (hn : NoSafe d) : (laneLost up d).d2d.retrain = true ∧ (laneLost up d).d2d.delivered = d.d2d.delivered ∧
    (laneLost up d).conv.mods = [] ∧ mbit (laneLost up d).host.evf 95 = true ∧
    (∀ i, mbit d.host.evf i = true → mbit (laneLost up d).host.evf i = true) ∧
    ∀ u, lane (laneLost up d) u = { Lane.reset with rxReg := (lane (laneLost up d) u).rxReg } := by
  have hlost : ∀ y : Dev, heart y = heart d → y.host = d.host → y.d2d.retrain = true → y.d2d.delivered = d.d2d.delivered →
      (∀ u, lane y u = { Lane.reset with rxReg := (lane y u).rxReg }) →
      let z := cutUnit 2 (fun _ => true) (modLoss (raiseNS 95 (dirCode up) y))
      z.d2d.retrain = true ∧ z.d2d.delivered = d.d2d.delivered ∧ z.conv.mods = [] ∧ mbit z.host.evf 95 = true ∧
        (∀ i, mbit d.host.evf i = true → mbit z.host.evf i = true) ∧ ∀ u, lane z u = { Lane.reset with rxReg := (lane z u).rxReg } :=
    fun y hy hhost hr hdel hl => by
      have hny := noSafe_of_heart hy hn
      have hk95 := mild_raiseNS (by decide : 95 < 128) (dirCode up) y hny
      have h95 := evf_raiseNS (by decide : 95 < 128) (dirCode up) hny (by cases y.part <;> rfl)
      have hd95 : (raiseNS 95 (dirCode up) y).d2d = y.d2d := d2d_of_core hk95.core
      have hn95 := noSafe_of_heart (heart_of_core hk95.core) hny
      generalize raiseNS 95 (dirCode up) y = e at hk95 h95 hd95 hn95
      obtain ⟨hm, hmh, hmd, hmheart⟩ := modLoss_leaves e
      have hcut := mild_cutUnit 2 (fun _ => true) (modLoss e) (noSafe_of_heart hmheart hn95)
      dsimp only
      generalize modLoss e = m at hm hmh hmd hcut
      have hzd : (cutUnit 2 (fun _ => true) m).d2d = y.d2d := (d2d_of_core hcut.core).trans (hmd.trans hd95)
      have hzc : (cutUnit 2 (fun _ => true) m).conv = m.conv := conv_of_core hcut.core
      have hzl : ∀ u, lane (cutUnit 2 (fun _ => true) m) u = lane y u := fun u => by
        unfold lane
        rw [hzd]
      refine ⟨by rw [hzd, hr], by rw [hzd, hdel], by rw [hzc, hm], hcut.evf 95 (hmh ▸ h95), fun i hi => ?_, fun u => ?_⟩
      · exact hcut.evf i (hmh ▸ hk95.evf i (hhost ▸ hi))
      · rw [hzl]
        exact hl u
  exact hlost _ rfl rfl rfl rfl fun u => by cases u <;> rfl

end Receiving

/-! ## Content sent again -/

/-- What the content that a retrain sends again leaves: nothing of it makes the block less calm, but for who waits for the test
DAC, or begins a retrain (R25). -/
structure Spine where
  power : Power
  cmd : Cmd
  caps : List Capture
  cfg : List (Nat × Int)
  part : Part
  waiting : Option (Nat × Nat × Nat)
  retrain : Bool
  down : Lane
  issued : List (Nat × BitVec 52)

/-- The spine of a device. -/
def spine (d : Dev) : Spine := ⟨d.power, d.cmd, d.conv.caps, d.cfg, d.part, d.bist.waiting, d.d2d.retrain, d.d2d.down, d.d2d.issued⟩

/-- Where no source of a is set to SAFE_STATE, b's spine is a's. -/
def Steady (a b : Dev) : Prop := NoSafe a → spine b = spine a

section Steady

variable {a b c : Dev}

theorem noSafe_of_spine (h : spine b = spine a) (hn : NoSafe a) : NoSafe b := fun k hk => by
  have hc : b.cfg = a.cfg := congrArg Spine.cfg h
  have hp : b.part = a.part := congrArg Spine.part h
  have he : escReaction b k = escReaction a k := by
    unfold escReaction itemN item
    rw [hc, hp]
  rw [he]
  exact hn k hk

theorem steady_of_spine (h : spine b = spine a) : Steady a b := fun _ => h

theorem steady_of_mild (h : Mild a b) : Steady a b := fun hn => by
  have hc := (h hn).core
  have hh := heart_of_core hc
  have hcmd : b.cmd = a.cmd := congrArg Heart.cmd hh
  have hwait : b.bist.waiting = a.bist.waiting := congrArg Heart.waiting hh
  unfold spine
  rw [power_of_heart hh, hcmd, hwait, conv_of_core hc, (cfg_part_of_heart hh).1, (cfg_part_of_heart hh).2, d2d_of_core hc]

theorem steady_after (hbc : Steady b c) (hab : Steady a b) : Steady a c := fun hn =>
  (hbc (noSafe_of_spine (hab hn) hn)).trans (hab hn)

theorem steady_forEach {α : Type} (l : List α) (f : α → Dev → Dev) (h : ∀ x d, Steady d (f x d)) (d : Dev) : Steady d (forEach l f d) := by
  induction l generalizing d with
  | nil => exact fun _ => rfl
  | cons x t ih => exact steady_after (ih _) (h x d)

/-- A source beyond the catalogue's is only counted (R479). -/
theorem isInfo_beyond {k : Nat} (h : 128 ≤ k) : isInfo k = true := by
  have hnone : escRows.find? (fun r => r.1 ≤ k && k ≤ r.2.1) = none := by
    have hall : ∀ r ∈ escRows, r.2.1 < 128 := by decide
    refine List.find?_eq_none.mpr fun r hr => ?_
    have := hall r hr
    simp only [Bool.and_eq_true, decide_eq_true_eq]
    omega
  unfold isInfo escRow
  rw [hnone]
  rfl

theorem mild_raiseOn (k unit : Nat) (tg : List Nat) (d : Dev) : Mild d (raiseOn k unit tg d) := by
  by_cases hk : k < 128
  · exact mild_occurWith (fun _ d hr => mild_reactFull hr k tg false d) hk unit d
  · unfold raiseOn occurWith
    split
    · exact mild_refl d
    · dsimp only
      rw [if_pos (isInfo_beyond (Nat.le_of_not_lt hk))]
      exact mild_trans (mild_noteEvent k d) (mild_same rfl)

theorem steady_sarTaken (res : Option (Nat × Nat × Nat × Bool)) (d : Dev) : Steady d (sarTaken res d) := by
  unfold sarTaken
  split
  · rename_i r
    rw [auxWrite_eq]
    have hsource : ∀ w v y, spine (sourceTaken w v y) = spine y := fun w v y => by
      rw [sourceTaken_kept]
      rfl
    have hfiled : Steady d { d with aux := filedAux r.1 (meanCode r.2.1 r.2.2.1) r.2.2.2 d } := steady_of_spine rfl
    refine steady_after (steady_of_spine (hsource _ _ _)) ?_
    dsimp only
    have hover : Steady d (if bit d.aux.result 9 then raiseNS 116 0xFFFF { d with aux := filedAux r.1 (meanCode r.2.1 r.2.2.1) r.2.2.2 d }
        else { d with aux := filedAux r.1 (meanCode r.2.1 r.2.2.1) r.2.2.2 d }) := by
      split
      · exact steady_after (steady_of_mild (mild_raiseNS (k := 116) (by decide) _ _)) hfiled
      · exact hfiled
    split
    · exact steady_after (steady_of_mild (mild_raiseNS (k := 120) (by decide) _ _)) hover
    · exact hover
  · exact steady_of_spine rfl

theorem steady_leatSlotData (n : Nat) (verify : Bool) (codes : List Nat) (d : Dev) : Steady d (leatSlotData n verify codes d) := by
  unfold leatSlotData
  split
  · have hfree : ∀ y, Steady y (dacFree y) := fun _ => steady_of_spine rfl
    rw [leatVerified_eq]
    refine steady_after (hfree _) ?_
    split
    · exact steady_of_spine rfl
    · exact steady_after (steady_of_mild (mild_raiseNS (k := 118) (by decide) _ _)) (steady_of_spine rfl)
  · unfold leatReading
    dsimp only
    split
    · exact steady_of_spine rfl
    · refine steady_after ?_ (steady_of_spine rfl)
      unfold leatCompare
      split
      · exact steady_of_spine rfl
      · split
        · exact steady_of_spine rfl
        · exact steady_after (steady_of_mild (mild_raiseOn _ _ _ _)) (steady_of_spine rfl)

theorem mild_edgeRecord (k : Nat) (hi forced : Bool) (period : Nat) (phase : Word) (d : Dev) :
    heart (edgeRecord k hi forced period phase d) = heart d ∧ spine (edgeRecord k hi forced period phase d) = spine d := by
  rw [edgeRecord_kept]
  exact ⟨rfl, rfl⟩

theorem steady_edgeToCore (k : Nat) (hi forced : Bool) (period : Nat) (phase : Word) (d : Dev) :
    Steady d (edgeToCore k hi forced period phase d) ∧ Soft d (edgeToCore k hi forced period phase d) := by
  obtain ⟨hh, hs⟩ := mild_edgeRecord k hi forced period phase d
  unfold edgeToCore
  split
  · exact ⟨steady_of_spine rfl, soft_refl d⟩
  · dsimp only
    split
    · exact ⟨steady_after (steady_of_mild (mild_raiseOn _ _ _ _)) (steady_of_spine hs), soft_after (soft_of_mild (mild_raiseOn _ _ _ _)) (soft_of_heart hh)⟩
    · exact ⟨steady_of_spine hs, soft_of_heart hh⟩

theorem steady_senseCell (i : SenseInt) (lost : Bool) (conducted : BitVec 24) (n x : Nat) (d : Dev) : Steady d (senseCell i lost conducted n x d) := by
  have hopen : ∀ y, Steady y (openCheck i n x y) := fun y => by
    unfold openCheck
    dsimp only
    split
    · split
      · exact steady_after (steady_of_mild (mild_raiseOn _ _ _ _)) (steady_of_spine rfl)
      · exact steady_of_spine rfl
    · exact steady_of_spine rfl
  have hshort : ∀ y, Steady y (shortCheck i n x y) := fun y => by
    unfold shortCheck
    dsimp only
    split
    · split
      · exact steady_after (steady_of_mild (mild_raiseOn _ _ _ _)) (steady_of_spine rfl)
      · exact steady_of_spine rfl
    · exact steady_of_spine rfl
  have hcharge : ∀ y, Steady y (chargeCell n x y) := fun y => by
    have hw : SenseWrite y (chargeCell n x y) := (chargeCell_writes n x).1
    rw [hw]
    exact steady_of_spine rfl
  have hest : Steady d (if mbit i.onAll (n - 1) && !lost then { d with bal.est := d.bal.est.set (n - 1) (some x) } else d) := by
    split <;> exact steady_of_spine rfl
  unfold senseCell
  dsimp only
  generalize (if mbit i.onAll (n - 1) && !lost then { d with bal.est := d.bal.est.set (n - 1) (some x) } else d) = y at hest ⊢
  have hchecks : Steady d (if lost then y else shortCheck i n x (openCheck i n x y)) := by
    split
    · exact hest
    · exact steady_after (hshort _) (steady_after (hopen _) hest)
  split
  · exact steady_after (hcharge _) hchecks
  · exact hchecks

theorem steady_senseData (i : SenseInt) (d : Dev) : Steady d (senseData i d) := by
  unfold senseData
  exact steady_after (steady_of_spine rfl) (steady_after (steady_forEach _ _ (fun n y => steady_senseCell i _ _ n _ y) _)
    (steady_forEach _ settleOne (fun c y => steady_of_spine rfl) d))

theorem steady_actHeld (h : Held) (d : Dev) : Steady d (actHeld h d) := by
  cases h with
  | sar src code res => exact steady_sarTaken res d
  | leat n verify codes => exact steady_leatSlotData n verify codes d
  | edge k hi period phase => exact (steady_edgeToCore k hi false period phase d).1
  | sense i => exact steady_senseData i d
  | raw seq typ content =>
    unfold actHeld intake pushMod
    dsimp only
    split
    · exact steady_of_spine rfl
    · split <;> exact steady_of_spine rfl

theorem steady_sendAgain (h : Held) (d : Dev) : Steady d (sendAgain h d) := by
  unfold sendAgain
  split
  · exact steady_of_spine rfl
  · unfold arrive
    split
    · exact steady_of_spine rfl
    · exact steady_actHeld _ d

end Steady

/-! ## Retrain done, room in the hold buffer -/

section Bus

variable {s : State}

/-- D2D_RETRAIN_DONE (R23, R25). -/
def retrainRun (d : Dev) : Dev :=
  if d.d2d.retrain then
    forEach d.d2d.hold sendAgain { d with d2d.retrain := false, d2d.hold := [], d2d.down.queue := d.d2d.issued, d2d.issued := [] }
  else d

/-- The lanes ready again, before what was held is sent (R25). -/
def lanesReady (d : Dev) : Dev := { d with d2d.retrain := false, d2d.hold := [], d2d.down.queue := d.d2d.issued, d2d.issued := [] }

/-- A command that leaves the spine of a calm block but for the lanes: who waits for the test DAC is served in its wake. -/
theorem answers_spine {i : Instr} {f : Dev → Dev} {a b : Dev} (hi : exec i s = runDev s f) (hf : f s.toDev = a) (hc : Calm s.toDev)
    (hb : b.power = s.power ∧ b.cmd = s.cmd ∧ b.conv.caps = s.conv.caps ∧ b.bist.waiting = s.bist.waiting) (ha : spine a = spine b) :
    Answers i s (fun t => Beside (serveDac a) t ∧ serveSlice (serveDac a) = serveDac a) := by
  obtain ⟨hbusy, hwait, hcaps, -, -, -, hslice⟩ := hc
  obtain ⟨hbp, hbc, hbk, hbw⟩ := hb
  have hpower : a.power = s.power := (congrArg Spine.power ha).trans hbp
  have hcmd : a.cmd = s.cmd := (congrArg Spine.cmd ha).trans hbc
  have hcap : a.conv.caps = s.conv.caps := (congrArg Spine.caps ha).trans hbk
  have hwaiting : a.bist.waiting = none := ((congrArg Spine.waiting ha).trans hbw).trans hslice
  have hhold : a.power.safeHold = true → s.toDev.power.safeHold = true := by rw [hpower]; exact id
  have hunarmed : Unarmed a := by
    unfold Unarmed
    rw [hcap]
    exact hcaps
  have hserve : serveSlice (serveDac a) = serveDac a := by
    have hw : (serveDac a).bist.waiting = none := by
      rw [dacWrite_serveDac a]
      exact hwaiting
    rw [serveSlice, hw]
  refine ⟨{ s with toDev := settle (serveDac a) }, ?_, rfl, beside_settle _, hserve⟩
  have heff : effect f s.toDev = settle (serveDac a) := by
    unfold effect wake
    rw [hf, armInHold_kept hhold, afterEvents_unarmed 4 _ _ hunarmed, longEnds_calm (by rw [hcmd]; exact hbusy) (by rw [hcmd]; exact hwait), hserve]
  rw [hi, runDev, heff]

/-- Of content held as beats alone every one is queued again, in order (R25). -/
theorem sendAgain_beats (l : List (Nat × BitVec 52)) (d : Dev) : forEach (l.map (fun e => Held.raw 0 e.1 e.2)) sendAgain d =
    { d with d2d := { d.d2d with up := { d.d2d.up with queue := d.d2d.up.queue ++ l } } } := by
  induction l generalizing d with
  | nil =>
    rw [List.append_nil]
    rfl
  | cons e t ih =>
    show forEach (t.map (fun e => Held.raw 0 e.1 e.2)) sendAgain { d with d2d.up.queue := d.d2d.up.queue ++ [(e.1, e.2)] } = _
    rw [ih]
    simp only [List.append_assoc, List.singleton_append]

/-- D2D_HOLD_ROOM (R25). -/
def roomRun (d : Dev) : Dev :=
  if holdFull d then d
  else sarKick { forEach d.d2d.latched (fun e d => sendEdge e.1 e.2.1 false e.2.2.1 e.2.2.2 d) { d with d2d.latched := [] } with d2d.sarWait := false }

theorem soft_sendEdge (k : Nat) (hi forced : Bool) (period : Nat) (phase : Word) (d : Dev) : Soft d (sendEdge k hi forced period phase d) := by
  have hcore : ∀ f, Soft d (edgeToCore k hi f period phase d) := fun f => (steady_edgeToCore k hi f period phase d).2
  unfold sendEdge viaBus arrive holdPut
  split
  · exact hcore true
  · split
    · exact soft_of_heart rfl
    · split
      · exact soft_of_heart rfl
      · split
        · exact soft_of_heart rfl
        · exact hcore false

theorem soft_sarKick (d : Dev) : Soft d (sarKick d) := soft_of_heart (by rw [(sarWrite_sarKick d).1]; rfl)

theorem soft_roomRun (d : Dev) : Soft d (sarKick { forEach d.d2d.latched (fun e d => sendEdge e.1 e.2.1 false e.2.2.1 e.2.2.2 d)
    { d with d2d.latched := [] } with d2d.sarWait := false }) :=
  soft_after (soft_sarKick _) (soft_after (soft_of_heart rfl) (soft_after
    (soft_forEach d.d2d.latched (fun e d => sendEdge e.1 e.2.1 false e.2.2.1 e.2.2.2 d) (fun e _ d => soft_sendEdge e.1 e.2.1 false e.2.2.1 e.2.2.2 d) _)
    (soft_of_heart rfl)))

theorem lane_of_beside {a t : Dev} (h : Beside a t) (u : Bool) : lane t u = lane a u := by
  unfold lane
  rw [d2d_of_beside h]

end Bus

section Details

variable {d : Dev} {up : Bool} {typ : Nat} {content : BitVec 52} {damage : BitVec 72} {x : BitVec 72 × Dev}

theorem arrive_now {h : Held} {act : Dev → Dev} (ho : d.power.opTarget = none) : arrive h act d = act d := if_neg (by simp [ho])

theorem arrive_waits {h : Held} {act : Dev → Dev} (ho : d.power.opTarget ≠ none) :
    arrive h act d = { d with d2d.rxBuf := d.d2d.rxBuf ++ [h] } := if_pos (by simpa [Option.isSome_iff_ne_none] using ho)

theorem lanes_arrive {h : Held} {act : Dev → Dev} (hact : ∀ y u, lane (act y) u = lane y u) (u : Bool) : lane (arrive h act d) u = lane d u := by
  unfold arrive
  split
  · rfl
  · exact hact d u

theorem getLast_laneSend (b : BitVec 72) (l : Lane) : (laneSend b l).replay.getLast? = some b := by
  unfold laneSend
  dsimp only
  split <;> simp

/-- New content that arrives in step with no damage (R17, R20 to R22). -/
theorem beatRx_taken (ha : awake d = true) (hr : d.d2d.retrain = false) (hx : sendBeat up typ content d = some x) (hi : d.fault.inject = [])
    (ht : typ ≠ 15) (hres : (lane d up).resend = []) (hq : (lane d up).queue = []) (hseq : (lane d up).rxSeq = (lane d up).txSeq)
    (hlt : (lane d up).txSeq < 16) :
    let t := beatRx up typ content 0 d
    (lane t up).rxSeq = ((lane d up).rxSeq + 1) % 16 ∧ (lane t up).txSeq = ((lane d up).txSeq + 1) % 16 ∧
    (lane t up).unacked = (lane d up).unacked + 1 ∧ (lane t up).replay.getLast? = some x.1 ∧
    (lane t up).nak = none ∧ (lane t up).fails = 0 ∧ (lane t up).discarding = false ∧
    (d.power.opTarget = none → 2 ≤ typ → akey t.d2d.delivered typ = some content ∧
      (∀ ty, ty ≠ typ → akey t.d2d.delivered ty = akey d.d2d.delivered ty) ∧ t.conv.mods = d.conv.mods) ∧
    (d.power.opTarget = none → typ = 1 → t.d2d.delivered = d.d2d.delivered ∧ t.conv.mods = (BitVec.ofNat 25 (content.toNat >>> 25) ::
      BitVec.ofNat 25 content.toNat :: d.conv.mods).take (8 * decR d.conv.dec)) ∧
    (d.power.opTarget ≠ none → up = true → typ ≠ 0 →
      t.d2d.rxBuf = d.d2d.rxBuf ++ [.raw (lane d up).txSeq typ content] ∧ t.d2d.delivered = d.d2d.delivered) := by
  obtain ⟨y, hw, hl, ht'⟩ := beatRx_good ha hr hx hi ht hres hq hseq hlt
  dsimp only
  rw [ht']
  have hyp : y.power = d.power := by rw [hw]
  have hyd : y.d2d.delivered = d.d2d.delivered := by rw [hw]
  have hyb : y.d2d.rxBuf = d.d2d.rxBuf := by rw [hw]
  have hyc : y.conv = d.conv := by rw [hw]
  have hnow : d.power.opTarget = none → (if up && typ != 0 then arrive (.raw (lane d up).txSeq typ content) (intake typ content) y
      else intake typ content y) = intake typ content y := fun ho => by
    rw [arrive_now (by rw [hyp]; exact ho), ite_self]
  have hlanes : lane (if up && typ != 0 then arrive (.raw (lane d up).txSeq typ content) (intake typ content) y else intake typ content y) up =
      lane y up := by
    split
    · exact lanes_arrive (lanes_intake typ content) up
    · exact lanes_intake typ content y up
  rw [hlanes, hl]
  refine ⟨rfl, rfl, rfl, getLast_laneSend x.1 (lane d up), rfl, rfl, rfl, fun ho h2 => ?_, fun ho h1 => ?_, fun ho hu h0 => ?_⟩
  · rw [hnow ho, intake_held h2]
    dsimp only
    rw [hyd, hyc]
    exact ⟨akey_aset_self _ _ _, fun ty hty => akey_aset_ne _ _ hty, rfl⟩
  · subst h1
    rw [hnow ho]
    have htake : intake 1 content y = pushMod content y := rfl
    rw [htake, ← hyc, ← hyd]
    exact ⟨rfl, rfl⟩
  · rw [if_pos (by simp [hu, h0]), arrive_waits (by rw [hyp]; exact ho), ← hyb, ← hyd]
    exact ⟨rfl, rfl⟩

/-- A beat that fails its CRC (R22, R23). -/
theorem beatRx_refused (hn : NoSafe d) (ha : awake d = true) (hr : d.d2d.retrain = false) (hx : sendBeat up typ content d = some x)
    (hi : d.fault.inject = []) (hb : beatGood (x.1 ^^^ damage) = false) :
    let t := beatRx up typ content damage d
    let n := (lane d up).fails + (if beatType x.1 ≠ 15 ∧ beatSeq x.1 = (lane d up).rxSeq then 1 else 0)
    t.d2d.delivered = d.d2d.delivered ∧ mbit t.host.evf 94 = true ∧
    (n < 3 → t.d2d.retrain = false ∧ (lane t up).nak = some (lane d up).rxSeq ∧ (lane t up).discarding = true ∧
      (lane t up).fails = n ∧ (lane t up).rxSeq = (lane d up).rxSeq ∧ t.conv.mods = d.conv.mods) ∧
    (3 ≤ n → t.d2d.retrain = true ∧ mbit t.host.evf 95 = true ∧ t.conv.mods = [] ∧
      (∀ u, lane t u = { Lane.reset with rxReg := (lane t u).rxReg })) := by
  obtain ⟨y, hw, hl, ht⟩ := beatRx_bad ha hr hx hi hb
  dsimp only
  rw [ht]
  generalize (lane d up).fails + (if beatType x.1 ≠ 15 ∧ beatSeq x.1 = (lane d up).rxSeq then 1 else 0) = n at hl ⊢
  have hny : NoSafe y := noSafe_of_heart (heart_of_laneWrite hw) hn
  have hk := mild_raiseNS (by decide : 94 < 128) (dirCode up) y hny
  have h94 := evf_raiseNS (by decide : 94 < 128) (dirCode up) hny (by cases y.part <;> rfl)
  have hnz := noSafe_of_heart (heart_of_core hk.core) hny
  have hzd := d2d_of_core hk.core
  have hzc := conv_of_core hk.core
  generalize raiseNS 94 (dirCode up) y = z at hk h94 hnz hzd hzc ⊢
  have hzl : lane z up = lane y up := by
    unfold lane
    rw [hzd]
  have hfails : (lane z up).fails = n := by rw [hzl, hl]
  have hdel : z.d2d.delivered = d.d2d.delivered := by
    rw [hzd, hw]
  rw [hfails]
  by_cases h3 : 3 ≤ n
  · rw [if_pos h3]
    obtain ⟨hret, hde, hmods, h95, hevf, hlanes⟩ := laneLost_leaves up hnz
    exact ⟨hde.trans hdel, hevf 94 h94, fun h => absurd h3 (Nat.not_le.mpr h), fun _ => ⟨hret, h95, hmods, hlanes⟩⟩
  · rw [if_neg h3]
    refine ⟨hdel, h94, fun _ => ⟨?_, ?_, ?_, hfails, ?_, ?_⟩, fun h => absurd h h3⟩
    · rw [hzd, hw]
      exact hr
    · rw [hzl, hl]
    · rw [hzl, hl]
    · rw [hzl, hl]
    · rw [hzc, hw]

end Details

/-- Settles O42: a beat's effect is followed from the sender's lane to the receiver's; what a retrain sends again leaves the
lanes, the commands and the captures, so that only the test DAC is served in its wake. -/
theorem beatsAreDeliveredOrReplayed : Obligations.BeatsAreDeliveredOrReplayed := by
  intro s up hc hn
  refine ⟨fun typ content damage => ⟨fun h => ?_, sendBeat_nakless, sendBeat_barred, fun x ha hr hx => ?_⟩, fun seq ha hr hseq => ?_,
    fun seq h => ?_, fun hr => ?_, fun hr => ?_, fun hf => ?_, fun hf => ?_, fun hf hl hu => ?_⟩
  · exact answers_heart (f := beatRx up typ content damage) rfl (beatRx_idle h) hc rfl
  · refine answers_mono (answers_soft (f := beatRx up typ content damage) rfl rfl hc hn (soft_beatRx up typ content damage s.toDev))
      fun t ht => ⟨ht, fun hi hd ht15 hres hq hsq hlt => ?_, fun hi hb => ?_⟩
    · subst hd
      rw [lane_of_beside ht, d2d_of_beside ht, conv_of_beside ht]
      exact beatRx_taken ha hr hx hi ht15 hres hq hsq hlt
    · have hbad := beatRx_refused hn ha hr hx hi hb
      dsimp only at hbad ⊢
      simp only [lane_of_beside ht, d2d_of_beside ht, conv_of_beside ht, host_of_beside ht]
      exact hbad
  · have hrun : (if awake s.toDev && !s.d2d.retrain && decide (seq < 16) then nakDo up seq s.toDev else s.toDev) = nakDo up seq s.toDev :=
      if_pos (by simp [ha, hr, hseq])
    obtain ⟨hw, hself, hother, hhold, hmem⟩ := nakDo_leaves up seq s.toDev
    refine answers_mono (answers_heart (f := fun d => if awake d && !d.d2d.retrain && decide (seq < 16) then nakDo up seq d else d) rfl hrun hc
      (heart_of_laneWrite hw)) fun t ht => ?_
    dsimp only
    rw [lane_of_beside ht, lane_of_beside ht, d2d_of_beside ht]
    refine ⟨hself, hother, hhold, hmem, ?_⟩
    rw [hw] at ht
    exact ht
  · refine answers_heart (f := fun d => if awake d && !d.d2d.retrain && decide (seq < 16) then nakDo up seq d else d) rfl (if_neg ?_) hc rfl
    rcases h with h | h | h
    · simp [h]
    · simp [h]
    · simp [Nat.not_lt.mpr h]
  · have hsteady : spine (forEach s.d2d.hold sendAgain (lanesReady s.toDev)) = spine (lanesReady s.toDev) :=
      steady_forEach _ _ steady_sendAgain (lanesReady s.toDev) hn
    have hrun : retrainRun s.toDev = forEach s.d2d.hold sendAgain (lanesReady s.toDev) := if_pos hr
    refine answers_mono (answers_spine (i := .d2dRetrainDone) (b := lanesReady s.toDev) (f := retrainRun) rfl hrun hc ⟨rfl, rfl, rfl, rfl⟩ hsteady) fun t ⟨ht, hserve⟩ => ?_
    have hd2d : t.d2d = (forEach s.d2d.hold sendAgain (lanesReady s.toDev)).d2d := by
      rw [d2d_of_beside ht, dacWrite_serveDac (forEach s.d2d.hold sendAgain (lanesReady s.toDev))]
    have hdown : t.d2d.down = { s.d2d.down with queue := s.d2d.issued } := by
      rw [hd2d]
      exact congrArg Spine.down hsteady
    have hbeside : Beside (serveSlice (serveDac (forEach s.d2d.hold sendAgain (lanesReady s.toDev)))) t := by
      rw [hserve]
      exact ht
    refine ⟨?_, ?_, ?_, hbeside, fun l hl => ?_⟩
    · rw [hd2d]
      exact congrArg Spine.retrain hsteady
    · rw [hdown]
    · rw [hd2d]
      exact congrArg Spine.issued hsteady
    · rw [hl, sendAgain_beats] at hd2d ht
      have hcalm : Calm { lanesReady s.toDev with d2d := { (lanesReady s.toDev).d2d with
          up := { (lanesReady s.toDev).d2d.up with queue := (lanesReady s.toDev).d2d.up.queue ++ l } } } := calm_of_eq hc rfl rfl rfl rfl
      rw [serveDac_idle hcalm.2.2.2] at ht
      refine ⟨?_, ?_, ?_⟩
      · rw [hd2d]
        rfl
      · rw [hd2d]
        rfl
      · rw [hd2d]
        exact ht
  · exact answers_heart (f := retrainRun) rfl (if_neg (by simp [hr])) hc rfl
  · exact answers_heart (f := roomRun) rfl (if_pos hf) hc rfl
  · exact answers_soft (f := roomRun) rfl (if_neg (by simp [hf])) hc hn (soft_roomRun s.toDev)
  · have hlatched : { s.d2d with latched := [] } = s.d2d := by rw [← hl]
    have hidle : roomRun s.toDev = { s.toDev with d2d.sarWait := false } := by
      unfold roomRun
      rw [if_neg (by simp [hf]), hl]
      show sarKick { s.toDev with d2d := { { s.d2d with latched := [] } with sarWait := false } } = _
      rw [hlatched]
      exact if_neg (by simpa using hu)
    exact answers_heart (f := roomRun) rfl hidle hc rfl

end Sys2Proof.Proofs
end

section
/-! PROOF. Ports, breaks and return passes of the ring (11_burza_link.md R323, R339 to R349, 12_ring_membership.md R359 to
R386). -/

namespace Sys2Proof.Proofs

open Sys2Proof Sys2Proof.Machine Sys2Proof.Safety Sys2Proof.Laws

/-! ## What occurrences leave of the ring -/

/-- The ring, the ports and the head's frames stay. -/
def RingKept (a b : Dev) : Prop := b.ring = a.ring ∧ b.link = a.link ∧ b.head = a.head

section Kept

variable {a b c d : Dev}

theorem ringKept_trans (hab : RingKept a b) (hbc : RingKept b c) : RingKept a c :=
  ⟨hbc.1.trans hab.1, hbc.2.1.trans hab.2.1, hbc.2.2.trans hab.2.2⟩

theorem ringKept_raiseNS {k : Nat} (hk : k < 128) (unit : Nat) (hn : NoSafe d) : RingKept d (raiseNS k unit d) := by
  have h := (occWrite_raiseNS k unit (hn k hk)).1
  exact ⟨by rw [h], by rw [h], by rw [h]⟩

theorem ringKept_qmsg (src kind addr : Nat) (d : Dev) : RingKept d (qmsg src kind addr d) := by
  unfold qmsg
  split <;> exact ⟨rfl, rfl, rfl⟩

theorem ringKept_cutUnit {kind : Nat} (h : kind ≠ 1) (p : Nat → Bool) (d : Dev) : RingKept d (cutUnit kind p d) := by
  unfold cutUnit
  split
  · rename_i x hx
    split
    · rename_i hk
      have hkind : x.1 ≠ 1 := by
        simp only [Bool.and_eq_true, decide_eq_true_eq] at hk
        rw [hk.1]
        exact h
      have hreturn : ∀ y, RingKept y (returnUnit x.1 x.2 false y) := fun y => by
        unfold returnUnit
        dsimp only
        rw [if_neg hkind]
        split <;> exact ⟨rfl, rfl, rfl⟩
      unfold cutSlice
      rw [hx]
      dsimp only
      refine ringKept_trans (ringKept_trans ?_ (ringKept_qmsg _ _ _ _)) (hreturn _)
      exact ⟨rfl, rfl, rfl⟩
    · exact ⟨rfl, rfl, rfl⟩
  · exact ⟨rfl, rfl, rfl⟩

theorem ringKept_setTbState (st : TbState) (hn : NoSafe d) : RingKept d (setTbState st d) := by
  have hset : ∀ x : Dev, RingKept d x → NoSafe x → RingKept d (if (d.tb.state == .locked) != (st == .locked) then raiseNS 112 0xFFFF x else x) :=
    fun x hx hnx => by
      split
      · exact ringKept_trans hx (ringKept_raiseNS (by decide) _ hnx)
      · exact hx
  exact hset _ ⟨rfl, rfl, rfl⟩ hn

theorem ringKept_enterFlywheel (hn : NoSafe d) : RingKept d (enterFlywheel d) :=
  ringKept_trans (ringKept_setTbState .flywheel hn) ⟨rfl, rfl, rfl⟩

theorem ringKept_refFallback (hn : NoSafe d) : RingKept d (refFallback d) := by
  unfold refFallback
  dsimp only
  split
  · split
    · exact ringKept_raiseNS (d := { d with tb := _, clk := _, free := _ }) (by decide) _ hn
    · exact ringKept_raiseNS (d := { d with clk := _ }) (by decide) _ hn
  · exact ⟨rfl, rfl, rfl⟩

end Kept

/-! ## Loss of signal -/

section Loss

variable {d : Dev} {p : Port}

/-- The port without lock, its loss noted (R323). -/
def lossMarked (p : Port) (d : Dev) : Dev := setLos p (setLock p false d)

theorem lossMarked_leaves (p : Port) (d : Dev) : (lossMarked p d).ring = d.ring ∧ (lossMarked p d).head = d.head ∧
    heart (lossMarked p d) = heart d ∧ lockOf (lossMarked p d) p = false ∧
    (p = .A → (lossMarked p d).link.losA = true ∧ (lossMarked p d).link.losB = d.link.losB) ∧
    (p = .B → (lossMarked p d).link.losB = true ∧ (lossMarked p d).link.losA = d.link.losA) := by
  cases p
  · exact ⟨rfl, rfl, rfl, rfl, fun _ => ⟨rfl, rfl⟩, nofun⟩
  · exact ⟨rfl, rfl, rfl, rfl, nofun, fun _ => ⟨rfl, rfl⟩⟩

theorem lossNoted_leaves (p : Port) (hn : NoSafe d) : RingKept (lossMarked p d) (lossNoted p d) ∧ mbit (lossNoted p d).host.evf 66 = true := by
  have hm : NoSafe (lossMarked p d) := noSafe_of_heart (lossMarked_leaves p d).2.2.1 hn
  have h66 := evf_raiseNS (by decide : 66 < 128) p.num hm (by cases (lossMarked p d).part <;> rfl)
  have hk := mild_raiseNS (by decide : 66 < 128) p.num (lossMarked p d) hm
  have hcut := mild_cutUnit 4 (fun u => u == p.num) (raiseNS 66 p.num (lossMarked p d)) (noSafe_of_heart (heart_of_core hk.core) hm)
  exact ⟨ringKept_trans (ringKept_raiseNS (by decide) _ hm) (ringKept_cutUnit (by decide) _ _), hcut.evf 66 h66⟩

theorem ringKept_dropFrames (d : Dev) : (dropFrames d).link = d.link ∧ (dropFrames d).head.flights = [] := by
  have hfold : ∀ l : List Flight, (l.foldr requeue d).link = d.link := fun l => by
    induction l with
    | nil => rfl
    | cons f t ih =>
      have hone : ∀ x : Dev, (requeue f x).link = x.link := fun x => by
        unfold requeue
        split
        · rfl
        · split <;> rfl
      exact (hone _).trans ih
  exact ⟨hfold _, rfl⟩

/-- A break of the head's ring (R379). -/
theorem breakRing_leaves (mark : Bool) (hn : NoSafe d) : (breakRing mark d).link = d.link ∧ (breakRing mark d).ring.stat = .wrapped ∧
    (breakRing mark d).ring.marking = mark ∧ (breakRing mark d).ring.reversePend = mark ∧ (breakRing mark d).head.flights = [] ∧
    mbit (breakRing mark d).host.evf 73 = true ∧ (∀ i, mbit d.host.evf i = true → mbit (breakRing mark d).host.evf i = true) := by
  have hdrop := mild_dropFrames d hn
  have hbreak : ∀ x : Dev, core x = core (dropFrames d) → x.host = (dropFrames d).host → x.link = d.link → x.ring.stat = .wrapped →
      x.ring.marking = mark → x.ring.reversePend = mark → x.head.flights = [] →
      let t := raiseNS 73 0xFFFF x
      t.link = d.link ∧ t.ring.stat = .wrapped ∧ t.ring.marking = mark ∧ t.ring.reversePend = mark ∧ t.head.flights = [] ∧
        mbit t.host.evf 73 = true ∧ (∀ i, mbit d.host.evf i = true → mbit t.host.evf i = true) := fun x hx hxh hl hs hm hr hf => by
    have hnx : NoSafe x := noSafe_of_heart (heart_of_core (hx.trans hdrop.core)) hn
    obtain ⟨hring, hlink, hhead⟩ := ringKept_raiseNS (by decide : 73 < 128) 0xFFFF hnx
    dsimp only
    rw [hring, hlink, hhead]
    refine ⟨hl, hs, hm, hr, hf, evf_raiseNS (by decide) _ hnx (by cases x.part <;> rfl), fun i hi => ?_⟩
    refine (mild_raiseNS (by decide : 73 < 128) 0xFFFF x hnx).evf i ?_
    rw [hxh]
    exact hdrop.evf i hi
  exact hbreak _ rfl rfl (ringKept_dropFrames d).1 rfl rfl rfl (ringKept_dropFrames d).2

/-- A member's loss of signal, its reference and its timebase apart (R323, R374). -/
theorem lostMember_leaves (d : Dev) : (lostMember d).link = d.link ∧ (lostMember d).host = d.host ∧
    (d.ring.mode = .normal → (lostMember d).ring.marking = true ∧ (lostMember d).ring.reversePend = true ∧ (lostMember d).ring.mode = .normal) ∧
    (d.ring.mode = .arm ∨ d.ring.mode = .reversed ∨ d.ring.mode = .fold →
      (lostMember d).ring.mode = .unattached ∧ (lostMember d).ring.returning = false ∧ (lostMember d).ring.turning = false) := by
  unfold lostMember
  cases h : d.ring.mode <;> simp_all

end Loss

section Losing

variable {d : Dev} {p : Port}

theorem losOn_unexpected (h : expectedRx d p = false) : losOn p d = d := if_pos (by simp [h])

theorem losOn_expected (h : expectedRx d p = true) : losOn p d =
    if isHead (lossNoted p d) then
      if isHead d && p == .A && d.ring.stat == .closed then headBreak (lossNoted p d)
      else if isHead d && d.ring.stat == .enumerating then { lossNoted p d with ring.disturbed := true }
      else lossNoted p d
    else lostMember (if (refFallback (lossNoted p d)).tb.state == .locked then enterFlywheel (refFallback (lossNoted p d))
      else refFallback (lossNoted p d)) := by
  rw [losOn_eq, if_neg (by simp [h])]

theorem expectedRx_mode (h : expectedRx d p = true) (hm : isHead d = false) (hn : d.ring.mode ≠ .normal) :
    d.ring.mode = .arm ∨ d.ring.mode = .reversed ∨ d.ring.mode = .fold := by
  unfold expectedRx at h
  rw [hm] at h
  cases hmode : d.ring.mode <;> simp_all

theorem isHead_of_power {a b : Dev} (h : b.power = a.power) : isHead b = isHead a := by
  unfold isHead
  rw [h]

/-- What a loss of signal on a port that is expected to receive leaves (R323, R374, R379). -/
theorem losOn_leaves (hn : NoSafe d) (h : expectedRx d p = true) :
    let t := losOn p d
    mbit t.host.evf 66 = true ∧ t.link = (lossMarked p d).link ∧
    (isHead d = false → d.ring.mode = .normal → t.ring.marking = true ∧ t.ring.reversePend = true ∧ t.ring.mode = .normal) ∧
    (isHead d = false → d.ring.mode ≠ .normal → t.ring.mode = .unattached ∧ t.ring.returning = false ∧ t.ring.turning = false) ∧
    (isHead d = true → d.ring.stat = .closed → p = .A → t.ring.stat = .wrapped ∧ t.ring.marking = true ∧
      t.ring.reversePend = true ∧ t.head.flights = [] ∧ mbit t.host.evf 73 = true) ∧
    (isHead d = true → d.ring.stat = .enumerating → t.ring.disturbed = true ∧ t.ring.stat = .enumerating) := by
  dsimp only
  rw [losOn_expected h]
  obtain ⟨⟨hring, hlink, -⟩, h66⟩ := lossNoted_leaves p hn
  have hheart : heart (lossNoted p d) = heart d := heart_of_core (mild_lossNoted p d hn).core
  have hnx : NoSafe (lossNoted p d) := noSafe_of_heart hheart hn
  have hhead : isHead (lossNoted p d) = isHead d := isHead_of_power (power_of_heart hheart)
  have hringd : (lossNoted p d).ring = d.ring := hring.trans (lossMarked_leaves p d).1
  generalize lossNoted p d = x at hlink h66 hnx hhead hringd ⊢
  rw [hhead]
  cases hh : isHead d with
  | true =>
    rw [if_pos rfl]
    by_cases hclosed : p = .A ∧ d.ring.stat = .closed
    · rw [if_pos (by simp [hclosed.1, hclosed.2])]
      obtain ⟨hl, hs, hm, hr, hf, h73, hevf⟩ := breakRing_leaves true hnx
      exact ⟨hevf 66 h66, hl.trans hlink, nofun, nofun, fun _ _ _ => ⟨hs, hm, hr, hf, h73⟩, fun _ he => by simp [hclosed.2] at he⟩
    · rw [if_neg (by simpa using hclosed)]
      by_cases henum : d.ring.stat = .enumerating
      · rw [if_pos (by simp [henum])]
        exact ⟨h66, hlink, nofun, nofun, fun _ hc hp => absurd ⟨hp, hc⟩ hclosed, fun _ _ => ⟨rfl, (congrArg Ring.stat hringd).trans henum⟩⟩
      · rw [if_neg (by simp [henum])]
        exact ⟨h66, hlink, nofun, nofun, fun _ hc hp => absurd ⟨hp, hc⟩ hclosed, fun _ he => absurd he henum⟩
  | false =>
    rw [if_neg (by decide)]
    have hfall := ringKept_refFallback hnx
    have hfallm := mild_refFallback x hnx
    generalize refFallback x = y at hfall hfallm ⊢
    have hny : NoSafe y := noSafe_of_heart (heart_of_core hfallm.core) hnx
    have hfly : RingKept x (if y.tb.state == .locked then enterFlywheel y else y) ∧
        mbit (if y.tb.state == .locked then enterFlywheel y else y).host.evf 66 = true := by
      split
      · exact ⟨ringKept_trans hfall (ringKept_enterFlywheel hny), (mild_enterFlywheel y hny).evf 66 (hfallm.evf 66 h66)⟩
      · exact ⟨hfall, hfallm.evf 66 h66⟩
    generalize (if y.tb.state == .locked then enterFlywheel y else y) = z at hfly ⊢
    obtain ⟨⟨hzr, hzl, -⟩, hz66⟩ := hfly
    obtain ⟨hl, hhost, hnormal, hother⟩ := lostMember_leaves z
    have hzring : z.ring = d.ring := hzr.trans hringd
    rw [hzring] at hnormal hother
    refine ⟨by rw [hhost]; exact hz66, hl.trans (hzl.trans hlink), fun _ hm => hnormal hm, fun _ hm => hother ?_, nofun, nofun⟩
    exact expectedRx_mode h hh hm

end Losing

/-! ## The other events -/

section Events

variable {s : State}

/-- A command that leaves a calm block of the same heart, with the device itself. -/
theorem answers_settled {i : Instr} {f : Dev → Dev} {a : Dev} (hi : exec i s = runDev s f) (hf : f s.toDev = a) (hc : Calm s.toDev)
    (hh : heart a = heart s.toDev) : Answers i s (fun t => t = settle a) := by
  subst hf
  refine ⟨{ s with toDev := settle (f s.toDev) }, ?_, rfl, rfl⟩
  have heff : effect f s.toDev = settle (f s.toDev) := effect_calm (calm_of_heart hh hc) (by rw [power_of_heart hh]; exact id)
  rw [hi, runDev, heff]

/-- PORT_LOCK (R75, R323). -/
def lockRun (p : Port) (d : Dev) : Dev := if awake d && portUp d p then refRestore p (setLock p true d) else d

theorem lockRun_off {d : Dev} {p : Port} (h : awake d = false ∨ portUp d p = false) : lockRun p d = d := by
  refine if_neg ?_
  rcases h with h | h <;> simp [h]

theorem lockRun_locks (p : Port) {d : Dev} (ha : awake d = true) (hp : portUp d p = true) : lockOf (lockRun p d) p = true ∧
    heart (lockRun p d) = heart d ∧
    lockRun p d = { setLock p true d with clk.pllRef := (lockRun p d).clk.pllRef } ∧
    (lockRun p d).clk.pllRef = (if isHead d = false ∧ (headSide d = some p ∨ headSide d = none) then .rck else d.clk.pllRef) := by
  have hrun : lockRun p d = refRestore p (setLock p true d) := if_pos (by simp [ha, hp])
  rw [hrun]
  have hside : isHead (setLock p true d) = isHead d ∧ headSide (setLock p true d) = headSide d ∧ lockOf (setLock p true d) p = true ∧
      heart (setLock p true d) = heart d ∧ (setLock p true d).clk = d.clk := by
    cases p <;> exact ⟨rfl, rfl, rfl, rfl, rfl⟩
  obtain ⟨hhead, hs, hl, hh, hclk⟩ := hside
  unfold refRestore
  rw [hhead, hs]
  by_cases hc : isHead d = false ∧ (headSide d = some p ∨ headSide d = none)
  · rw [if_pos (by simpa using hc), if_pos hc]
    exact ⟨by cases p <;> rfl, by cases p <;> rfl, rfl, rfl⟩
  · rw [if_neg (by simpa using hc), if_neg hc, hclk]
    refine ⟨hl, hh, ?_, rfl⟩
    rw [← hclk]

/-- REVERSE_DECIDE (R378, R379). -/
def decideRun (mark : Bool) (d : Dev) : Dev :=
  if !d.ring.reversePend then d
  else if isHead d then (if mark then { d with ring.reversePend := false } else armFound [] { d with ring.reversePend := false, ring.marking := false })
  else if mark then { d with ring.reversePend := false, ring.mode := .reversed }
  else raiseNS 73 0xFFFF { d with ring.reversePend := false, ring.mode := .fold, ring.foldB := true }

theorem heart_armFound (as : List Nat) (d : Dev) : heart (armFound as d) = heart d := by
  have hfold : ∀ p a (x : Dev), heart (foldIs p a x) = heart x := fun p a x => by cases p <;> rfl
  have hseek : ∀ p q (x : Dev), heart (seekFold p q x) = heart x := fun p q x => by
    unfold seekFold
    split
    · rfl
    · exact hfold _ _ _
  unfold armFound
  dsimp only
  exact (hseek _ _ _).trans ((hfold _ _ _).trans rfl)

/-- BREAK_MARK_END (R378, R379). -/
def markRun (d : Dev) : Dev :=
  if !d.ring.marking then d
  else if isHead d then pushRing (censusFrame d (some .A)) { d with ring.marking := false, ring.reversePend := false }
  else { d with ring.marking := false }

/-- FOLD_RETURN (R349). -/
def foldRun (d : Dev) : Dev := if d.ring.foldPass then afterReturn { d with ring.foldPass := false, ring.passBuf := [] } else d

/-- TURN_RETURN (R364, R370). -/
def turnRun (d : Dev) : Dev :=
  if d.ring.turning then { d with ring.turning := false, ring.probing := false, ring.gate := d.ring.gate || d.ring.addr != 0 } else d

/-- ARM_RETURN_TIMEOUT (R360). -/
def armRun (d : Dev) : Dev := if d.ring.returning then { d with ring.returning := false, ring.afterPass := 0 } else d

/-- BEACON (R362). -/
def beaconRun (p : Port) (d : Dev) : Dev :=
  if awake d && !isHead d && portUp d p && (d.ring.mode == .gated || d.ring.mode == .unattached) && !lockOf d p then
    { d with ring.beacons := mset d.ring.beacons p.num true } else d

/-- AWAIT_TIMEOUT (R386). -/
def awaitRun (d : Dev) : Dev := if d.ring.mode == .await then { d with ring.mode := .reversed } else d

/-- A device keeps its far port's flags (R384). -/
def keepsFar (d : Dev) : Bool := awake d && isFold d && farUp d

theorem keepsFar_iff (d : Dev) : keepsFar d = true ↔ (awake d = true ∧
    ((isHead d = false ∧ d.ring.mode = .fold ∧ portUp d (if d.ring.foldB then .A else .B) = true) ∨
     (isHead d = true ∧ d.ring.stat = .wrapped ∧
      ((d.ring.foldAAddr = 1 ∧ portUp d .A = true) ∨ (d.ring.foldBAddr = 1 ∧ portUp d .B = true))))) := by
  unfold keepsFar isFold farUp
  cases isHead d with
  | true =>
    simp only [if_true, Bool.and_eq_true, Bool.or_eq_true, beq_iff_eq, Bool.true_eq_false, false_and, false_or, true_and, and_assoc]
    constructor
    · rintro ⟨ha, hs, -, hf⟩
      exact ⟨ha, hs, hf⟩
    · rintro ⟨ha, hs, hf⟩
      exact ⟨ha, hs, hf.imp And.left And.left, hf⟩
  | false =>
    simp only [Bool.false_eq_true, if_false, Bool.and_eq_true, beq_iff_eq, true_and, false_and, or_false, and_assoc]

end Events

/-- Settles O43: each of the link's events is its own small operation; a loss of signal is followed through its event, the
slice that it cuts, the break and the member's timebase. -/
theorem portsAndPassesFollowTheRing : Obligations.PortsAndPassesFollowTheRing := by
  intro s hc hn
  have hsame : ∀ {f : Dev → Dev} {i : Instr}, exec i s = runDev s f → f s.toDev = s.toDev → Answers i s (Beside s.toDev) :=
    fun hi hf => answers_heart hi hf hc rfl
  have hfar : ∀ (i : Instr) (g : Dev → Dev), exec i s = runDev s (fun d => if keepsFar d then g d else d) → heart (g s.toDev) = heart s.toDev →
      (keepsFar s.toDev = true → Answers i s (Beside (g s.toDev))) ∧ (keepsFar s.toDev ≠ true → Answers i s (Beside s.toDev)) :=
    fun i g hi hg => ⟨fun h => answers_heart (f := fun d => if keepsFar d then g d else d) hi (if_pos h) hc hg, fun h => hsame hi (if_neg h)⟩
  refine ⟨fun p ha he => ?_, fun p h => ?_, fun p ha hp => ?_, fun p h => hsame (f := lockRun p) rfl (lockRun_off h), fun hr => ⟨fun hm => ⟨?_, ?_⟩, fun hh => ⟨?_, ?_⟩⟩,
    fun hr m => hsame (f := decideRun m) rfl (if_pos (by simp [hr])), fun hm => ⟨fun hh => ?_, fun hh => ?_⟩,
    fun hm => hsame (f := markRun) rfl (if_pos (by simp [hm])), fun hf => ?_, fun hf => hsame (f := foldRun) rfl (if_neg (by simp [hf])),
    fun ht => ?_, fun ht => hsame (f := turnRun) rfl (if_neg (by simp [ht])), fun hr => ?_, fun hr => hsame (f := armRun) rfl (if_neg (by simp [hr])),
    fun p => ⟨fun h => ?_, fun h => ?_⟩, ?_, fun hm => ?_, fun hm => hsame (f := awaitRun) rfl (if_neg (by simp [hm])), ?_, ?_⟩
  · have hrun : (if awake s.toDev then losOn p s.toDev else s.toDev) = losOn p s.toDev := if_pos ha
    obtain ⟨h66, hlink, hnormal, hother, hclosed, henum⟩ := losOn_leaves hn he
    obtain ⟨-, -, -, hlock, hA, hB⟩ := lossMarked_leaves p s.toDev
    refine answers_mono (answers_soft (f := fun d => if awake d then losOn p d else d) rfl hrun hc hn (soft_of_mild (mild_losOn p s.toDev)))
      fun t ht => ⟨ht, ?_⟩
    have hlinkt : t.link = { (lossMarked p s.toDev).link with unswept := t.link.unswept } := by
      rw [← hlink, ht.2]
    have hringt : t.ring = (losOn p s.toDev).ring := ring_of_beside ht
    rw [host_of_beside ht, hringt, head_of_beside ht]
    refine ⟨h66, ?_, fun hp => ?_, fun hp => ?_, hnormal, hother, hclosed, henum⟩
    · have hl : ∀ q, lockOf t q = lockOf (lossMarked p s.toDev) q := fun q => by cases q <;> (unfold lockOf; rw [hlinkt])
      rw [hl]
      exact hlock
    · rw [hlinkt]
      exact hA hp
    · rw [hlinkt]
      exact hB hp
  · refine hsame (f := fun d => if awake d then losOn p d else d) rfl ?_
    rcases h with h | h
    · exact if_neg (by simp [h])
    · show (if awake s.toDev then losOn p s.toDev else s.toDev) = s.toDev
      rw [losOn_unexpected h, ite_self]
  · obtain ⟨hl, hh, hframe, href⟩ := lockRun_locks p ha hp
    refine answers_mono (answers_heart (f := lockRun p) rfl rfl hc hh) fun t ht => ?_
    have hlinkt : ∀ q, lockOf t q = lockOf (lockRun p s.toDev) q := fun q => by cases q <;> (unfold lockOf; rw [ht.2])
    rw [hlinkt, clk_of_beside ht]
    refine ⟨hl, href, ?_⟩
    rw [hframe] at ht
    exact ht
  · exact answers_heart (f := decideRun true) rfl (by simp [decideRun, hr, hm]) hc rfl
  · have hrun : decideRun false s.toDev = raiseNS 73 0xFFFF { s.toDev with ring.reversePend := false, ring.mode := .fold, ring.foldB := true } := by
      simp [decideRun, hr, hm]
    have hx : heart { s.toDev with ring.reversePend := false, ring.mode := .fold, ring.foldB := true } = heart s.toDev := rfl
    have hring : ({ s.toDev with ring.reversePend := false, ring.mode := .fold, ring.foldB := true } : Dev).ring.mode = .fold ∧
        ({ s.toDev with ring.reversePend := false, ring.mode := .fold, ring.foldB := true } : Dev).ring.foldB = true := ⟨rfl, rfl⟩
    have hplain : Plain s.toDev 73 → Plain { s.toDev with ring.reversePend := false, ring.mode := .fold, ring.foldB := true } 73 := id
    generalize ({ s.toDev with ring.reversePend := false, ring.mode := .fold, ring.foldB := true } : Dev) = x at hrun hx hring hplain ⊢
    have hnx : NoSafe x := noSafe_of_heart hx hn
    have hsoft := soft_of_mild (mild_raiseNS (by decide : 73 < 128) 0xFFFF x) hnx
    refine answers_mono (answers_settled (i := .reverseDecide false) (f := decideRun false) rfl hrun hc (hsoft.trans hx)) ?_
    rintro t rfl
    have ht := beside_settle (raiseNS 73 0xFFFF x)
    have hkept : (raiseNS 73 0xFFFF x).ring = x.ring := (ringKept_raiseNS (by decide : 73 < 128) 0xFFFF hnx).1
    rw [host_of_beside ht, ring_of_beside ht, hkept]
    exact ⟨evf_raiseNS (by decide) _ hnx (by cases x.part <;> rfl), hring.1, hring.2, fun hp => noted_settle (occurred_raiseNS 73 0xFFFF (hplain hp))⟩
  · exact answers_heart (f := decideRun true) rfl (by simp [decideRun, hr, hh]) hc rfl
  · exact answers_heart (f := decideRun false) rfl (by simp [decideRun, hr, hh]) hc (heart_armFound _ _)
  · exact answers_heart (f := markRun) rfl (by simp [markRun, hm, hh]) hc rfl
  · exact answers_heart (f := markRun) (a := pushRing (censusFrame s.toDev (some .A)) { s.toDev with ring.marking := false, ring.reversePend := false })
      rfl (by simp [markRun, hm, hh]) hc rfl
  · dsimp only
    refine ⟨fun h1 => ?_, fun h2 => ?_, fun h1 h2 => ?_⟩
    · exact answers_heart (f := foldRun) rfl ((if_pos hf).trans (by simp [afterReturn, h1])) hc rfl
    · exact answers_heart (f := foldRun) rfl ((if_pos hf).trans (by simp [afterReturn, h2])) hc rfl
    · exact answers_heart (f := foldRun) rfl ((if_pos hf).trans (by simp [afterReturn])) hc rfl
  · refine answers_heart (f := turnRun) rfl ((if_pos ht).trans ?_) hc rfl
    simp [bne, Bool.beq_eq_decide_eq]
  · exact answers_heart (f := armRun) rfl (if_pos hr) hc rfl
  · exact answers_heart (f := beaconRun p) rfl (if_pos (by simpa [and_assoc] using h)) hc rfl
  · exact hsame (f := beaconRun p) rfl (if_neg (by simpa [and_assoc] using h))
  · have hiff := keepsFar_iff s.toDev
    obtain ⟨hlock, hlock'⟩ := hfar .farLockSet (fun d => { d with ring.farLock := true }) rfl rfl
    obtain ⟨hprobe, hprobe'⟩ := hfar .farProbeSet (fun d => { d with ring.farProbe := true }) rfl rfl
    exact ⟨fun h => ⟨hlock (hiff.mpr h), hprobe (hiff.mpr h)⟩, fun h => ⟨hlock' (fun hk => h (hiff.mp hk)), hprobe' (fun hk => h (hiff.mp hk))⟩⟩
  · exact answers_heart (f := awaitRun) rfl (if_pos (by simp [hm])) hc rfl
  · exact answers_heart (f := fun d => { d with link.kept := none, link.ackKept := none, ring.claimed := none }) rfl rfl hc rfl
  · obtain ⟨hbusy, hwait, hcaps, hdac⟩ := hc
    exact answers_beside (f := fun d => { d with cmd.partMsg := [], cmd.partSeq := none, cmd.partNext := 0 }) rfl rfl
      ⟨hbusy, hwait, hcaps, hdac⟩ id

end Sys2Proof.Proofs
end

section
/-! PROOF. A CRC-24 mismatch whose count is reached under REACTION FENCE_PORT fences the member's receiving port: the member
begins its break decision (11_burza_link.md R335, 15_faults_and_sluices.md R487, 12_ring_membership.md R378). -/

namespace Sys2Proof.Proofs

open Sys2Proof Sys2Proof.Machine Sys2Proof.Safety Sys2Proof.Laws

/-- A member at address 5 of a closed ring, in STANDBY; FAULT_ESC_64 is FENCE_PORT with COUNT 1. -/
def fencingMember : State :=
  { State.reset with
    power := { State.reset.power with pstate := .standby, stepNo := 9, role := false }
    clk := { State.reset.clk with pllP := true, boot := false }
    cmd := { State.reset.cmd with hkReady := true }
    ring := { State.reset.ring with addr := 5, gate := true, mode := .normal, valA := true, dA := 100 }
    link := { State.reset.link with enA := true, enB := true, lockA := true }
    cfg := [(0x0840, 0x103)] }

/-- A TIMING frame on port A whose CRC-24 fails. -/
def spoiltTiming : Frame := { Frame.reset with typ := 1, seq := 9, addr := 63, bcast := true, crcOk := false }

theorem fencingMember_calm : Calm fencingMember.toDev := by decide +kernel

theorem fencingMember_noSafe : NoSafe fencingMember.toDev := by decide +kernel

theorem spoiltTiming_arrives : arrives fencingMember.toDev { spoiltTiming with crcOk := true, damagedAt := 0 } = true := by decide +kernel

/-- The fenced port has lost its signal: the member's break decision is pending. -/
theorem spoiltTiming_breaks : (onFrame 1 (fun _ d => d) spoiltTiming fencingMember.toDev).ring.reversePend = true := by decide +kernel

/-- Refutes O44: FENCE_PORT is permitted where only SAFE_STATE is excluded; a CRC-24 mismatch that reaches its COUNT fences
port A, and the fence's loss of signal changes the ring registers of a member in NORMAL. -/
theorem not_memberFramesAreAnswered : ¬ Obligations.MemberFramesAreAnswered := by
  intro h
  obtain ⟨htiming, -, -, -, -, -, -, -, hrows, -⟩ := h fencingMember spoiltTiming fencingMember_calm fencingMember_noSafe
  obtain ⟨t, ht, -, hb⟩ := htiming
  obtain ⟨-, -, hspoilt⟩ := hrows (.frameTiming spoiltTiming) List.mem_cons_self
  obtain ⟨u, hu, -, -, -, -, -, -, -, -, -, -, -, hring, -⟩ := hspoilt spoiltTiming_arrives (.inr (.inr rfl))
  have htu : t = u := Host.Outcome.next.inj (ht.symm.trans hu)
  have hpend : t.ring.reversePend = true := by
    rw [ring_of_beside hb]
    exact spoiltTiming_breaks
  rw [htu, hring] at hpend
  cases hpend

end Sys2Proof.Proofs
end

section
/-! PROOF. What a frame changes on its way to a device (11_burza_link.md R333 to R353, 12_ring_membership.md R359 to R363, R386 to
R388). -/

namespace Sys2Proof.Proofs

open Sys2Proof Sys2Proof.Machine Sys2Proof.Safety Sys2Proof.Laws

/-! ## The timebase -/

/-- Where no source of a is set to SAFE_STATE, b has the heart of a, its ring, its ports and its head's frames. -/
def Tame (a b : Dev) : Prop := NoSafe a → heart b = heart a ∧ RingKept a b

section Tame

variable {a b c d : Dev}

theorem tame_same (h : heart b = heart a) (hr : RingKept a b) : Tame a b := fun _ => ⟨h, hr⟩

theorem tame_refl (a : Dev) : Tame a a := tame_same rfl ⟨rfl, rfl, rfl⟩

theorem tame_after (hbc : Tame b c) (hab : Tame a b) : Tame a c := fun hn =>
  have hb := hab hn
  have hc := hbc (noSafe_of_heart hb.1 hn)
  ⟨hc.1.trans hb.1, ringKept_trans hb.2 hc.2⟩

theorem tame_raiseNS {k : Nat} (hk : k < 128) (unit : Nat) (d : Dev) : Tame d (raiseNS k unit d) := fun hn =>
  ⟨heart_of_core (mild_raiseNS hk unit d hn).core, ringKept_raiseNS hk unit hn⟩

theorem tame_pllmUnlocked (d : Dev) : Tame d (pllmUnlocked d) := by
  unfold pllmUnlocked
  split
  · exact tame_after (tame_raiseNS (by decide) _ _) (tame_same rfl ⟨rfl, rfl, rfl⟩)
  · exact tame_refl d

theorem tame_judgeBand (d : Dev) : Tame d (judgeBand d) := by
  unfold judgeBand
  split
  · exact tame_refl d
  · exact tame_after (tame_pllmUnlocked _) (tame_same rfl ⟨rfl, rfl, rfl⟩)

theorem tame_askMult (inc : Nat) (d : Dev) : Tame d (askMult inc d) := by
  unfold askMult
  split
  · exact tame_same rfl ⟨rfl, rfl, rfl⟩
  · exact tame_refl d

theorem tame_setTbState (st : TbState) (d : Dev) : Tame d (setTbState st d) := fun hn =>
  ⟨heart_of_core (mild_setTbState st d hn).core, ringKept_setTbState st hn⟩

theorem tame_enterLocked (d : Dev) : Tame d (enterLocked d) :=
  tame_after (tame_judgeBand _) (tame_after (tame_askMult _ _) (tame_after (tame_same rfl ⟨rfl, rfl, rfl⟩) (tame_setTbState .locked d)))

theorem tame_enterAcquire (d : Dev) : Tame d (enterAcquire d) :=
  tame_after (tame_same rfl ⟨rfl, rfl, rfl⟩) (tame_setTbState .acquire d)

theorem tame_blockState (small moved : Bool) (gap : Nat) (d : Dev) : Tame d (blockState small moved gap d) := by
  have hgood : ∀ n : Nat, Tame d (if 8 ≤ n then enterLocked { d with tb.goodBlocks := n } else { d with tb.goodBlocks := n }) := fun n => by
    split
    · exact tame_after (tame_enterLocked _) (tame_same rfl ⟨rfl, rfl, rfl⟩)
    · exact tame_same rfl ⟨rfl, rfl, rfl⟩
  unfold blockState
  split
  · exact hgood _
  · split
    · exact tame_enterLocked d
    · exact tame_after (tame_same rfl ⟨rfl, rfl, rfl⟩) (tame_enterAcquire d)
  · exact tame_refl d

theorem tame_takeBlock (f : Frame) (d : Dev) : Tame d (takeBlock f d) := by
  have hset : ∀ x : Timebase, Tame d { d with tb := x } := fun _ => tame_same rfl ⟨rfl, rfl, rfl⟩
  unfold takeBlock
  split
  · exact hset _
  · dsimp only
    split
    · exact tame_after (tame_judgeBand _) (tame_after (tame_askMult _ _) (hset _))
    · exact tame_after (tame_blockState _ _ _ _) (tame_after (tame_judgeBand _) (hset _))

end Tame

/-! ## The almanac, the trip field, the pass -/

/-- Where no source of a is set to SAFE_STATE, b has the heart of a, and but for RING_EPOCH its ring, and its replies. -/
def Heard (a b : Dev) : Prop := NoSafe a → heart b = heart a ∧ b.ring = { a.ring with epoch := b.ring.epoch } ∧
  b.link.reply = a.link.reply ∧ b.link.kept = a.link.kept

section Heard

variable {a b c d : Dev}

theorem heard_after (hbc : Heard b c) (hab : Heard a b) : Heard a c := fun hn => by
  obtain ⟨hb, hringb, hreplyb, hkeptb⟩ := hab hn
  obtain ⟨hc, hringc, hreplyc, hkeptc⟩ := hbc (noSafe_of_heart hb hn)
  refine ⟨hc.trans hb, ?_, hreplyc.trans hreplyb, hkeptc.trans hkeptb⟩
  rw [hringb] at hringc
  exact hringc

theorem heard_refl (d : Dev) : Heard d d := fun _ => ⟨rfl, rfl, rfl, rfl⟩

theorem heard_of_tame (h : Tame a b) : Heard a b := fun hn => by
  obtain ⟨hh, hr, hl, -⟩ := h hn
  exact ⟨hh, by rw [hr], by rw [hl], by rw [hl]⟩

theorem heard_setTime (v at' rate : Nat) (d : Dev) : Heard d (setTime v at' rate d) := by
  unfold setTime
  dsimp only
  split <;> exact fun _ => ⟨rfl, rfl, rfl, rfl⟩

theorem heard_adoptAlmanac (d : Dev) : Heard d (adoptAlmanac d) := by
  unfold adoptAlmanac
  dsimp only
  split
  · exact heard_after (heard_of_tame (tame_raiseNS (by decide) _ _)) fun _ => ⟨rfl, rfl, rfl, rfl⟩
  · exact heard_after (heard_setTime _ _ _ _) fun _ => ⟨rfl, rfl, rfl, rfl⟩

theorem heard_takeAlmanac (f : Frame) (d : Dev) : Heard d (takeAlmanac f d) := by
  have hbits : ∀ l at', Heard d { d with link.almBits := l, link.almAt := at' } := fun _ _ _ => ⟨rfl, rfl, rfl, rfl⟩
  unfold takeAlmanac
  dsimp only
  split
  · split
    · exact heard_refl d
    · exact hbits _ _
  · split
    · exact heard_refl d
    · split
      · split
        · exact heard_after (heard_adoptAlmanac _) (hbits _ _)
        · exact hbits _ _
      · exact hbits _ _

end Heard

theorem repeatTrip_kept (d : Dev) : repeatTrip d = { d with trip := (repeatTrip d).trip } := by
  unfold repeatTrip
  split
  · exact insertTrip_kept d
  · rfl

theorem whenRepeat_kept (b : Bool) (d : Dev) : whenDo b repeatTrip d = { d with trip := (whenDo b repeatTrip d).trip } := by
  cases b
  · rfl
  · exact repeatTrip_kept d

theorem heart_whenRepeat (b : Bool) (d : Dev) : heart (whenDo b repeatTrip d) = heart d := by rw [whenRepeat_kept]; rfl

theorem heart_passOn (f : Frame) (d : Dev) : heart (passOn f d) = heart d := by
  unfold passOn
  split
  · rfl
  · split
    · split <;> rfl
    · split <;> rfl

theorem heart_noteStream (f : Frame) (d : Dev) : heart (noteStream f d) = heart d := by
  unfold noteStream
  dsimp only
  split
  · rfl
  · rfl
  · split <;> rfl
  · rfl

theorem heart_passReturned (d : Dev) : heart (passReturned d) = heart d := by
  unfold passReturned afterReturn
  split <;> rfl

theorem heart_forget (d : Dev) : heart (forget d) = heart d := rfl

theorem mild_countViol (p : Port) (d : Dev) : Mild d (countViol p d) := mild_after (mild_raisePort (by decide) p _) (mild_same rfl)

theorem mild_countCrc (p : Port) (d : Dev) : Mild d (countCrc p d) := mild_after (mild_raisePort (by decide) p _) (mild_same rfl)

/-! ## The frame at a device -/

/-- A member that acts on the frame before it repeats a TRIP behind it. -/
def heardFrame (f : Frame) (d : Dev) : Dev := passOn f (takeAlmanac f (takeBlock f (noteStream f d)))

theorem soft_heardFrame (f : Frame) (d : Dev) : Soft d (heardFrame f d) :=
  soft_after (soft_of_heart (heart_passOn f _)) (soft_after (fun hn => (heard_takeAlmanac f _ hn).1)
    (soft_after (fun hn => (tame_takeBlock f _ hn).1) (soft_of_heart (heart_noteStream f d))))

theorem soft_whenRepeat (b : Bool) (d : Dev) : Soft d (whenDo b repeatTrip d) := soft_of_heart (heart_whenRepeat b d)

theorem soft_badBlock (d : Dev) : Soft d (badBlock d) := soft_of_heart rfl

theorem soft_memberFrame {typ : Nat} {act : Frame → Dev → Dev} (f : Frame) (hact : ∀ y, Soft y (act f y)) (d : Dev) :
    Soft d (memberFrame typ act f d) := by
  have hviol : ∀ y, Soft y (countViol f.port y) := fun y => soft_of_mild (mild_countViol _ y)
  unfold memberFrame
  split
  · exact soft_of_heart (heart_passReturned d)
  · split
    · exact soft_of_heart (heart_passReturned d)
    · split
      · exact soft_refl d
      · dsimp only
        have htrip : Soft d (takeTrip f { d with link.lastHeader := frameHeader f }) := soft_of_heart rfl
        generalize takeTrip f { d with link.lastHeader := frameHeader f } = d1 at htrip ⊢
        have hd2 : Soft d (if (f.damagedAt == 1 || f.damagedAt == 2) = true then countViol f.port d1 else d1) := by
          split
          · exact soft_after (hviol _) htrip
          · exact htrip
        generalize (if (f.damagedAt == 1 || f.damagedAt == 2) = true then countViol f.port d1 else d1) = d2 at hd2 ⊢
        split
        · exact soft_after (soft_badBlock _) (soft_after (soft_whenRepeat _ _) hd2)
        · split
          · exact soft_after (soft_badBlock _) (soft_after (soft_whenRepeat _ _) (soft_after (soft_of_mild (mild_countCrc _ _)) hd2))
          · split
            · exact soft_after (soft_whenRepeat _ _) (soft_after (hviol _) hd2)
            · have hd3 : Soft d (heardFrame f d2) := soft_after (soft_heardFrame f d2) hd2
              refine soft_after (soft_whenRepeat _ _) ?_
              split
              · exact soft_after (hact _) hd3
              · exact hd3

theorem heart_headRsp (r : Nat) (st : Status) (o : Outst) (d : Dev) : heart (headRsp r st o d) = heart d := rfl

theorem heart_remoteDone (ok : Bool) (v : Word) (d : Dev) : heart (remoteDone ok v d) = heart d := by
  unfold remoteDone
  split <;> rfl

theorem heart_ringDown (d : Dev) : heart (ringDown d) = heart d := by
  unfold ringDown
  refine (heart_remoteDone _ _ _).trans ?_
  exact heart_forEach _ (fun o d => headRsp 5 stBUSY o d) (fun o y => heart_headRsp 5 stBUSY o y) d

theorem finishIf_idle {x : Dev} (hb : x.cmd.busy = none) (code : Nat) (st : Status) (data : List Word) : finishIf code st data x = x :=
  if_neg (by simp [busyWith, hb])

theorem heart_conflict {d : Dev} (hb : d.cmd.busy = none) (hn : NoSafe d) : heart (conflict d) = heart d := by
  unfold conflict
  split
  · rfl
  · dsimp only
    have hraise : Soft d (raiseNS 76 1 (dropFrames { d with ring.stat := .conflict, head.idle := true, fault.conflict := true })) :=
      soft_after (soft_of_mild (mild_raiseNS (by decide) 1 _)) (soft_after (soft_of_mild (mild_dropFrames _)) (soft_of_heart rfl))
    have hdown := soft_after (soft_of_heart (heart_ringDown _)) (soft_after (soft_of_heart (b := { raiseNS 76 1 (dropFrames { d with
      ring.stat := .conflict, head.idle := true, fault.conflict := true }) with ring.enumStep := 0 }) rfl) hraise) hn
    rw [finishIf_idle ?_]
    · exact hdown
    · exact (congrArg (fun h => h.cmd.busy) hdown).trans hb

/-- A frame leaves a block with no command executing as calm as it was, where what its type asks for does. -/
theorem heart_onFrame {typ : Nat} {act : Frame → Dev → Dev} (f : Frame) (hact : ∀ y, Soft y (act f y)) {d : Dev} (hb : d.cmd.busy = none)
    (hn : NoSafe d) : heart (onFrame typ act f d) = heart d := by
  unfold onFrame
  split
  · rfl
  · dsimp only
    have hcut : heart (cutUnit 4 (fun u => u == f.port.num) d) = heart d := soft_of_mild (mild_cutUnit 4 _ d) hn
    generalize cutUnit 4 (fun u => u == f.port.num) d = x at hcut ⊢
    have hnx : NoSafe x := noSafe_of_heart hcut hn
    have hbx : x.cmd.busy = none := by
      rw [show x.cmd = d.cmd from congrArg Heart.cmd hcut]
      exact hb
    refine Eq.trans ?_ hcut
    split
    · split
      · rfl
      · split
        · split
          · exact soft_of_mild (mild_countViol _ x) hnx
          · rfl
        · split
          · exact heart_conflict hbx hnx
          · exact soft_of_mild (mild_countCrc _ x) hnx
    · exact soft_memberFrame f hact x hnx

/-! ## The registers of a member that hears a whole frame -/

/-- A mode in which a device is attached to a stream. -/
def attached (m : RingMode) : Bool := !(m == .gated || m == .unattached || m == .await)

theorem noteStream_leaves (f : Frame) (d : Dev) : (noteStream f d).link = d.link ∧
    (noteStream f d).ring = { d.ring with beacons := (noteStream f d).ring.beacons, headPort := (noteStream f d).ring.headPort, mode := (noteStream f d).ring.mode } ∧
    (attached d.ring.mode = true → (noteStream f d).ring.mode = d.ring.mode) := by
  unfold noteStream
  dsimp only
  split
  next h => exact ⟨rfl, rfl, fun _ => rfl⟩
  next h => exact ⟨rfl, rfl, fun _ => rfl⟩
  next h =>
    rw [h]
    split
    · exact ⟨rfl, rfl, fun h => by cases h⟩
    · exact ⟨rfl, rfl, fun h => by cases h⟩
  next => exact ⟨rfl, rfl, fun _ => rfl⟩

theorem passOn_leaves (f : Frame) (d : Dev) : (passOn f d).link = d.link ∧
    (passOn f d).ring = { d.ring with turning := (passOn f d).ring.turning, returning := (passOn f d).ring.returning
                                      foldPass := (passOn f d).ring.foldPass, passBuf := (passOn f d).ring.passBuf } ∧
    (d.ring.gate = false ∨ isTurned f = true ∧ f.addr = d.ring.addr → (passOn f d).ring.turning = true) := by
  unfold passOn
  split
  next => exact ⟨rfl, rfl, fun _ => rfl⟩
  next h =>
    have hgate : d.ring.gate = true := by
      unfold turnsAll at h
      simp_all
    split
    · split
      · exact ⟨rfl, rfl, fun _ => rfl⟩
      next ha => exact ⟨rfl, rfl, fun h => by simp_all⟩
    next ht =>
      have hno : ¬ (d.ring.gate = false ∨ isTurned f = true ∧ f.addr = d.ring.addr) := by simp_all
      split <;> exact ⟨rfl, rfl, fun h => absurd h hno⟩

/-- The registers with which a member acts on a whole frame: a pass and a stream change only some of its ring. -/
theorem heardFrame_leaves (f : Frame) {d : Dev} (hn : NoSafe d) :
    (heardFrame f d).ring = { d.ring with
      turning := (heardFrame f d).ring.turning, returning := (heardFrame f d).ring.returning, foldPass := (heardFrame f d).ring.foldPass
      passBuf := (heardFrame f d).ring.passBuf, beacons := (heardFrame f d).ring.beacons, headPort := (heardFrame f d).ring.headPort
      mode := (heardFrame f d).ring.mode, epoch := (heardFrame f d).ring.epoch } ∧
    (heardFrame f d).link.reply = d.link.reply ∧
    (d.ring.gate = false ∨ isTurned f = true ∧ f.addr = d.ring.addr → (heardFrame f d).ring.turning = true) ∧
    (attached d.ring.mode = true → (heardFrame f d).ring.mode = d.ring.mode) := by
  have hstream : heart (noteStream f d) = heart d := heart_noteStream f d
  obtain ⟨-, hringx, hreplyx, -⟩ := heard_after (heard_takeAlmanac f _) (heard_of_tame (tame_takeBlock f (noteStream f d))) (noSafe_of_heart hstream hn)
  obtain ⟨hlink, hnote, hmode⟩ := noteStream_leaves f d
  have hpass : heardFrame f d = passOn f (takeAlmanac f (takeBlock f (noteStream f d))) := rfl
  generalize takeAlmanac f (takeBlock f (noteStream f d)) = x at hringx hreplyx hpass
  obtain ⟨hpasslink, hpassring, hturn⟩ := passOn_leaves f x
  rw [hpass]
  generalize passOn f x = y at hpasslink hpassring hturn ⊢
  generalize noteStream f d = z at *
  rw [hnote] at hringx
  refine ⟨?_, ?_, fun h => ?_, fun h => ?_⟩
  · rw [hringx] at hpassring
    rw [hpassring]
  · rw [hpasslink, hreplyx, hlink]
  · refine hturn ?_
    rw [hringx]
    exact h
  · have hm : y.ring.mode = z.ring.mode := by
      rw [hpassring, hringx]
    rw [hm, hmode h]

end Sys2Proof.Proofs
end

section
/-! PROOF. Enumeration and ring control at a member (12_ring_membership.md R359 to R371, R384 to R386). -/

namespace Sys2Proof.Proofs

open Sys2Proof Sys2Proof.Machine Sys2Proof.Safety Sys2Proof.Laws

/-! ## A whole frame at a member -/

/-- A member that has noted the header and the trip field. -/
def reached (f : Frame) (d : Dev) : Dev := takeTrip f { d with link.lastHeader := frameHeader f }

theorem reached_leaves (f : Frame) (d : Dev) : heart (reached f d) = heart d ∧ (reached f d).ring = d.ring ∧
    (reached f d).link.reply = d.link.reply := by
  have h : ∀ (w : Word) (x : Trip), heart { d with link.lastHeader := w, trip := x } = heart d ∧
      ({ d with link.lastHeader := w, trip := x } : Dev).ring = d.ring ∧ ({ d with link.lastHeader := w, trip := x } : Dev).link.reply = d.link.reply :=
    fun _ _ => ⟨rfl, rfl, rfl⟩
  exact h (frameHeader f) _

/-- The member with which a whole frame's action begins. -/
def heardAt (f : Frame) (d : Dev) : Dev := heardFrame f (reached f (cutUnit 4 (fun u => u == f.port.num) d))

/-- A whole frame with a sound header reaches a member from its head side. -/
structure Whole (f : Frame) (d : Dev) : Prop where
  awake : awake d = true
  member : isHead d = false
  port : portUp d f.port = true
  side : isHeadSide d f = true
  returning : d.ring.returning = false
  crc : f.crcOk = true
  sound : f.damagedAt = 0
  header : headerError f = false

theorem isHeadSide_of_ring {a b : Dev} (h : b.ring = a.ring) (f : Frame) : isHeadSide b f = isHeadSide a f := by
  rw [isHeadSide, isHeadSide, headSide, headSide, h]

/-- A whole frame is acted on once, before a TRIP that waits is repeated. -/
theorem onFrame_whole {act : Frame → Dev → Dev} {f : Frame} {d : Dev} (h : Whole f d) (hn : NoSafe d) :
    ∃ b, onFrame f.typ act f d = whenDo b repeatTrip (act f (heardAt f d)) := by
  have hcut : heart (cutUnit 4 (fun u => u == f.port.num) d) = heart d := soft_of_mild (mild_cutUnit 4 _ d) hn
  have hring : (cutUnit 4 (fun u => u == f.port.num) d).ring = d.ring := (ringKept_cutUnit (by decide) _ d).1
  have hhead := (isHead_of_power (power_of_heart hcut)).trans h.member
  have hside := (isHeadSide_of_ring hring f).trans h.side
  have hret := (congrArg Ring.returning hring).trans h.returning
  refine ⟨forwards f (reached f (cutUnit 4 (fun u => u == f.port.num) d)), ?_⟩
  unfold onFrame heardAt
  rw [if_neg (by simp [h.awake, h.port])]
  dsimp only
  generalize cutUnit 4 (fun u => u == f.port.num) d = x at hhead hside hret ⊢
  rw [if_neg (by simp [hhead]), memberFrame, if_neg (by simp [hret]), if_neg (by simp [hret]), if_neg (by simp [hside])]
  simp only [lostEarly, h.sound, h.crc, h.header]
  simp [heardFrame, reached]

theorem heardAt_leaves (f : Frame) {d : Dev} (hn : NoSafe d) :
    heart (heardAt f d) = heart d ∧
    (heardAt f d).ring = { d.ring with
      turning := (heardAt f d).ring.turning, returning := (heardAt f d).ring.returning, foldPass := (heardAt f d).ring.foldPass
      passBuf := (heardAt f d).ring.passBuf, beacons := (heardAt f d).ring.beacons, headPort := (heardAt f d).ring.headPort
      mode := (heardAt f d).ring.mode, epoch := (heardAt f d).ring.epoch } ∧
    (heardAt f d).link.reply = d.link.reply ∧
    (d.ring.gate = false ∨ isTurned f = true ∧ f.addr = d.ring.addr → (heardAt f d).ring.turning = true) ∧
    (attached d.ring.mode = true → (heardAt f d).ring.mode = d.ring.mode) := by
  have hcut : heart (cutUnit 4 (fun u => u == f.port.num) d) = heart d := soft_of_mild (mild_cutUnit 4 _ d) hn
  obtain ⟨hring, hlink, -⟩ := ringKept_cutUnit (d := d) (kind := 4) (by decide) (fun u => u == f.port.num)
  unfold heardAt
  generalize cutUnit 4 (fun u => u == f.port.num) d = x0 at hcut hring hlink ⊢
  obtain ⟨hx, hxr, hxl⟩ := reached_leaves f x0
  replace hx := hx.trans hcut
  replace hxr := hxr.trans hring
  replace hxl := hxl.trans (congrArg Link.reply hlink)
  generalize reached f x0 = x at hx hxr hxl ⊢
  have hnx : NoSafe x := noSafe_of_heart hx hn
  obtain ⟨h1, h2, h3, h4⟩ := heardFrame_leaves f hnx
  rw [hxr] at h1 h3 h4
  exact ⟨(soft_heardFrame f x hnx).trans hx, h1, h2.trans hxl, h3, h4⟩

/-- A block after a whole frame: the ring and the replies that its action leaves. -/
theorem answers_whole {s : State} {i : Instr} {act : Frame → Dev → Dev} {f : Frame} (h : Whole f s.toDev) (hn : NoSafe s.toDev)
    (hf : Answers i s (Beside (onFrame f.typ act f s.toDev))) :
    Answers i s (fun t => t.ring = (act f (heardAt f s.toDev)).ring ∧ t.link.reply = (act f (heardAt f s.toDev)).link.reply ∧
      t.link.ackPair = (act f (heardAt f s.toDev)).link.ackPair) := by
  obtain ⟨b, hb⟩ := onFrame_whole (act := act) h hn
  refine answers_mono hf fun t ht => ?_
  rw [hb, whenRepeat_kept] at ht
  have hlink := link_of_beside ht
  have hring := ring_of_beside ht
  exact ⟨hring, by rw [hlink], by rw [hlink]⟩

/-! ## What ENUM and RING_CTL ask for -/

theorem heart_sendReply (f : Frame) (l : Nat) (more : List Word) (r : Bool) (d : Dev) : heart (sendReply f l more r d) = heart d := rfl

theorem heart_answerDup (f : Frame) (d : Dev) : heart (answerDup f d) = heart d := by
  unfold answerDup
  split <;> rfl

theorem soft_takeEnum (f : Frame) (d : Dev) : Soft d (takeEnum f d) := by
  refine soft_of_heart ?_
  unfold takeEnum
  dsimp only
  split
  · exact heart_answerDup f d
  · split
    · split <;> rfl
    · split <;> rfl

theorem soft_takeRingCtl {act : Frame → Dev → Dev} (op : Nat) (f : Frame) (hact : ∀ y, heart (act f y) = heart y) (d : Dev) :
    Soft d (takeRingCtl op act f d) := by
  refine soft_of_heart ?_
  have harm : heart (adoptArm f d) = heart d := rfl
  unfold takeRingCtl
  split
  · rfl
  · dsimp only
    split
    · unfold broadcast
      split
      · exact harm
      · split
        · exact harm
        · exact (hact _).trans harm
    · unfold directed
      split
      · exact harm
      · split
        · exact (heart_answerDup _ _).trans harm
        · exact ((hact _).trans (heart_sendReply _ _ _ _ _)).trans harm

/-- What a RING_CTL to a member writes back: three words into a directed one, the ACK pair into a broadcast. -/
def Told (f : Frame) (s : State) (t : Dev) : Prop :=
  (f.bcast = false → t.link.reply.length = 3 ∧ nth t.link.reply 0 0 = replyWord s.ring.addr f.seq 1) ∧
  (f.bcast = true → t.link.ackPair = true ∧ t.link.reply = s.link.reply)

/-- The mode with which a member carries the operation out, ARM_STATE adopted. -/
def armMode (f : Frame) (r : Ring) : RingMode := if bit (nth f.body 0 0) 27 = true ∧ r.mode = .normal then .arm else r.mode

theorem adoptArm_ring (f : Frame) (d : Dev) : (adoptArm f d).ring = { d.ring with armState := bit (nth f.body 0 0) 27, mode := armMode f d.ring } := by
  unfold adoptArm armMode
  simp [Bool.and_eq_true]

/-- An operation that reaches its member the first time is answered and carried out. -/
theorem takeRingCtl_acts {act : Frame → Dev → Dev} {f : Frame} {y : Dev} {op : Nat} (hop : ringOp f = op) (hg : y.ring.gate = true) (hr : f.rty = 0)
    (hd : f.damagedAt = 0) (hto : f.bcast = true ∨ f.addr = y.ring.addr) :
    ∃ z, takeRingCtl op act f y = act f z ∧ z.ring = (adoptArm f y).ring ∧
      (f.bcast = false → z.link.reply.length = 3 ∧ nth z.link.reply 0 0 = replyWord y.ring.addr f.seq 1) ∧
      (f.bcast = true → z.link.ackPair = true ∧ z.link.reply = y.link.reply) := by
  have hga : (adoptArm f y).ring.gate = true := hg
  have haddr : (adoptArm f y).ring.addr = y.ring.addr := rfl
  have hlink : (adoptArm f y).link = y.link := rfl
  unfold takeRingCtl
  rw [if_neg (by simp [hop, hg])]
  dsimp only
  generalize adoptArm f y = z at hga haddr hlink ⊢
  rcases Bool.eq_false_or_eq_true f.bcast with hb | hb
  · rw [if_pos hb, broadcast, if_neg (by simp [hga]), if_neg (by simp [hr])]
    exact ⟨_, rfl, rfl, fun h => by simp [hb] at h, fun _ => ⟨by simp [hd], (congrArg Link.reply hlink : z.link.reply = y.link.reply)⟩⟩
  · have hto' : f.addr = y.ring.addr := hto.resolve_left (by simp [hb])
    rw [if_neg (by simp [hb]), directed, if_neg (by simp [hga, haddr, hto']), if_neg (by simp [isKept, hr])]
    refine ⟨_, rfl, rfl, fun _ => ?_, fun h => by simp [hb] at h⟩
    simp [sendReply, hd, haddr, nth, lACCEPT]

/-- The ring of a member with an operation in hand. -/
structure Handed (f : Frame) (s : State) (z : Dev) : Prop where
  addr : z.ring.addr = s.ring.addr
  mode : z.ring.mode = armMode f s.ring
  foldB : z.ring.foldB = s.ring.foldB
  probing : z.ring.probing = s.ring.probing
  valA : z.ring.valA = s.ring.valA
  valB : z.ring.valB = s.ring.valB
  turning : f.bcast = false → z.ring.turning = true

theorem whole_of_arrives {f : Frame} {d : Dev} (h : arrives d f = true) : Whole f d ∧ d.ring.gate = true ∧ attached d.ring.mode = true := by
  simp only [arrives, Bool.and_eq_true, Bool.not_eq_true', beq_iff_eq] at h
  obtain ⟨⟨⟨⟨⟨⟨⟨⟨⟨h1, h2⟩, h3⟩, h4⟩, h5⟩, h6⟩, h7⟩, h8⟩, h9⟩, h10⟩ := h
  exact ⟨⟨h1, h2, h3, h4, h5, h8, h9, h10⟩, h6, by simp [attached, h7]⟩

/-- A RING_CTL that reaches its member the first time. -/
theorem answers_ringCtl {s : State} {i : Instr} {f : Frame} {act : Frame → Dev → Dev} {op : Nat} (ha : arrives s.toDev f = true) (ht : f.typ = 11)
    (hr : f.rty = 0) (hto : f.bcast = true ∨ f.addr = s.ring.addr) (hn : NoSafe s.toDev)
    (hlink : ∀ z, (act f z).link = z.link) (hop : ringOp f = op) (hf : Answers i s (Beside (onFrame 11 (takeRingCtl op act) f s.toDev))) :
    Answers i s (fun t => Told f s t ∧ ∃ z, Handed f s z ∧ t.ring = (act f z).ring) := by
  obtain ⟨hw, hg, hm⟩ := whole_of_arrives ha
  rw [← ht] at hf
  refine answers_mono (answers_whole hw hn hf) ?_
  rintro t ⟨hring, hreply, hack⟩
  obtain ⟨-, hkept, hreply0, hturn, hmode⟩ := heardAt_leaves f hn
  generalize heardAt f s.toDev = y at *
  have hgy : y.ring.gate = true := by
    rw [hkept]
    exact hg
  have haddr : y.ring.addr = s.ring.addr := by rw [hkept]
  obtain ⟨z, hz, hzring, hdir, hbc⟩ := takeRingCtl_acts (act := act) hop hgy hr hw.sound (hto.imp id fun h => h.trans haddr.symm)
  rw [hz, hlink] at hreply hack
  rw [hz] at hring
  refine ⟨⟨fun hb => ?_, fun hb => ?_⟩, z, ?_, hring⟩
  · rw [hreply, ← haddr]
    exact hdir hb
  · rw [hack, hreply, ← hreply0]
    exact hbc hb
  · have hmy : y.ring.mode = s.ring.mode := hmode hm
    rw [adoptArm_ring, armMode, hmy] at hzring
    refine ⟨?_, ?_, ?_, ?_, ?_, ?_, fun hb => ?_⟩
    · rw [hzring, hkept]
    · rw [hzring]; rfl
    · rw [hzring, hkept]
    · rw [hzring, hkept]
    · rw [hzring, hkept]
    · rw [hzring, hkept]
    · have : y.ring.turning = true := hturn (.inr ⟨by simp [isTurned, ht, hb], hto.resolve_left (by simp [hb])⟩)
      rw [hzring]
      exact this

/-! ## ENUM at a member -/

section Enum

variable {f : Frame} {y : Dev}

/-- A claim: the first ENUM, with the headgate closed, in the pass's direction and with an address to give. -/
theorem takeEnum_claims (hr : f.rty = 0) (hg : y.ring.gate = false)
    (hm : bit (nth f.body 0 0) 31 = (f.port == .B) ∧ 2 ≤ bf (nth f.body 0 0) 0 6 ∧ bf (nth f.body 0 0) 0 6 ≤ 62) :
    takeEnum f y = sendReply f lACCEPT [enumInfo y f.port true] true { y with
      ring.addr := bf (nth f.body 0 0) 0 6, ring.passId := bf (nth f.body 0 0) 16 8, ring.claimed := some f.seq, ring.mode := claimMode y f.port } := by
  unfold takeEnum
  dsimp only
  rw [if_neg (by simp [hr]), if_neg (by simp [hg]), if_pos (by simpa [and_assoc] using hm)]

theorem takeEnum_refuses (hr : f.rty = 0) (hg : y.ring.gate = false)
    (hm : ¬ (bit (nth f.body 0 0) 31 = (f.port == .B) ∧ 2 ≤ bf (nth f.body 0 0) 0 6 ∧ bf (nth f.body 0 0) 0 6 ≤ 62)) :
    takeEnum f y = sendReply f lACCEPT [enumInfo y f.port false] true y := by
  unfold takeEnum
  dsimp only
  rw [if_neg (by simp [hr]), if_neg (by simp [hg]), if_neg (by simpa [and_assoc] using hm)]

theorem takeEnum_forgets (hr : f.rty = 0) (hg : y.ring.gate = true) (hp : bf (nth f.body 0 0) 16 8 ≠ y.ring.passId) : takeEnum f y = forget y := by
  unfold takeEnum
  dsimp only
  rw [if_neg (by simp [hr]), if_pos hg, if_neg hp]

theorem takeEnum_stays (hr : f.rty = 0) (hg : y.ring.gate = true) (hp : bf (nth f.body 0 0) 16 8 = y.ring.passId) : takeEnum f y = y := by
  unfold takeEnum
  dsimp only
  rw [if_neg (by simp [hr]), if_pos hg, if_pos hp]

/-- The reply written into a frame that is not damaged. -/
theorem reply_sendReply (hd : f.damagedAt = 0) (x : Word) (z : Dev) :
    nth (sendReply f lACCEPT [x] true z).link.reply 0 0 = replyWord z.ring.addr f.seq 1 ∧ nth (sendReply f lACCEPT [x] true z).link.reply 1 0 = x ∧
    (sendReply f lACCEPT [x] true z).link.reply.length = 3 := by
  simp [sendReply, hd, nth, lACCEPT]

end Enum

/-! ## A RING_CTL for another member -/

/-- A RING_CTL that names another member only lets ARM_STATE be adopted. -/
theorem takeRingCtl_passes {act : Frame → Dev → Dev} {f : Frame} {y : Dev} (op : Nat) (hb : f.bcast = false) (hto : f.addr ≠ y.ring.addr) :
    takeRingCtl op act f y = y ∨ takeRingCtl op act f y = adoptArm f y := by
  unfold takeRingCtl
  split
  · exact .inl rfl
  · refine .inr ?_
    dsimp only
    rw [if_neg (by simp [hb]), directed, if_pos (by simp [adoptArm, hto])]

/-- What a RING_CTL for another member leaves. -/
def Passed (s : State) (t : Dev) : Prop :=
  t.ring.addr = s.ring.addr ∧ t.ring.gate = s.ring.gate ∧ t.ring.foldB = s.ring.foldB ∧ t.ring.farLock = s.ring.farLock ∧
    t.ring.farProbe = s.ring.farProbe ∧ t.link.reply = s.link.reply

theorem answers_passed {s : State} {i : Instr} {f : Frame} {act : Frame → Dev → Dev} {op : Nat} (ha : arrives s.toDev f = true) (ht : f.typ = 11)
    (hb : f.bcast = false) (hto : f.addr ≠ s.ring.addr) (hn : NoSafe s.toDev)
    (hf : Answers i s (Beside (onFrame 11 (takeRingCtl op act) f s.toDev))) : Answers i s (Passed s) := by
  rw [← ht] at hf
  refine answers_mono (answers_whole (whole_of_arrives ha).1 hn hf) ?_
  rintro t ⟨hring, hreply, -⟩
  obtain ⟨-, hkept, hreply0, -, -⟩ := heardAt_leaves f hn
  generalize heardAt f s.toDev = y at *
  have haddr : y.ring.addr = s.ring.addr := by rw [hkept]
  have hthis : t.link.reply = y.link.reply ∧ t.ring = { y.ring with armState := t.ring.armState, mode := t.ring.mode } := by
    rcases takeRingCtl_passes (act := act) op hb (haddr ▸ hto) with h | h
    · rw [h] at hring hreply
      exact ⟨hreply, by rw [hring]⟩
    · rw [h] at hring hreply
      rw [adoptArm_ring] at hring
      exact ⟨hreply, by rw [hring]⟩
  obtain ⟨hreplyt, hringt⟩ := hthis
  rw [hkept] at hringt
  refine ⟨?_, ?_, ?_, ?_, ?_, hreplyt.trans hreply0⟩ <;> rw [hringt]

/-! ## What waits for the end of the pass -/

theorem atReturn_waits {n : Nat} {z : Dev} (hm : attached z.ring.mode = true) (h : z.ring.mode ≠ .normal) :
    atReturn n z = { z with ring.afterPass := n } := by
  unfold atReturn
  dsimp only
  cases hz : z.ring.mode <;> first | rfl | simp_all [attached]

theorem atReturn_now {n : Nat} {z : Dev} (h : z.ring.mode = .normal) : atReturn n z = afterReturn { z with ring.afterPass := n } := by
  unfold atReturn
  dsimp only
  rw [h]

theorem attached_armMode (f : Frame) {r : Ring} (h : attached r.mode = true) : attached (armMode f r) = true := by
  unfold armMode
  split
  · rfl
  · exact h

/-! ## The statement -/

/-- Settles O45: a whole frame reaches the action of its type with the registers that a stream and a pass leave; ENUM and each
RING_CTL operation change the ring as their tables give it. -/
theorem membershipFramesChangeTheMember : Obligations.MembershipFramesChangeTheMember := by
  intro s f hc hn
  have hframe : ∀ {i : Instr} {typ : Nat} {act : Frame → Dev → Dev}, exec i s = runDev s (onFrame typ act f) → (∀ y, Soft y (act f y)) →
      Answers i s (Beside (onFrame typ act f s.toDev)) := fun hi hact =>
    answers_heart hi rfl hc (heart_onFrame f hact hc.1 hn)
  have henum := hframe (i := .frameEnum f) (typ := 8) (act := takeEnum) rfl (soft_takeEnum f)
  have hctl : ∀ {i : Instr} {op : Nat} {act : Frame → Dev → Dev}, exec i s = runDev s (onFrame 11 (takeRingCtl op act) f) →
      (∀ y, heart (act f y) = heart y) → Answers i s (Beside (onFrame 11 (takeRingCtl op act) f s.toDev)) :=
    fun hi hact => hframe hi (soft_takeRingCtl _ f hact)
  have hreturn : ∀ (n : Nat) (y : Dev), heart (atReturn n y) = heart y ∧ (atReturn n y).link = y.link := fun n y => by
    unfold atReturn afterReturn
    dsimp only
    split
    · exact ⟨rfl, rfl⟩
    · exact ⟨rfl, rfl⟩
    · exact ⟨rfl, rfl⟩
    · split <;> exact ⟨rfl, rfl⟩
  have hextend : ∀ y : Dev, heart (extendArm y) = heart y ∧ (extendArm y).link = y.link := fun y => by
    unfold extendArm
    split <;> exact ⟨rfl, rfl⟩
  have hprobe : ∀ y : Dev, heart (if y.ring.mode = .fold then { y with ring.probing := true } else y) = heart y ∧
      (if y.ring.mode = .fold then { y with ring.probing := true } else y).link = y.link := fun y => by
    split <;> exact ⟨rfl, rfl⟩
  have h1 := hctl (i := .ringCtlForget f) (op := 1) (act := fun _ d => forget d) rfl (fun y => rfl)
  have h2 := hctl (i := .ringCtlSetFold f) (op := 2) (act := setFold) rfl (fun y => rfl)
  have h3 := hctl (i := .ringCtlExtend f) (op := 3) (act := fun _ d => extendArm d) rfl (fun y => (hextend y).1)
  have h4 := hctl (i := .ringCtlProbeFar f) (op := 4) (act := fun _ d => if d.ring.mode = .fold then { d with ring.probing := true } else d)
    (by simp only [exec, execRingCtlProbeFar, beq_iff_eq]) (fun y => (hprobe y).1)
  have h5 := hctl (i := .ringCtlFarStat f) (op := 5) (act := fun _ d => { d with ring.farLock := false, ring.farProbe := false }) rfl (fun y => rfl)
  have h6 := hctl (i := .ringCtlUnwrapPrep f) (op := 6) (act := fun _ d => atReturn 1 d) rfl (fun y => (hreturn 1 y).1)
  have h7 := hctl (i := .ringCtlUnwrap f) (op := 7) (act := fun f d => atReturn 2 { d with ring.unwrapJoined := bit (nth f.body 0 0) 26 }) rfl
    (fun y => (hreturn 2 _).1)
  refine ⟨henum, h1, h2, h3, h4, h5, h6, h7, fun ho c hcm => ?_, fun ha hm hp hk hd hh ht hr hret => ?_, fun ha ht hr hto => ?_,
    fun ha ht hb hto c hcm => ?_⟩
  · have hidle : ∀ {typ : Nat} {act : Frame → Dev → Dev}, onFrame typ act f s.toDev = s.toDev := if_pos (by simpa using ho)
    rw [hidle] at henum h1 h2 h3 h4 h5 h6 h7
    simp only [List.mem_cons, List.not_mem_nil, or_false] at hcm
    rcases hcm with rfl | rfl | rfl | rfl | rfl | rfl | rfl | rfl
    · exact henum
    · exact h1
    · exact h2
    · exact h3
    · exact h4
    · exact h5
    · exact h6
    · exact h7
  · dsimp only
    have hw : Whole f s.toDev := ⟨ha, hm, hp, by simp [isHeadSide, ht], hret, hk, hd, hh⟩
    rw [← ht] at henum
    have hacts := answers_whole hw hn henum
    obtain ⟨hheart, hring, hreply, hturn, -⟩ := heardAt_leaves f hn
    obtain ⟨-, hpart⟩ := cfg_part_of_heart hheart
    generalize heardAt f s.toDev = y at *
    have hgate : y.ring.gate = s.ring.gate := by rw [hring]
    have hpass : y.ring.passId = s.ring.passId := by rw [hring]
    have haddr : y.ring.addr = s.ring.addr := by rw [hring]
    have harm : y.ring.armState = s.ring.armState := by rw [hring]
    refine ⟨fun hg _ hmine => ?_, fun hg hmine => ?_, fun hg hid => ?_, fun hg hid => ?_⟩
    · rw [takeEnum_claims hr (hgate.trans hg) hmine] at hacts
      refine answers_mono hacts ?_
      rintro t ⟨htr, htl, -⟩
      obtain ⟨h0, h1, hlen⟩ := reply_sendReply (f := f) hd (enumInfo y f.port true) { y with
        ring.addr := bf (nth f.body 0 0) 0 6, ring.passId := bf (nth f.body 0 0) 16 8, ring.claimed := some f.seq, ring.mode := claimMode y f.port }
      rw [htl, h0, h1, hlen, htr]
      refine ⟨rfl, rfl, rfl, hturn (.inl hg), hgate.trans hg, ?_, rfl, ?_, rfl⟩
      · show claimMode y f.port = _
        cases f.port
        · rw [← harm]
          rfl
        · rfl
      · rw [enumInfo, hpart]
        rfl
    · rw [takeEnum_refuses hr (hgate.trans hg) hmine] at hacts
      refine answers_mono hacts ?_
      rintro t ⟨htr, htl, -⟩
      obtain ⟨h0, h1, -⟩ := reply_sendReply (f := f) hd (enumInfo y f.port false) y
      rw [htl, h0, h1, htr, haddr]
      refine ⟨haddr, hpass, hturn (.inl hg), hgate.trans hg, rfl, ?_⟩
      rw [enumInfo, hpart, b2n, if_neg Bool.false_ne_true, Nat.add_zero]
    · rw [takeEnum_forgets hr (hgate.trans hg) (by rw [hpass]; exact hid)] at hacts
      refine answers_mono hacts ?_
      rintro t ⟨htr, htl, -⟩
      rw [htl, htr]
      exact ⟨rfl, rfl, rfl, rfl, rfl, hreply⟩
    · rw [takeEnum_stays hr (hgate.trans hg) (by rw [hpass]; exact hid)] at hacts
      refine answers_mono hacts ?_
      rintro t ⟨htr, htl, -⟩
      rw [htl, htr]
      exact ⟨haddr, hgate.trans hg, hreply⟩
  · have hatt := (whole_of_arrives ha).2.2
    have hmode : attached (armMode f s.ring) = true := attached_armMode f hatt
    have hfold : armMode f s.ring = .fold ↔ s.ring.mode = .fold := by
      unfold armMode
      split
      next h => simp [h.2]
      next => exact Iff.rfl
    refine ⟨fun hop => ?_, fun hop => ?_, fun hop => ?_, fun hop => ?_, fun hop => ?_, fun hop => ?_, fun hop => ?_⟩
    · refine answers_mono (answers_ringCtl ha ht hr hto hn (fun _ => rfl) hop h1) ?_
      rintro t ⟨htold, z, hz, htr⟩
      rw [htr]
      exact ⟨htold, rfl, rfl, rfl, rfl, rfl⟩
    · refine answers_mono (answers_ringCtl ha ht hr hto hn (fun _ => rfl) hop h2) ?_
      rintro t ⟨htold, z, hz, htr⟩
      rw [htr]
      exact ⟨htold, rfl, rfl, hz.addr, hz.turning⟩
    · refine answers_mono (answers_ringCtl ha ht hr hto hn (fun y => (hextend y).2) hop h3) ?_
      rintro t ⟨htold, z, hz, htr⟩
      rw [htr]
      refine ⟨htold, fun hfo => ?_, fun hfo => ?_⟩
      · rw [extendArm, if_pos (by simp [hz.mode, hfold, hfo]), ← hz.foldB]
        exact ⟨rfl, rfl⟩
      · rw [extendArm, if_neg (by simp [hz.mode, hfold, hfo])]
        exact ⟨hz.mode, hz.foldB⟩
    · refine answers_mono (answers_ringCtl ha ht hr hto hn (fun y => (hprobe y).2) hop h4) ?_
      rintro t ⟨htold, z, hz, htr⟩
      refine ⟨htold, ?_⟩
      by_cases hfo : s.ring.mode = .fold
      · rw [htr, if_pos (hz.mode.trans (hfold.mpr hfo)), if_pos hfo]
        exact ⟨hz.mode, rfl⟩
      · rw [htr, if_neg (by rw [hz.mode, hfold]; exact hfo), if_neg hfo]
        exact ⟨hz.mode, hz.probing⟩
    · refine answers_mono (answers_ringCtl ha ht hr hto hn (fun _ => rfl) hop h5) ?_
      rintro t ⟨htold, z, hz, htr⟩
      rw [htr]
      exact ⟨htold, hz.mode, rfl, rfl⟩
    · refine answers_mono (answers_ringCtl ha ht hr hto hn (fun y => (hreturn 1 y).2) hop h6) ?_
      rintro t ⟨htold, z, hz, htr⟩
      rw [htr]
      refine ⟨htold, fun hno => ?_, fun hno => ?_⟩
      · rw [atReturn_waits (by rw [hz.mode]; exact hmode) (by rw [hz.mode]; exact hno)]
        exact ⟨rfl, hz.mode⟩
      · rw [atReturn_now (hz.mode.trans hno)]
        exact ⟨rfl, rfl⟩
    · refine answers_mono (answers_ringCtl ha ht hr hto hn (fun y => (hreturn 2 _).2) hop h7) ?_
      rintro t ⟨htold, z, hz, htr⟩
      have hring : t.ring = (atReturn 2 { z with ring.unwrapJoined := bit (nth f.body 0 0) 26 }).ring := htr
      by_cases hno : armMode f s.ring = .normal
      · rw [atReturn_now (by exact hz.mode.trans hno)] at hring
        rw [hring, ← hz.valA, ← hz.valB]
        exact ⟨htold, rfl, fun h => absurd hno h, fun _ => ⟨rfl, rfl, rfl, rfl⟩⟩
      · rw [atReturn_waits (by show attached z.ring.mode = true; rw [hz.mode]; exact hmode) (by show z.ring.mode ≠ _; rw [hz.mode]; exact hno)] at hring
        rw [hring]
        exact ⟨htold, rfl, fun _ => ⟨rfl, hz.mode⟩, fun h => absurd h hno⟩
  · simp only [List.mem_cons, List.not_mem_nil, or_false] at hcm
    rcases hcm with rfl | rfl | rfl | rfl | rfl | rfl | rfl
    · exact answers_passed ha ht hb hto hn h1
    · exact answers_passed ha ht hb hto hn h2
    · exact answers_passed ha ht hb hto hn h3
    · exact answers_passed ha ht hb hto hn h4
    · exact answers_passed ha ht hb hto hn h5
    · exact answers_passed ha ht hb hto hn h6
    · exact answers_passed ha ht hb hto hn h7

end Sys2Proof.Proofs
end

section
/-! PROOF. The head's ring work leaves the block's captures, items and users of the test DAC alone, and at most answers the
ENUMERATE that executes (12_ring_membership.md R363 to R387, 11_burza_link.md R339 to R348). -/

namespace Sys2Proof.Proofs

open Sys2Proof Sys2Proof.Machine Sys2Proof.Safety Sys2Proof.Laws

/-! ## What keeps a block calm but for its commands -/

/-- The heart of a device without its commands. -/
def calmCore (d : Dev) : Heart := { heart d with cmd := Cmd.reset }

/-- Where no source of a is set to SAFE_STATE, b has the heart of a but for the commands, and the command that executes goes on
or has ended. -/
def Lull (a b : Dev) : Prop := NoSafe a → calmCore b = calmCore a ∧ (b.cmd.busy = none ∨ b.cmd.busy = a.cmd.busy)

/-- So it is, and no message has come. -/
def Hush (a b : Dev) : Prop := Lull a b ∧ (NoSafe a → b.cmd.waiting = a.cmd.waiting)

section Relations

variable {a b c : Dev}

theorem noSafe_of_calmCore (h : calmCore b = calmCore a) (hn : NoSafe a) : NoSafe b := fun k hk => by
  have hcfg : b.cfg = a.cfg := congrArg Heart.cfg h
  have hpart : b.part = a.part := congrArg Heart.part h
  rw [escReaction, itemN, item, hcfg, hpart]
  exact hn k hk

theorem lull_after (hbc : Lull b c) (hab : Lull a b) : Lull a c := fun hn => by
  obtain ⟨hb, hbusyb⟩ := hab hn
  obtain ⟨hc, hbusyc⟩ := hbc (noSafe_of_calmCore hb hn)
  refine ⟨hc.trans hb, hbusyc.imp id ?_ |>.elim .inl id⟩
  intro h
  rw [h]
  exact hbusyb

theorem hush_after (hbc : Hush b c) (hab : Hush a b) : Hush a c :=
  ⟨lull_after hbc.1 hab.1, fun hn => (hbc.2 (noSafe_of_calmCore (hab.1 hn).1 hn)).trans (hab.2 hn)⟩

theorem hush_of_soft (h : Soft a b) : Hush a b := by
  have hheart : ∀ x : Dev, calmCore x = { heart x with cmd := Cmd.reset } := fun _ => rfl
  have hcmd : NoSafe a → b.cmd = a.cmd := fun hn => congrArg Heart.cmd (h hn)
  exact ⟨fun hn => ⟨by rw [hheart, hheart, h hn], .inr (by rw [hcmd hn])⟩, fun hn => by rw [hcmd hn]⟩

theorem lull_of_hush (h : Hush a b) : Lull a b := h.1

theorem hush_same (h : heart b = heart a) : Hush a b := hush_of_soft (soft_of_heart h)

theorem hush_refl (a : Dev) : Hush a a := hush_same rfl

theorem hush_trans (hab : Hush a b) (hbc : Hush b c) : Hush a c := hush_after hbc hab

/-- A change of the ring and of the head's frames. -/
theorem hush_ring (d : Dev) (r : Ring) (h : Head) : Hush d { d with ring := r, head := h } := hush_same rfl

theorem hush_raiseNS {k : Nat} (hk : k < 128) (unit : Nat) (d : Dev) : Hush d (raiseNS k unit d) :=
  hush_of_soft (soft_of_mild (mild_raiseNS hk unit d))

theorem hush_forEach {α : Type} (l : List α) (f : α → Dev → Dev) (h : ∀ x d, Hush d (f x d)) (d : Dev) : Hush d (forEach l f d) := by
  induction l generalizing d with
  | nil => exact hush_refl d
  | cons x t ih => exact hush_after (ih _) (h x d)

theorem hush_answerWrite (h : AnswerWrite a b) : Hush a b := by
  unfold AnswerWrite at h
  rw [h]
  exact ⟨fun _ => ⟨rfl, .inr rfl⟩, fun _ => rfl⟩

theorem hush_finishBusy (st : Status) (data : List Word) (d : Dev) : Hush d (finishBusy st data d) := by
  cases hb : d.cmd.busy with
  | none =>
    have h : finishBusy st data d = d := by rw [finishBusy, hb]
    rw [h]
    exact hush_refl d
  | some x =>
    have h := answerWrite_finishBusy hb st data
    unfold AnswerWrite at h
    rw [h]
    exact ⟨fun _ => ⟨rfl, .inl rfl⟩, fun _ => rfl⟩

theorem hush_finishIf (code : Nat) (st : Status) (data : List Word) (d : Dev) : Hush d (finishIf code st data d) := by
  unfold finishIf
  split
  · exact hush_finishBusy st data d
  · exact hush_refl d

theorem hush_whenDo (b : Bool) (f : Dev → Dev) (h : ∀ y, Hush y (f y)) (d : Dev) : Hush d (whenDo b f d) := by
  cases b
  · exact hush_refl d
  · exact h d

end Relations

/-! ## The ring's frames -/

section Ring

variable (d : Dev)

theorem heart_pushRing (f : Flight) : heart (pushRing f d) = heart d := rfl

theorem heart_foldIs (p : Port) (a : Nat) : heart (foldIs p a d) = heart d := by cases p <;> rfl

theorem heart_seekFold (p : Port) (n : Nat) : heart (seekFold p n d) = heart d := by
  unfold seekFold
  split
  · rfl
  · exact heart_foldIs d p 1

theorem heart_setFoldEnds (f : Flight) (ok : Bool) : heart (setFoldEnds f ok d) = heart d := by
  unfold setFoldEnds
  dsimp only
  split
  · exact heart_foldIs d _ _
  · split
    · rfl
    · split
      · exact heart_foldIs d _ _
      · exact heart_seekFold d _ _

theorem heart_armSilent (p : Port) : heart (armSilent p d) = heart d := by
  unfold armSilent
  dsimp only
  split
  · rfl
  · split
    · exact heart_foldIs _ _ _
    · exact heart_seekFold _ _ _

theorem heart_armEnds : heart (armEnds d) = heart d := by
  unfold armEnds
  split <;> rfl

theorem heart_claimed : heart (claimed d) = heart d := by
  have h1 : heart (if d.ring.enumArm = true then { d with ring.enumA := d.ring.enumA + 1 } else { d with ring.enumB := d.ring.enumB + 1 }) = heart d := by
    split <;> rfl
  exact h1

theorem heart_setOutst (o n : Outst) : heart (setOutst o n d) = heart d := rfl

theorem heart_targetGone (a : Nat) : heart (targetGone a d) = heart d := by
  have h1 : heart (forEach (d.host.outst.filter (fun (o : Outst) => o.target == a)) (fun o d => headRsp 4 stSTATE o d) d) = heart d :=
    heart_forEach _ (fun o d => headRsp 4 stSTATE o d) (fun o y => heart_headRsp 4 stSTATE o y) d
  unfold targetGone
  generalize forEach (d.host.outst.filter (fun (o : Outst) => o.target == a)) (fun o d => headRsp 4 stSTATE o d) d = x at h1 ⊢
  dsimp only
  split
  · split
    · exact (heart_remoteDone _ _ _).trans h1
    · exact h1
  · exact h1

theorem hush_attemptDisturbed : Hush d (attemptDisturbed d) := by
  have h1 : Hush d (raiseNS 71 1 { dropFrames d with ring.disturbedRun := d.ring.disturbedRun + 1, ring.disturbed := false }) :=
    hush_after (hush_raiseNS (by decide) 1 _) (hush_after (hush_ring _ _ _) (hush_of_soft (soft_of_mild (mild_dropFrames d))))
  unfold attemptDisturbed
  dsimp only
  split
  · exact hush_after (hush_finishIf _ _ _ _) (hush_after (hush_raiseNS (by decide) 1 _) (hush_after (hush_ring _ _ _) h1))
  · exact hush_trans h1 (hush_ring _ _ _)

theorem hush_enumDone : Hush d (enumDone d) := by
  have hset : ∀ (p : Port) (a : Nat) (y : Dev), Hush y (pushSetFold p a y) := fun _ _ _ => hush_same rfl
  have hfolds : ∀ y : Dev, Hush y (markFolds y) := fun _ => hush_same rfl
  unfold enumDone
  dsimp only
  refine hush_after (hush_finishIf _ _ _ _) (hush_after (hush_raiseNS (by decide) 1 _) ?_)
  split
  · exact hush_after (hfolds _) (hush_same rfl)
  · exact hush_after (hush_whenDo _ _ (hset _ _) _) (hush_after (hush_whenDo _ _ (hset _ _) _) (hush_after (hfolds _) (hush_same rfl)))

theorem hush_passEnds : Hush d (passEnds d) := by
  unfold passEnds
  dsimp only
  split
  · exact hush_same rfl
  · have hends : ∀ c : Bool, Hush d (if c = true then attemptValid d else attemptDisturbed d) := fun c => by
      cases c
      · exact hush_attemptDisturbed d
      · exact hush_same rfl
    exact hends _

theorem hush_startEnum : Hush d (startEnum d) := by
  unfold startEnum
  exact hush_after (hush_same rfl) (hush_after (hush_same (heart_ringDown _)) (hush_of_soft (soft_of_mild (mild_dropFrames d))))

theorem hush_membershipChange : Hush d (membershipChange d) := hush_after (hush_raiseNS (by decide) 1 _) (hush_same rfl)

theorem hush_censusAddr (pairs : BitVec 64) (a : Nat) : Hush d (censusAddr pairs a d) := by
  unfold censusAddr
  dsimp only
  split
  · split
    · exact hush_after (hush_membershipChange _) (hush_same rfl)
    · exact hush_same rfl
  · split
    · exact hush_refl d
    · split
      · exact hush_after (hush_same (heart_targetGone _ a)) (hush_after (hush_membershipChange _) (hush_same rfl))
      · exact hush_same rfl

theorem heart_remeasureNext : heart (remeasureNext d) = heart d := by
  unfold remeasureNext
  dsimp only
  split
  · split <;> rfl
  · rfl

theorem hush_judgeDrift (a : Nat) : Hush d (judgeDrift a d) := by
  have hmoved : ∀ (old v : Nat) (f : MapEntry → MapEntry), Hush d (if v ≤ old + 2 && old ≤ v + 2 then d else
      raiseNS 77 a (pushRing (delayWrite (modMap a f d) a) (modMap a f d))) := fun old v f => by
    split
    · exact hush_refl d
    · exact hush_after (hush_raiseNS (by decide) a _) (hush_same rfl)
  unfold judgeDrift
  split
  · exact hush_refl d
  · exact hmoved _ _ _

theorem heart_pushExtend (p : Port) : heart (pushExtend p d) = heart d := by
  unfold pushExtend
  dsimp only
  split <;> rfl

theorem heart_startUnwrap : heart (startUnwrap d) = heart d := by
  unfold startUnwrap
  split
  · rfl
  · split <;> rfl

theorem heart_restoreDecide : heart (restoreDecide d) = heart d := by
  have hends : ∀ (a b : Nat) (y : Dev), heart (if 2 ≤ a then startUnwrap y else if a = 1 then pushExtend .A y
      else if b % 2 = 1 then pushExtend .B y else y) = heart y := fun a b y => by
    split
    · exact heart_startUnwrap y
    · split
      · exact heart_pushExtend y _
      · split
        · exact heart_pushExtend y _
        · rfl
  exact hends _ _ _

theorem heart_startRestore : heart (startRestore d) = heart d := by
  have hctl : ∀ (op : Nat) (p : Port) (y : Dev), heart (if 2 ≤ foldOf y p then pushRing (ringFrame 11 (foldOf y p) (some p) (ctlWord op true false)) y
      else y) = heart y := fun op p y => by
    split <;> rfl
  have hset : ∀ (y : Dev) (n : Nat), heart { y with ring.restore := n } = heart y := fun _ _ => rfl
  have hends : ∀ (y : Dev) (p q : Prop) [Decidable p] [Decidable q], heart y = heart d →
      heart (if p then { y with ring.restore := 3 } else if q then { y with ring.restore := 2 } else restoreDecide y) = heart d := fun y p q _ _ h => by
    split
    · exact (hset y 3).trans h
    · split
      · exact (hset y 2).trans h
      · exact (heart_restoreDecide y).trans h
  unfold startRestore
  split
  · rfl
  · exact hends _ _ _ ((hctl 5 .B _).trans ((hctl 5 .A _).trans (hctl 4 .B { d with ring.farA := 0, ring.farB := 0 })))

theorem heart_farStatEnds (f : Flight) (w : Word) : heart (farStatEnds f w d) = heart d := by
  have h1 : heart (if f.via == some .A then { d with ring.farA := farFlags w } else { d with ring.farB := farFlags w }) = heart d := by
    split <;> rfl
  unfold farStatEnds
  dsimp only
  split
  · exact (heart_restoreDecide _).trans h1
  · exact h1

/-- SET_FOLD to the fold of an arm, where a member is it. -/
theorem heart_foldAgain (p : Port) : heart (if 2 ≤ foldOf d p then pushSetFold p (foldOf d p) d else d) = heart d := by
  split <;> rfl

theorem hush_joinEnds (ok : Bool) (a : Nat) : Hush d (joinEnds ok a d) := by
  have hmeasure : ∀ (x : Nat) (y : Dev), Hush y (measureJoined x y) := fun _ _ => hush_same rfl
  have hmap : ∀ (x : Nat) (f : MapEntry → MapEntry), Hush d (modMap x f d) := fun _ _ => hush_same rfl
  unfold joinEnds
  dsimp only
  split
  · exact hush_after (hmeasure _ _) (hush_after (hush_raiseNS (by decide) 1 _) (hmap _ _))
  · split
    · exact hush_after (hmeasure _ _) (hmap _ _)
    · exact hush_trans (hush_ring d { d.ring with restore := 0 } d.head) (hush_same (heart_foldAgain { d with ring.restore := 0 } _))

theorem heart_joinedDelay (a : Nat) : heart (joinedDelay a d) = heart d := by
  unfold joinedDelay
  dsimp only
  split
  · rfl
  · exact heart_foldAgain d _

theorem hush_ringRestored : Hush d (ringRestored d) := by
  unfold ringRestored
  dsimp only
  split
  · exact hush_after (hush_raiseNS (by decide) 1 _) (hush_same rfl)
  · exact hush_after (hush_same rfl) (hush_after (hush_raiseNS (by decide) 1 _) (hush_same rfl))

theorem heart_restoredDelays : heart (restoredDelays d) = heart d := by
  unfold restoredDelays
  dsimp only
  exact (heart_forEach _ (fun a d => pushRing (delayWrite d a) d) (fun _ _ => rfl) _).trans rfl

theorem hush_measureEnds : Hush d (measureEnds d) := by
  unfold measureEnds
  dsimp only
  split
  · exact hush_after (hush_passEnds _) (hush_same rfl)
  · exact hush_after (hush_judgeDrift _ _) (hush_same rfl)
  · exact hush_after (hush_same (heart_joinedDelay _ _)) (hush_same rfl)
  · exact hush_after (hush_same (heart_restoredDelays _)) (hush_same rfl)
  · exact hush_same rfl

theorem hush_goOnMeasuring : Hush d (goOnMeasuring d) := by
  unfold goOnMeasuring askDelay
  split
  · exact hush_refl d
  · split
    next e he =>
      split at he
      · cases he
        exact hush_same rfl
      · cases he
    next => exact hush_measureEnds d

theorem hush_tookTrip (a rt : Nat) : Hush d (tookTrip a rt d) := by
  unfold tookTrip
  split
  · exact hush_refl d
  · dsimp only
    split
    · exact hush_same rfl
    · exact hush_after (hush_goOnMeasuring _) (hush_same rfl)

theorem hush_lostTrip (a : Nat) : Hush d (lostTrip a d) := by
  unfold lostTrip
  split
  · exact hush_refl d
  · exact hush_after (hush_goOnMeasuring _) (hush_same rfl)

theorem hush_goOnWriting : Hush d (goOnWriting d) := by
  unfold goOnWriting
  split
  · exact hush_same rfl
  · exact hush_enumDone d

theorem hush_goOnEnum : Hush d (goOnEnum d) := by
  unfold goOnEnum
  dsimp only
  split
  · exact hush_goOnMeasuring d
  · split
    · exact hush_goOnWriting d
    · exact hush_refl d

theorem hush_goesOn : Hush d (goesOn d) := by
  unfold goesOn
  split
  · exact hush_attemptDisturbed d
  · exact hush_goOnEnum d

end Ring

end Sys2Proof.Proofs
end

section
/-! PROOF. Frames that leave the head and come back to it keep the block calm but for its commands (11_burza_link.md R326 to R352,
13_host_port_and_mailboxes.md R410 to R412). -/

namespace Sys2Proof.Proofs

open Sys2Proof Sys2Proof.Machine Sys2Proof.Safety Sys2Proof.Laws

section Frames

variable (d : Dev)

/-! ## Ends of frames -/

theorem heart_publishSweep : heart (publishSweep d) = heart d := by
  unfold publishSweep
  split
  · split <;> rfl
  · rfl

theorem heart_partDone : heart (partDone d) = heart d := by
  unfold partDone
  dsimp only
  split
  · exact (heart_publishSweep _).trans rfl
  · rfl

theorem hush_takeSlots (f : Flight) (p : Port) (bad : Bool) (slots : List (Nat × Bool × Nat × List Word)) :
    Hush d (takeSlots f p bad slots d) := by
  refine hush_forEach _ _ (fun a y => ?_) d
  split
  · split
    · exact hush_raiseNS (by decide) a y
    · exact hush_same rfl
  · exact hush_raiseNS (by decide) a y

/-- A fragment accepted answers no command; the head's own copy of a broadcast may wait for the housekeeper. -/
theorem lull_fragTaken (f : Flight) : Lull d (fragTaken f d) := by
  have hsame : ∀ {y : Dev}, calmCore y = calmCore d → y.cmd.busy = d.cmd.busy → Lull d y := fun h hb _ => ⟨h, .inr hb⟩
  unfold fragTaken
  split
  · exact hsame rfl rfl
  · dsimp only
    split
    · exact hsame rfl rfl
    · split <;> exact hsame rfl rfl

theorem heart_pollTaken (f : Flight) (ws : List Word) : heart (pollTaken f ws d) = heart d := by
  unfold pollTaken
  dsimp only
  split
  · rfl
  · split
    · rfl
    · split
      · unfold pollLast
        dsimp only
        split <;> rfl
      · rfl

theorem hush_breakUnseen : Hush d (breakUnseen d) :=
  hush_after (hush_same (heart_armFound [] _)) (hush_of_soft (soft_of_mild (mild_breakRing false d)))

theorem hush_gaveUp (f : Flight) : Hush d (gaveUp f d) := by
  have hraised := hush_raiseNS (k := 67) (by decide) f.addr d
  unfold gaveUp
  dsimp only
  generalize raiseNS 67 f.addr d = x at hraised ⊢
  refine hush_trans hraised ?_
  split
  · cases findMsg x f <;> exact hush_same rfl
  · cases x.host.outst.find? (awaits f.addr) <;> exact hush_same rfl
  · exact hush_same (heart_remoteDone _ _ x)
  · split
    · exact hush_goOnWriting x
    · exact hush_refl x
  · split
    · exact hush_breakUnseen x
    · split
      · exact hush_same (heart_armEnds x)
      · exact hush_after (hush_goOnMeasuring _) (hush_joinEnds x false 0)
    · exact hush_same (heart_armFound [] x)
    · exact hush_lostTrip x _
    · split
      · exact hush_same (heart_setFoldEnds x f false)
      · exact hush_same rfl
      · exact hush_same (heart_farStatEnds x f 0)
      · exact hush_refl x
  · exact hush_refl x

theorem hush_attemptFails (f : Flight) : Hush d (attemptFails f d) := by
  unfold attemptFails
  split
  · exact hush_refl d
  · split
    · exact hush_gaveUp d f
    · exact hush_same rfl

theorem hush_enumBack (f : Flight) (ok : Bool) (p : Port) : Hush d (enumBack f ok p d) := by
  unfold enumBack
  dsimp only
  split
  · split
    · exact hush_attemptFails d f
    · split
      · split
        · exact hush_same (heart_claimed d)
        · exact hush_after (hush_goOnMeasuring _) (hush_joinEnds d true _)
      · split
        · split
          · exact hush_after (hush_goOnMeasuring _) (hush_joinEnds d false 0)
          · split
            · exact hush_after (hush_same (heart_armEnds _)) (hush_raiseNS (by decide) 1 d)
            · split
              · exact hush_after (hush_same (heart_armEnds _)) (hush_raiseNS (by decide) 1 d)
              · exact hush_attemptFails d f
        · exact hush_attemptFails d f
  · split
    · exact hush_same rfl
    · exact hush_attemptFails d f

theorem hush_censusBack (f : Flight) (ok : Bool) : Hush d (censusBack f ok d) := by
  have hwork : ∀ (c : Bool) (y : Dev), Hush y (startRestore (if c = true then goOnMeasuring (remeasureNext y) else remeasureNext y)) := fun c y => by
    refine hush_after (hush_same (heart_startRestore _)) ?_
    cases c
    · exact hush_same (heart_remeasureNext y)
    · exact hush_after (hush_goOnMeasuring _) (hush_same (heart_remeasureNext y))
  unfold censusBack
  split
  · split
    · exact hush_same (heart_armFound _ d)
    · exact hush_attemptFails d f
  · exact hush_after (hwork _ _) (hush_forEach _ (censusAddr f.pairs) (fun a y => hush_censusAddr y f.pairs a) d)

theorem hush_ctlBack (f : Flight) : Hush d (ctlBack f d) := by
  unfold ctlBack
  split
  · exact hush_refl d
  · split <;> exact hush_same rfl
  · exact hush_same rfl
  · exact hush_same (heart_setFoldEnds d f true)
  · exact hush_same rfl
  · exact hush_same (heart_farStatEnds d f _)
  · exact hush_refl d
  · exact hush_attemptFails d f

theorem hush_ringBack (f : Flight) (ok : Bool) (p : Port) (rt : Nat) : Hush d (ringBack f ok p rt d) := by
  unfold ringBack
  split
  · split
    · exact hush_after (hush_goOnMeasuring _) (hush_ringRestored d)
    · exact hush_attemptFails d f
  · exact hush_enumBack d f ok p
  · exact hush_censusBack d f ok
  · split
    · exact hush_tookTrip d _ _
    · exact hush_attemptFails d f
  · exact hush_ctlBack d f

theorem lull_conclude (f : Flight) (ok : Bool) (p : Port) (rt : Nat) : Lull d (conclude f ok p rt d) := by
  unfold conclude
  split
  · exact (hush_same (heart_partDone d)).1
  · exact (hush_ringBack d f ok p rt).1
  · exact (hush_refl d).1
  · split
    · split
      · exact (hush_goOnWriting d).1
      · exact (hush_refl d).1
    · exact (hush_attemptFails d f).1
  · split
    · split
      · split
        · exact lull_fragTaken d f
        · exact (hush_same (heart_remoteDone _ _ d)).1
      · exact (hush_attemptFails d f).1
    · split
      · cases findMsg d f <;> exact (hush_same rfl).1
      · split
        · split
          · exact lull_fragTaken d f
          · split
            · exact (hush_same (heart_pollTaken d f _)).1
            · exact (hush_same (heart_remoteDone _ _ d)).1
        · exact (hush_attemptFails d f).1

/-- A TIMING frame of its own kind ends with nothing to do. -/
theorem conclude_timing {f : Flight} (h : f.kind = 5) (ok : Bool) (p : Port) (rt : Nat) : conclude f ok p rt d = d := by
  simp [conclude, h]

/-! ## Frames start and return -/

/-- The head with a frame's words sent: an armed inversion made, SEQ and almanac moved on. -/
def sent (f : Flight) (d : Dev) : Dev :=
  let seq := if f.rty = 0 then d.head.seq else f.seq
  let d1 := if f.rty = 0 then
      { d with head.seq := (seq + 1) % 256, head.almWord := if seq % 128 = 0 then almanac d else d.head.almWord }
    else d
  let i := takeFrameInject (sendPorts d f) d1
  { i.2 with head.timingDue := false, head.txFrame := txWords i.2 { f with seq := seq, out := duePorts d f, bad := i.1, got := none, pairs := 0 } }

/-- The frame as it is away. -/
def away (f : Flight) (d : Dev) : Flight :=
  let seq := if f.rty = 0 then d.head.seq else f.seq
  let d1 := if f.rty = 0 then
      { d with head.seq := (seq + 1) % 256, head.almWord := if seq % 128 = 0 then almanac d else d.head.almWord }
    else d
  { f with seq := seq, out := duePorts d f, bad := (takeFrameInject (sendPorts d f) d1).1, got := none, pairs := 0 }

theorem startFrame_eq (f : Flight) : startFrame f d = if (away f d).out = 0 then goesOn (conclude (away f d) false .A 0 (sent f d))
    else { sent f d with head.flights := (sent f d).head.flights ++ [away f d] } := rfl

theorem heart_takeFrameInject (ps : List Port) : heart (takeFrameInject ps d).2 = heart d := by
  unfold takeFrameInject
  split
  · split <;> rfl
  · rfl

theorem heart_sent (f : Flight) : heart (sent f d) = heart d := by
  have hseq : ∀ (n : Nat) (l : List Bool), heart (if f.rty = 0 then { d with head.seq := n, head.almWord := l } else d) = heart d := fun n l => by
    split <;> rfl
  unfold sent
  dsimp only
  exact (heart_takeFrameInject _ _).trans (hseq _ _)

theorem lull_startFrame (f : Flight) : Lull d (startFrame f d) := by
  have hs := (hush_same (heart_sent d f)).1
  rw [startFrame_eq]
  split
  · exact lull_after (hush_goesOn _).1 (lull_after (lull_conclude _ _ _ _ _) hs)
  · exact lull_after (hush_same rfl).1 hs

theorem hush_startTiming : Hush d (startTiming d) := by
  unfold startTiming
  dsimp only
  split
  · have hs : ∀ f, Hush d (sent f d) := fun f => hush_same (heart_sent d f)
    rw [startFrame_eq]
    split
    · rw [conclude_timing (sent _ d) rfl]
      exact hush_after (hush_goesOn _) (hs _)
    · exact hush_trans (hs _) (hush_same rfl)
  · exact hush_refl d

theorem heart_beginSweep : heart (beginSweep d) = heart d := rfl

theorem lull_startPart : Lull d (startPart d) := by
  have hbegin : ∀ c : Bool, Lull d (if c = true then beginSweep d else d) := fun c => by
    cases c
    · exact (hush_refl d).1
    · exact (hush_same rfl).1
  unfold startPart
  dsimp only
  split
  · exact lull_after (lull_startFrame _ _) (lull_after (hush_ring _ _ _).1 (hbegin _))
  · exact hbegin _

theorem heart_nextTunnel {x : Flight × Dev} (h : nextTunnel d = some x) : heart x.2 = heart d := by
  unfold nextTunnel at h
  split at h
  · cases h
    rfl
  · split at h
    · split at h
      · cases h
        rfl
      · cases h
    · cases h

theorem lull_startTunnel : Lull d (startTunnel d) := by
  unfold startTunnel
  split
  · exact (hush_startTiming d).1
  · split
    next h =>
      dsimp only
      split
      · exact lull_after (lull_startFrame _ _) (hush_same (heart_nextTunnel d h)).1
      · exact (hush_startTiming d).1
    next => exact (hush_startTiming d).1

theorem heart_countReturn_viol (p : Port) : Hush d (countViol p d) := hush_of_soft (soft_of_mild (mild_countViol p d))

theorem hush_countReturn (r : FrameReturn) (bad : Bool) : Hush d (countReturn r bad d) := by
  unfold countReturn
  split
  · exact hush_of_soft (soft_of_mild (mild_countViol _ d))
  · split
    · exact hush_of_soft (soft_of_mild (mild_countCrc _ d))
    · exact hush_refl d

/-- The frame away that a return belongs to. -/
def returning (r : FrameReturn) (d : Dev) : Option Flight :=
  d.head.flights.find? (fun (f : Flight) => f.typ == r.typ && f.seq == r.seq && mbit f.out r.port.num)

/-- The return is whole. -/
def wholeReturn (r : FrameReturn) (f : Flight) (d : Dev) : Bool := r.crcOk && r.damaged == 0 && !injected d f r.port

/-- The head with a return judged and the slots of a sweep part taken. -/
def judgedReturn (r : FrameReturn) (f : Flight) (d : Dev) : Dev :=
  let d1 := countReturn r (injected d f r.port) { d with
    ring.lostPasses := d.ring.lostPasses.set r.port.num 0
    link.lastHeader := headerWord f.typ f.seq f.addr (f.addr == 63) (nth d.head.almWord (f.seq % 128) false) f.rty (flightLen f) }
  if f.kind = 0 then takeSlots f r.port (injected d f r.port) r.slots d1 else d1

/-- The frame with what its return has brought. -/
def returned (r : FrameReturn) (f : Flight) (d : Dev) : Flight :=
  { f with
    out := if f.typ = 8 then 0 else mset f.out r.port.num false
    pairs := if wholeReturn r f d then f.pairs ||| mof 64 ((r.pairs.filter (fun x => x.2 == 2)).map (fun x => x.1)) else f.pairs
    got := if wholeReturn r f d then (match r.reply with
      | some l => some (r.addr, l, r.words)
      | none => f.got) else f.got }

theorem takeReturn_none (h : portUp d r.port = false ∨ returning r d = none) : takeReturn r d = d := by
  unfold takeReturn
  split
  · rfl
  next hp =>
    have hf : returning r d = none := h.resolve_left (by simpa using hp)
    unfold returning at hf
    rw [hf]

theorem takeReturn_some {r : FrameReturn} {f : Flight} (hp : portUp d r.port = true) (hf : returning r d = some f) :
    takeReturn r d =
      if (returned r f d).out = 0 then goesOn (conclude (returned r f d) (wholeReturn r f d) r.port r.trip { judgedReturn r f d with
        head.flights := dropFirst (fun (x : Flight) => x == f) (judgedReturn r f d).head.flights })
      else { judgedReturn r f d with
        head.flights := returned r f d :: dropFirst (fun (x : Flight) => x == f) (judgedReturn r f d).head.flights } := by
  unfold returning at hf
  unfold takeReturn
  rw [if_neg (by simp [hp]), hf] <;> rfl

theorem hush_judgedReturn (r : FrameReturn) (f : Flight) : Hush d (judgedReturn r f d) := by
  have hslots : ∀ (bad : Bool) (y : Dev), Hush d y → Hush d (if f.kind = 0 then takeSlots f r.port bad r.slots y else y) := fun bad y h => by
    split
    · exact hush_after (hush_takeSlots y _ _ _ _) h
    · exact h
  have hnote : ∀ (l : List Nat) (w : Word), Hush d { d with ring.lostPasses := l, link.lastHeader := w } := fun _ _ => hush_same rfl
  exact hslots _ _ (hush_after (hush_countReturn _ _ _) (hnote _ _))

theorem lull_takeReturn (r : FrameReturn) : Lull d (takeReturn r d) := by
  cases hp : portUp d r.port with
  | false =>
    rw [takeReturn_none d (.inl hp)]
    exact (hush_refl d).1
  | true =>
    cases hf : returning r d with
    | none =>
      rw [takeReturn_none d (.inr hf)]
      exact (hush_refl d).1
    | some f =>
      have hj := hush_judgedReturn d r f
      rw [takeReturn_some d hp hf]
      generalize judgedReturn r f d = y at hj ⊢
      have hlast : ∀ l, Hush d { y with head.flights := l } := fun l => hush_trans hj (hush_same rfl)
      split
      · exact lull_after (hush_goesOn _).1 (lull_after (lull_conclude _ _ _ _ _) (hlast _).1)
      · exact (hlast _).1

theorem heart_passLost (p : Port) : heart (passLost p d) = heart d := by
  unfold passLost
  dsimp only
  split
  · exact (heart_armSilent _ p).trans rfl
  · rfl

theorem lull_returnTimeout : Lull d (returnTimeout d) := by
  have hlost : ∀ (f : Flight) (p : Port) (y : Dev), Hush y (if mbit f.out p.num = true then passLost p y else y) := fun f p y => by
    split
    · exact hush_same (heart_passLost y p)
    · exact hush_refl y
  have hwrapped : ∀ (f : Flight) (c : Bool) (y : Dev), Hush y (if c = true then (fun p y => if mbit f.out p.num = true then passLost p y else y) Port.B
      ((fun p y => if mbit f.out p.num = true then passLost p y else y) Port.A y) else y) := fun f c y => by
    cases c
    · exact hush_refl y
    · exact hush_after (hlost f .B _) (hlost f .A y)
  unfold returnTimeout
  split
  · exact (hush_refl d).1
  · split
    · split
      · exact (hush_breakUnseen d).1
      · exact lull_after (hush_goesOn _).1 (lull_after (lull_conclude _ _ _ _ _) (hush_ring d _ _).1)
    · exact lull_after (hush_goesOn _).1 (lull_after (lull_conclude _ _ _ _ _) (lull_after (hwrapped _ _ _).1 (hush_ring d _ _).1))

end Frames

end Sys2Proof.Proofs
end

section
/-! PROOF. The head's ring work falls due (11_burza_link.md R342, R348, 12_ring_membership.md R369 to R375, R388). -/

namespace Sys2Proof.Proofs

open Sys2Proof Sys2Proof.Machine Sys2Proof.Safety Sys2Proof.Laws

/-! ## A block after the head's work -/

/-- A block in which nothing acts but the command, and ENUMERATE where it executes. -/
structure Alone (s : State) : Prop where
  waiting : s.cmd.waiting = []
  unarmed : Unarmed s.toDev
  dac : DacIdle s.toDev
  busy : ∀ b, s.cmd.busy = some b → b.code = 0x50

section Answers

variable {s : State} {i : Instr} {f : Dev → Dev} {a : Dev}

theorem longEnds_enumerate {d : Dev} (h : ∀ b, d.cmd.busy = some b → b.code = 0x50) : longEnds d = flushUnknown d := by
  cases hb : d.cmd.busy with
  | none => simp [longEnds, unloadEnds, packLost, hb]
  | some b => simp [longEnds, unloadEnds, packLost, hb, h b hb]

theorem unarmed_of_calmCore {b : Dev} (h : calmCore b = calmCore a) (hu : Unarmed a) : Unarmed b := by
  have hcaps : b.conv.caps = a.conv.caps := congrArg Heart.caps h
  unfold Unarmed
  rw [hcaps]
  exact hu

theorem dacIdle_of_calmCore {b : Dev} (h : calmCore b = calmCore a) (hi : DacIdle a) : DacIdle b := by
  have hv : b.aux.toVerify = a.aux.toVerify := congrArg Heart.toVerify h
  have hg : b.aux.gapWait = a.aux.gapWait := congrArg Heart.gapWait h
  have hr : b.aux.running = a.aux.running := congrArg Heart.running h
  have ht : b.aux.target = a.aux.target := congrArg Heart.target h
  have hw : b.bist.waiting = a.bist.waiting := congrArg Heart.waiting h
  unfold DacIdle
  rw [hv, hg, hr, ht, hw]
  exact hi

/-- The head's work, and what a message without a meaning is answered. -/
theorem answers_flushed (hs : Alone s) (hi : exec i s = runDev s f) (hf : f s.toDev = a)
    (ha : calmCore a = calmCore s.toDev) (hb : a.cmd.busy = none ∨ a.cmd.busy = s.cmd.busy)
    (hflush : calmCore (flushUnknown a) = calmCore a) : Answers i s (Beside (flushUnknown a)) := by
  subst hf
  have hbusy : ∀ b, (f s.toDev).cmd.busy = some b → b.code = 0x50 := fun b h => by
    rcases hb with hb | hb
    · rw [hb] at h
      cases h
    · rw [hb] at h
      exact hs.busy b h
  have hsafe : (f s.toDev).power.safeHold = true → s.power.safeHold = true := by
    rw [show (f s.toDev).power = s.power from congrArg Heart.power ha]
    exact id
  have hidle := dacIdle_of_calmCore hflush (dacIdle_of_calmCore ha hs.dac)
  have heff : effect f s.toDev = settle (flushUnknown (f s.toDev)) := by
    unfold effect wake
    rw [armInHold_kept hsafe, afterEvents_unarmed 4 _ _ (unarmed_of_calmCore ha hs.unarmed), longEnds_enumerate hbusy, serveDac_idle hidle,
      serveSlice_idle hidle]
  refine ⟨{ s with toDev := effect f s.toDev }, hi, rfl, ?_⟩
  show Beside _ (effect f s.toDev)
  rw [heff]
  exact beside_settle _

/-- The head's work, with no message waiting. -/
theorem answers_still (hs : Alone s) (hi : exec i s = runDev s f) (hf : f s.toDev = a) (ha : calmCore a = calmCore s.toDev)
    (hb : a.cmd.busy = none ∨ a.cmd.busy = s.cmd.busy) (hw : a.cmd.waiting = []) : Answers i s (Beside a) := by
  have hflush : flushUnknown a = a := by rw [flushUnknown, hw]
  have h := answers_flushed hs hi hf ha hb (by rw [hflush])
  rw [hflush] at h
  exact h

theorem answers_kept (hs : Alone s) (hi : exec i s = runDev s f) (hf : f s.toDev = a) (ha : heart a = heart s.toDev) : Answers i s (Beside a) := by
  have hcmd : a.cmd = s.cmd := congrArg Heart.cmd ha
  have hcore : ∀ x : Dev, calmCore x = { heart x with cmd := Cmd.reset } := fun _ => rfl
  exact answers_still hs hi hf (by rw [hcore, hcore, ha]) (.inr (by rw [hcmd])) (by rw [hcmd]; exact hs.waiting)

end Answers

/-! ## Enumeration starts -/

section Enum

variable (d : Dev)

theorem requeue_leaves (f : Flight) : heart (requeue f d) = heart d ∧ (requeue f d).ring = d.ring := by
  unfold requeue
  split
  · exact ⟨rfl, rfl⟩
  · split <;> exact ⟨rfl, rfl⟩

theorem dropFrames_leaves : heart (dropFrames d) = heart d ∧
    (dropFrames d).ring = { d.ring with measQ := [], measures := [], measFor := 0, toWrite := [] } := by
  have hfold : ∀ l : List Flight, heart (l.foldr requeue d) = heart d ∧ (l.foldr requeue d).ring = d.ring := fun l => by
    induction l with
    | nil => exact ⟨rfl, rfl⟩
    | cons f t ih =>
      obtain ⟨h1, h2⟩ := requeue_leaves (t.foldr requeue d) f
      exact ⟨h1.trans ih.1, h2.trans ih.2⟩
  obtain ⟨hh, hr⟩ := hfold (d.head.retry ++ d.head.flights)
  unfold dropFrames
  dsimp only
  generalize (d.head.retry ++ d.head.flights).foldr requeue d = x at hh hr ⊢
  rw [← hr]
  exact ⟨hh, rfl⟩

theorem ringDown_leaves : (ringDown d).ring = d.ring ∧ (ringDown d).head = { d.head with tunnel := [] } := by
  have hfold : ∀ (l : List Outst) (y : Dev), (forEach l (fun o d => headRsp 5 stBUSY o d) y).ring = y.ring ∧
      (forEach l (fun o d => headRsp 5 stBUSY o d) y).head = { y.head with tunnel := (forEach l (fun o d => headRsp 5 stBUSY o d) y).head.tunnel } := fun l => by
    induction l with
    | nil => exact fun y => ⟨rfl, rfl⟩
    | cons o t ih =>
      intro y
      obtain ⟨h1, h2⟩ := ih (headRsp 5 stBUSY o y)
      exact ⟨h1, h2⟩
  obtain ⟨hr, hh⟩ := hfold (d.host.outst.filter needsRing) d
  unfold ringDown
  dsimp only
  generalize forEach (d.host.outst.filter needsRing) (fun o d => headRsp 5 stBUSY o d) d = x at hr hh ⊢
  rw [← hr]
  have hrem : ∀ y : Dev, y.head.tunnel = [] → (remoteDone false 0 y).ring = y.ring ∧ (remoteDone false 0 y).head = y.head := fun y hy => by
    unfold remoteDone
    split
    · refine ⟨rfl, ?_⟩
      dsimp only
      rw [hy, List.filter_nil, ← hy]
    · exact ⟨rfl, rfl⟩
  obtain ⟨h1, h2⟩ := hrem { x with head.tunnel := [] } rfl
  refine ⟨h1, h2.trans ?_⟩
  rw [hh]

theorem heart_startEnum : heart (startEnum d) = heart d :=
  (show heart (startEnum d) = heart (ringDown (dropFrames d)) from rfl).trans ((heart_ringDown _).trans (dropFrames_leaves d).1)

/-- ENUMERATING at its first wait: FORGET to all is the only frame, and no sweep goes on. -/
theorem startEnum_leaves : (startEnum d).ring.silent = d.ring.silent ∧ (startEnum d).ring.stat = .enumerating ∧ (startEnum d).ring.enumStep = 1 ∧
    (startEnum d).ring.passId = (d.ring.passId + 1) % 256 ∧ (startEnum d).head.ringFrames = [ringFrame 11 63 none (Word.of (2 ^ 28))] ∧
    (startEnum d).head.flights = [] ∧ (startEnum d).head.retry = [] ∧ (startEnum d).head.tunnel = [] ∧ (startEnum d).head.sweepParts = [] := by
  obtain ⟨hr, hh⟩ := ringDown_leaves (dropFrames d)
  rw [(dropFrames_leaves d).2] at hr
  have hframes : (dropFrames d).head.flights = [] ∧ (dropFrames d).head.retry = [] ∧ (dropFrames d).head.ringFrames = [] := ⟨rfl, rfl, rfl⟩
  unfold startEnum beginAttempt beginPass pushRing
  dsimp only
  rw [hr, hh]
  obtain ⟨h1, h2, h3⟩ := hframes
  exact ⟨rfl, rfl, rfl, rfl, by rw [h3]; rfl, h1, h2, rfl, rfl⟩

end Enum

/-! ## Work falls due -/

/-- SWEEP_DUE (R342). -/
def sweepRun (d : Dev) : Dev :=
  if canSend d && ringServes d && itemN d 0x0701 == 1 then { d with head.sweepDue := true, head.sweepAt := d.now } else d

/-- TIMING_FRAME_DUE (R348). -/
def timingRun (d : Dev) : Dev := if canSend d then { d with head.timingDue := true } else d

/-- CENSUS_DUE (R375). -/
def censusRun (d : Dev) : Dev := if canSend d then pushCensus d else d

/-- HEAD_SILENCE_END (R388, R369). -/
def silenceRun (d : Dev) : Dev :=
  if isHead d && awake d && d.ring.silent then
    (if d.ring.stat == .idle && itemN d 0x0710 == 1 then startEnum { d with ring.silent := false } else { d with ring.silent := false })
  else d

/-- ENUM_FORGET_WAIT (R370). -/
def forgetRun (d : Dev) : Dev :=
  if d.ring.stat == .enumerating && d.ring.enumStep == 1 then
    pushEnum false 2 { d with ring.enumStep := 2, head.flights := [], head.retry := [], head.ringFrames := [] }
  else d

/-- ENUM_QUIET (R374). -/
def quietRun (d : Dev) : Dev :=
  if d.ring.stat == .enumerating && d.ring.enumStep == 4 then beginAttempt { d with ring.attempts := satInc 63 d.ring.attempts } else d

theorem ringServes_iff (d : Dev) : ringServes d = true ↔ d.ring.stat ≠ .enumerating ∧ d.ring.stat ≠ .failed ∧ d.ring.stat ≠ .conflict := by
  unfold ringServes
  cases d.ring.stat <;> simp

theorem pushCensus_due {d : Dev} (h : (d.ring.stat = .closed ∨ d.ring.stat = .wrapped) ∧ ∀ f ∈ d.head.ringFrames, f.typ ≠ 9) :
    pushCensus d = pushRing (censusFrame d none) d := if_pos (by simpa [wrapped] using h)

theorem pushCensus_not {d : Dev} (h : ¬ ((d.ring.stat = .closed ∨ d.ring.stat = .wrapped) ∧ ∀ f ∈ d.head.ringFrames, f.typ ≠ 9)) :
    pushCensus d = d := if_neg (by simpa [wrapped] using h)

/-- The first ENUM of a pass goes by port B. -/
theorem pushEnum_first (n : Nat) (d : Dev) : pushEnum false n d =
    { d with head.ringFrames := d.head.ringFrames ++ [ringFrame 8 0 (some .B) (Word.of (d.ring.passId * 2 ^ 16 + n))] } := by
  have hword : b2n false * 2 ^ 31 + d.ring.passId * 2 ^ 16 + n = d.ring.passId * 2 ^ 16 + n := by simp [b2n]
  unfold pushEnum pushRing
  rw [hword]
  rfl

/-- Settles O47: each event of the head's ring work sets what its row gives, where the ring is in the state for it, and else nothing. -/
theorem headRingWorkGoesOn : Obligations.HeadRingWorkGoesOn := by
  intro s hwait hu hdac hbusy
  have hs : Alone s := ⟨hwait, hu, hdac, hbusy⟩
  have hsweeps := ringServes_iff s.toDev
  refine ⟨fun h => ?_, fun h => ?_, fun h => answers_kept (f := timingRun) hs rfl (if_pos h) rfl,
    fun h => answers_kept (f := timingRun) hs rfl (if_neg (by simp [h])) rfl, fun h => ?_, fun h => ?_, fun hq hi ha => ?_, fun hq h => ?_, fun hq => ?_,
    fun h1 h2 => ?_, fun h => ?_, fun h1 h2 => ?_, fun h => ?_⟩
  · refine answers_kept (f := sweepRun) hs rfl (if_pos ?_) rfl
    obtain ⟨hc, h1, h2, h3, h4⟩ := h
    simp [hc, hsweeps.mpr ⟨h1, h2, h3⟩, h4]
  · refine answers_kept (f := sweepRun) hs rfl (if_neg fun hx => h ?_) rfl
    simp only [Bool.and_eq_true, beq_iff_eq] at hx
    obtain ⟨⟨hc, hr⟩, h4⟩ := hx
    exact ⟨hc, (hsweeps.mp hr).1, (hsweeps.mp hr).2.1, (hsweeps.mp hr).2.2, h4⟩
  · exact answers_kept (f := censusRun) hs rfl ((if_pos h.1).trans (pushCensus_due h.2)) rfl
  · refine answers_kept (f := censusRun) (a := s.toDev) hs rfl ?_ rfl
    unfold censusRun
    split
    next hc => exact pushCensus_not fun hx => h ⟨hc, hx⟩
    next => rfl
  · obtain ⟨h1, h2, h3⟩ := hq
    have hrun : silenceRun s.toDev = startEnum { s.toDev with ring.silent := false } :=
      (if_pos (by simp [h1, h2, h3])).trans (if_pos (by simp [hi, ha]))
    refine answers_mono (answers_kept (f := silenceRun) hs rfl hrun (heart_startEnum _)) fun t ht => ⟨ht, ?_⟩
    rw [ring_of_beside ht, head_of_beside ht]
    exact startEnum_leaves { s.toDev with ring.silent := false }
  · obtain ⟨h1, h2, h3⟩ := hq
    exact answers_kept (f := silenceRun) hs rfl ((if_pos (by simp [h1, h2, h3])).trans (if_neg (by
      simp only [Bool.and_eq_true, beq_iff_eq, not_and_or]
      exact h))) rfl
  · exact answers_kept (f := silenceRun) hs rfl (if_neg (by simpa [and_assoc] using hq)) rfl
  · have hrun : forgetRun s.toDev = pushEnum false 2 { s.toDev with ring.enumStep := 2, head.flights := [], head.retry := [], head.ringFrames := [] } :=
      if_pos (by simp [h1, h2])
    exact answers_kept (f := forgetRun) hs rfl (hrun.trans (pushEnum_first 2 _)) rfl
  · exact answers_kept (f := forgetRun) hs rfl (if_neg (by simpa [← not_and_or] using h)) rfl
  · refine answers_mono (answers_kept (f := quietRun) hs rfl (if_pos (by simp [h1, h2])) rfl) fun t ht => ⟨ht, ?_⟩
    rw [ring_of_beside ht, head_of_beside ht]
    exact ⟨rfl, rfl, rfl, rfl⟩
  · exact answers_kept (f := quietRun) hs rfl (if_neg (by simpa [← not_and_or] using h)) rfl

end Sys2Proof.Proofs
end

section
/-! PROOF. The head's frames leave and return (11_burza_link.md R326 to R352, 12_ring_membership.md R363 to R383). -/

namespace Sys2Proof.Proofs

open Sys2Proof Sys2Proof.Machine Sys2Proof.Safety Sys2Proof.Laws

/-! ## A message without a meaning -/

theorem hush_deliver (bcast silent : Bool) (code seq len : Nat) (ws : List Word) (d : Dev) : Hush d (deliver bcast silent code seq len ws d) :=
  hush_answerWrite (answerWrite_deliver bcast silent code seq len ws d)

theorem hush_countSeq (seq : Nat) (gap : Bool) (d : Dev) : Hush d (countSeq seq gap d) := by
  have hseq : Hush d { d with cmd.expSeq := some ((seq + 1) % 256) } := ⟨fun _ => ⟨rfl, .inr rfl⟩, fun _ => rfl⟩
  unfold countSeq
  dsimp only
  split
  · exact hush_after (hush_of_soft (soft_of_mild (mild_raise (by decide) _))) (hush_trans hseq (hush_same rfl))
  · exact hseq

theorem hush_unknownCmd (bcast : Bool) (ws : List Word) (d : Dev) : Hush d (unknownCmd bcast ws d) := by
  unfold unknownCmd
  dsimp only
  split
  · exact hush_after (hush_deliver _ _ _ _ _ _ _) (hush_after (hush_of_soft (soft_of_mild (mild_raise (by decide) _))) (hush_same rfl))
  · split
    · exact hush_deliver _ _ _ _ _ _ _
    · split
      · exact hush_deliver _ _ _ _ _ _ _
      · exact hush_after (hush_answerWrite (answerWrite_answer _ _ _ _ _ _ _ _ _)) (hush_countSeq _ _ d)

theorem lull_flushUnknown (d : Dev) : Lull d (flushUnknown d) := by
  unfold flushUnknown
  split
  · split
    · exact lull_after (hush_unknownCmd _ _ _).1 fun _ => ⟨rfl, .inr rfl⟩
    · exact (hush_refl d).1
  · exact (hush_refl d).1

section Answers

variable {s : State} {i : Instr} {f : Dev → Dev} {a : Dev}

theorem answers_lull (hs : Alone s) (hn : NoSafe s.toDev) (hi : exec i s = runDev s f) (hf : f s.toDev = a) (h : Lull s.toDev a) :
    Answers i s (Beside (flushUnknown a)) := by
  obtain ⟨hcore, hbusy⟩ := h hn
  exact answers_flushed hs hi hf hcore hbusy (lull_flushUnknown a (noSafe_of_calmCore hcore hn)).1

theorem answers_hush (hs : Alone s) (hn : NoSafe s.toDev) (hi : exec i s = runDev s f) (hf : f s.toDev = a) (h : Hush s.toDev a) :
    Answers i s (Beside a) := by
  obtain ⟨hcore, hbusy⟩ := h.1 hn
  exact answers_still hs hi hf hcore hbusy ((h.2 hn).trans hs.waiting)

end Answers

/-! ## Frames away round a closed ring -/

section Closed

variable {d : Dev}

theorem takeFrameInject_none (h : d.fault.inject = []) (ps : List Port) : takeFrameInject ps d = (0, d) := by
  unfold takeFrameInject
  rw [h]

theorem duePorts_closed (h : d.ring.stat = .closed) {f : Flight} (hv : f.via = none) : duePorts d f = 1 := by
  unfold duePorts
  rw [hv]
  dsimp only
  rw [if_neg (c := wrapped d = true) (by simp [wrapped, h]), ite_self]

/-- A frame that is sent the first time takes the next SEQ. -/
theorem startFrame_first {f : Flight} (hs : d.ring.stat = .closed) (hi : d.fault.inject = []) (hr : f.rty = 0) (hv : f.via = none) :
    (startFrame f d).head.seq = (d.head.seq + 1) % 256 ∧
    (startFrame f d).head.flights = d.head.flights ++ [{ f with seq := d.head.seq, out := 1, bad := 0, got := none, pairs := 0 }] ∧
    (startFrame f d).head.ringFrames = d.head.ringFrames ∧ (startFrame f d).head.sweepDue = d.head.sweepDue ∧
    (startFrame f d).head.sweepNo = d.head.sweepNo ∧ (startFrame f d).host = d.host ∧ (startFrame f d).cmd = d.cmd ∧
    (startFrame f d).head.txFrame = txWords { d with head.seq := (d.head.seq + 1) % 256
                                                     head.almWord := if d.head.seq % 128 = 0 then almanac d else d.head.almWord }
      { f with seq := d.head.seq, out := 1, bad := 0, got := none, pairs := 0 } := by
  have hseq : ∀ n l, (if f.rty = 0 then { d with head.seq := n, head.almWord := l } else d) = { d with head.seq := n, head.almWord := l } :=
    fun n l => if_pos hr
  have hnone : ∀ n l, takeFrameInject (sendPorts d f) { d with head.seq := n, head.almWord := l } = (0, { d with head.seq := n, head.almWord := l }) :=
    fun n l => takeFrameInject_none (d := { d with head.seq := n, head.almWord := l }) hi _
  have haway : away f d = { f with seq := d.head.seq, out := 1, bad := 0, got := none, pairs := 0 } := by
    unfold away
    dsimp only
    rw [hseq, hnone, duePorts_closed hs hv, if_pos hr]
  have hsent : sent f d = { d with
      head.seq := (d.head.seq + 1) % 256, head.almWord := if d.head.seq % 128 = 0 then almanac d else d.head.almWord, head.timingDue := false
      head.txFrame := txWords { d with head.seq := (d.head.seq + 1) % 256
                                       head.almWord := if d.head.seq % 128 = 0 then almanac d else d.head.almWord }
        { f with seq := d.head.seq, out := 1, bad := 0, got := none, pairs := 0 } } := by
    unfold sent
    dsimp only
    rw [hseq, hnone, duePorts_closed hs hv, if_pos hr]
  rw [startFrame_eq, haway, hsent, if_neg (show ¬ (1 : BitVec 2) = 0 by decide)]
  exact ⟨rfl, rfl, rfl, rfl, rfl, rfl, rfl, rfl⟩

/-- A retry keeps its SEQ. -/
theorem startFrame_again {f : Flight} (hs : d.ring.stat = .closed) (hi : d.fault.inject = []) (hr : f.rty ≠ 0) (hv : f.via = none) :
    (startFrame f d).head.seq = d.head.seq ∧
    (startFrame f d).head.flights = d.head.flights ++ [{ f with out := 1, bad := 0, got := none, pairs := 0 }] ∧
    (startFrame f d).head.retry = d.head.retry ∧ (startFrame f d).link = d.link ∧ (startFrame f d).cmd = d.cmd := by
  have hseq : ∀ n l, (if f.rty = 0 then { d with head.seq := n, head.almWord := l } else d) = d := fun n l => if_neg hr
  have haway : away f d = { f with out := 1, bad := 0, got := none, pairs := 0 } := by
    unfold away
    dsimp only
    rw [hseq, takeFrameInject_none hi, duePorts_closed hs hv, if_neg hr]
  have hsent : ∃ w, sent f d = { d with head.timingDue := false, head.txFrame := w } := by
    unfold sent
    dsimp only
    rw [hseq, takeFrameInject_none hi]
    exact ⟨_, rfl⟩
  obtain ⟨w, hw⟩ := hsent
  rw [startFrame_eq, haway, hw, if_neg (show ¬ (1 : BitVec 2) = 0 by decide)]
  exact ⟨rfl, rfl, rfl, rfl, rfl⟩

end Closed

/-! ## The events of the head's frames -/

/-- HEAD_FRAME_START (R348). -/
def frameStartRun (d : Dev) : Dev := if canSend d && linkFree d then startNext d else d

/-- HEAD_FRAME_RETURN (R339). -/
def frameReturnRun (r : FrameReturn) (d : Dev) : Dev := if isHead d && awake d then takeReturn r d else d

/-- HEAD_RETURN_TIMEOUT (R339). -/
def returnTimeoutRun (d : Dev) : Dev := if isHead d && awake d then returnTimeout d else d

/-- HEAD_RETRY (R339). -/
def headRetryRun (d : Dev) : Dev := if canSend d && linkFree d then startRetry d else d

section Next

variable {d : Dev} {f : Flight} {l : List Flight}

theorem startNext_part (h : partDue d = true) : startNext d = startPart d := if_pos h

theorem startNext_retry (h : partDue d = false) (hr : d.head.retry ≠ []) : startNext d = d := by
  unfold startNext
  rw [if_neg (by simp [h]), if_pos (by simpa using hr)]

theorem startNext_frame (h : partDue d = false) (hr : d.head.retry = []) (hf : d.head.ringFrames = f :: l) :
    startNext d = if fits d f then startFrame f { d with head.ringFrames := l } else startTiming d := by
  unfold startNext
  rw [if_neg (by simp [h]), if_neg (by simp [hr]), hf]

theorem startNext_tunnel (h : partDue d = false) (hr : d.head.retry = []) (hf : d.head.ringFrames = []) : startNext d = startTunnel d := by
  unfold startNext
  rw [if_neg (by simp [h]), if_neg (by simp [hr]), hf]

theorem startRetry_starts (hr : d.head.retry = f :: l) (h : partDue d = false) (hf : fits d f = true) :
    startRetry d = startFrame { f with rty := f.rty + 1 } { d with head.retry := l, link.retryCnt := satInc 255 d.link.retryCnt } := by
  unfold startRetry
  rw [hr]
  exact if_neg (by simp [h, hf])

theorem startRetry_waits (h : d.head.retry = [] ∨ partDue d = true ∨ ∀ f ∈ d.head.retry.head?, fits d f = false) : startRetry d = d := by
  unfold startRetry
  split
  next x t hx =>
    refine if_pos ?_
    rcases h with h | h | h
    · rw [hx] at h
      cases h
    · simp [h]
    · simp [h x (by simp [hx])]
  next => rfl

/-- A sweep of one part starts (R342). -/
theorem startPart_single (hp : d.head.sweepParts = []) (hfull : itemN d 0x0702 = 0) (h1 : 1 ≤ itemN d 0x0704) (h2 : itemN d 0x0704 ≤ 32) :
    ∃ e, startPart d = startFrame { Flight.reset with typ := 2, first := 1, slots := itemN d 0x0704, body := [Word.of (d.head.sweepNo * 2 ^ 16 + 2 ^ 10)] } e ∧
      e.ring = d.ring ∧ e.fault = d.fault ∧ e.head.sweepDue = false ∧ e.head.sweepNo = (d.head.sweepNo + 1) % 2 ^ 16 ∧
      e.host.fill.no = d.head.sweepNo ∧ e.head.flights = d.head.flights ∧ e.head.seq = d.head.seq ∧ e.cmd = d.cmd := by
  have hplan : planParts (itemN d 0x0704) 32 = [(1, itemN d 0x0704)] := by
    have hdiv : cdiv (itemN d 0x0704) 32 = 1 := by
      unfold cdiv
      omega
    unfold planParts
    dsimp only
    rw [hdiv]
    simp [b2n, Nat.mod_one]
  have hparts : (beginSweep d).head.sweepParts = [(1, itemN d 0x0704)] := by
    rw [← hplan]
    unfold beginSweep
    dsimp only
    rw [hfull]
    rfl
  have hlast : (beginSweep d).head.lastPart = 0 := by
    have : (beginSweep d).head.lastPart = (beginSweep d).head.sweepParts.length - 1 := rfl
    rw [this, hparts]
    rfl
  have hno : (beginSweep d).host.fill.no = d.head.sweepNo ∧ (beginSweep d).host.fill.full = false := by
    refine ⟨rfl, ?_⟩
    unfold beginSweep
    dsimp only
    rw [hfull]
    rfl
  have hflight : partFlight (beginSweep d) 1 (itemN d 0x0704) = { Flight.reset with
      typ := 2, first := 1, slots := itemN d 0x0704, body := [Word.of (d.head.sweepNo * 2 ^ 16 + 2 ^ 10)] } := by
    unfold partFlight
    dsimp only
    rw [hparts, hlast, hno.1, hno.2]
    simp
  refine ⟨{ beginSweep d with head.sweepParts := [] }, ?_, rfl, rfl, rfl, rfl, rfl, rfl, rfl, rfl⟩
  unfold startPart
  rw [if_pos (by simp [hp])]
  dsimp only
  rw [hparts]
  dsimp only
  rw [hflight]

end Next

/-! ## A return round a closed ring -/

section Return

variable {d : Dev} {r : FrameReturn} {f : Flight}

/-- The only frame away returns whole on port A of a closed ring. -/
structure Comes (r : FrameReturn) (f : Flight) (d : Dev) : Prop where
  closed : d.ring.stat = .closed
  steady : d.ring.disturbed = false
  done : d.ring.enumStep = 0
  up : portUp d .A = true
  flights : d.head.flights = [f]
  typ : f.typ = r.typ
  seq : f.seq = r.seq
  out : f.out = 1
  port : r.port = .A
  crc : r.crcOk = true
  damaged : r.damaged = 0
  bad : f.bad = 0

theorem injected_not (h : Comes r f d) : injected d f r.port = false := by
  unfold injected
  rw [if_neg (by simp [wrapped, h.closed]), h.bad]
  rfl

theorem wholeReturn_comes (h : Comes r f d) : wholeReturn r f d = true := by
  unfold wholeReturn
  rw [injected_not h, h.crc, h.damaged]
  rfl

theorem returning_comes (h : Comes r f d) : returning r d = some f := by
  unfold returning
  rw [h.flights, List.find?_cons_of_pos]
  rw [h.typ, h.seq, h.out, h.port]
  simp only [BEq.rfl, Bool.true_and]
  decide

theorem goesOn_done (hs : d.ring.disturbed = false) (he : d.ring.enumStep = 0) : goesOn d = d := by
  unfold goesOn goOnEnum
  rw [if_neg (by simp [hs])]
  dsimp only
  rw [if_neg (by simp [he]), if_neg (by simp [he])]

/-- The head with the return noted. -/
def noted (r : FrameReturn) (f : Flight) (d : Dev) : Dev :=
  { d with
    ring.lostPasses := d.ring.lostPasses.set r.port.num 0
    link.lastHeader := headerWord f.typ f.seq f.addr (f.addr == 63) (nth d.head.almWord (f.seq % 128) false) f.rty (flightLen f) }

theorem noted_leaves (r : FrameReturn) (f : Flight) (d : Dev) : (noted r f d).head = d.head ∧ (noted r f d).host = d.host ∧
    heart (noted r f d) = heart d ∧ (noted r f d).ring = { d.ring with lostPasses := d.ring.lostPasses.set r.port.num 0 } := by
  have h : ∀ w : Word, ({ d with ring.lostPasses := d.ring.lostPasses.set r.port.num 0, link.lastHeader := w } : Dev).head = d.head ∧
      ({ d with ring.lostPasses := d.ring.lostPasses.set r.port.num 0, link.lastHeader := w } : Dev).host = d.host ∧
      heart { d with ring.lostPasses := d.ring.lostPasses.set r.port.num 0, link.lastHeader := w } = heart d ∧
      ({ d with ring.lostPasses := d.ring.lostPasses.set r.port.num 0, link.lastHeader := w } : Dev).ring =
        { d.ring with lostPasses := d.ring.lostPasses.set r.port.num 0 } := fun _ => ⟨rfl, rfl, rfl, rfl⟩
  exact h _

theorem judgedReturn_comes (h : Comes r f d) :
    judgedReturn r f d = if f.kind = 0 then takeSlots f .A false r.slots (noted r f d) else noted r f d := by
  have hcount : ∀ y, countReturn r false y = y := fun y => by
    unfold countReturn
    rw [if_neg (by simp [h.damaged]), if_neg (by simp [h.crc])]
  unfold judgedReturn
  dsimp only
  rw [injected_not h, hcount]
  simp only [noted, h.port]

theorem takeReturn_comes (h : Comes r f d) :
    takeReturn r d = goesOn (conclude (returned r f d) true .A r.trip { judgedReturn r f d with
      head.flights := dropFirst (fun (x : Flight) => x == f) (judgedReturn r f d).head.flights }) := by
  have hout : (returned r f d).out = 0 := by
    show (if f.typ = 8 then 0 else mset f.out r.port.num false) = 0
    rw [h.out, h.port]
    split
    · rfl
    · decide
  rw [takeReturn_some d (by rw [h.port]; exact h.up) (returning_comes h), if_pos hout, wholeReturn_comes h, h.port]

theorem dropFirst_self (f : Flight) : dropFirst (fun (x : Flight) => x == f) [f] = [] := by
  simp [dropFirst]

/-- A pending read ends (R397). -/
theorem remoteDone_read {q : Remote} (hq : d.host.remote = some q) (hw : q.write = false) (v : Word) :
    (remoteDone true v d).head.flights = d.head.flights ∧ (remoteDone true v d).host.remote = none ∧
    (remoteDone true v d).host.remoteRes = some (0x80, q.addr, v) ∧ (remoteDone true v d).ring = d.ring := by
  unfold remoteDone
  rw [hq]
  simp [hw]

/-- A register read ends with its value and OK (R398). -/
theorem takeReturn_read (h : Comes r f d) (ha : r.addr = f.addr) (hm : f.addr ≠ 63) (hk : f.kind = 4) (hr : r.reply = some 1) {q : Remote}
    (hq : d.host.remote = some q) (hw : q.write = false) :
    (takeReturn r d).head.flights = [] ∧ (takeReturn r d).host.remote = none ∧
    (takeReturn r d).host.remoteRes = some (0x80, q.addr, nth r.words 0 0) ∧ (takeReturn r d).cmd = d.cmd := by
  have hj : judgedReturn r f d = noted r f d := (judgedReturn_comes h).trans (if_neg (by simp [hk]))
  have hgot : (returned r f d).got = some (f.addr, 1, r.words) := by
    show (if wholeReturn r f d then (match r.reply with
      | some l => some (r.addr, l, r.words)
      | none => f.got) else f.got) = _
    rw [if_pos (wholeReturn_comes h), hr, ← ha]
  have haddr : (returned r f d).addr = f.addr := rfl
  have hkind : (returned r f d).kind = 4 := hk
  have hserved : served (returned r f d) = some r.words := by
    unfold served replyOf
    rw [hgot, haddr]
    simp [lACCEPT]
  have hconclude : ∀ y, conclude (returned r f d) true .A r.trip y = remoteDone true (nth r.words 0 0) y := fun y => by
    simp [conclude, hkind, haddr, hm, hserved]
  obtain ⟨hhead, hhost, hheart, hring⟩ := noted_leaves r f d
  have hflights : (noted r f d).head.flights = [f] := by rw [hhead, h.flights]
  have hremote : (noted r f d).host.remote = some q := by rw [hhost, hq]
  have hsteady : (noted r f d).ring.disturbed = false := by rw [hring]; exact h.steady
  have hstep : (noted r f d).ring.enumStep = 0 := by rw [hring]; exact h.done
  rw [takeReturn_comes h, hconclude, hj, hflights, dropFirst_self]
  have hcmd : (noted r f d).cmd = d.cmd := congrArg Heart.cmd hheart
  generalize noted r f d = y at hremote hsteady hstep hcmd
  obtain ⟨h1, h2, h3, h4⟩ := remoteDone_read (d := { y with head.flights := [] }) hremote hw (nth r.words 0 0)
  rw [goesOn_done (by rw [h4]; exact hsteady) (by rw [h4]; exact hstep)]
  exact ⟨h1, h2, h3, (congrArg Heart.cmd (heart_remoteDone true (nth r.words 0 0) { y with head.flights := [] })).trans hcmd⟩

/-! ### The last part of a sweep -/

/-- One member's slot of a part that has returned (R346). -/
def slotTaken (p : Port) (bad : Bool) (slots : List (Nat × Bool × Nat × List Word)) (a : Nat) (d : Dev) : Dev :=
  match slots.find? (fun x => x.1 == a && x.2.1) with
  | some x => if bad then raiseNS 68 a d else acceptSlot a (x.2.2.1 % 16) x.2.2.2 (wrapped d && p == .A) d
  | none => raiseNS 68 a d

/-- The registers of the head that a sweep part's slots leave. -/
def SlotsKept (a b : Dev) : Prop := b.ring = a.ring ∧ b.head = a.head ∧ b.host.swHold = a.host.swHold ∧ b.host.fill.no = a.host.fill.no ∧ heart b = heart a

theorem slotsKept_trans {a b c : Dev} (hab : SlotsKept a b) (hbc : SlotsKept b c) : SlotsKept a c := by
  obtain ⟨h1, h2, h3, h4, h5⟩ := hab
  obtain ⟨g1, g2, g3, g4, g5⟩ := hbc
  exact ⟨g1.trans h1, g2.trans h2, g3.trans h3, g4.trans h4, g5.trans h5⟩

/-- The sweep buffer holds the slot of a member. -/
def Holds (m : Nat) (alive : Nat) (ws : List Word) (d : Dev) : Prop :=
  akey d.host.fill.entries m = some (entryHead d.host.fill.no alive false :: ws)

/-- A member whose slot is not found raises EV68; the one whose slot is, has it in the buffer. -/
theorem slotTaken_leaves {a alive : Nat} {ws : List Word} (hc : d.ring.stat = .closed) (hn : NoSafe d) (ha : alive < 16) (m : Nat) :
    SlotsKept d (slotTaken .A false [(a, true, alive, ws)] m d) ∧
    (m = a ∨ Holds a alive ws d → Holds a alive ws (slotTaken .A false [(a, true, alive, ws)] m d)) := by
  by_cases hm : m = a
  · subst hm
    have hfind : slotTaken .A false [(m, true, alive, ws)] m d = acceptSlot m alive ws false d := by
      unfold slotTaken
      rw [List.find?_cons_of_pos (by simp)]
      dsimp only
      rw [if_neg Bool.false_ne_true, Nat.mod_eq_of_lt ha, show wrapped d = false by simp [wrapped, hc], Bool.false_and]
    rw [hfind]
    exact ⟨⟨rfl, rfl, rfl, rfl, rfl⟩, fun _ => akey_aset_self _ _ _⟩
  · have hfind : slotTaken .A false [(a, true, alive, ws)] m d = raiseNS 68 m d := by
      unfold slotTaken
      rw [List.find?_cons_of_neg (by simp [Ne.symm hm]), List.find?_nil]
    have hocc := (occWrite_raiseNS 68 m (hn 68 (by decide))).1
    have hheart := heart_of_core (mild_raiseNS (by decide : 68 < 128) m d hn).core
    rw [hfind]
    refine ⟨⟨?_, ?_, ?_, ?_, hheart⟩, fun h => ?_⟩
    · rw [hocc]
    · rw [hocc]
    · rw [hocc]
    · rw [hocc]
    · unfold Holds
      rw [hocc]
      exact h.resolve_left hm

theorem slotsTaken_leaves {a alive : Nat} {ws : List Word} (ha : alive < 16) (l : List Nat) : ∀ d : Dev, d.ring.stat = .closed → NoSafe d →
    SlotsKept d (forEach l (slotTaken .A false [(a, true, alive, ws)]) d) ∧
    (a ∈ l ∨ Holds a alive ws d → Holds a alive ws (forEach l (slotTaken .A false [(a, true, alive, ws)]) d)) := by
  induction l with
  | nil => exact fun d _ _ => ⟨⟨rfl, rfl, rfl, rfl, rfl⟩, fun h => h.resolve_left (by simp)⟩
  | cons m t ih =>
    intro d hc hn
    obtain ⟨hone, hheld⟩ := slotTaken_leaves (a := a) (ws := ws) hc hn ha m
    obtain ⟨hrest, hholds⟩ := ih (slotTaken .A false [(a, true, alive, ws)] m d) (by rw [hone.1]; exact hc) (noSafe_of_heart hone.2.2.2.2 hn)
    refine ⟨slotsKept_trans hone hrest, fun h => hholds ?_⟩
    rcases h with h | h
    · rcases List.mem_cons.mp h with rfl | h
      · exact .inr (hheld (.inl rfl))
      · exact .inl h
    · exact .inr (hheld (.inr h))

/-- The last part publishes the sweep (R422). -/
theorem partDone_publishes (hp : d.head.partsOut = 1) (hs : d.head.sweepParts = []) (hh : d.host.swHold = false) :
    (partDone d).head = { d.head with partsOut := 0 } ∧ (partDone d).ring = d.ring ∧ (partDone d).host.swNew = true ∧
    (partDone d).host.front = d.host.fill := by
  unfold partDone
  dsimp only
  rw [hp, hs, if_pos (by simp)]
  unfold publishSweep
  dsimp only
  rw [hh]
  exact ⟨rfl, rfl, rfl, rfl⟩

/-- The last part of a sweep publishes it with each member's slot (R346, R422). -/
theorem takeReturn_sweep (h : Comes r f d) (hn : NoSafe d) {a alive : Nat} {ws : List Word} (hk : f.kind = 0) (hp : d.head.partsOut = 1)
    (hs : d.head.sweepParts = []) (hh : d.host.swHold = false) (h2 : 2 ≤ a) (h62 : a ≤ 62) (hpresent : (mapAt d a).present = true)
    (hlow : f.first + 1 ≤ a) (hhigh : a ≤ f.first + f.slots) (hslots : r.slots = [(a, true, alive, ws)]) (ha : alive < 16) :
    (takeReturn r d).head.flights = [] ∧ (takeReturn r d).head.partsOut = 0 ∧ (takeReturn r d).host.swNew = true ∧
    (takeReturn r d).host.front.no = d.host.fill.no ∧
    akey (takeReturn r d).host.front.entries a = some (entryHead d.host.fill.no alive false :: ws) ∧ (takeReturn r d).cmd = d.cmd := by
  have hconclude : ∀ y, conclude (returned r f d) true .A r.trip y = partDone y := fun y => by
    have hkind : (returned r f d).kind = 0 := hk
    simp [conclude, hkind]
  obtain ⟨hhead, hhost, hheart, hring⟩ := noted_leaves r f d
  have hmine : a ∈ (presentMembers (noted r f d)).filter (fun a =>
      decide (f.first ≤ a - 1) && decide (a - 1 < f.first + f.slots) && (!wrapped (noted r f d) || ((mapAt (noted r f d) a).arm == (Port.A == .A)))) := by
    have hwrap : wrapped (noted r f d) = false := by
      unfold wrapped
      rw [hring]
      simp [h.closed]
    have hmap : mapAt (noted r f d) a = mapAt d a := by
      unfold mapAt
      rw [hring]
    rw [List.mem_filter, presentMembers, List.mem_filter, hmap, hwrap]
    refine ⟨⟨?_, hpresent⟩, ?_⟩
    · rw [memberAddrs, List.mem_map]
      exact ⟨a - 2, List.mem_range.mpr (by omega), by omega⟩
    · have h1 : f.first ≤ a - 1 := by omega
      have h2 : a - 1 < f.first + f.slots := by omega
      simp [h1, h2]
  have hj : judgedReturn r f d = takeSlots f .A false r.slots (noted r f d) := (judgedReturn_comes h).trans (if_pos hk)
  have htake : takeSlots f .A false r.slots (noted r f d) = forEach ((presentMembers (noted r f d)).filter (fun a =>
      decide (f.first ≤ a - 1) && decide (a - 1 < f.first + f.slots) && (!wrapped (noted r f d) || ((mapAt (noted r f d) a).arm == (Port.A == .A)))))
      (slotTaken .A false [(a, true, alive, ws)]) (noted r f d) := by
    rw [hslots]
    rfl
  obtain ⟨hkept, hholds⟩ := slotsTaken_leaves (a := a) (ws := ws) ha _ (noted r f d) (by rw [hring]; exact h.closed) (noSafe_of_heart hheart hn)
  rw [takeReturn_comes h, hconclude, hj, htake]
  have hheld := hholds (.inl hmine)
  generalize forEach ((presentMembers (noted r f d)).filter (fun a => decide (f.first ≤ a - 1) && decide (a - 1 < f.first + f.slots) &&
    (!wrapped (noted r f d) || ((mapAt (noted r f d) a).arm == (Port.A == .A))))) (slotTaken .A false [(a, true, alive, ws)]) (noted r f d) = y at hkept hheld
  obtain ⟨hyring, hyhead, hyhold, hyno, hyheart⟩ := hkept
  rw [hhead] at hyhead
  rw [hhost] at hyhold hyno
  obtain ⟨g1, g2, g3, g4⟩ := partDone_publishes (d := { y with head.flights := dropFirst (fun (x : Flight) => x == f) y.head.flights })
    (by rw [hyhead]; exact hp) (by rw [hyhead]; exact hs) (hyhold.trans hh)
  rw [hring] at hyring
  rw [goesOn_done (by rw [g2, hyring]; exact h.steady) (by rw [g2, hyring]; exact h.done), g1, g3, g4]
  have hcmd : ∀ l, (partDone { y with head.flights := l }).cmd = d.cmd := fun l =>
    (congrArg Heart.cmd (heart_partDone { y with head.flights := l })).trans (congrArg Heart.cmd (hyheart.trans hheart))
  refine ⟨?_, rfl, rfl, hyno, ?_, hcmd _⟩
  · show dropFirst (fun (x : Flight) => x == f) y.head.flights = []
    rw [hyhead, h.flights, dropFirst_self]
  · rw [← hyno]
    exact hheld

end Return

/-! ## A frame that has not returned -/

section Timeout

variable {d : Dev} {f : Flight} {l : List Flight}

/-- A register read round a closed ring is queued for its retry (R339). -/
theorem returnTimeout_retries (hs : d.ring.stat = .closed) (he : d.ring.enumStep = 0) (hf : d.head.flights = f :: l) (hk : f.kind = 4) (ht : f.typ = 7)
    (hr : f.rty < 2) (hg : f.got = none) (ha : f.addr ≠ 63) (hl : closedLost d = false) :
    (returnTimeout d).head.flights = l ∧ (returnTimeout d).head.retry = d.head.retry ++ [{ f with out := 0 }] ∧ (returnTimeout d).ring.stat = .closed ∧
    (returnTimeout d).cmd = d.cmd := by
  have hserved : served f = none := by simp [served, replyOf, hg]
  have hconclude : ∀ y : Dev, conclude f false .A 0 y = { y with head.retry := y.head.retry ++ [{ f with out := 0 }] } := fun y => by
    have hfails : attemptFails f y = { y with head.retry := y.head.retry ++ [{ f with out := 0 }] } := by
      unfold attemptFails
      rw [if_neg (by simp [retried, hk]), if_neg (by omega)]
    rw [← hfails]
    simp [conclude, hk, ha, hserved]
  have hgoes : ∀ y : Dev, y.ring.stat = .closed → y.ring.enumStep = 0 → goesOn y = y := fun y hs he => by
    unfold goesOn goOnEnum
    rw [if_neg (by simp [hs])]
    dsimp only
    rw [if_neg (by simp [he]), if_neg (by simp [he])]
  have hrun : returnTimeout d = { d with head.flights := l, ring.lostPasses := d.ring.lostPasses.set 0 1, head.retry := d.head.retry ++ [{ f with out := 0 }] } := by
    unfold returnTimeout
    rw [hf]
    dsimp only
    rw [if_pos (by simp [hs, turnedFlight, ht]), if_neg (by simp [hl]), hconclude, hgoes]
    · exact hs
    · exact he
  rw [hrun]
  exact ⟨rfl, rfl, hs, rfl⟩

theorem armFound_leaves (as : List Nat) (d : Dev) : (armFound as d).head.flights = d.head.flights ∧ (armFound as d).head.retry = d.head.retry ∧
    (armFound as d).ring.stat = d.ring.stat ∧ (armFound as d).host = d.host := by
  have hfold : ∀ (p : Port) (a : Nat) (y : Dev), (foldIs p a y).head = y.head ∧ (foldIs p a y).ring.stat = y.ring.stat ∧ (foldIs p a y).host = y.host :=
    fun p a y => by cases p <;> exact ⟨rfl, rfl, rfl⟩
  have hseek : ∀ (p : Port) (n : Nat) (y : Dev), (seekFold p n y).head.flights = y.head.flights ∧ (seekFold p n y).head.retry = y.head.retry ∧
      (seekFold p n y).ring.stat = y.ring.stat ∧ (seekFold p n y).host = y.host := fun p n y => by
    unfold seekFold
    split
    · exact ⟨rfl, rfl, rfl, rfl⟩
    · obtain ⟨h1, h2, h3⟩ := hfold p 1 y
      rw [h1]
      exact ⟨rfl, rfl, h2, h3⟩
  have hboth : ∀ (n a : Nat) (y : Dev), y.head = d.head → y.ring.stat = d.ring.stat → y.host = d.host →
      (seekFold .B n (foldIs .A a y)).head.flights = d.head.flights ∧ (seekFold .B n (foldIs .A a y)).head.retry = d.head.retry ∧
      (seekFold .B n (foldIs .A a y)).ring.stat = d.ring.stat ∧ (seekFold .B n (foldIs .A a y)).host = d.host := fun n a y h1 h2 h3 => by
    obtain ⟨g1, g2, g3, g4⟩ := hseek .B n (foldIs .A a y)
    obtain ⟨k1, k2, k3⟩ := hfold .A a y
    rw [g1, g2, g3, g4, k1, k2, k3, h1]
    exact ⟨rfl, rfl, h2, h3⟩
  exact hboth _ _ _ rfl rfl rfl

/-- The ring is broken where port A has no lock, or with the second frame lost in a row (R379). -/
theorem returnTimeout_breaks (hn : NoSafe d) (hs : d.ring.stat = .closed) (hf : d.head.flights = f :: l) (ht : f.typ = 7) (hl : closedLost d = true) :
    (returnTimeout d).head.flights = [] ∧ (returnTimeout d).head.retry = [] ∧ (returnTimeout d).ring.stat = .wrapped ∧
    mbit (returnTimeout d).host.evf 73 = true ∧ (returnTimeout d).cmd = d.cmd := by
  have hrun : returnTimeout d = armFound [] (breakRing false d) := by
    unfold returnTimeout
    rw [hf]
    dsimp only
    rw [if_pos (by simp [hs, turnedFlight, ht]), if_pos hl]
    rfl
  obtain ⟨-, hstat, -, -, hflights, h73, -⟩ := breakRing_leaves (d := d) false hn
  have hraise : ∀ x : Dev, heart x = heart d → x.head.retry = [] → (raiseNS 73 0xFFFF x).head.retry = [] := fun x hx hr => by
    rw [(ringKept_raiseNS (by decide : 73 < 128) 0xFFFF (noSafe_of_heart hx hn)).2.2]
    exact hr
  have hretry : (breakRing false d).head.retry = [] := hraise _ (dropFrames_leaves d).1 rfl
  obtain ⟨h1, h2, h3, h4⟩ := armFound_leaves [] (breakRing false d)
  have hcmd : (armFound [] (breakRing false d)).cmd = d.cmd :=
    congrArg Heart.cmd ((heart_armFound [] _).trans (heart_of_core (mild_breakRing false d hn).core))
  rw [hrun, h1, h2, h3, h4]
  exact ⟨hflights, hretry, hstat, h73, hcmd⟩

end Timeout

end Sys2Proof.Proofs
end

section
/-! PROOF. The head's frames as its events start, return and lose them (11_burza_link.md R339, R348). -/

namespace Sys2Proof.Proofs

open Sys2Proof Sys2Proof.Machine Sys2Proof.Safety Sys2Proof.Laws

/-- Settles O46: by the precedence of what may start, and by what a return or its time-out concludes. -/
theorem headFramesLeaveAndReturn : Obligations.HeadFramesLeaveAndReturn := by
  intro s hwait hu hdac hbusy hn
  have hs : Alone s := ⟨hwait, hu, hdac, hbusy⟩
  have hstart : canSend s.toDev = true ∧ linkFree s.toDev = true → ∀ {a : Dev}, startNext s.toDev = a → frameStartRun s.toDev = a :=
    fun h _ ha => (if_pos (by simp [h])).trans ha
  have hretry : canSend s.toDev = true ∧ linkFree s.toDev = true → ∀ {a : Dev}, startRetry s.toDev = a → headRetryRun s.toDev = a :=
    fun h _ ha => (if_pos (by simp [h])).trans ha
  have hframe : ∀ f l, canSend s.toDev = true ∧ linkFree s.toDev = true → partDue s.toDev = false → s.head.retry = [] →
      s.head.ringFrames = f :: l → fits s.toDev f = true →
      Answers .headFrameStart s (Beside (flushUnknown (startFrame f { s.toDev with head.ringFrames := l }))) := fun f l h hp hr hf hfit =>
    answers_lull (f := frameStartRun) hs hn rfl (hstart h ((startNext_frame hp hr hf).trans (if_pos hfit)))
      (lull_after (lull_startFrame _ f) (hush_ring s.toDev _ _).1)
  have hagain : ∀ f l, canSend s.toDev = true ∧ linkFree s.toDev = true → s.head.retry = f :: l → partDue s.toDev = false → fits s.toDev f = true →
      Answers .headRetry s (Beside (flushUnknown (startFrame { f with rty := f.rty + 1 }
        { s.toDev with head.retry := l, link.retryCnt := satInc 255 s.link.retryCnt }))) := fun f l h hr hp hfit =>
    answers_lull (f := headRetryRun) hs hn rfl (hretry h (startRetry_starts hr hp hfit))
      (lull_after (lull_startFrame _ _) (hush_same rfl).1)
  have hreturn : ∀ r, isHead s.toDev = true → awake s.toDev = true → Answers (.headFrameReturn r) s (Beside (flushUnknown (takeReturn r s.toDev))) :=
    fun r hh ha => answers_lull (f := frameReturnRun r) hs hn rfl (if_pos (by simp [hh, ha])) (lull_takeReturn s.toDev r)
  have htimeout : isHead s.toDev = true → awake s.toDev = true → Answers .headReturnTimeout s (Beside (flushUnknown (returnTimeout s.toDev))) :=
    fun hh ha => answers_lull (f := returnTimeoutRun) hs hn rfl (if_pos (by simp [hh, ha])) (lull_returnTimeout s.toDev)
  have hquiet : ∀ {a : Dev}, a.cmd = s.cmd → flushUnknown a = a := fun h => by rw [flushUnknown, h, hwait]
  refine ⟨fun h hp => ?_, fun h hp hr => ?_, fun f l h hp hr hf => ⟨hframe f l h hp hr hf, fun hfit => ?_⟩, fun h hp hr hf => ?_, fun h => ?_,
    fun f l h hst hi hp hr hf hfit hrty hvia => ?_, fun h hst hi hsp hen hdue hout hfull h1 h32 => ?_, hreturn, fun r h => ?_,
    fun r f q hh ha hst hd hup hfl ht hsq hout hport hcrc hdam hbad haddr h63 hstep => ⟨fun hk htyp hrep hrem hw => ?_,
      fun a alive ws hk htyp hpo hsp hhold h2 h62 hpres hlow hhigh hsl hal => ?_⟩,
    htimeout, fun h => ?_, fun f l hh ha hst hstep hfl hk ht hr hg h63 => ⟨fun hlock hlost => ?_, fun hlost => ?_⟩, hagain,
    fun f l h hr hp hfit hst hvia hi => ?_, fun h => ?_⟩
  · exact answers_lull (f := frameStartRun) hs hn rfl (hstart h (startNext_part hp)) (lull_startPart s.toDev)
  · exact answers_hush (f := frameStartRun) hs hn rfl (hstart h (startNext_retry hp hr)) (hush_refl _)
  · exact answers_hush (f := frameStartRun) hs hn rfl (hstart h ((startNext_frame hp hr hf).trans (if_neg (by simp [hfit])))) (hush_startTiming s.toDev)
  · exact answers_lull (f := frameStartRun) hs hn rfl (hstart h (startNext_tunnel hp hr hf)) (lull_startTunnel s.toDev)
  · exact answers_hush (f := frameStartRun) hs hn rfl (if_neg (by simpa using h)) (hush_refl _)
  · obtain ⟨h1, h2, h3, -, -, -, hcmd, htx⟩ := startFrame_first (d := { s.toDev with head.ringFrames := l }) hst hi hrty hvia
    refine answers_mono (hframe f l h hp hr hf hfit) fun t ht => ?_
    rw [hquiet hcmd] at ht
    rw [head_of_beside ht, h1, h2, h3, htx]
    refine ⟨rfl, rfl, rfl, fun hseq => ?_, rfl, rfl, rfl⟩
    simp only [txWords, nth, if_neg hseq, flightLen, hrty]
    rfl
  · have hpart : partDue s.toDev = true := by simp [partDue, ringServes, foldsSet, wrapped, hst, hsp, hdue, hout, hen]
    obtain ⟨e, he, hring, hfault, hdue', hno, hfill, hflights, hseq, hecmd⟩ := startPart_single (d := s.toDev) hsp hfull h1 h32
    obtain ⟨-, g2, -, g4, g5, g6, hcmd, -⟩ := startFrame_first (d := e) (f := { Flight.reset with
      typ := 2, first := 1, slots := itemN s.toDev 0x0704, body := [Word.of (s.head.sweepNo * 2 ^ 16 + 2 ^ 10)] })
      (by rw [hring]; exact hst) (by rw [hfault]; exact hi) rfl rfl
    refine answers_mono (answers_lull (f := frameStartRun) hs hn rfl (hstart h (startNext_part hpart)) (lull_startPart s.toDev)) fun t ht => ?_
    rw [he, hquiet (hcmd.trans hecmd)] at ht
    rw [head_of_beside ht, host_of_beside ht, g2, g4, g5, g6, hdue', hno, hfill, hflights, hseq]
    exact ⟨rfl, rfl, rfl, rfl⟩
  · by_cases hh : isHead s.toDev = true ∧ awake s.toDev = true
    · refine answers_hush (f := frameReturnRun r) hs hn rfl ((if_pos (by simp [hh])).trans (takeReturn_none s.toDev ?_)) (hush_refl _)
      rcases h with h | h | h | h
      · simp [h] at hh
      · simp [h] at hh
      · exact .inl h
      · refine .inr (List.find?_eq_none.mpr fun f hf => ?_)
        simpa [and_imp] using h f hf
    · exact answers_hush (f := frameReturnRun r) hs hn rfl (if_neg (by simpa using hh)) (hush_refl _)
  · have hc : Comes r f s.toDev := ⟨hst, hd, hstep, hup, hfl, ht, hsq, hout, hport, hcrc, hdam, hbad⟩
    obtain ⟨h1, h2, h3, hcmd⟩ := takeReturn_read hc haddr h63 hk hrep hrem hw
    refine answers_mono (hreturn r hh ha) fun t ht => ?_
    rw [hquiet hcmd] at ht
    rw [head_of_beside ht, host_of_beside ht]
    exact ⟨h1, h2, h3⟩
  · have hc : Comes r f s.toDev := ⟨hst, hd, hstep, hup, hfl, ht, hsq, hout, hport, hcrc, hdam, hbad⟩
    obtain ⟨g1, g2, g3, g4, g5, hcmd⟩ := takeReturn_sweep hc hn hk hpo hsp hhold h2 h62 hpres hlow hhigh hsl hal
    refine answers_mono (hreturn r hh ha) fun t ht => ?_
    rw [hquiet hcmd] at ht
    rw [head_of_beside ht, host_of_beside ht]
    exact ⟨g1, g2, g3, g4, g5⟩
  · by_cases hh : isHead s.toDev = true ∧ awake s.toDev = true
    · refine answers_hush (f := returnTimeoutRun) (a := s.toDev) hs hn rfl ((if_pos (by simp [hh])).trans ?_) (hush_refl _)
      rcases h with h | h | h
      · simp [h] at hh
      · simp [h] at hh
      · unfold returnTimeout
        rw [h]
    · exact answers_hush (f := returnTimeoutRun) hs hn rfl (if_neg (by simpa using hh)) (hush_refl _)
  · obtain ⟨h1, h2, h3, hcmd⟩ := returnTimeout_retries (d := s.toDev) hst hstep hfl hk ht hr hg h63 (by simp [closedLost, hlock, hlost])
    refine answers_mono (htimeout hh ha) fun t ht => ?_
    rw [hquiet hcmd] at ht
    rw [head_of_beside ht, ring_of_beside ht]
    exact ⟨h1, h2, h3⟩
  · obtain ⟨h1, h2, h3, h4, hcmd⟩ := returnTimeout_breaks (d := s.toDev) hn hst hfl ht (by simpa [closedLost] using hlost)
    refine answers_mono (htimeout hh ha) fun t ht => ?_
    rw [hquiet hcmd] at ht
    rw [head_of_beside ht, ring_of_beside ht, host_of_beside ht]
    exact ⟨h1, h2, h3, h4⟩
  · obtain ⟨h1, h2, h3, h4, hcmd⟩ := startFrame_again (f := { f with rty := f.rty + 1 })
      (d := { s.toDev with head.retry := l, link.retryCnt := satInc 255 s.link.retryCnt }) hst hi (Nat.succ_ne_zero _) hvia
    refine answers_mono (hagain f l h hr hp hfit) fun t ht => ?_
    rw [hquiet hcmd] at ht
    have hlink := link_of_beside ht
    rw [head_of_beside ht, hlink, h1, h2, h3, h4]
    exact ⟨rfl, rfl, rfl, rfl⟩
  · by_cases hfree : canSend s.toDev = true ∧ linkFree s.toDev = true
    · exact answers_hush (f := headRetryRun) hs hn rfl (hretry hfree (startRetry_waits (h.resolve_left (not_not_intro hfree)))) (hush_refl _)
    · exact answers_hush (f := headRetryRun) hs hn rfl (if_neg (by simpa using hfree)) (hush_refl _)

end Sys2Proof.Proofs
end

section
/-! PROOF. What register reads and writes keep: the block's heart and the word on SDO (13_host_port_and_mailboxes.md R396 to R424,
00_scope.md R13). -/

namespace Sys2Proof.Proofs

open Sys2Proof Sys2Proof.Machine Sys2Proof.Safety Sys2Proof.Laws

/-- Where no source of a is set to SAFE_STATE, b has the heart of a but for the commands; what executes and what waits stays, and
so does the word that SDO carries. -/
def Regs (a b : Dev) : Prop := NoSafe a → calmCore b = calmCore a ∧ b.cmd.busy = a.cmd.busy ∧ b.cmd.waiting = a.cmd.waiting ∧
  b.host.sdo = a.host.sdo

section Regs

variable {a b c : Dev}

theorem regs_after (hbc : Regs b c) (hab : Regs a b) : Regs a c := fun hn => by
  obtain ⟨h1, h2, h3, h4⟩ := hab hn
  obtain ⟨g1, g2, g3, g4⟩ := hbc (noSafe_of_calmCore h1 hn)
  exact ⟨g1.trans h1, g2.trans h2, g3.trans h3, g4.trans h4⟩

theorem calmCore_of_heart (h : heart b = heart a) : calmCore b = calmCore a := by
  have hcore : ∀ x : Dev, calmCore x = { heart x with cmd := Cmd.reset } := fun _ => rfl
  rw [hcore, hcore, h]

theorem regs_same (h : heart b = heart a) (hs : b.host.sdo = a.host.sdo := by rfl) : Regs a b := fun _ =>
  have hcmd : b.cmd = a.cmd := congrArg Heart.cmd h
  ⟨calmCore_of_heart h, by rw [hcmd], by rw [hcmd], hs⟩

theorem regs_refl (a : Dev) : Regs a a := regs_same rfl

theorem regs_of_mild (h : Mild a b) : Regs a b := fun hn =>
  have hcore := (h hn).core
  regs_same (heart_of_core hcore) (congrArg (fun x => x.host.sdo) hcore : (core b).host.sdo = (core a).host.sdo) hn

theorem regs_forEach {α : Type} (l : List α) (f : α → Dev → Dev) (h : ∀ x ∈ l, ∀ d, Regs d (f x d)) (d : Dev) : Regs d (forEach l f d) := by
  induction l generalizing d with
  | nil => exact regs_refl d
  | cons x t ih => exact regs_after (ih (fun y hy => h y (List.mem_cons_of_mem x hy)) _) (h x List.mem_cons_self d)

/-- A change of the timebase. -/
theorem regs_tb (d : Dev) (t : Timebase) : Regs d { d with tb := t } := regs_same rfl

end Regs

/-! ## The phase word -/

section PhaseWord

variable (d : Dev)

theorem regs_judgeBand : Regs d (judgeBand d) := by
  have hlost : ∀ y : Dev, Regs y (pllmUnlocked y) := fun y => by
    unfold pllmUnlocked
    split
    · exact regs_after (regs_of_mild (mild_raiseNS (by decide) _ _)) (regs_same rfl)
    · exact regs_refl y
  unfold judgeBand
  split
  · exact regs_refl d
  · exact regs_after (hlost _) (regs_same rfl)

theorem regs_enterLocked : Regs d (enterLocked d) := by
  have hask : ∀ (inc : Nat) (y : Dev), Regs y (askMult inc y) := fun inc y => by
    unfold askMult
    split
    · exact regs_same rfl
    · exact regs_refl y
  exact regs_after (regs_judgeBand _) (regs_after (hask _ _) (regs_after (regs_tb _ _) (regs_of_mild (mild_setTbState .locked d))))

theorem regs_rejectRef : Regs d (rejectRef d) := by
  unfold rejectRef
  dsimp only
  split
  · exact regs_after (regs_of_mild (mild_enterFlywheel _)) (regs_same rfl)
  · exact regs_same rfl

theorem regs_phaseWord (v : Word) : Regs d (phaseWord v d) := by
  have haccept : Regs d (acceptWord v d) := by
    by_cases h : wordLocks d.tb.period (wordTaken v d)
    · rw [acceptWord_locks h]
      exact regs_after (regs_enterLocked _) (regs_tb d _)
    · rw [acceptWord_stays h]
      exact regs_after (regs_judgeBand _) (regs_tb d _)
  rw [phaseWord_eq]
  split
  · exact regs_refl d
  · split
    · exact regs_rejectRef d
    · split
      · exact regs_rejectRef d
      · exact haccept

end PhaseWord

/-! ## Writes and reads -/

section Write

variable (d : Dev)

theorem regs_fieldEntry (src : Source) (a m : Nat) (old new : Word) : Regs d (fieldEntry src a m old new d) := by
  unfold fieldEntry
  rw [jchange_kept]
  exact regs_same rfl

theorem regs_writeLinkCtrl (src : Source) (w : Word) : Regs d (writeLinkCtrl src w d) := by
  have hlink : ∀ {x y : Dev}, LinkWrite x y → Regs x y := fun {x y} h => by
    unfold LinkWrite at h
    rw [h]
    exact regs_same rfl
  have henable : ∀ (p : Port) (y : Dev), Regs y (writeEnable src p w y) := fun p y => by
    by_cases h : bit w p.num = true ∨ receivePort y ≠ some p
    · exact hlink (writeEnable_taken h).2
    · rw [not_or, not_not, Bool.not_eq_true] at h
      by_cases he : portEnabled y p = true
      · rw [writeEnable_refused h.2 he h.1]
        exact regs_same rfl
      · unfold writeEnable
        simp only [h.1, he, h.2, Bool.and_false, Bool.false_and, Bool.false_eq_true, if_false]
        cases p <;> exact regs_after (regs_same rfl) (regs_fieldEntry y src _ _ _ _)
  refine regs_after (henable .B _) (regs_after (henable .A _) ?_)
  cases bit w 2 <;> exact regs_same rfl

theorem regs_writeFaultPin (src : Source) (w : Word) : Regs d (writeFaultPin src w d) := by
  unfold writeFaultPin
  dsimp only
  rw [jchange_kept]
  split <;> exact regs_same rfl

theorem regs_writeEnables (src : Source) (n : Nat) (w : Word) : Regs d (writeEnables src n w d) := by
  unfold writeEnables
  dsimp only
  exact regs_after (regs_same rfl) (regs_fieldEntry d src _ _ _ _)

theorem regs_writeForce {n : Nat} (hn : n < 4) (v : Word) : Regs d (writeForce n v d) :=
  regs_forEach _ _ (fun i hi y => regs_of_mild (mild_raiseForced (by
    have hi32 : i < 32 := by
      rw [mlist, List.mem_filter, List.mem_range] at hi
      exact hi.1
    omega) y)) d

theorem regs_writeRingDelay (src : Source) (w : Word) : Regs d (writeRingDelay src w d) := by
  unfold writeRingDelay
  dsimp only
  exact regs_after (regs_same rfl) (regs_forEach _ (fun m y => fieldEntry src 0x50 m (ringDelayReg d) w y)
    (fun m _ y => regs_fieldEntry y src _ _ _ _) d)

theorem regs_clearFlags (rise : Bool) (lo n v : Nat) : Regs d (clearFlags rise lo n v d) := by
  cases rise <;> exact regs_same rfl

theorem regs_publishSweep : Regs d (publishSweep d) := by
  unfold publishSweep
  split
  · split <;> exact regs_same rfl
  · exact regs_refl d

theorem regs_ite {p : Prop} [Decidable p] {x y : Dev} (hx : p → Regs d x) (hy : ¬ p → Regs d y) : Regs d (if p then x else y) := by
  split
  next h => exact hx h
  next h => exact hy h

/-- A register write that needs no mailbox. -/
theorem regs_writeReg (src : Source) (a : Nat) (w : Word) : Regs d (writeReg src a w d) := by
  have hsame : ∀ {x : Dev}, heart x = heart d → x.host.sdo = d.host.sdo → Regs d x := fun h hs => regs_same h hs
  have hstatus : Regs d { d with cmd.hkRestarted := d.cmd.hkRestarted && !bit w 28 } := fun _ => ⟨rfl, rfl, rfl, rfl⟩
  unfold writeReg
  refine regs_ite d (fun _ => hstatus) fun _ => regs_ite d (fun _ => regs_after (regs_same rfl) (regs_fieldEntry d _ _ _ _ _)) fun _ =>
    regs_ite d (fun _ => regs_writeLinkCtrl d src w) fun _ => regs_ite d (fun _ => hsame rfl rfl) fun _ =>
    regs_ite d (fun _ => regs_ite d (fun _ => hsame rfl rfl) fun _ => regs_refl d) fun _ =>
    regs_ite d (fun _ => regs_ite d (fun _ => regs_refl d) fun _ => regs_writeRingDelay d src w) fun _ =>
    regs_ite d (fun _ => regs_ite d (fun _ => regs_after (regs_publishSweep _) (regs_same rfl)) fun _ => regs_refl d) fun _ =>
    regs_ite d (fun _ => regs_phaseWord d w) fun _ =>
    regs_ite d (fun _ => regs_ite d (fun _ => regs_after (regs_tb _ _) (regs_fieldEntry d _ _ _ _ _)) fun _ => regs_refl d) fun _ =>
    regs_ite d (fun _ => hsame rfl rfl) fun _ => regs_ite d (fun _ => regs_writeFaultPin d src w) fun _ =>
    regs_ite d (fun _ => regs_clearFlags d _ _ _ _) fun _ => regs_ite d (fun _ => regs_clearFlags d _ _ _ _) fun _ =>
    regs_ite d (fun _ => regs_clearFlags d _ _ _ _) fun _ => regs_ite d (fun _ => regs_clearFlags d _ _ _ _) fun _ =>
    regs_ite d (fun _ => regs_after (regs_clearFlags _ _ _ _ _) (regs_clearFlags d _ _ _ _)) fun _ =>
    regs_ite d (fun _ => hsame rfl rfl) fun _ => regs_ite d (fun _ => regs_writeEnables d src _ w) fun _ =>
    regs_ite d (fun h => regs_writeForce d (by omega) w) fun _ => regs_refl d

theorem regs_afterRead (a : Nat) : Regs d (afterRead a d) := by
  have hrsp : Regs d (takeRsp d) := by
    unfold takeRsp
    split
    · exact regs_refl d
    · split <;> exact regs_same rfl
  unfold afterRead
  exact regs_ite d (fun _ => hrsp) fun _ => regs_ite d (fun _ => regs_same rfl) fun _ => regs_ite d (fun _ => regs_same rfl) fun _ =>
    regs_ite d (fun _ => regs_same rfl) fun _ => regs_ite d (fun _ => regs_same rfl) fun _ => regs_ite d (fun _ => regs_same rfl) fun _ =>
    regs_ite d (fun _ => regs_same rfl) fun _ => regs_ite d (fun _ => regs_same rfl) fun _ => regs_refl d

end Write

end Sys2Proof.Proofs
end

section
/-! PROOF. The SPI port answers the transaction before (13_host_port_and_mailboxes.md R395 to R400). -/

namespace Sys2Proof.Proofs

open Sys2Proof Sys2Proof.Machine Sys2Proof.Safety Sys2Proof.Laws

/-! ## The host's writes -/

/-- Where no source of a is set to SAFE_STATE, b has the heart of a but for the commands, what executes and the word on SDO stay. -/
def Mailed (a b : Dev) : Prop := NoSafe a → calmCore b = calmCore a ∧ b.cmd.busy = a.cmd.busy ∧ b.host.sdo = a.host.sdo

section Mailed

variable {a b c : Dev}

theorem mailed_of_regs (h : Regs a b) : Mailed a b := fun hn =>
  have hr := h hn
  ⟨hr.1, hr.2.1, hr.2.2.2⟩

theorem mailed_after (hbc : Mailed b c) (hab : Mailed a b) : Mailed a c := fun hn => by
  obtain ⟨h1, h2, h3⟩ := hab hn
  obtain ⟨g1, g2, g3⟩ := hbc (noSafe_of_calmCore h1 hn)
  exact ⟨g1.trans h1, g2.trans h2, g3.trans h3⟩

theorem mailed_sendMessage (d : Dev) : Mailed d (sendMessage d) := by
  unfold sendMessage
  dsimp only
  split
  · exact fun _ => ⟨rfl, rfl, rfl⟩
  · split <;> exact fun _ => ⟨rfl, rfl, rfl⟩

theorem mailed_hostWrite (x : Nat) (w : Word) (d : Dev) : Mailed d (hostWrite x w d) := by
  have hctrl : Mailed d (writeCmdCtrl w d) := by
    unfold writeCmdCtrl
    dsimp only
    split
    · exact fun _ => ⟨rfl, rfl, rfl⟩
    · split
      · exact mailed_after (mailed_sendMessage _) fun _ => ⟨rfl, rfl, rfl⟩
      · exact fun _ => ⟨rfl, rfl, rfl⟩
  unfold hostWrite
  split
  · unfold winWrite
    split <;> exact fun _ => ⟨rfl, rfl, rfl⟩
  · split
    · exact hctrl
    · split
      · split <;> exact fun _ => ⟨rfl, rfl, rfl⟩
      · exact mailed_of_regs (regs_writeReg d .spi x w)

theorem mailed_answerWrite (h : AnswerWrite a b) : Mailed a b := by
  unfold AnswerWrite at h
  rw [h]
  exact fun _ => ⟨rfl, rfl, rfl⟩

theorem mailed_raise {k : Nat} (hk : k < 128) (d : Dev) : Mailed d (raise k d) := mailed_of_regs (regs_of_mild (mild_raise hk d))

theorem mailed_unknownCmd (bcast : Bool) (ws : List Word) (d : Dev) : Mailed d (unknownCmd bcast ws d) := by
  have hseq : ∀ (seq : Nat) (gap : Bool), Mailed d (countSeq seq gap d) := fun seq gap => by
    unfold countSeq
    dsimp only
    split
    · exact mailed_after (mailed_raise (by decide) _) fun _ => ⟨rfl, rfl, rfl⟩
    · exact fun _ => ⟨rfl, rfl, rfl⟩
  have hdeliver : ∀ (silent : Bool) (code seq len : Nat) (l : List Word) (y : Dev), Mailed y (deliver bcast silent code seq len l y) :=
    fun _ _ _ _ _ _ => mailed_answerWrite (answerWrite_deliver _ _ _ _ _ _ _)
  unfold unknownCmd
  dsimp only
  split
  · exact mailed_after (hdeliver _ _ _ _ _ _) (mailed_after (mailed_raise (by decide) _) fun _ => ⟨rfl, rfl, rfl⟩)
  · split
    · exact hdeliver _ _ _ _ _ _
    · split
      · exact hdeliver _ _ _ _ _ _
      · exact mailed_after (mailed_answerWrite (answerWrite_answer _ _ _ _ _ _ _ _ _)) (hseq _ _)

theorem mailed_flushUnknown (d : Dev) : Mailed d (flushUnknown d) := by
  unfold flushUnknown
  split
  · split
    · exact mailed_after (mailed_unknownCmd _ _ _) fun _ => ⟨rfl, rfl, rfl⟩
    · exact fun _ => ⟨rfl, rfl, rfl⟩
  · exact fun _ => ⟨rfl, rfl, rfl⟩

end Mailed

section Answers

variable {s : State} {i : Instr} {f : Dev → Dev} {a : Dev}

theorem alone_of_calm (hc : Calm s.toDev) : Alone s :=
  ⟨hc.2.1, hc.2.2.1, hc.2.2.2, fun b hb => by rw [hc.1] at hb; cases hb⟩

/-- A command of the host on a calm block: a message that it has sent with an unknown code is answered at once. -/
theorem answers_mailed (hi : exec i s = runDev s f) (hf : f s.toDev = a) (hc : Calm s.toDev) (hn : NoSafe s.toDev) (h : Mailed s.toDev a) :
    Answers i s (fun t => Beside (flushUnknown a) t ∧ t.host.sdo = a.host.sdo) := by
  obtain ⟨hcore, hbusy, -⟩ := h hn
  obtain ⟨hflush, -, hsdo⟩ := mailed_flushUnknown a (noSafe_of_calmCore hcore hn)
  refine answers_mono (answers_flushed (alone_of_calm hc) hi hf hcore (.inr hbusy) hflush) fun t ht => ⟨ht, ?_⟩
  rw [host_of_beside ht, hsdo]

theorem answers_regs (hi : exec i s = runDev s f) (hf : f s.toDev = a) (hc : Calm s.toDev) (hn : NoSafe s.toDev) (h : Regs s.toDev a) :
    Answers i s (Beside a) := by
  obtain ⟨hcore, hbusy, hwait, -⟩ := h hn
  exact answers_still (alone_of_calm hc) hi hf hcore (.inr hbusy) (hwait.trans hc.2.1)

end Answers

/-! ## A transaction -/

/-- The head with the answer to the transaction before on SDO. -/
def spiBase (d : Dev) : Dev := { spiOut d with host.lastNop := false, host.burst := [] }

theorem spiOut_leaves (d : Dev) : spiOut d = { d with host.sdo := (spiOut d).host.sdo, host.remoteRes := (spiOut d).host.remoteRes } ∧
    (d.host.lastNop = false ∨ d.host.remoteRes = none → (spiOut d).host.sdo = spiWord d.host.sstat d.host.rAddr d.host.rData) ∧
    (∀ st b v, d.host.lastNop = true → d.host.remoteRes = some (st, b, v) → (spiOut d).host.sdo = spiWord st b v) ∧
    (spiOut d).host.remoteRes = (if d.host.lastNop then none else d.host.remoteRes) := by
  have hset : ∀ (x : BitVec 64) (r : Option (Nat × Nat × Word)), ({ d with host.sdo := x, host.remoteRes := r } : Dev) = { d with
      host.sdo := ({ d with host.sdo := x, host.remoteRes := r } : Dev).host.sdo
      host.remoteRes := ({ d with host.sdo := x, host.remoteRes := r } : Dev).host.remoteRes } := fun _ _ => rfl
  unfold spiOut
  split
  next st b v h1 h2 =>
    refine ⟨hset _ _, fun h => ?_, fun st' b' v' _ h => ?_, by rw [h1]; rfl⟩
    · simp [h1, h2] at h
    · rw [h2] at h
      cases h
      rfl
  next h =>
    refine ⟨hset _ d.host.remoteRes, fun _ => rfl, fun st b v h1 h2 => absurd h2 (h st b v h1), ?_⟩
    cases h1 : d.host.lastNop with
    | false => rfl
    | true =>
      cases h2 : d.host.remoteRes with
      | none => simp
      | some x => exact absurd h2 (h x.1 x.2.1 x.2.2 h1)

theorem heart_spiBase (d : Dev) : heart (spiBase d) = heart d := by
  unfold spiBase
  rw [(spiOut_leaves d).1]
  rfl

theorem spiTransaction_other {q : BitVec 64} {d : Dev} (h : isHead d = false ∨ awake d = false) : spiTransaction q d = d :=
  if_pos (by simpa using h)

theorem spiTransaction_good {q : BitVec 64} {d : Dev} (hh : isHead d = true) (ha : awake d = true)
    (hg : crc8 56 (q.toNat / 256) = q.toNat % 256) : spiTransaction q d =
    spiRequest (q.toNat / 2 ^ 62) (q.toNat / 2 ^ 56 % 64) (q.toNat / 2 ^ 40 % 2 ^ 16) (Word.of (q.toNat / 256)) (spiBase d) := by
  unfold spiTransaction
  rw [if_neg (by simp [hh, ha])]
  exact if_neg (by simp [hg])

theorem spiTransaction_bad {q : BitVec 64} {d : Dev} (hh : isHead d = true) (ha : awake d = true)
    (hg : crc8 56 (q.toNat / 256) ≠ q.toNat % 256) : spiTransaction q d =
    spiAnswer 2 (q.toNat / 2 ^ 40 % 2 ^ 16) 0 (raise 125 { spiBase d with host.spiCrc := satInc 255 d.host.spiCrc }) := by
  unfold spiTransaction
  rw [if_neg (by simp [hh, ha])]
  exact if_pos (by simp [hg])

section Request

variable (d : Dev)

theorem regs_spiAnswer (st a : Nat) (v : Word) : Regs d (spiAnswer st a v d) := regs_same rfl

theorem regs_readReg (a : Nat) : Regs d (readReg a d).2 := by
  unfold readReg
  split
  · exact regs_afterRead d a
  · exact regs_refl d

theorem regs_spiRemote (dev a : Nat) (v : Option Word) : Regs d (spiRemote dev a v d) := by
  unfold spiRemote
  exact regs_ite d (fun _ => regs_spiAnswer d _ _ _) fun _ => regs_ite d (fun _ => regs_spiAnswer d _ _ _) fun _ =>
    regs_ite d (fun _ => regs_spiAnswer d _ _ _) fun _ => regs_same rfl

/-- One register of a BURST is read (R400). -/
def burstStep (a : Nat) (r : List Word × Bool × Dev) (i : Nat) : List Word × Bool × Dev :=
  let x := if isWindow a then a else a + 4 * i
  let v := readReg x r.2.2
  (r.1 ++ [v.1], r.2.1 || !mapped true x, v.2)

theorem burstWords_eq (a n : Nat) : burstWords a n d = (List.range n).foldl (burstStep a) ([], false, d) := rfl

theorem regs_burstWords (a n : Nat) : Regs d (burstWords a n d).2.2 := by
  have hfold : ∀ (l : List Nat) (r : List Word × Bool × Dev), Regs r.2.2 (l.foldl (burstStep a) r).2.2 := fun l => by
    induction l with
    | nil => exact fun r => regs_refl _
    | cons x t ih => exact fun r => regs_after (ih _) (regs_readReg r.2.2 _)
  rw [burstWords_eq]
  exact hfold _ ([], false, d)

theorem mailed_spiRequest (kind dev a : Nat) (w : Word) : Mailed d (spiRequest kind dev a w d) := by
  unfold spiRequest
  split
  · exact mailed_of_regs (regs_same rfl)
  · exact mailed_of_regs (regs_ite d (fun _ => regs_ite d (fun _ => regs_after (regs_spiAnswer _ _ _ _) (regs_readReg d a)) fun _ =>
      regs_spiAnswer d _ _ _) fun _ => regs_ite d (fun _ => regs_spiAnswer d _ _ _) fun _ => regs_spiRemote d dev a none)
  · split
    · split
      · exact mailed_after (mailed_of_regs (regs_spiAnswer _ _ _ _)) (mailed_hostWrite a w d)
      · exact mailed_of_regs (regs_spiAnswer d _ _ _)
    · exact mailed_of_regs (regs_spiRemote d dev a (some w))
  · exact mailed_of_regs (regs_ite d (fun _ => regs_spiAnswer d _ _ _) fun _ => regs_after (regs_same rfl) (regs_burstWords d a _))

end Request

end Sys2Proof.Proofs
end

section
/-! PROOF. What each SPI transaction answers (13_host_port_and_mailboxes.md R396 to R400). -/

namespace Sys2Proof.Proofs

open Sys2Proof Sys2Proof.Machine Sys2Proof.Safety Sys2Proof.Laws

theorem bf_low (w : Word) (n : Nat) : bf w 0 n = w.toNat % 2 ^ n := by simp [bf]

section Request

variable {dev a : Nat} {w : Word} {d : Dev}

theorem spiRequest_read (hd : dev ≤ 1) (hh : isHead d = true) (hm : mapped true a = true) :
    spiRequest 1 dev a w d = spiAnswer 0 a (regWord d a) (afterRead a d) := by
  have hread : readReg a d = (regWord d a, afterRead a d) := if_pos (by rw [hh]; exact hm)
  show (if dev ≤ 1 then (if mapped true a then _ else _) else _) = _
  rw [if_pos hd, if_pos hm, hread]

theorem spiRequest_readUnmapped (hd : dev ≤ 1) (hm : mapped true a = false) : spiRequest 1 dev a w d = spiAnswer 4 a 0 d := by
  show (if dev ≤ 1 then (if mapped true a then _ else _) else _) = _
  rw [if_pos hd, if_neg (by simp [hm])]

theorem spiRequest_readAll : spiRequest 1 63 a w d = spiAnswer 3 a 0 d := rfl

theorem spiRequest_readRemote (hd : 2 ≤ dev) (h63 : dev ≠ 63) : spiRequest 1 dev a w d = spiRemote dev a none d := by
  show (if dev ≤ 1 then _ else if dev = 63 then _ else _) = _
  rw [if_neg (by omega), if_neg h63]

theorem spiRequest_write (hd : dev ≤ 1) (hm : mapped true a = true) : spiRequest 2 dev a w d = spiAnswer 0 a w (hostWrite a w d) := by
  show (if dev ≤ 1 then (if mapped true a then _ else _) else _) = _
  rw [if_pos hd, if_pos hm]

theorem spiRequest_writeUnmapped (hd : dev ≤ 1) (hm : mapped true a = false) : spiRequest 2 dev a w d = spiAnswer 4 a 0 d := by
  show (if dev ≤ 1 then (if mapped true a then _ else _) else _) = _
  rw [if_pos hd, if_neg (by simp [hm])]

theorem spiRequest_writeRemote (hd : 2 ≤ dev) : spiRequest 2 dev a w d = spiRemote dev a (some w) d := if_neg (by omega)

theorem spiRequest_burstBad (h : 2 ≤ dev ∨ w.toNat % 2048 = 0 ∨ 1024 < w.toNat % 2048) : spiRequest 3 dev a w d = spiAnswer 3 a 0 d := by
  show (if 1 < dev || bf w 0 11 = 0 || 1024 < bf w 0 11 then _ else _) = _
  rw [bf_low, if_pos]
  simp only [Bool.or_eq_true, decide_eq_true_eq]
  omega

theorem spiRequest_burst (hd : dev ≤ 1) (h1 : 1 ≤ w.toNat % 2048) (h2 : w.toNat % 2048 ≤ 1024) : spiRequest 3 dev a w d =
    spiAnswer (if (burstWords a (w.toNat % 2048) d).2.1 then 4 else 0) a (Word.of (w.toNat % 2048))
      { (burstWords a (w.toNat % 2048) d).2.2 with host.burst := burstGroups (burstWords a (w.toNat % 2048) d).1 } := by
  have hlow : bf w 0 11 = w.toNat % 2048 := bf_low w 11
  show (if 1 < dev || bf w 0 11 = 0 || 1024 < bf w 0 11 then _ else _) = _
  rw [hlow, if_neg]
  simp only [Bool.or_eq_true, decide_eq_true_eq]
  omega

/-- The word and its CRC-8 are all that a BURST of one brings. -/
theorem burstGroups_one (v : Word) : burstGroups [v] = [v, Word.of (crc8Words [v])] := by simp [burstGroups, cdiv]

theorem burstWords_one (hh : isHead d = true) (hm : mapped true a = true) : burstWords a 1 d = ([regWord d a], false, afterRead a d) := by
  have hx : (if isWindow a then a else a + 4 * 0) = a := by simp
  have hread : readReg a d = (regWord d a, afterRead a d) := if_pos (by rw [hh]; exact hm)
  rw [burstWords_eq]
  show burstStep a ([], false, d) 0 = _
  unfold burstStep
  dsimp only
  rw [hx, hread, hm]
  rfl

end Request

section Remote

variable {dev a : Nat} {v : Option Word} {d : Dev}

theorem spiRemote_unmapped (hm : mapped false a = false) : spiRemote dev a v d = spiAnswer 4 a 0 d := if_pos (by simp [hm])

theorem spiRemote_busy (hm : mapped false a = true) (hr : d.host.remote ≠ none) : spiRemote dev a v d = spiAnswer 5 a 0 d := by
  unfold spiRemote
  rw [if_neg (by simp [hm]), if_pos (Option.isSome_iff_ne_none.mpr hr)]

theorem spiRemote_absent (hm : mapped false a = true) (hr : d.host.remote = none)
    (h : (dev ≠ 63 ∧ (mapAt d dev).present = false) ∨ d.ring.stat = .conflict) : spiRemote dev a v d = spiAnswer 6 a 0 d := by
  unfold spiRemote
  rw [if_neg (by simp [hm]), if_neg (by simp [hr]), if_pos (by simpa using h)]

theorem spiRemote_pends (hm : mapped false a = true) (hr : d.host.remote = none) (hp : dev = 63 ∨ (mapAt d dev).present = true)
    (hs : d.ring.stat ≠ .conflict) : spiRemote dev a v d = spiAnswer 1 a (v.getD 0) { d with
      host.remote := some { dev := dev, addr := a, write := v.isSome, value := v.getD 0 }
      head.tunnel := d.head.tunnel ++ [{ Flight.reset with typ := if v.isSome then 6 else 7, addr := dev, kind := 4, body := Word.of a :: v.toList }] } := by
  have hno : ¬ ((dev != 63 && !(mapAt d dev).present || d.ring.stat == .conflict) = true) := by
    rcases hp with hp | hp <;> simp [hp, hs]
  unfold spiRemote
  rw [if_neg (by simp [hm]), if_neg (by simp [hr]), if_neg hno]

end Remote

/-- SPI_SHORT_TRANSACTION (R395). -/
def shortRun (d : Dev) : Dev := if isHead d && awake d then { spiAnswer 0x07 0 0 d with host.lastNop := false } else d

/-- REMOTE_ACCESS_DONE (R397). -/
def remoteRun (ok : Bool) (v : Word) (d : Dev) : Dev :=
  if isHead d && awake d && d.host.remote.isSome then
    remoteDone ok v { d with
      head.flights := d.head.flights.filter (fun (f : Flight) => f.kind != 4)
      head.retry := d.head.retry.filter (fun (f : Flight) => f.kind != 4) }
  else d

/-- A transaction answers in the next one. -/
def Answered (q : BitVec 64) (t : Dev) (st : Nat) (v : Word) : Prop :=
  t.host.sstat = st ∧ t.host.rAddr = q.toNat / 2 ^ 40 % 2 ^ 16 ∧ t.host.rData = v

theorem answered_of_beside {q : BitVec 64} {st : Nat} {v : Word} {x t : Dev} (h : Beside (spiAnswer st (q.toNat / 2 ^ 40 % 2 ^ 16) v x) t) :
    Answered q t st v := by
  unfold Answered
  rw [host_of_beside h]
  exact ⟨rfl, rfl, rfl⟩

section Transaction

variable {s : State} {q : BitVec 64} {c : Instr} {y : Dev}

/-- The request of a transaction, its CRC-8 good, where it leaves a message with an unknown code unsent. -/
theorem answers_request (hexec : exec c s = runDev s (spiTransaction q)) (hc : Calm s.toDev) (hn : NoSafe s.toDev)
    (hh : isHead s.toDev = true) (ha : awake s.toDev = true) (hg : crc8 56 (q.toNat / 256) = q.toNat % 256)
    (hy : spiRequest (q.toNat / 2 ^ 62) (q.toNat / 2 ^ 56 % 64) (q.toNat / 2 ^ 40 % 2 ^ 16) (Word.of (q.toNat / 256)) (spiBase s.toDev) = y)
    (hregs : Regs (spiBase s.toDev) y) : Answers c s (Beside y) := by
  have hheart : heart (spiBase s.toDev) = heart s.toDev := heart_spiBase s.toDev
  have hcmd : (spiBase s.toDev).cmd = s.cmd := congrArg Heart.cmd hheart
  have hcore := calmCore_of_heart hheart
  obtain ⟨hy1, hy2, hy3, -⟩ := hregs (noSafe_of_calmCore hcore hn)
  exact answers_still (alone_of_calm hc) hexec ((spiTransaction_good hh ha hg).trans hy) (hy1.trans hcore)
    (.inr (hy2.trans (congrArg Cmd.busy hcmd))) (hy3.trans ((congrArg Cmd.waiting hcmd).trans hc.2.1))

/-- A transaction that may leave a message with an unknown code, which is answered at once. -/
theorem answers_spi (hexec : exec c s = runDev s (spiTransaction q)) (hc : Calm s.toDev) (hn : NoSafe s.toDev)
    (hy : spiTransaction q s.toDev = y) (hmailed : Mailed (spiBase s.toDev) y) :
    Answers c s (fun t => Beside (flushUnknown y) t ∧ t.host.sdo = (spiOut s.toDev).host.sdo) := by
  have hheart : heart (spiBase s.toDev) = heart s.toDev := heart_spiBase s.toDev
  have hcmd : (spiBase s.toDev).cmd = s.cmd := congrArg Heart.cmd hheart
  have hcore := calmCore_of_heart hheart
  obtain ⟨hy1, hy2, hy3⟩ := hmailed (noSafe_of_calmCore hcore hn)
  obtain ⟨hflush, -, hsdo⟩ := mailed_flushUnknown y (noSafe_of_calmCore (hy1.trans hcore) hn)
  refine answers_mono (answers_flushed (alone_of_calm hc) hexec hy (hy1.trans hcore) (.inr (hy2.trans (congrArg Cmd.busy hcmd))) hflush) fun t ht => ⟨ht, ?_⟩
  rw [host_of_beside ht, hsdo, hy3]
  rfl

/-- So it is, and the answer is kept for the next transaction. -/
theorem answers_answered {st : Nat} {v : Word} {x : Dev} (hexec : exec c s = runDev s (spiTransaction q)) (hc : Calm s.toDev)
    (hn : NoSafe s.toDev) (hh : isHead s.toDev = true) (ha : awake s.toDev = true) (hg : crc8 56 (q.toNat / 256) = q.toNat % 256)
    (hy : spiRequest (q.toNat / 2 ^ 62) (q.toNat / 2 ^ 56 % 64) (q.toNat / 2 ^ 40 % 2 ^ 16) (Word.of (q.toNat / 256)) (spiBase s.toDev) =
      spiAnswer st (q.toNat / 2 ^ 40 % 2 ^ 16) v x)
    (hregs : Regs (spiBase s.toDev) x) :
    Answers c s (fun t => Answered q t st v ∧ Beside (spiAnswer st (q.toNat / 2 ^ 40 % 2 ^ 16) v x) t) :=
  answers_mono (answers_request hexec hc hn hh ha hg hy (regs_after (regs_spiAnswer _ _ _ _) hregs)) fun _ ht => ⟨answered_of_beside ht, ht⟩

/-- One with a bad CRC-8. -/
theorem answers_raised (hexec : exec c s = runDev s (spiTransaction q)) (hc : Calm s.toDev) (hn : NoSafe s.toDev)
    (hy : spiTransaction q s.toDev = spiAnswer 2 (q.toNat / 2 ^ 40 % 2 ^ 16) 0 (raise 125 { spiBase s.toDev with host.spiCrc := satInc 255 s.host.spiCrc })) :
    Answers c s (Beside (spiAnswer 2 (q.toNat / 2 ^ 40 % 2 ^ 16) 0 (raise 125 { spiBase s.toDev with host.spiCrc := satInc 255 s.host.spiCrc }))) := by
  have hcore : calmCore (spiBase s.toDev) = calmCore s.toDev := calmCore_of_heart (heart_spiBase s.toDev)
  have hregs : Regs (spiBase s.toDev) (raise 125 { spiBase s.toDev with host.spiCrc := satInc 255 s.host.spiCrc }) :=
    regs_after (regs_of_mild (mild_raise (by decide) _)) (regs_same rfl)
  have hcmd : (spiBase s.toDev).cmd = s.cmd := congrArg Heart.cmd (heart_spiBase s.toDev)
  obtain ⟨hy1, hy2, hy3, -⟩ := hregs (noSafe_of_calmCore hcore hn)
  exact answers_still (alone_of_calm hc) hexec hy (hy1.trans hcore) (.inr (hy2.trans (congrArg Cmd.busy hcmd)))
    (hy3.trans ((congrArg Cmd.waiting hcmd).trans hc.2.1))

end Transaction

/-- A NOP changes the host interface only. -/
theorem nop_leaves (d : Dev) (a : Nat) : ({ spiAnswer 0 a 0 (spiBase d) with host.lastNop := true } : Dev) =
    { d with host := { d.host with sdo := (spiOut d).host.sdo, lastNop := true, burst := [], sstat := 0, rAddr := a, rData := 0
                                   remoteRes := (spiOut d).host.remoteRes } } := by
  unfold spiBase
  rw [(spiOut_leaves d).1]
  rfl

theorem writeReg_irqEn (src : Source) (w : Word) (d : Dev) : (writeReg src 0x18 w d).host.irqEn = BitVec.ofNat 9 w.toNat := by
  unfold writeReg
  rw [if_neg (by decide), if_pos rfl]

theorem hostWrite_irqEn (w : Word) (d : Dev) : hostWrite 0x18 w d = writeReg .spi 0x18 w d := by
  unfold hostWrite
  rw [if_neg (by decide), if_neg (by decide), if_neg (by decide)]

theorem spiBase_leaves (d : Dev) : (spiBase d).host.remote = d.host.remote ∧ (spiBase d).ring = d.ring ∧
    (spiBase d).head.tunnel = d.head.tunnel ∧ ∀ n, mapAt (spiBase d) n = mapAt d n := by
  unfold spiBase
  rw [(spiOut_leaves d).1]
  exact ⟨rfl, rfl, rfl, fun _ => rfl⟩

/-- READ and WRITE of a member, and WRITE of all (R398). -/
theorem remote_answers {s : State} {q : BitVec 64} {c : Instr} {wr : Bool} {kind dev a : Nat} {w : Word}
    (hcase : (c = .spiRead q ∧ kind = 1 ∧ wr = false ∧ dev ≠ 63) ∨ (c = .spiWrite q ∧ kind = 2 ∧ wr = true))
    (hkind : q.toNat / 2 ^ 62 = kind) (hdev : q.toNat / 2 ^ 56 % 64 = dev) (hadr : q.toNat / 2 ^ 40 % 2 ^ 16 = a)
    (hword : Word.of (q.toNat / 256) = w) (hc : Calm s.toDev) (hn : NoSafe s.toDev)
    (hh : isHead s.toDev = true) (ha : awake s.toDev = true) (hg : crc8 56 (q.toNat / 256) = q.toNat % 256) (hd : 2 ≤ dev) :
    (mapped false a = false → Answers c s (fun t => Answered q t 4 0 ∧ Beside (spiAnswer 4 a 0 (spiBase s.toDev)) t)) ∧
    (mapped false a = true → s.host.remote ≠ none → Answers c s (fun t => Answered q t 5 0 ∧ Beside (spiAnswer 5 a 0 (spiBase s.toDev)) t)) ∧
    (mapped false a = true → s.host.remote = none → ((dev ≠ 63 ∧ (mapAt s.toDev dev).present = false) ∨ s.ring.stat = .conflict) →
      Answers c s (fun t => Answered q t 6 0 ∧ Beside (spiAnswer 6 a 0 (spiBase s.toDev)) t)) ∧
    (mapped false a = true → s.host.remote = none → (dev = 63 ∨ (mapAt s.toDev dev).present = true) → s.ring.stat ≠ .conflict →
      Answers c s (Beside (spiAnswer 1 a (if wr then w else 0) { spiBase s.toDev with
        host.remote := some { dev := dev, addr := a, write := wr, value := if wr then w else 0 }
        head.tunnel := s.head.tunnel ++ [{ Flight.reset with typ := if wr then 6 else 7, addr := dev, kind := 4
                                                             body := Word.of a :: (if wr then [w] else []) }] }))) := by
  have hremote : spiRequest kind dev a w (spiBase s.toDev) = spiRemote dev a (if wr then some w else none) (spiBase s.toDev) := by
    rcases hcase with ⟨-, rfl, rfl, h63⟩ | ⟨-, rfl, rfl⟩
    · exact spiRequest_readRemote hd h63
    · exact spiRequest_writeRemote hd
  have hexec : exec c s = runDev s (spiTransaction q) := by
    rcases hcase with ⟨rfl, -⟩ | ⟨rfl, -⟩ <;> rfl
  clear hcase
  obtain ⟨hr, hring, htun, hmap⟩ := spiBase_leaves s.toDev
  subst kind dev a w
  refine ⟨fun hm => ?_, fun hm hp => ?_, fun hm hp h => ?_, fun hm hp h hs => ?_⟩
  · exact answers_answered hexec hc hn hh ha hg (hremote.trans (spiRemote_unmapped hm)) (regs_refl _)
  · exact answers_answered hexec hc hn hh ha hg (hremote.trans (spiRemote_busy hm (by rw [hr]; exact hp))) (regs_refl _)
  · exact answers_answered hexec hc hn hh ha hg (hremote.trans (spiRemote_absent hm (hr.trans hp) (by rw [hmap, hring]; exact h))) (regs_refl _)
  · have hy := hremote.trans (spiRemote_pends hm (hr.trans hp) (by rw [hmap]; exact h) (by rw [hring]; exact hs))
    rw [htun] at hy
    cases wr with
    | false => exact answers_request hexec hc hn hh ha hg hy (regs_same rfl)
    | true => exact answers_request hexec hc hn hh ha hg hy (regs_same rfl)

/-- Settles O48: what SDO carries is the answer before; a request has the effect of its kind, one with a bad CRC-8 is counted. -/
theorem spiTransactionsAnswerNext : Obligations.SpiTransactionsAnswerNext := by
  intro s q hc hn kind dev a w good o answered
  have hspi : ∀ c ∈ [Instr.spiNop q, .spiRead q, .spiWrite q, .spiBurst q], exec c s = runDev s (spiTransaction q) := fun c h => by
    simp only [List.mem_cons, List.not_mem_nil, or_false] at h
    rcases h with rfl | rfl | rfl | rfl <;> rfl
  have hheart : heart o = heart s.toDev := heart_spiBase s.toDev
  have hcore : calmCore o = calmCore s.toDev := calmCore_of_heart hheart
  have hno : NoSafe o := noSafe_of_calmCore hcore hn
  have hcmd : o.cmd = s.cmd := congrArg Heart.cmd hheart
  obtain ⟨hout, hsdo1, hsdo2, hres⟩ := spiOut_leaves s.toDev
  have hho : isHead s.toDev = true → isHead o = true := fun h => (isHead_of_power (power_of_heart hheart)).trans h
  refine ⟨fun h c hm => ?_, fun hh ha => ⟨fun c hm => ⟨fun hg => ?_, fun hg => ?_, ?_⟩, fun hg hk => ?_, fun hg hk => ⟨fun hd hm => ?_, fun hd hm => ?_, fun hd => ?_⟩,
    fun hg hk hd => ⟨fun hm => ?_, fun hx => ?_, fun hm => ?_⟩, fun c wr hcase hg hd => ?_, fun hg hk => ⟨fun h => ?_, fun hd h1 h2 => ?_, fun hd h1 hm => ?_⟩, ?_⟩,
    fun r ok v hh ha hr => ?_, fun h ok v => ?_⟩
  · rcases List.mem_append.mp (show c ∈ [Instr.spiNop q, .spiRead q, .spiWrite q, .spiBurst q] ++ [.spiShortTransaction] from hm) with hm | hm
    · exact answers_same (hspi c hm) hc (spiTransaction_other h)
    · rw [List.mem_singleton.mp hm]
      exact answers_same (f := shortRun) rfl hc (if_neg (by rcases h with h | h <;> simp [h]))
  · exact answers_mono (answers_spi (hspi c hm) hc hn (spiTransaction_good hh ha hg) (mailed_spiRequest o _ _ _ _)) fun _ h => h.1
  · have hy := spiTransaction_bad hh ha hg
    have hc0 : heart { o with host.spiCrc := satInc 255 s.host.spiCrc } = heart o := rfl
    have hn0 := noSafe_of_calmCore (calmCore_of_heart hc0) hno
    have hk := mild_raise (by decide : 125 < 128) { o with host.spiCrc := satInc 255 s.host.spiCrc } hn0
    have hevf := evf_occurs (by decide : 125 < 128) 0xFFFF [] false hn0 (by cases ({ o with host.spiCrc := satInc 255 s.host.spiCrc } : Dev).part <;> rfl)
    have hspiCrc : (raise 125 { o with host.spiCrc := satInc 255 s.host.spiCrc }).host.spiCrc = satInc 255 s.host.spiCrc :=
      congrArg (fun d : Dev => d.host.spiCrc) hk.core
    refine answers_mono (answers_raised (hspi c hm) hc hn hy) fun t ht => ⟨answered_of_beside ht, ?_, ?_, ht⟩
    · rw [host_of_beside ht]
      exact hspiCrc
    · rw [host_of_beside ht]
      exact hevf
  · have hmailed : Mailed o (spiTransaction q s.toDev) := by
      by_cases hg : crc8 56 (q.toNat / 256) = q.toNat % 256
      · rw [spiTransaction_good hh ha hg]
        exact mailed_spiRequest o _ _ _ _
      · rw [spiTransaction_bad hh ha hg]
        exact mailed_after (mailed_of_regs (regs_spiAnswer _ _ _ _)) (mailed_after (mailed_raise (by decide) _) (mailed_of_regs (regs_same rfl)))
    refine answers_mono (answers_spi (hspi c hm) hc hn rfl hmailed) fun t ht => ⟨fun h => ht.2.trans (hsdo1 h), fun st b v h1 h2 => ht.2.trans (hsdo2 st b v h1 h2)⟩
  · have hy : spiRequest kind dev a w o = { spiAnswer 0 a 0 o with host.lastNop := true } := by rw [hk]; rfl
    refine answers_mono (answers_request (hspi _ (by simp)) hc hn hh ha hg hy (regs_same rfl)) fun t ht => ?_
    have hsame := nop_leaves s.toDev a
    have hth := host_of_beside ht
    refine ⟨?_, ?_, ?_, ?_⟩
    · unfold answered
      rw [hth]
      exact ⟨rfl, rfl, rfl⟩
    · rw [hth]
    · rw [hth]
      exact hres
    · rw [hth]
      exact hsame ▸ ht
  · exact answers_answered (hspi _ (by simp)) hc hn hh ha hg ((by rw [hk] : spiRequest kind dev a w o = spiRequest 1 dev a w o).trans
      (spiRequest_read hd (hho hh) hm)) (regs_afterRead o a)
  · exact answers_answered (hspi _ (by simp)) hc hn hh ha hg ((by rw [hk] : spiRequest kind dev a w o = spiRequest 1 dev a w o).trans
      (spiRequest_readUnmapped hd hm)) (regs_refl o)
  · exact answers_answered (hspi _ (by simp)) hc hn hh ha hg ((by rw [hk, hd] : spiRequest kind dev a w o = spiRequest 1 63 a w o).trans
      spiRequest_readAll) (regs_refl o)
  · have hy : spiRequest kind dev a w o = spiAnswer 0 a w (hostWrite a w o) := (by rw [hk] : spiRequest kind dev a w o = spiRequest 2 dev a w o).trans
      (spiRequest_write hd hm)
    exact answers_mono (answers_spi (hspi _ (by simp)) hc hn ((spiTransaction_good hh ha hg).trans hy)
      (mailed_after (mailed_of_regs (regs_spiAnswer _ _ _ _)) (mailed_hostWrite a w o))) fun _ h => h.1
  · have hy : spiRequest kind dev a w o = spiAnswer 0 a w (writeReg .spi 0x18 w o) := by
      rw [hk, spiRequest_write hd (by rw [hx]; rfl), hx, hostWrite_irqEn]
    refine answers_mono (answers_answered (hspi _ (by simp)) hc hn hh ha hg hy (regs_writeReg o .spi 0x18 w)) fun t ht => ⟨ht.1, ?_⟩
    rw [host_of_beside ht.2]
    exact writeReg_irqEn .spi w o
  · exact answers_answered (hspi _ (by simp)) hc hn hh ha hg ((by rw [hk] : spiRequest kind dev a w o = spiRequest 2 dev a w o).trans
      (spiRequest_writeUnmapped hd hm)) (regs_refl o)
  · exact remote_answers hcase rfl rfl rfl rfl hc hn hh ha hg hd
  · exact answers_answered (hspi _ (by simp)) hc hn hh ha hg ((by rw [hk] : spiRequest kind dev a w o = spiRequest 3 dev a w o).trans
      (spiRequest_burstBad h)) (regs_refl o)
  · intro r
    have hy := (by rw [hk] : spiRequest kind dev a w o = spiRequest 3 dev a w o).trans (spiRequest_burst hd h1 h2)
    have hregs : Regs o { r.2.2 with host.burst := burstGroups r.1 } := regs_after (regs_same rfl) (regs_burstWords o a _)
    refine answers_mono (answers_answered (hspi _ (by simp)) hc hn hh ha hg hy hregs) fun t ht => ⟨ht.1, ?_, ?_⟩
    · rw [host_of_beside ht.2]
      rfl
    · rw [host_of_beside ht.2]
      exact ht.2
  · have hw := burstWords_one (hho hh) hm
    have hy := (by rw [hk] : spiRequest kind dev a w o = spiRequest 3 dev a w o).trans (spiRequest_burst hd (by omega) (by omega))
    rw [h1, hw, burstGroups_one] at hy
    have hregs : Regs o { afterRead a o with host.burst := [regWord o a, Word.of (crc8Words [regWord o a])] } :=
      regs_after (regs_same rfl) (regs_afterRead o a)
    refine answers_mono (answers_answered (hspi _ (by simp)) hc hn hh ha hg hy hregs) fun t ht => ⟨ht.1, ?_⟩
    rw [host_of_beside ht.2]
    rfl
  · exact answers_heart (f := shortRun) rfl (if_pos (by simp [hh, ha])) hc rfl
  · have hrun : remoteRun ok v s.toDev = remoteDone ok v { s.toDev with
        head.flights := s.head.flights.filter (fun (f : Flight) => f.kind != 4)
        head.retry := s.head.retry.filter (fun (f : Flight) => f.kind != 4) } := if_pos (by simp [hh, ha, hr])
    have hdone : remoteRun ok v s.toDev = { s.toDev with
        host.remote := none
        host.remoteRes := some (if ok then 0x80 else 0x86, r.addr, if r.write then r.value else v)
        head.flights := s.head.flights.filter (fun (f : Flight) => f.kind != 4)
        head.retry := s.head.retry.filter (fun (f : Flight) => f.kind != 4)
        head.tunnel := s.head.tunnel.filter (fun (f : Flight) => f.kind != 4) } := hrun.trans (by unfold remoteDone; simp only [hr])
    exact answers_heart (f := remoteRun ok v) rfl hdone hc rfl
  · exact answers_same (f := remoteRun ok v) rfl hc (if_neg (by rcases h with h | h | h <;> simp [h]))

end Sys2Proof.Proofs
end

section
/-! PROOF. The command mailbox, the response window and the counters that clear as they are read (13_host_port_and_mailboxes.md
R408 to R421). -/

namespace Sys2Proof.Proofs

open Sys2Proof Sys2Proof.Machine Sys2Proof.Safety Sys2Proof.Laws

/-! ## An occurrence that names no unit, with any reaction -/

/-- What keeps the test DAC idle, with the captures: a reaction of a source without units, the safe state too, leaves it. -/
def dacCore (d : Dev) : Heart := { calmCore d with power := Power.reset }

section DacCore

variable {a b d : Dev}

theorem dacIdle_of_dacCore (h : dacCore b = dacCore a) (hi : DacIdle a) : DacIdle b := by
  have hv : b.aux.toVerify = a.aux.toVerify := congrArg Heart.toVerify h
  have hg : b.aux.gapWait = a.aux.gapWait := congrArg Heart.gapWait h
  have hr : b.aux.running = a.aux.running := congrArg Heart.running h
  have ht : b.aux.target = a.aux.target := congrArg Heart.target h
  have hw : b.bist.waiting = a.bist.waiting := congrArg Heart.waiting h
  unfold DacIdle
  rw [hv, hg, hr, ht, hw]
  exact hi

theorem dacCore_of_heart (h : heart b = heart a) : dacCore b = dacCore a :=
  congrArg (fun x => { x with cmd := Cmd.reset, power := Power.reset }) h

theorem dacCore_enterSafeHold (c : Cause) (d : Dev) : dacCore (enterSafeHold c d) = dacCore d := by
  by_cases hlow : Low d
  · rw [enterSafeHold_stays c (.inl hlow)]
  · cases hh : d.power.safeHold with
    | true => rw [enterSafeHold_stays c (.inr hh)]
    | false =>
      rw [enterSafeHold_enters c hlow hh]
      rfl

theorem dacCore_qmsg (src kind addr : Nat) (d : Dev) : dacCore (qmsg src kind addr d) = dacCore d := by
  unfold qmsg
  split <;> rfl

theorem dacCore_becomeSevere (k unit : Nat) (forced : Bool) (d : Dev) : dacCore (becomeSevere reactFull k unit [] forced d) = dacCore d := by
  have hreact : ∀ (r : Nat) (y : Dev), dacCore (reactFull r k [] forced y) = dacCore y := fun r y => by
    by_cases h5 : r = 5
    · have hsafe : reactFull r k [] forced y = enterSafeHold .safeWire (safeNoted k y) := if_pos h5
      rw [hsafe, dacCore_enterSafeHold]
      rfl
    · have hnone : (reactUnits r k [] forced).filter (fun u => !unitAbsent y u) = [] := by
        unfold reactUnits
        simp
      have hend : reactFull r k [] forced y = endHandling k (qmsg 0x0C 0x03 k y) := by
        unfold reactFull
        rw [if_neg h5, hnone]
      rw [hend]
      exact (dacCore_of_heart rfl).trans (dacCore_qmsg _ _ _ _)
  unfold becomeSevere
  dsimp only
  split
  · rfl
  · rw [hreact]
    rfl

theorem dacCore_raise (k : Nat) (d : Dev) : dacCore (raise k d) = dacCore d := by
  by_cases hp : srcAbsent d.part k = true
  · have hsame : raise k d = d := by
      unfold raise raiseOn occurWith
      rw [if_pos hp]
    rw [hsame]
  · have hnote : dacCore (noteEvent k d) = dacCore d := by
      rw [(noteEvent_frame k d (by simpa using hp)).2.2]
      rfl
    have hmod : ∀ f : Esc → Esc, dacCore (modEsc k f (noteEvent k d)) = dacCore d := fun _ => hnote
    unfold raise raiseOn occurWith
    rw [if_neg hp]
    dsimp only
    split
    · exact hmod _
    · split
      · exact hnote
      · split
        · exact hmod _
        · split
          · rw [dacCore_becomeSevere, hnote]
          · exact hmod _

theorem dacCore_answerWrite (h : AnswerWrite a b) : dacCore b = dacCore a := by
  unfold AnswerWrite at h
  rw [h]
  rfl

theorem dacCore_unknownCmd (bcast : Bool) (ws : List Word) (d : Dev) : dacCore (unknownCmd bcast ws d) = dacCore d := by
  have hseq : ∀ (seq : Nat) (gap : Bool), dacCore (countSeq seq gap d) = dacCore d := fun seq gap => by
    unfold countSeq
    dsimp only
    split
    · rw [dacCore_raise]
      rfl
    · rfl
  have hdeliver : ∀ (silent : Bool) (code seq len : Nat) (l : List Word) (y : Dev), dacCore (deliver bcast silent code seq len l y) = dacCore y :=
    fun _ _ _ _ _ _ => dacCore_answerWrite (answerWrite_deliver _ _ _ _ _ _ _)
  unfold unknownCmd
  dsimp only
  split
  · unfold badCheck
    dsimp only
    rw [hdeliver, dacCore_raise]
    rfl
  · split
    · exact hdeliver _ _ _ _ _ _
    · split
      · exact hdeliver _ _ _ _ _ _
      · rw [dacCore_answerWrite (answerWrite_answer _ _ _ _ _ _ _ _ _), hseq]

theorem dacCore_flushUnknown (d : Dev) : dacCore (flushUnknown d) = dacCore d := by
  unfold flushUnknown
  split
  · split
    · rw [dacCore_unknownCmd]
      rfl
    · rfl
  · rfl

end DacCore

section Mailbox

variable {s : State}

/-- A message that the head has sent itself: with an unknown code it is answered at once, whatever reaction EV125 has. -/
theorem answers_mailbox {i : Instr} {f : Dev → Dev} {a : Dev} (hi : exec i s = runDev s f) (hf : f s.toDev = a) (hc : Calm s.toDev)
    (ha : calmCore a = calmCore s.toDev) (hb : a.cmd.busy = none) : Answers i s (Beside (flushUnknown a)) := by
  subst hf
  have hsafe : (f s.toDev).power.safeHold = true → s.power.safeHold = true := by
    rw [show (f s.toDev).power = s.power from congrArg Heart.power ha]
    exact id
  have hidle : DacIdle (flushUnknown (f s.toDev)) := dacIdle_of_dacCore (dacCore_flushUnknown _) (dacIdle_of_calmCore ha hc.2.2.2)
  have heff : effect f s.toDev = settle (flushUnknown (f s.toDev)) := by
    unfold effect wake
    rw [armInHold_kept hsafe, afterEvents_unarmed 4 _ _ (unarmed_of_calmCore ha hc.2.2.1),
      longEnds_enumerate (fun b h => by rw [hb] at h; cases h), serveDac_idle hidle, serveSlice_idle hidle]
  refine ⟨{ s with toDev := settle (flushUnknown (f s.toDev)) }, ?_, rfl, ?_⟩
  · rw [hi]
    unfold runDev
    rw [heff]
  · exact beside_settle _

end Mailbox

/-- What a head that is awake does. -/
theorem atHead_runs {f : Dev → Dev} {d : Dev} (h : isHead d = true ∧ awake d = true) : atHead f d = f d := if_pos (by simp [h.1, h.2])

theorem atHead_idle {f : Dev → Dev} {d : Dev} (h : ¬ (isHead d = true ∧ awake d = true)) : atHead f d = d := if_neg (by simpa using h)

theorem atDevice_runs {f : Dev → Dev} {d : Dev} (h : awake d = true) : atDevice f d = f d := if_pos h

theorem atDevice_idle {f : Dev → Dev} {d : Dev} (h : awake d = false) : atDevice f d = d := if_neg (by simp [h])

theorem readAt_mapped {a : Nat} {d : Dev} (h : mapped (isHead d) a = true) : readAt a d = afterRead a d := by
  unfold readAt readReg
  rw [if_pos h]

theorem mapped_common {a : Nat} (h : commonRegs.contains a = true) (head : Bool) : mapped head a = true := by
  unfold mapped
  rw [h, Bool.true_or]

section Send

variable {d : Dev}

/-- The head of the message being composed. -/
def composedHead (d : Dev) : Word := nth d.host.composed 0 0

theorem sendCheck_overflow (h : d.host.ovf = true) : sendCheck d = some (7, stLENGTH) := if_pos h

theorem sendCheck_length (ho : d.host.ovf = false) (h : bf (composedHead d) 0 10 < 2 ∨ 256 < bf (composedHead d) 0 10) :
    sendCheck d = some (6, stLENGTH) := by
  unfold composedHead at h
  unfold sendCheck
  dsimp only
  rw [if_neg (by simp [ho]), if_pos h]

theorem sendCheck_count (ho : d.host.ovf = false) (h2 : 2 ≤ bf (composedHead d) 0 10) (h256 : bf (composedHead d) 0 10 ≤ 256)
    (h : d.host.composed.length ≠ bf (composedHead d) 0 10) : sendCheck d = some (7, stLENGTH) := by
  unfold composedHead at h2 h256 h
  unfold sendCheck
  dsimp only
  rw [if_neg (by simp [ho]), if_neg (by omega), if_pos h]

/-- The checks of a whole message: its target, then the ring, then what is outstanding (R409, R411). -/
theorem sendCheck_whole (ho : d.host.ovf = false) (h2 : 2 ≤ bf (composedHead d) 0 10) (h256 : bf (composedHead d) 0 10 ≤ 256)
    (h : d.host.composed.length = bf (composedHead d) 0 10) : sendCheck d =
    if d.host.target ≠ 1 ∧ d.host.target ≠ 63 ∧ !(decide (2 ≤ d.host.target) && (mapAt d d.host.target).present) then some (4, stSTATE)
    else if d.host.target ≠ 1 ∧ !ringServes d then some (5, stBUSY)
    else if atLimit d d.host.target then some (1, stBUSY)
    else none := by
  unfold composedHead at h2 h256 h
  unfold sendCheck
  dsimp only
  rw [if_neg (by simp [ho]), if_neg (by omega), if_neg (by omega)]

/-- What SEND makes outstanding. -/
def sentOf (d : Dev) : Outst :=
  { Outst.reset with
    target := d.host.target, seq := bf (composedHead d) 16 8, code := bf (composedHead d) 24 8, quiet := bit (composedHead d) 13
    len := d.host.composed.length, words := if d.host.target = 1 then [] else d.host.composed
    polls := if d.host.target = 63 then d.host.composed else [] }

/-- The head with the message gone and outstanding. -/
def sentFrom (d : Dev) : Dev :=
  { d with
    host.composed := [], host.ovf := false, host.outst := d.host.outst ++ [sentOf d]
    host.submitted := d.host.submitted + d.host.composed.length }

theorem sendMessage_refused {e : Nat × Status} (h : sendCheck d = some e) : sendMessage d = { d with
    host.composed := [], host.ovf := false
    host.rsps := d.host.rsps ++ [⟨1, rspWords 1 (bf (composedHead d) 24 8) (bf (composedHead d) 16 8) false true e.1 e.2 []⟩] } := by
  unfold sendMessage
  rw [h]
  rfl

theorem sendMessage_own (h : sendCheck d = none) (ht : d.host.target = 1) : sendMessage d = { sentFrom d with
    cmd.waiting := d.cmd.waiting ++ [(false, d.host.composed)] } := by
  unfold sendMessage
  rw [h]
  exact if_pos ht

theorem sendMessage_ring (h : sendCheck d = none) (ht : d.host.target ≠ 1) : sendMessage d = { sentFrom d with
    head.tunnel := d.head.tunnel ++ [{ Flight.reset with typ := 4, addr := d.host.target, kind := 2
                                                         tag := bf (composedHead d) 16 8 * 256 + bf (composedHead d) 24 8 }] } := by
  unfold sendMessage
  rw [h]
  exact if_neg ht

end Send

section Window

variable {d : Dev} {r : Resp} {l : List Resp}

theorem takeRsp_next (hr : d.host.rsps = r :: l) (h : d.host.rspPos + 1 < r.words.length) :
    takeRsp d = { d with host.rspPos := d.host.rspPos + 1 } := by
  unfold takeRsp
  rw [hr]
  exact if_pos h

theorem takeRsp_last (hr : d.host.rsps = r :: l) (h : r.words.length ≤ d.host.rspPos + 1) :
    takeRsp d = { d with host.rsps := l, host.rspPos := 0 } := by
  unfold takeRsp
  rw [hr]
  exact if_neg (by omega)

theorem takeRsp_none (hr : d.host.rsps = []) : takeRsp d = d := by
  unfold takeRsp
  rw [hr]

end Window

section Send

variable {s : State}

/-- A SEND that is accepted for the head itself (R409, R426, R427). -/
theorem sends_own (hc : Calm s.toDev) (hh : isHead s.toDev = true ∧ awake s.toDev = true) (hok : sendCheck s.toDev = none)
    (ht : s.host.target = 1) : Answers .mbxSend s (Beside (flushUnknown { sentFrom s.toDev with cmd.waiting := [(false, s.host.composed)] })) := by
  have hsend := sendMessage_own hok ht
  have hwait : s.cmd.waiting = [] := hc.2.1
  rw [hwait] at hsend
  exact answers_mailbox (f := atHead sendMessage) rfl ((atHead_runs hh).trans hsend) hc rfl hc.1

theorem sends_known (hc : Calm s.toDev) (hh : isHead s.toDev = true ∧ awake s.toDev = true) (hok : sendCheck s.toDev = none)
    (ht : s.host.target = 1) (hk : knownCodes.contains (bf (composedHead s.toDev) 24 8) = true) :
    Answers .mbxSend s (Beside { sentFrom s.toDev with cmd.waiting := [(false, s.host.composed)] }) := by
  have hstays : flushUnknown { sentFrom s.toDev with cmd.waiting := [(false, s.host.composed)] } =
      { sentFrom s.toDev with cmd.waiting := [(false, s.host.composed)] } := by
    unfold composedHead at hk
    unfold flushUnknown
    dsimp only
    rw [if_neg]
    rw [hk]
    simp
  rw [← hstays]
  exact sends_own hc hh hok ht

end Send

/-- Settles O49: SEND is judged in the order of sendCheck; what the host takes or reads changes the host interface only. -/
theorem mailboxesHoldMessagesAndRecords : Obligations.MailboxesHoldMessagesAndRecords := by
  intro s hc host
  have hread : ∀ (a : Nat) {x : Dev}, commonRegs.contains a = true → awake s.toDev = true → afterRead a s.toDev = x →
      atDevice (readAt a) s.toDev = x := fun a x hm ha hx =>
    (atDevice_runs ha).trans ((readAt_mapped (mapped_common hm _)).trans hx)
  have hwindow : isHead s.toDev = true ∧ awake s.toDev = true → atHead (readAt 0x28) s.toDev = takeRsp s.toDev := fun hh =>
    (atHead_runs hh).trans (readAt_mapped (by rw [hh.1]; rfl))
  refine ⟨fun hh => ⟨fun w hw => ?_, fun w hw => ?_, ?_, ?_, fun r l hr hl => ?_, fun r l hr hl => ?_, fun hr => ?_, ?_, ?_⟩,
    fun hh => ⟨fun w => ?_, fun c hm => ?_⟩, fun ha => ⟨?_, ?_, ?_, ?_, ?_, ?_, ?_⟩, fun ha c hm => ?_⟩
  · exact answers_heart (f := atHead (winWrite w)) rfl ((atHead_runs hh).trans (if_neg (by unfold mbxFree; omega))) hc rfl
  · exact answers_heart (f := atHead (winWrite w)) rfl ((atHead_runs hh).trans (if_pos (by unfold mbxFree; omega))) hc rfl
  · refine ⟨sendCheck_overflow, sendCheck_length, fun ho h2 h256 => ⟨sendCheck_count ho h2 h256, fun hl => ⟨fun h1 h63 h => ?_, fun h hs => ?_, fun h => ?_⟩⟩,
      fun e he => ?_, sends_own hc hh, sends_known hc hh, fun hok ht => ?_⟩
    · exact (sendCheck_whole ho h2 h256 hl).trans (if_pos ⟨h1, h63, by rcases h with h | h <;> simp [h]⟩)
    · rw [sendCheck_whole ho h2 h256 hl, if_neg, if_pos]
      · exact ⟨by omega, by simp [hs]⟩
      · rcases h with h | ⟨h, hp⟩
        · exact fun hx => hx.2.1 h
        · exact fun hx => by simp [h, hp] at hx
    · rw [sendCheck_whole ho h2 h256 hl, if_neg, if_neg]
      · rcases h with h | ⟨-, hs⟩
        · exact fun hx => hx.1 h
        · exact fun hx => by simp [hs] at hx
      · rcases h with h | ⟨h | ⟨h, hp⟩, -⟩
        · exact fun hx => hx.1 h
        · exact fun hx => hx.2.1 h
        · exact fun hx => by simp [h, hp] at hx
    · exact answers_heart (f := atHead sendMessage) rfl ((atHead_runs hh).trans (sendMessage_refused he)) hc rfl
    · exact answers_heart (f := atHead sendMessage) rfl ((atHead_runs hh).trans (sendMessage_ring hok ht)) hc rfl
  · exact answers_heart (f := atHead abortCompose) rfl (atHead_runs hh) hc rfl
  · exact answers_heart (f := atHead (readAt 0x28)) rfl ((hwindow hh).trans (takeRsp_next hr hl)) hc rfl
  · exact answers_heart (f := atHead (readAt 0x28)) rfl ((hwindow hh).trans (takeRsp_last hr hl)) hc rfl
  · exact answers_same (f := atHead (readAt 0x28)) rfl hc ((hwindow hh).trans (takeRsp_none hr))
  · exact answers_heart (f := atHead nextRsp) rfl (atHead_runs hh) hc rfl
  · exact answers_heart (f := atHead (readAt 0x58)) rfl ((atHead_runs hh).trans (readAt_mapped (by rw [hh.1]; rfl))) hc rfl
  · exact answers_same (f := atHead (winWrite w)) rfl hc (atHead_idle hh)
  · simp only [List.mem_cons, List.not_mem_nil, or_false] at hm
    rcases hm with rfl | rfl | rfl | rfl | rfl
    · exact answers_same (f := atHead sendMessage) rfl hc (atHead_idle hh)
    · exact answers_same (f := atHead abortCompose) rfl hc (atHead_idle hh)
    · exact answers_same (f := atHead (readAt 0x28)) rfl hc (atHead_idle hh)
    · exact answers_same (f := atHead nextRsp) rfl hc (atHead_idle hh)
    · exact answers_same (f := atHead (readAt 0x58)) rfl hc (atHead_idle hh)
  · exact answers_heart (f := atDevice (readAt 0x30)) rfl (hread 0x30 rfl ha rfl) hc rfl
  · exact answers_heart (f := atDevice (readAt 0x34)) rfl (hread 0x34 rfl ha rfl) hc rfl
  · exact answers_heart (f := atDevice (readAt 0x38)) rfl (hread 0x38 rfl ha rfl) hc rfl
  · exact answers_heart (f := atDevice (readAt 0x68)) rfl (hread 0x68 rfl ha rfl) hc rfl
  · exact answers_heart (f := atDevice (readAt 0x70)) rfl (hread 0x70 rfl ha rfl) hc rfl
  · exact answers_heart (f := atDevice (readAt 0x44)) rfl (hread 0x44 rfl ha rfl) hc rfl
  · exact answers_heart (f := atDevice clearLinkCounts) rfl (atDevice_runs ha) hc rfl
  · simp only [List.mem_cons, List.not_mem_nil, or_false] at hm
    rcases hm with rfl | rfl | rfl | rfl | rfl | rfl | rfl
    · exact answers_same (f := atDevice (readAt 0x30)) rfl hc (atDevice_idle ha)
    · exact answers_same (f := atDevice (readAt 0x34)) rfl hc (atDevice_idle ha)
    · exact answers_same (f := atDevice (readAt 0x38)) rfl hc (atDevice_idle ha)
    · exact answers_same (f := atDevice (readAt 0x68)) rfl hc (atDevice_idle ha)
    · exact answers_same (f := atDevice (readAt 0x70)) rfl hc (atDevice_idle ha)
    · exact answers_same (f := atDevice (readAt 0x44)) rfl hc (atDevice_idle ha)
    · exact answers_same (f := atDevice clearLinkCounts) rfl hc (atDevice_idle ha)

end Sys2Proof.Proofs
end

section
/-! PROOF. What a register write leaves, and where it comes from (13_host_port_and_mailboxes.md R401 to R404, 11_burza_link.md R354,
15_faults_and_sluices.md R492). -/

namespace Sys2Proof.Proofs

open Sys2Proof Sys2Proof.Machine Sys2Proof.Safety Sys2Proof.Laws

/-! ## Where a write comes from -/

/-- The write comes from the device's own source: the host's at an awake head, a frame's at an awake member (R397, R398). -/
def Mine (src : Source) (d : Dev) : Prop := awake d = true ∧ (if src = .spi then isHead d = true else isHead d = false)

section Sources

variable {src : Source} {d : Dev}

theorem fromSource_mine {f : Dev → Dev} (h : Mine src d) : fromSource src f d = f d := by
  obtain ⟨ha, hh⟩ := h
  cases src with
  | spi => exact atHead_runs ⟨hh, ha⟩
  | frame q => exact fromSource_frame_member ha hh

theorem fromSource_other {f : Dev → Dev} (h : ¬ Mine src d) : fromSource src f d = d := by
  unfold Mine at h
  cases src with
  | spi => exact atHead_idle fun hx => h ⟨hx.2, hx.1⟩
  | frame q =>
    unfold fromSource atDevice
    dsimp only
    split
    · rfl
    · next hh => exact if_neg fun ha => h ⟨ha, by simpa using hh⟩

/-- What a write to an address does at its own device. -/
def writesAt (src : Source) (a : Nat) (w : Word) (d : Dev) : Dev :=
  match src with
  | .spi => if mapped true a then hostWrite a w d else d
  | .frame q => if mapped false a then writeReg (.frame q) a w d else d

theorem registerWrite_eq (src : Source) (a : Nat) (w : Word) (d : Dev) : registerWrite src a w d = fromSource src (writesAt src a w) d := by
  cases src <;> rfl

/-- A register that every device has is no mailbox. -/
theorem writesAt_common {a : Nat} {w : Word} (h : commonRegs.contains a = true) : writesAt src a w d = writeReg src a w d := by
  have hne : ∀ n, commonRegs.contains n = false → a ≠ n := fun n hn hx => by
    rw [hx, hn] at h
    cases h
  cases src with
  | spi =>
    show (if mapped true a then hostWrite a w d else d) = _
    rw [if_pos (mapped_common h true)]
    unfold hostWrite
    rw [if_neg (hne _ rfl), if_neg (hne _ rfl), if_neg (hne _ rfl)]
  | frame q => exact if_pos (mapped_common h false)

theorem registerWrite_common {a : Nat} {w : Word} (hm : Mine src d) (h : commonRegs.contains a = true) :
    registerWrite src a w d = writeReg src a w d := by
  rw [registerWrite_eq, fromSource_mine hm, writesAt_common h]

end Sources

/-! ## Single registers -/

section Registers

variable (src : Source) (w : Word) (d : Dev)

theorem writeReg_status : writeReg src 0x10 w d = { d with cmd.hkRestarted := d.cmd.hkRestarted && !bit w 28 } := by
  unfold writeReg
  rw [if_pos rfl]

theorem writeReg_irqEnable : writeReg src 0x18 w d =
    { fieldEntry src 0x18 0x1FF (Word.of d.host.irqEn.toNat) w d with host.irqEn := BitVec.ofNat 9 w.toNat } := by
  unfold writeReg
  rw [if_neg (by decide), if_pos rfl]

theorem writeReg_linkStat : writeReg src 0x44 w d = { d with
    link.losA := d.link.losA && !bit w 29, link.losB := d.link.losB && !bit w 28
    link.enRefused := d.link.enRefused && !bit w 25 } := by
  unfold writeReg
  rw [if_neg (by decide), if_neg (by decide), if_neg (by decide), if_pos rfl]

theorem writeReg_ringMap : writeReg src 0x48 w d = (if isHead d then { d with ring.sel := bf w 26 6 } else d) := by
  unfold writeReg
  rw [if_neg (by decide), if_neg (by decide), if_neg (by decide), if_neg (by decide), if_pos rfl]

/-- Registers without a field that a write reaches. -/
def readOnlyRegs : List Nat :=
  [0x00, 0x04, 0x08, 0x0C, 0x14, 0x30, 0x34, 0x38, 0x4C, 0x54, 0x68, 0x6C, 0x74, 0x78, 0x90, 0x94, 0xA8, 0xB0, 0xB4, 0xB8]

/-- Registers whose fields a write reaches. -/
def writtenRegs : List Nat := [0x10, 0x18, 0x40, 0x44, 0x48, 0x50, 0x58, 0x60, 0x64, 0x70, 0x80, 0x98, 0x9C, 0xA0, 0xA4, 0xAC]

theorem writeReg_outside {a : Nat} (h : a ∉ writtenRegs) (h100 : a < 0x100) : writeReg src a w d = d := by
  simp only [writtenRegs, List.mem_cons, List.not_mem_nil, or_false, not_or] at h
  obtain ⟨h1, h2, h3, h4, h5, h6, h7, h8, h9, h10, h11, h12, h13, h14, h15, h16⟩ := h
  unfold writeReg
  rw [if_neg h1, if_neg h2, if_neg h3, if_neg h4, if_neg h5, if_neg h6, if_neg h7, if_neg h8, if_neg h9, if_neg h10, if_neg h11, if_neg h12,
    if_neg h13, if_neg h14, if_neg h15, if_neg h16, if_neg (by omega), if_neg (by omega), if_neg (by omega)]

theorem writeReg_beyond {a : Nat} (h : 0x100 ≤ a) : writeReg src a w d =
    if 0x100 ≤ a ∧ a ≤ 0x10C then
      { d with host.evf := d.host.evf &&& ~~~ (BitVec.ofNat 128 (w.toNat * 2 ^ ((a - 0x100) * 8))) }
    else if 0x110 ≤ a ∧ a ≤ 0x11C then writeEnables src ((a - 0x110) / 4) w d
    else if 0x120 ≤ a ∧ a ≤ 0x12C then writeForce ((a - 0x120) / 4) w d
    else d := by
  have hne : ∀ n, n < 0x100 → a ≠ n := fun n hn hx => by omega
  unfold writeReg
  rw [if_neg (hne _ (by decide)), if_neg (hne _ (by decide)), if_neg (hne _ (by decide)), if_neg (hne _ (by decide)),
    if_neg (hne _ (by decide)), if_neg (hne _ (by decide)), if_neg (hne _ (by decide)), if_neg (hne _ (by decide)),
    if_neg (hne _ (by decide)), if_neg (hne _ (by decide)), if_neg (hne _ (by decide)), if_neg (hne _ (by decide)),
    if_neg (hne _ (by decide)), if_neg (hne _ (by decide)), if_neg (hne _ (by decide)), if_neg (hne _ (by decide))]

theorem writeReg_evf (b : Fin 4) : writeReg src (0x100 + 4 * b) w d =
    { d with host.evf := d.host.evf &&& ~~~ (BitVec.ofNat 128 (w.toNat * 2 ^ (32 * b.val))) } := by
  have hb := b.isLt
  have hexp : (0x100 + 4 * b.val - 0x100) * 8 = 32 * b.val := by omega
  rw [writeReg_beyond src w d (by omega), if_pos ⟨by omega, by omega⟩, hexp]

theorem writeReg_eve : writeReg src 0x110 w d = writeEnables src 0 w d := by
  rw [writeReg_beyond src w d (by decide), if_neg (by decide), if_pos (by decide)]

/-- The enables that a write to EVE0 leaves (R9, R404). -/
theorem eve_writeEnables {i : Nat} (hi : i < 32) : mbit (writeEnables src 0 w d).host.eve i = (bit w i && !srcAbsent d.part i) := by
  have hmask : (Word.of (enableMask d 0)).getLsbD i = !srcAbsent d.part i := by
    have hm := mbit_mof hi ((List.range 32).filter (fun i => !srcAbsent d.part (32 * 0 + i)))
    unfold mbit at hm
    unfold enableMask Word.of
    rw [BitVec.ofNat_toNat, BitVec.setWidth_eq, hm]
    simp [hi]
  have hlow : ∀ n : Nat, (BitVec.ofNat 128 (n * 2 ^ (32 * 0))).getLsbD i = n.testBit i := fun n => by
    rw [BitVec.getLsbD_ofNat]
    simp [show i < 128 by omega]
  have hones : (BitVec.ofNat 128 (0xFFFFFFFF * 2 ^ (32 * 0))).getLsbD i = true := by
    rw [hlow]
    exact Nat.testBit_two_pow_sub_one 32 i ▸ by simp [hi]
  unfold mbit writeEnables
  show ((_ &&& ~~~ _) ||| _ : BitVec 128).getLsbD i = _
  rw [BitVec.getLsbD_or, BitVec.getLsbD_and, BitVec.getLsbD_not, hones, hlow]
  rw [← BitVec.getLsbD, BitVec.getLsbD_and, hmask]
  simp [bit]

end Registers

/-! ## Entries -/

section Entries

variable (src : Source) (w : Word) (d : Dev)

theorem fieldEntry_leaves (a m : Nat) (old new : Word) :
    fieldEntry src a m old new d = { d with jrn := { d.jrn with q27 := (fieldEntry src a m old new d).jrn.q27 } } := by
  unfold fieldEntry jchange
  split <;> rfl

theorem fieldEntry_same {a m : Nat} {old new : Word} (h : old &&& Word.of m = new &&& Word.of m) : fieldEntry src a m old new d = d := by
  unfold fieldEntry
  rw [h]
  exact jchange_same _ _ _ _

/-- What FAULT_PIN_CTRL shows. -/
def pinFields (d : Dev) : Word := Word.of (d.fault.stretch10us * 256 + b2n d.fault.force * 2 + b2n d.fault.auto)

/-- The device with the fields of FAULT_PIN_CTRL written. -/
def pinWritten (w : Word) (d : Dev) : Dev :=
  { d with fault.stretch10us := max 5 (bf w 8 8), fault.force := bit w 1, fault.auto := bit w 0 }

/-- A write clears LATCH: nothing holds it. -/
def pinClears (w : Word) (d : Dev) : Bool := bit w 2 && d.fault.latch && !(faultLive d || d.fault.startup || d.fault.stretch)

theorem writeFaultPin_eq : writeFaultPin src w d =
    if pinClears w d then
      jput (srcCtx src) 0xC020 1 0 { jchange (srcCtx src) 0xC020 (pinFields d) (pinFields (pinWritten w d)) (pinWritten w d) with fault.latch := false }
    else jchange (srcCtx src) 0xC020 (pinFields d) (pinFields (pinWritten w d)) (pinWritten w d) := rfl

/-- LATCH after the write. -/
def pinLatch (w : Word) (d : Dev) : Bool := d.fault.latch && (!bit w 2 || (faultLive d || d.fault.startup || d.fault.stretch))

theorem pinLatch_stays : pinLatch w d = d.fault.latch ↔ pinClears w d = false := by
  have hbool : ∀ b l k : Bool, (l && (!b || k)) = l ↔ (b && l && !k) = false := by decide
  exact hbool _ _ _

theorem writeFaultPin_leaves : writeFaultPin src w d = { d with
    fault := { d.fault with stretch10us := max 5 (bf w 8 8), force := bit w 1, auto := bit w 0, latch := pinLatch w d }
    jrn := { d.jrn with q27 := (writeFaultPin src w d).jrn.q27 } } := by
  have hj : ∀ (old new : Word), jchange (srcCtx src) 0xC020 old new (pinWritten w d) =
      { pinWritten w d with jrn := { d.jrn with q27 := (jchange (srcCtx src) 0xC020 old new (pinWritten w d)).jrn.q27 } } := fun old new => by
    unfold jchange jput
    split <;> rfl
  rw [writeFaultPin_eq]
  cases h : pinClears w d with
  | true =>
    have hlatch : pinLatch w d = false := by
      simp only [pinClears, Bool.and_eq_true, Bool.not_eq_true'] at h
      simp [pinLatch, h]
    rw [if_pos rfl, hj, hlatch]
    rfl
  | false =>
    have hlatch : pinLatch w d = d.fault.latch := (pinLatch_stays w d).mpr h
    rw [if_neg (by decide), hj, hlatch]
    rfl

theorem writeFaultPin_unchanged (h1 : max 5 (bf w 8 8) = d.fault.stretch10us) (h2 : bit w 1 = d.fault.force) (h3 : bit w 0 = d.fault.auto)
    (h4 : pinLatch w d = d.fault.latch) : (writeFaultPin src w d).jrn.q27 = d.jrn.q27 := by
  have hfields : pinFields (pinWritten w d) = pinFields d := by
    show Word.of (max 5 (bf w 8 8) * 256 + b2n (bit w 1) * 2 + b2n (bit w 0)) = _
    rw [h1, h2, h3]
    rfl
  have hkept : pinClears w d = false := (pinLatch_stays w d).mp h4
  rw [writeFaultPin_eq, hkept, if_neg (by decide), hfields, jchange_same]
  rfl

/-- A port's bit of a word. -/
theorem word_and_port (p : Port) : w &&& Word.of (2 ^ p.num) = if bit w p.num then Word.of (2 ^ p.num) else 0 := by
  have htwo : Word.of (2 ^ p.num) = BitVec.twoPow 32 p.num := by cases p <;> decide
  rw [htwo]
  exact BitVec.and_twoPow w p.num

theorem bit_port (p : Port) : bit (Word.of (b2n true * 2 ^ p.num)) p.num = true := by cases p <;> decide

variable {w d} in
/-- An enable that is set already stays. -/
theorem writeEnable_same {p : Port} (hw : bit w p.num = true) (he : portEnabled d p = true) : writeEnable src p w d = d := by
  have hentry : fieldEntry src 0x40 (2 ^ p.num) (Word.of (b2n (portEnabled d p) * 2 ^ p.num)) w d = d := fieldEntry_same src d (by
    rw [he, word_and_port, word_and_port, hw, bit_port])
  unfold writeEnable
  dsimp only
  rw [hentry, hw, if_neg (by simp), if_pos rfl]
  cases p with
  | A =>
    show ({ d with link.enA := true } : Dev) = d
    rw [← show d.link.enA = true from he]
  | B =>
    show ({ d with link.enB := true } : Dev) = d
    rw [← show d.link.enB = true from he]

variable {w d} in
/-- Port B's enable falls with its entry. -/
theorem writeEnable_falls (hw : bit w 1 = false) (he : portEnabled d .B = true) (hr : receivePort d ≠ some .B) :
    writeEnable src .B w d = { fieldEntry src 0x40 (2 ^ Port.B.num) 2 w d with link.enB := false, link.lockB := false } := by
  have hw' : bit w Port.B.num = false := hw
  unfold writeEnable
  dsimp only
  rw [hw', he, if_neg (by simpa using hr), if_neg (by decide)]
  rfl

/-- Port B's enable falls while port A's stays and receives (R354, R355). -/
theorem writeLinkCtrl_falls (hA : bit w 0 = true) (hB : bit w 1 = false) (heA : d.link.enA = true) (heB : d.link.enB = true)
    (hr : receivePort d = some .A) :
    (writeLinkCtrl src w d).link.enA = true ∧ (writeLinkCtrl src w d).link.enB = false ∧ (writeLinkCtrl src w d).link.lockB = false ∧
    (writeLinkCtrl src w d).link.lockA = d.link.lockA ∧
    (bit w 2 = true → (writeLinkCtrl src w d).link.crcCnt = 0 ∧ (writeLinkCtrl src w d).link.violCnt = 0 ∧ (writeLinkCtrl src w d).link.retryCnt = 0) ∧
    ∃ e : Entry, (writeLinkCtrl src w d).jrn.q27 = d.jrn.q27 ++ [e] ∧ e.item = 0xC010 ∧ e.old = 2 ∧ e.new = 0 ∧ e.origin = (srcCtx src).origin := by
  obtain ⟨hclear, -, -, hen, hf0⟩ := whenDo_clearLinkCounts (bit w 2) d
  have hq0 : (whenDo (bit w 2) clearLinkCounts d).jrn = d.jrn := by cases bit w 2 <;> rfl
  have hl0 : (whenDo (bit w 2) clearLinkCounts d).link.lockA = d.link.lockA := by cases bit w 2 <;> rfl
  have heA0 := (hen .A).trans heA
  have heB0 := (hen .B).trans heB
  have hr0 := (receivePort_of_linkWrite hf0).trans hr
  unfold writeLinkCtrl
  generalize whenDo (bit w 2) clearLinkCounts d = y at *
  rw [writeEnable_same src hA heA0, writeEnable_falls src hB heB0 (by rw [hr0]; decide)]
  have hentry : fieldEntry src 0x40 (2 ^ Port.B.num) 2 w y = jput (srcCtx src) 0xC010 2 0 y := by
    have hnew : w &&& Word.of (2 ^ Port.B.num) = 0 := by
      rw [word_and_port, show bit w Port.B.num = false from hB]
      rfl
    unfold fieldEntry
    rw [hnew]
    exact jchange_ne _ _ _ _ _ (by decide)
  rw [hentry]
  obtain ⟨e, he, hitem, heold, henew, horg, -⟩ := jput_q27 (srcCtx src) 0xC010 2 0 y
  exact ⟨heA0, rfl, rfl, hl0, fun h => hclear h, e, by rw [← hq0]; exact he, hitem, heold, henew, horg⟩

/-- Nothing but EN_REFUSED changes where port A's enable is refused and port B's stays. -/
theorem writeLinkCtrl_refused (h2 : bit w 2 = false) (hA : bit w 0 = false) (hB : bit w 1 = true) (heA : d.link.enA = true) (heB : d.link.enB = true)
    (hr : receivePort d = some .A) : writeLinkCtrl src w d = { d with link.enRefused := true } := by
  have hsame : whenDo (bit w 2) clearLinkCounts d = d := by
    rw [h2]
    rfl
  unfold writeLinkCtrl
  rw [hsame, writeEnable_refused hr heA hA]
  exact writeEnable_same src (p := .B) hB heB

end Entries

end Sys2Proof.Proofs
end

section
/-! PROOF. The housekeeper's restart and what waited for it (13_host_port_and_mailboxes.md R417), and what each register write does. -/

namespace Sys2Proof.Proofs

open Sys2Proof Sys2Proof.Machine Sys2Proof.Safety Sys2Proof.Laws

/-! ## Work of the housekeeper -/

/-- Where no source of a is set to SAFE_STATE, b has the heart of a but for the commands, the housekeeper's own fields stay and event
flags are only set. -/
def Served (a b : Dev) : Prop := NoSafe a → calmCore b = calmCore a ∧
  (b.cmd.hkReady = a.cmd.hkReady ∧ b.cmd.hkRestarted = a.cmd.hkRestarted ∧ b.cmd.hkRestarts = a.cmd.hkRestarts) ∧
  ∀ i, mbit a.host.evf i = true → mbit b.host.evf i = true

section Served

variable {a b c : Dev}

theorem served_refl (a : Dev) : Served a a := fun _ => ⟨rfl, ⟨rfl, rfl, rfl⟩, fun _ h => h⟩

theorem served_after (hbc : Served b c) (hab : Served a b) : Served a c := fun hn => by
  obtain ⟨h1, ⟨h2, h3, h4⟩, h5⟩ := hab hn
  obtain ⟨g1, ⟨g2, g3, g4⟩, g5⟩ := hbc (noSafe_of_calmCore h1 hn)
  exact ⟨g1.trans h1, ⟨g2.trans h2, g3.trans h3, g4.trans h4⟩, fun i h => g5 i (h5 i h)⟩

theorem served_of_mild (h : Mild a b) : Served a b := fun hn => by
  have hk := h hn
  have hcmd : b.cmd = a.cmd := congrArg Heart.cmd (heart_of_core hk.core)
  exact ⟨calmCore_of_heart (heart_of_core hk.core), ⟨by rw [hcmd], by rw [hcmd], by rw [hcmd]⟩, hk.evf⟩

theorem served_answerWrite (h : AnswerWrite a b) : Served a b := by
  unfold AnswerWrite at h
  rw [h]
  exact fun _ => ⟨rfl, ⟨rfl, rfl, rfl⟩, fun _ h => h⟩

theorem served_finishBusy (st : Status) (data : List Word) (d : Dev) : Served d (finishBusy st data d) := by
  cases hb : d.cmd.busy with
  | none =>
    rw [finishBusy, hb]
    exact served_refl d
  | some x => exact served_after (served_answerWrite (answerWrite_finishBusy hb st data)) fun _ => ⟨rfl, ⟨rfl, rfl, rfl⟩, fun _ h => h⟩

theorem served_forEach {α : Type} (l : List α) (f : α → Dev → Dev) (h : ∀ x d, Served d (f x d)) (d : Dev) : Served d (forEach l f d) := by
  induction l generalizing d with
  | nil => exact served_refl d
  | cons x t ih => exact served_after (ih (f x d)) (h x d)

theorem served_packDone (x : Desc) (d : Dev) : Served d (packDone x d) := by
  unfold packDone
  split
  · exact served_after (served_of_mild (mild_freeDesc _ _)) (served_after (served_finishBusy _ _ _) (served_of_mild (mild_sramRead _ _ _)))
  · exact served_of_mild (mild_same rfl)

theorem served_unknownCmd (bcast : Bool) (ws : List Word) (d : Dev) : Served d (unknownCmd bcast ws d) := by
  have hraise : ∀ y : Dev, Served y (raise 125 y) := fun y => served_of_mild (mild_raise (by decide) y)
  have hkept : ∀ (y z : Dev), calmCore z = calmCore y → z.cmd.hkReady = y.cmd.hkReady → z.cmd.hkRestarted = y.cmd.hkRestarted →
      z.cmd.hkRestarts = y.cmd.hkRestarts → z.host.evf = y.host.evf → Served y z := fun y z h1 h2 h3 h4 h5 _ =>
    ⟨h1, ⟨h2, h3, h4⟩, fun i h => by rw [h5]; exact h⟩
  have hseq : ∀ (seq : Nat) (gap : Bool), Served d (countSeq seq gap d) := fun seq gap => by
    unfold countSeq
    dsimp only
    split
    · exact served_after (hraise _) (hkept _ _ rfl rfl rfl rfl rfl)
    · exact hkept _ _ rfl rfl rfl rfl rfl
  have hdeliver : ∀ (silent : Bool) (code seq len : Nat) (l : List Word) (y : Dev), Served y (deliver bcast silent code seq len l y) :=
    fun _ _ _ _ _ _ => served_answerWrite (answerWrite_deliver _ _ _ _ _ _ _)
  unfold unknownCmd
  dsimp only
  split
  · exact served_after (hdeliver _ _ _ _ _ _) (served_after (hraise _) (hkept _ _ rfl rfl rfl rfl rfl))
  · split
    · exact hdeliver _ _ _ _ _ _
    · split
      · exact hdeliver _ _ _ _ _ _
      · exact served_after (served_answerWrite (answerWrite_answer _ _ _ _ _ _ _ _ _)) (hseq _ _)

theorem served_longEnds (d : Dev) : Served d (longEnds d) := by
  have hunload : ∀ y : Dev, Served y (unloadEnds y) := fun y => by
    unfold unloadEnds
    split
    · split
      · refine served_after (served_finishBusy _ _ _) ?_
        dsimp only
        rw [jchange_kept]
        exact fun _ => ⟨rfl, ⟨rfl, rfl, rfl⟩, fun _ h => h⟩
      · exact served_refl y
    · exact served_refl y
  have hlost : ∀ y : Dev, Served y (packLost y) := fun y => by
    unfold packLost
    split
    · split
      · exact served_finishBusy _ _ _
      · exact served_refl y
    · exact served_refl y
  have hflush : ∀ y : Dev, Served y (flushUnknown y) := fun y => by
    unfold flushUnknown
    split
    · split
      · exact served_after (served_unknownCmd _ _ _) fun _ => ⟨rfl, ⟨rfl, rfl, rfl⟩, fun _ h => h⟩
      · exact served_refl y
    · exact served_refl y
  exact served_after (hflush _) (served_after (hlost _) (hunload d))

end Served

/-! ## The restart -/

section Restart

variable {s : State}

/-- A command after which commands that execute over several events may end: nothing waits for the test DAC, no capture is armed. -/
theorem answers_longEnds {i : Instr} {f : Dev → Dev} {a : Dev} (hi : exec i s = runDev s f) (hf : f s.toDev = a) (hu : Unarmed s.toDev)
    (hd : DacIdle s.toDev) (hn : NoSafe s.toDev) (ha : calmCore a = calmCore s.toDev) : Answers i s (Beside (longEnds a)) := by
  subst hf
  have hsafe : (f s.toDev).power.safeHold = true → s.power.safeHold = true := by
    rw [show (f s.toDev).power = s.power from congrArg Heart.power ha]
    exact id
  obtain ⟨hends, -⟩ := served_longEnds (f s.toDev) (noSafe_of_calmCore ha hn)
  have hidle := dacIdle_of_calmCore hends (dacIdle_of_calmCore ha hd)
  have heff : effect f s.toDev = settle (longEnds (f s.toDev)) := by
    unfold effect wake
    rw [armInHold_kept hsafe, afterEvents_unarmed 4 _ _ (unarmed_of_calmCore ha hu), serveDac_idle hidle, serveSlice_idle hidle]
  refine ⟨{ s with toDev := effect f s.toDev }, hi, rfl, ?_⟩
  show Beside _ (effect f s.toDev)
  rw [heff]
  exact beside_settle _

/-- The housekeeper runs again, its message made. -/
def hkBack (d : Dev) : Dev :=
  qmsg 0x04 0x05 (satInc 255 d.cmd.hkRestarts) { d with
    cmd.hkReady := true, cmd.hkRestarted := true, cmd.hkRestarts := satInc 255 d.cmd.hkRestarts }

theorem hkBack_leaves (d : Dev) : calmCore (hkBack d) = calmCore d ∧ (hkBack d).cmd.hkReady = true ∧ (hkBack d).cmd.hkRestarted = true ∧
    (hkBack d).cmd.hkRestarts = satInc 255 d.cmd.hkRestarts := by
  unfold hkBack qmsg
  split <;> exact ⟨rfl, rfl, rfl, rfl⟩

theorem hkUp_eq (d : Dev) : hkUp d = forEach (raise 124 (hkBack d)).eng.packWait (fun id d => (desc d id).elim d (fun x => packDone x d))
    { raise 124 (hkBack d) with eng.packWait := [] } := rfl

theorem hkUp_leaves {d : Dev} (hn : NoSafe d) : calmCore (hkUp d) = calmCore d ∧ (hkUp d).cmd.hkReady = true ∧
    (hkUp d).cmd.hkRestarted = true ∧ (hkUp d).cmd.hkRestarts = satInc 255 d.cmd.hkRestarts ∧ mbit (hkUp d).host.evf 124 = true := by
  obtain ⟨hc, h1, h2, h3⟩ := hkBack_leaves d
  have hnb := noSafe_of_calmCore hc hn
  have hraise : Served (hkBack d) (raise 124 (hkBack d)) := served_of_mild (mild_raise (by decide) _)
  obtain ⟨hr, ⟨hr1, hr2, hr3⟩, -⟩ := hraise hnb
  have hevf : mbit (raise 124 (hkBack d)).host.evf 124 = true := evf_occurs (by decide) 0xFFFF [] false hnb (by cases (hkBack d).part <;> rfl)
  rw [hkUp_eq]
  generalize raise 124 (hkBack d) = y at hr hr1 hr2 hr3 hevf ⊢
  have hwork : Served { y with eng.packWait := [] } (forEach y.eng.packWait (fun id d => (desc d id).elim d (fun x => packDone x d))
      { y with eng.packWait := [] }) := served_forEach _ (fun id d => (desc d id).elim d (fun x => packDone x d)) (fun id d => by
    show Served d ((desc d id).elim d (fun x => packDone x d))
    cases desc d id with
    | none => exact served_refl d
    | some x => exact served_packDone x d) _
  obtain ⟨hw, ⟨hw1, hw2, hw3⟩, hwf⟩ := hwork (noSafe_of_calmCore (a := hkBack d) hr hnb)
  exact ⟨hw.trans (hr.trans hc), hw1.trans (hr1.trans h1), hw2.trans (hr2.trans h2), hw3.trans (hr3.trans h3), hwf _ hevf⟩

end Restart

theorem occurred_leaves {k : Nat} {a e : Dev} (h : Occurred k a e) : e.cmd = a.cmd ∧ e.eng = a.eng := by
  obtain ⟨-, -, -, he⟩ := h
  rw [he]
  exact ⟨rfl, rfl⟩

section Message

variable {d : Dev}

theorem hkBack_eng (d : Dev) : (hkBack d).eng.packWait = d.eng.packWait ∧
    (hkBack d).cmd = { d.cmd with hkReady := true, hkRestarted := true, hkRestarts := satInc 255 d.cmd.hkRestarts } ∧
    (Plain d 124 → Plain (hkBack d) 124) := by
  unfold hkBack qmsg
  split <;> exact ⟨rfl, rfl, id⟩

theorem hkUp_plain (hp : d.eng.packWait = []) (h : Plain d 124) :
    (hkUp d).cmd = (hkBack d).cmd ∧ (hkUp d).eng.msgs = (hkBack d).eng.msgs := by
  obtain ⟨hwait, -, hplain⟩ := hkBack_eng d
  obtain ⟨hcmd, heng⟩ := occurred_leaves (occurred_raise 124 (hplain h))
  have hnone : hkUp d = { raise 124 (hkBack d) with eng.packWait := [] } := by
    rw [hkUp_eq, heng, hwait, hp]
    rfl
  have hmsgs : (raise 124 (hkBack d)).eng.msgs = (hkBack d).eng.msgs := by rw [heng]
  rw [hnone]
  exact ⟨hcmd, hmsgs⟩

theorem hkUp_cmd (hp : d.eng.packWait = []) (h : Plain d 124) :
    (hkUp d).cmd = { d.cmd with hkReady := true, hkRestarted := true, hkRestarts := satInc 255 d.cmd.hkRestarts } :=
  (hkUp_plain hp h).1.trans (hkBack_eng d).2.1

/-- The RESTART message where there is room for it (R495). -/
theorem hkUp_message (hp : d.eng.packWait = []) (hl : d.eng.msgs.length < 32) (hf : 0 < freeCount d) (h : Plain d 124) :
    (hkUp d).eng.msgs = d.eng.msgs ++ [msgWord 4 5 (satInc 255 d.cmd.hkRestarts)] := by
  have hroom : ∀ n y, y.eng = d.eng → freeCount y = freeCount d → (qmsg 4 5 n y).eng.msgs = d.eng.msgs ++ [msgWord 4 5 n] := fun n y he hy => by
    unfold qmsg
    rw [he, hy, if_pos (by simp [hl, hf])]
    rfl
  exact (hkUp_plain hp h).2.trans (hroom _ _ rfl rfl)

end Message

/-- HK_RESTART_DONE (R417). -/
def hkDone (d : Dev) : Dev := if d.cmd.hkReady then d else hkUp d

/-! ## Forced events -/

theorem mem_mlist {w : Word} {i : Nat} : i ∈ mlist w ↔ i < 32 ∧ bit w i = true := by
  unfold mlist
  rw [List.mem_filter, List.mem_range]
  rfl

theorem mlist_one {i : Nat} (hi : i < 32) : mlist (one 32 i) = [i] := by
  have hall : ∀ j : Fin 32, mlist (one 32 j.val) = [j.val] := by decide
  exact hall ⟨i, hi⟩

theorem part_of_calmCore {a b : Dev} (h : calmCore b = calmCore a) : b.part = a.part := congrArg Heart.part h

/-- Each event that EVFORCE names and the part has sets its flag. -/
theorem evf_forced {n : Nat} (hn4 : n < 4) (l : List Nat) (hl : ∀ i ∈ l, i < 32) (d : Dev) (hn : NoSafe d) {i : Nat} (hi : i ∈ l)
    (hp : srcAbsent d.part (32 * n + i) = false) : mbit (forEach l (fun i d => raiseForced (32 * n + i) d) d).host.evf (32 * n + i) = true := by
  induction l generalizing d with
  | nil => cases hi
  | cons x t ih =>
    have hx : 32 * n + x < 128 := by have := hl x (by simp); omega
    have hk := served_of_mild (mild_raiseForced hx d) hn
    have hrest : Served (raiseForced (32 * n + x) d) (forEach t (fun i d => raiseForced (32 * n + i) d) (raiseForced (32 * n + x) d)) := by
      have hlt : ∀ y ∈ t, y < 32 := fun y hy => hl y (by simp [hy])
      clear ih hl hi hk
      generalize raiseForced (32 * n + x) d = e
      induction t generalizing e with
      | nil => exact served_refl e
      | cons y u ih => exact served_after (ih (fun z hz => hlt z (by simp [hz])) _) (served_of_mild (mild_raiseForced (by
          have := hlt y (by simp); omega) e))
    have hnx := noSafe_of_calmCore hk.1 hn
    by_cases hit : i ∈ t
    · exact ih (fun y hy => hl y (by simp [hy])) _ hnx hit (by rw [part_of_calmCore hk.1]; exact hp)
    · have hix : i = x := by simpa [hit] using hi
      subst hix
      exact (hrest hnx).2.2 _ (evf_occurs hx _ _ _ hn hp)

theorem common_evf (b : Fin 4) : commonRegs.contains (0x100 + 4 * b.val) = true := by
  have hall : ∀ b : Fin 4, commonRegs.contains (0x100 + 4 * b.val) = true := by decide
  exact hall b

/-- A write to IRQ_EN changes it and perhaps makes an entry. -/
theorem irqEn_leaves {d y : Dev} {v : BitVec 9} {q : List Entry} (h : y = { d with jrn := { d.jrn with q27 := q } }) :
    ({ y with host.irqEn := v } : Dev) = { d with host := { d.host with irqEn := v }, jrn := { d.jrn with q27 := q } } := by
  rw [h]

/-- With no command executing and the housekeeper away nothing that waits goes on. -/
theorem longEnds_away {d : Dev} (hb : d.cmd.busy = none) (hk : d.cmd.hkReady = false) : longEnds d = d := by
  rw [longEnds_enumerate (fun b h => by rw [hb] at h; cases h)]
  unfold flushUnknown
  split
  · rw [if_neg]
    rw [hk]
    simp
  · rfl

/-- Settles O50: a write reaches its device from one source; the housekeeper returns with its counters and EV124. -/
theorem registerWritesAndForcedEvents : Obligations.RegisterWritesAndForcedEvents := by
  intro s w hu hd hn
  refine ⟨fun src a => ?_, fun b hc => ⟨fun ha => ?_, fun i ha hi hw hp => ?_, fun h => ?_⟩, fun ha => ?_, fun ha hb => ?_, fun ha hr => ?_,
    fun hc ha => ?_, fun hc h => ?_⟩
  · intro mine org hc
    have hreg : ∀ {a : Nat} {x : Dev}, mine → commonRegs.contains a = true → writeReg src a w s.toDev = x → registerWrite src a w s.toDev = x :=
      fun hm ha hx => (registerWrite_common hm ha).trans hx
    have hregs : ∀ (a : Nat), Regs s.toDev (writeReg src a w s.toDev) := fun a => regs_writeReg s.toDev src a w
    refine ⟨fun hm c hmem => ?_, fun hm => ⟨?_, fun hA hB heA heB hr => ?_, fun h2 hA hB heA heB hr => ?_, ?_, ?_, fun b => ?_, ?_, ?_, ?_,
      fun i hi => ?_, ?_, fun r hr => ?_⟩⟩
    · simp only [List.mem_cons, List.not_mem_nil, or_false] at hmem
      rcases hmem with rfl | rfl | rfl
      · exact answers_same (f := fromSource src (writeLinkCtrl src w)) rfl hc (fromSource_other hm)
      · exact answers_same (f := fromSource src (writeFaultPin src w)) rfl hc (fromSource_other hm)
      · exact answers_same (f := registerWrite src a w) rfl hc ((registerWrite_eq _ _ _ _).trans (fromSource_other hm))
    · exact answers_regs (f := fromSource src (writeLinkCtrl src w)) rfl (fromSource_mine hm) hc hn (regs_writeLinkCtrl _ src w)
    · obtain ⟨h1, h2, h3, h4, h5, e, h6, hitem, hold, hnew, horg⟩ := writeLinkCtrl_falls src w s.toDev hA hB heA heB hr
      refine answers_mono (answers_regs (f := fromSource src (writeLinkCtrl src w)) rfl (fromSource_mine hm) hc hn (regs_writeLinkCtrl _ src w))
        fun t ht => ?_
      rw [link_of_beside ht, jrn_of_beside ht]
      exact ⟨h1, h2, h3, h4, h5, e, h6, hitem, hold, hnew, by rw [horg]; cases src <;> rfl⟩
    · exact answers_heart (f := fromSource src (writeLinkCtrl src w)) rfl ((fromSource_mine hm).trans (writeLinkCtrl_refused src w s.toDev h2 hA hB heA heB hr))
        hc rfl
    · have hy := writeFaultPin_leaves src w s.toDev
      refine answers_mono (answers_regs (f := fromSource src (writeFaultPin src w)) rfl (fromSource_mine hm) hc hn (regs_writeFaultPin _ src w))
        fun t ht => ?_
      have hf := fault_of_beside ht
      have hj := jrn_of_beside ht
      have hff := congrArg Dev.fault hy
      rw [hff] at hf
      refine ⟨by rw [hf], by rw [hf], by rw [hf], by rw [hf]; rfl, ?_, fun h1 h2 h3 h4 => ?_⟩
      · rw [hf, hj]
        exact hy ▸ ht
      · rw [hj]
        rw [hf] at h1 h2 h3 h4
        exact writeFaultPin_unchanged src w s.toDev h1 h2 h3 h4
    · cases src with
      | spi =>
        have hown : ∀ {x : Dev}, writesAt .spi a w s.toDev = x → registerWrite .spi a w s.toDev = x := fun hx =>
          (registerWrite_eq _ _ _ _).trans ((fromSource_mine hm).trans hx)
        rw [if_pos rfl]
        by_cases h : mapped true a = true
        · rw [if_pos h]
          exact answers_mono (answers_mailed (f := registerWrite .spi a w) rfl (hown (if_pos h)) hc hn (mailed_hostWrite a w _)) fun _ ht => ht.1
        · rw [if_neg h]
          exact answers_same (f := registerWrite .spi a w) rfl hc (hown (if_neg h))
      | frame q =>
        have hown : ∀ {x : Dev}, writesAt (.frame q) a w s.toDev = x → registerWrite (.frame q) a w s.toDev = x := fun hx =>
          (registerWrite_eq _ _ _ _).trans ((fromSource_mine hm).trans hx)
        rw [if_neg nofun]
        by_cases h : mapped false a = true
        · rw [if_pos h]
          exact answers_regs (f := registerWrite (.frame q) a w) rfl (hown (if_pos h)) hc hn (regs_writeReg _ _ a w)
        · rw [if_neg h]
          exact answers_same (f := registerWrite (.frame q) a w) rfl hc (hown (if_neg h))
    · exact answers_heart (f := registerWrite src (0x100 + 4 * b) w) rfl (hreg hm (common_evf b) (writeReg_evf src w _ b)) hc rfl
    · exact answers_regs (f := registerWrite src 0x10 w) rfl (hreg hm rfl (writeReg_status src w _)) hc hn
        (by rw [← writeReg_status src]; exact hregs 0x10)
    · exact answers_heart (f := registerWrite src 0x44 w) rfl (hreg hm rfl (writeReg_linkStat src w _)) hc rfl
    · have hy := fieldEntry_leaves src s.toDev 0x18 0x1FF (Word.of s.host.irqEn.toNat) w
      refine answers_mono (answers_regs (f := registerWrite src 0x18 w) rfl (hreg hm rfl (writeReg_irqEnable src w _)) hc hn
        (by rw [← writeReg_irqEnable]; exact hregs 0x18)) fun t ht => ?_
      have hh := host_of_beside ht
      have hj := jrn_of_beside ht
      refine ⟨by rw [hh], ?_⟩
      rw [hh, hj]
      exact irqEn_leaves hy ▸ ht
    · refine answers_mono (answers_regs (f := registerWrite src 0x110 w) rfl (hreg hm rfl (writeReg_eve src w _)) hc hn (regs_writeEnables _ src 0 w))
        fun t ht => ?_
      rw [host_of_beside ht]
      exact eve_writeEnables src w s.toDev hi
    · refine answers_heart (f := registerWrite src 0x48 w) rfl (hreg hm rfl (writeReg_ringMap src w _)) hc ?_
      split <;> rfl
    · have hkept : writesAt src r w s.toDev = s.toDev := by
        have hout : ∀ r ∈ readOnlyRegs, r ∉ writtenRegs ∧ r < 0x100 ∧ r ≠ 0x20 ∧ r ≠ 0x24 ∧ r ≠ 0x2C := by decide
        obtain ⟨h1, h2, h3, h4, h5⟩ := hout r hr
        have hsame := writeReg_outside src w s.toDev h1 h2
        cases src with
        | spi =>
          show (if mapped true r then hostWrite r w s.toDev else s.toDev) = _
          unfold hostWrite
          rw [if_neg h3, if_neg h4, if_neg h5, hsame, ite_self]
        | frame q =>
          show (if mapped false r then writeReg (.frame q) r w s.toDev else s.toDev) = _
          rw [hsame, ite_self]
      exact answers_same (f := registerWrite src r w) rfl hc ((registerWrite_eq _ _ _ _).trans ((fromSource_mine hm).trans hkept))
  · refine answers_mono (answers_regs (f := atDevice (writeForce b w)) rfl (atDevice_runs ha) hc hn (regs_writeForce _ b.isLt w)) fun t ht => ⟨ht, fun i hi hw hp => ?_⟩
    rw [host_of_beside ht]
    exact evf_forced b.isLt (mlist w) (fun j hj => (mem_mlist.mp hj).1) _ hn (mem_mlist.mpr ⟨hi, hw⟩) hp
  · have hrun : atDevice (writeForce b w) s.toDev = raiseForced (32 * b + i) s.toDev := by
      rw [atDevice_runs ha, writeForce, hw, mlist_one hi]
      rfl
    exact answers_occurred (f := atDevice (writeForce b w)) rfl (by rw [hrun]; exact occurred_occurWith _ _ _ _ _ hp) hc id
  · refine answers_same (f := atDevice (writeForce b w)) rfl hc ?_
    rcases h with h | h
    · exact atDevice_idle h
    · have hnone : mlist (0 : Word) = [] := by decide
      unfold atDevice writeForce
      rw [h, hnone]
      exact ite_self _
  · exact answers_longEnds (f := atDevice hkDown) rfl (atDevice_runs ha) hu hd hn rfl
  · have hends : longEnds { s.toDev with cmd.hkReady := false } = { s.toDev with cmd.hkReady := false } := longEnds_away hb rfl
    exact hends ▸ answers_longEnds (f := atDevice hkDown) rfl (atDevice_runs ha) hu hd hn rfl
  · have hrun : atDevice hkDone s.toDev = hkUp s.toDev := (atDevice_runs ha).trans (if_neg (by rw [hr]; decide))
    obtain ⟨hcore, h1, h2, h3, h4⟩ := hkUp_leaves hn
    obtain ⟨-, ⟨g1, g2, g3⟩, g4⟩ := served_longEnds (hkUp s.toDev) (noSafe_of_calmCore hcore hn)
    refine answers_mono (answers_longEnds (f := atDevice hkDone) rfl hrun hu hd hn hcore) fun t ht => ⟨ht, ?_, ?_, ?_, ?_, fun hb hw hp hl hf hpl => ?_⟩
    · rw [cmd_of_beside ht, g1, h1]
    · rw [cmd_of_beside ht, g2, h2]
    · rw [cmd_of_beside ht, g3, h3]
    · rw [host_of_beside ht]
      exact g4 _ h4
    · have hup := hkUp_message hp hl hf hpl
      have hcmd : (hkUp s.toDev).cmd.busy = none ∧ (hkUp s.toDev).cmd.waiting = [] := by
        rw [hkUp_cmd hp hpl]
        exact ⟨hb, hw⟩
      rw [longEnds_calm hcmd.1 hcmd.2] at ht
      rw [eng_of_beside ht]
      exact hup
  · exact answers_same (f := atDevice hkDown) rfl hc (atDevice_idle ha)
  · refine answers_same (f := atDevice hkDone) rfl hc ?_
    rcases h with h | h
    · exact atDevice_idle h
    · unfold atDevice hkDone
      rw [h]
      exact ite_self _

end Sys2Proof.Proofs
end

section
/-! PROOF. How a command message is received: the mailbox, its CRC-32, its flags, the cache, the checks before a command's own
(13_host_port_and_mailboxes.md R405 to R415, 14_aeddo_command_reference.md R426, R427). -/

namespace Sys2Proof.Proofs

open Sys2Proof Sys2Proof.Machine Sys2Proof.Safety Sys2Proof.Laws

section Run

variable {c r : Cmd0} {m : Msg} {f : Dev → Ans} {d : Dev}

/-- A row is what its entries say of the message. -/
theorem runCmd_row (hcode : c.code = r.code) (hlen : c.lenOk m = r.lenOk m) (hb : c.bcast = r.bcast) (hh : c.head = r.head)
    (hs : c.session = r.session) : runCmd c m f d = runCmd r m f d := by
  unfold runCmd executeCmd
  rw [hcode, hlen, hb, hh, hs]

theorem runCmd_asleep (ha : awake d = false) : runCmd c m f d = d := by
  unfold runCmd
  rw [if_pos (by rw [ha]; rfl)]

theorem runCmd_waits (ha : awake d = true) (hk : d.cmd.hkReady = false) (hw : d.cmd.waiting = []) :
    runCmd c m f d = { d with cmd := { d.cmd with waiting := [(m.bcast, msgWords c.code m)] } } := by
  unfold runCmd keepWaiting
  dsimp only
  rw [if_neg (by rw [ha]; decide), if_pos (by rw [hk]; rfl), hw]
  rfl

/-- Of a calm device that is awake with its housekeeper running, a message is the next. -/
theorem runCmd_next (ha : awake d = true) (hk : d.cmd.hkReady = true) (hc : Calm d) : runCmd c m f d =
    if crc32 (msgWords c.code m).dropLast ≠ m.crc then badCheck c.code m.seq.toNat (m.body.length + 2) m.bcast d
    else if (m.rsp || m.head || m.gap) = true then badFlags c.code m.seq.toNat (m.body.length + 2) m.bcast d
    else match cached d m.seq.toNat c.code with
      | some x => deliver m.bcast false c.code m.seq.toNat (m.body.length + 2) (dupWords (ownAddr d) x.words) d
      | none => executeCmd c m f (seqGap d m.seq.toNat) (countSeq m.seq.toNat (seqGap d m.seq.toNat) d) := by
  obtain ⟨hbusy, hw, -⟩ := hc
  have hq : ∀ x, queuedBehind d x = false := by simp [queuedBehind, hw]
  have hd : ({ d with cmd := { d.cmd with waiting := dropFirst (fun x => x == (m.bcast, msgWords c.code m)) d.cmd.waiting } } : Dev) = d := by
    rw [hw]
    show ({ d with cmd := { d.cmd with waiting := [] } } : Dev) = d
    rw [← hw]
  unfold runCmd
  dsimp only
  rw [if_neg (by rw [ha]; decide), if_neg (by rw [hk, hq]; simp)]
  split
  next b hb =>
    rw [hbusy] at hb
    cases hb
  next =>
    rw [hd]
    simp only [Bool.not_eq_true', beq_eq_false_iff_ne] <;> rfl

end Run

/-! ## The rows of the table "Command summary" -/

section Rows

variable {m : Msg} {s : State}

/-- The command message runs as its row says; where a lockstep injection is left the housekeeper restarts after it. -/
def Runs (m : Msg) (s : State) (i : Instr) (r : Cmd0) : Prop :=
  ∃ (f : Dev → Ans) (g : Dev → Dev), exec i s = runDev s g ∧
    ∀ x, runCmd r m f s.toDev = x → (∀ i ∈ x.fault.inject, i.1 ≠ 4) → g s.toDev = x

theorem runs_row {i : Instr} {c r : Cmd0} {f : Dev → Ans} (hi : exec i s = runDev s (runCmd c m f)) (hlen : c.lenOk m = r.lenOk m)
    (hcode : c.code = r.code := by rfl) (hb : c.bcast = r.bcast := by rfl) (hh : c.head = r.head := by rfl)
    (hs : c.session = r.session := by rfl) : Runs m s i r :=
  ⟨f, runCmd c m f, hi, fun _ hx _ => (runCmd_row hcode hlen hb hh hs).trans hx⟩

theorem lockstepDue_none {d : Dev} (h : ∀ i ∈ d.fault.inject, i.1 ≠ 4) : lockstepDue d = d := by
  unfold lockstepDue
  rw [if_neg]
  rw [List.any_eq_true]
  rintro ⟨i, hi, h4⟩
  exact h i hi (by simpa using h4)

theorem runs_lockstep {i : Instr} {c r : Cmd0} {f : Dev → Ans} (hi : exec i s = runDev s (fun d => lockstepDue (runCmd c m f d)))
    (hlen : c.lenOk m = r.lenOk m) (hcode : c.code = r.code := by rfl) (hb : c.bcast = r.bcast := by rfl) (hh : c.head = r.head := by rfl)
    (hs : c.session = r.session := by rfl) : Runs m s i r :=
  ⟨f, fun d => lockstepDue (runCmd c m f d), hi, fun x hx hn => by
    show lockstepDue (runCmd c m f s.toDev) = x
    rw [runCmd_row hcode hlen hb hh hs, hx]
    exact lockstepDue_none hn⟩

theorem cells_length (m : Msg) : (balCells m).length = mcount (BitVec.ofNat 24 (bf (req m 1) 0 24)) := List.length_map _

theorem summary_runs (m : Msg) (s : State) (codes ax : List Nat) : ∀ p ∈ summary m codes ax, Runs m s p.1 p.2 := by
  have hcells : lenIs (3 + (balCells m).length) m = lenIs (3 + mcount (BitVec.ofNat 24 (bf (req m 1) 0 24))) m := by rw [cells_length]
  have hplans : lenIs (3 + 3 * (balCells m).length) m = lenIs (3 + 3 * mcount (BitVec.ofNat 24 (bf (req m 1) 0 24))) m := by rw [cells_length]
  simp only [summary, List.forall_mem_cons, List.not_mem_nil, false_imp_iff, implies_true, and_true]
  exact ⟨runs_row rfl rfl, runs_row rfl rfl, runs_row rfl rfl, runs_row rfl rfl, runs_row rfl rfl, runs_row rfl rfl, runs_row rfl rfl,
    runs_row rfl rfl, runs_row rfl rfl, runs_row rfl rfl, runs_row rfl rfl, runs_row rfl rfl, runs_row rfl rfl, runs_row rfl rfl,
    runs_row rfl rfl, runs_row rfl rfl, runs_row rfl rfl, runs_row rfl rfl, runs_row rfl hcells, runs_row rfl hplans, runs_row rfl rfl,
    runs_row rfl rfl, runs_row rfl rfl, runs_row rfl rfl, runs_row rfl rfl, runs_row rfl rfl, runs_row rfl rfl, runs_row rfl rfl,
    runs_row rfl rfl, runs_row rfl rfl, runs_row rfl rfl, runs_row rfl rfl, runs_row rfl rfl, runs_row rfl rfl, runs_row rfl rfl,
    runs_row rfl rfl, runs_lockstep rfl rfl, runs_row rfl rfl, runs_row rfl rfl, runs_row rfl rfl, runs_row rfl rfl, runs_row rfl rfl,
    runs_row rfl rfl⟩

/-- No command of the head's alone needs a session. -/
theorem summary_session (m : Msg) (codes ax : List Nat) : ∀ p ∈ summary m codes ax, p.2.session = true → p.2.head = false := by
  have hall : (summary m codes ax).all (fun p => !(p.2.session && p.2.head)) = true := rfl
  intro p hp hs
  have h := List.all_eq_true.mp hall p hp
  simpa [hs] using h

end Rows

/-! ## Answers before a command's own part -/

section Before

variable {s : State} {m : Msg}

theorem calm_answerWrite {a b : Dev} (h : AnswerWrite a b) (hc : Calm a) : Calm b ∧ b.power = a.power ∧ b.fault = a.fault := by
  unfold AnswerWrite at h
  rw [h]
  exact ⟨hc, rfl, rfl⟩

/-- A response to the message is delivered. -/
theorem deliver_sends (code : Nat) (ws : List Word) (d : Dev) :
    Sent code m false ws d (deliver m.bcast false code m.seq.toNat (m.body.length + 2) ws d) := by
  unfold Sent
  cases hh : isHead d <;> cases hb : m.bcast <;> simp [deliver, notOutstanding, hh, Beside]

/-- What a command message does on a calm device that stays calm. -/
theorem answers_message {i : Instr} {r : Cmd0} {a : Dev} (hr : Runs m s i r) (ha : ∀ f, runCmd r m f s.toDev = a)
    (hinj : ∀ i ∈ s.fault.inject, i.1 ≠ 4) (hc : Calm a) (hp : a.power.safeHold = true → s.power.safeHold = true)
    (hf : a.fault.inject = s.fault.inject) : Answers i s (Beside a) := by
  obtain ⟨f, g, hi, hg⟩ := hr
  exact answers_beside hi (hg a (ha f) (by rw [hf]; exact hinj)) hc hp

/-- What the head or a member has sent, with nothing else changed. -/
theorem answers_sent {i : Instr} {r : Cmd0} {ws : List Word} (hr : Runs m s i r) (hinj : ∀ i ∈ s.fault.inject, i.1 ≠ 4) (hc : Calm s.toDev)
    (hrun : ∀ f, runCmd r m f s.toDev = deliver m.bcast false r.code m.seq.toNat (m.body.length + 2) ws s.toDev) :
    Answers i s (Sent r.code m false ws s.toDev) := by
  obtain ⟨hcalm, hpower, hfault⟩ := calm_answerWrite (answerWrite_deliver m.bcast false r.code m.seq.toNat (m.body.length + 2) ws s.toDev) hc
  exact answers_mono (answers_message hr hrun hinj hcalm (by rw [hpower]; exact id) (by rw [hfault])) fun t ht =>
    beside_trans (deliver_sends r.code ws s.toDev) ht

/-- The command is refused before its own part. -/
theorem answers_refused {i : Instr} {r : Cmd0} {st : Status} (hr : Runs m s i r) (hinj : ∀ i ∈ s.fault.inject, i.1 ≠ 4) (hc : Calm s.toDev)
    (hrun : ∀ f, runCmd r m f s.toDev = answer r.code m.seq.toNat (m.body.length + 2) m.quiet m.bcast false st [] (counted m s.toDev)) :
    Answers i s (Replied r.code m st [] s.toDev) := by
  obtain ⟨hreply, hcalm, hpower⟩ := sent_of_answer r.code m st [] s.toDev _ rfl hc
  have hcount : Calm (counted m s.toDev) := hc
  have hfault := (calm_answerWrite (answerWrite_answer r.code m.seq.toNat (m.body.length + 2) m.quiet m.bcast false st [] (counted m s.toDev))
    hcount).2.2
  generalize answer r.code m.seq.toNat (m.body.length + 2) m.quiet m.bcast false st [] (counted m s.toDev) = y at *
  obtain ⟨f, g, hi, hg⟩ := hr
  have hrun' := hg _ (hrun f) (by rw [hfault]; exact hinj)
  refine ⟨{ s with toDev := effect g s.toDev }, hi, rfl, ?_⟩
  show Replied r.code m st [] s.toDev (effect g s.toDev)
  rw [effect_calm (by rw [hrun']; exact hcalm) (by rw [hrun', hpower]; exact id), hrun']
  exact hreply

end Before

end Sys2Proof.Proofs
end

section
/-! PROOF. The answers that every row of the table "Command summary" has in common, IDENTIFY and CAPS
(13_host_port_and_mailboxes.md R405 to R415, 14_aeddo_command_reference.md R427, R434). -/

namespace Sys2Proof.Proofs

open Sys2Proof Sys2Proof.Machine Sys2Proof.Safety Sys2Proof.Laws

section Check

variable {d : Dev}

/-- The device with one more message of a bad CRC-32 counted. -/
def crcCounted (d : Dev) : Dev := { d with host.msgCrc := satInc 255 d.host.msgCrc }

/-- The device with one more gap of SEQ counted. -/
def gapCounted (seq : Nat) (d : Dev) : Dev := { d with cmd.expSeq := some ((seq + 1) % 256), host.seqGaps := satInc 255 d.host.seqGaps }

/-- An occurrence leaves what an answer is made of. -/
theorem occurred_answers {k : Nat} {a e : Dev} (h : Occurred k a e) : e.cmd = a.cmd ∧ e.ring = a.ring ∧ e.power = a.power ∧ e.cfg = a.cfg ∧
    e.jrn = a.jrn ∧ e.fault.inject = a.fault.inject ∧ e.host.rsps = a.host.rsps ∧ e.host.outst = a.host.outst ∧
    e.host.msgCrc = a.host.msgCrc ∧ e.host.seqGaps = a.host.seqGaps := by
  obtain ⟨-, -, -, he⟩ := h
  rw [he]
  exact ⟨rfl, rfl, rfl, rfl, rfl, rfl, rfl, rfl, rfl, rfl⟩

/-- What a response delivered adds. -/
theorem deliver_adds (bcast : Bool) (code seq len : Nat) (ws : List Word) (d : Dev) :
    (deliver bcast false code seq len ws d).host.rsps = d.host.rsps ++ (if isHead d then [⟨1, ws⟩] else []) ∧
    (deliver bcast false code seq len ws d).cmd =
      { d.cmd with out := d.cmd.out ++ (if isHead d || bcast then [] else [⟨d.ring.addr, ws⟩]) } := by
  cases hh : isHead d <;> cases bcast <;> simp [deliver, notOutstanding, hh]

theorem rspOf_congr (code : Nat) (m : Msg) (st : Status) (data : List Word) {a b : Dev} (hp : b.power = a.power) (hr : b.ring = a.ring)
    (ho : b.host.outst = a.host.outst) : rspOf code m st data b = rspOf code m st data a := by
  have hh : isHead b = isHead a := isHead_of_power hp
  unfold rspOf withAccept ownAddr
  rw [hh, hr, ho]

theorem answerWrite_keeps {a b : Dev} (h : AnswerWrite a b) : b.host.msgCrc = a.host.msgCrc ∧ b.host.evf = a.host.evf ∧ b.cfg = a.cfg ∧
    b.jrn = a.jrn := by
  unfold AnswerWrite at h
  rw [h]
  exact ⟨rfl, rfl, rfl, rfl⟩

end Check

section Messages

variable {s : State} {m : Msg}

/-- A message whose CRC-32 is wrong. -/
theorem answers_badCheck {i : Instr} {r : Cmd0} (hr : Runs m s i r) (hinj : ∀ i ∈ s.fault.inject, i.1 ≠ 4) (hc : Calm s.toDev)
    (hp : Plain s.toDev 125) (hrun : ∀ f, runCmd r m f s.toDev = badCheck r.code m.seq.toNat (m.body.length + 2) m.bcast s.toDev) :
    Answers i s (fun t =>
      t.host.msgCrc = satInc 255 s.host.msgCrc ∧ mbit t.host.evf 125 = true ∧ t.cmd.cache = s.cmd.cache ∧
      t.cmd.expSeq = s.cmd.expSeq ∧ t.cmd.busy = none ∧ t.cfg = s.cfg ∧ t.jrn = s.jrn ∧ t.power = s.power ∧
      t.host.rsps = s.host.rsps ++ (if isHead s.toDev then [⟨1, rspOf r.code m (st 0x09) [] s.toDev⟩] else []) ∧
      t.cmd.out = s.cmd.out ++ (if isHead s.toDev || m.bcast then [] else [⟨s.ring.addr, rspOf r.code m (st 0x09) [] s.toDev⟩])) := by
  have hocc : Occurred 125 (crcCounted s.toDev) (raise 125 (crcCounted s.toDev)) := occurred_raise 125 hp
  have hbad : badCheck r.code m.seq.toNat (m.body.length + 2) m.bcast s.toDev =
      deliver m.bcast false r.code m.seq.toNat (m.body.length + 2) (rspOf r.code m (st 0x09) [] (raise 125 (crcCounted s.toDev)))
        (raise 125 (crcCounted s.toDev)) := rfl
  have hcalm : Calm (raise 125 (crcCounted s.toDev)) := calm_of_occurred hocc hc
  have hevf := hocc.1
  obtain ⟨hcmd, hring, hpower, hcfg, hjrn, hinject, hrsps, houtst, hcrc, -⟩ := occurred_answers hocc
  rw [rspOf_congr r.code m _ _ (a := s.toDev) hpower hring houtst] at hbad
  generalize raise 125 (crcCounted s.toDev) = e at *
  have hw := answerWrite_deliver m.bcast false r.code m.seq.toNat (m.body.length + 2) (rspOf r.code m (st 0x09) [] s.toDev) e
  obtain ⟨hrsps', hcmd'⟩ := deliver_adds m.bcast r.code m.seq.toNat (m.body.length + 2) (rspOf r.code m (st 0x09) [] s.toDev) e
  generalize deliver m.bcast false r.code m.seq.toNat (m.body.length + 2) (rspOf r.code m (st 0x09) [] s.toDev) e = y at *
  obtain ⟨hycalm, hypower, hyfault⟩ := calm_answerWrite hw hcalm
  have hhead : isHead e = isHead s.toDev := isHead_of_power hpower
  refine answers_mono (answers_message hr (fun f => (hrun f).trans hbad) hinj hycalm (by rw [hypower, hpower]; exact id)
    (by rw [hyfault, hinject]; rfl)) fun t ht => ?_
  obtain ⟨hycrc, hyevf, hycfg, hyjrn⟩ := answerWrite_keeps hw
  have hthost := host_of_beside ht
  have htcmd := cmd_of_beside ht
  refine ⟨?_, ?_, ?_, ?_, ?_, ?_, ?_, ?_, ?_, ?_⟩
  · rw [hthost, hycrc, hcrc]
    rfl
  · rw [hthost, hyevf, hevf]
    exact mbit_mset_self _ (by decide)
  · rw [htcmd, hcmd', hcmd]
    rfl
  · rw [htcmd, hcmd', hcmd]
    rfl
  · rw [htcmd]
    exact hycalm.1
  · rw [cfg_of_beside ht, hycfg, hcfg]
    rfl
  · rw [jrn_of_beside ht, hyjrn, hjrn]
    rfl
  · rw [power_of_beside ht, hypower, hpower]
    rfl
  · rw [hthost, hrsps', hrsps, hhead]
    rfl
  · rw [htcmd, hcmd', hcmd, hring, hhead]
    rfl

/-- The conditions of takes but for the sender's waiting departure. -/
theorem takes_parts {d : Dev} {code : Nat} {b : Bool} (h : takes d code b m = true) :
    awake d = true ∧ d.cmd.hkReady = true ∧ d.power.leaving = none ∧ crc32 (msgWords code m).dropLast = m.crc ∧
    (m.rsp || m.head || m.gap) = false ∧ m.rsv = 0 ∧ (b = true ∨ m.bcast = false) ∧ cached d m.seq.toNat code = none ∧
    seqGap d m.seq.toNat = false := by
  simp only [takes, Bool.and_eq_true, beq_iff_eq, Bool.not_eq_true'] at h
  obtain ⟨⟨⟨⟨⟨⟨⟨⟨ha, hk⟩, hl⟩, hcrc⟩, hf⟩, hr⟩, hb⟩, hca⟩, hs⟩ := h
  exact ⟨ha, hk, by simpa using hl, hcrc, hf, hr, by simpa using hb, by simpa using hca, hs⟩

/-- A message in its order comes to its checks. -/
theorem runCmd_ordered {c : Cmd0} {f : Dev → Ans} {d : Dev} (ha : awake d = true) (hk : d.cmd.hkReady = true) (hc : Calm d)
    (hcrc : crc32 (msgWords c.code m).dropLast = m.crc) (hf : (m.rsp || m.head || m.gap) = false) (hca : cached d m.seq.toNat c.code = none) :
    runCmd c m f d = executeCmd c m f (seqGap d m.seq.toNat) (countSeq m.seq.toNat (seqGap d m.seq.toNat) d) := by
  rw [runCmd_next ha hk hc, if_neg (by rw [hcrc]; exact fun h => h rfl), if_neg (by rw [hf]; decide), hca]

/-- The checks before a command's own part, in order (R427). -/
def rowChecks (c : Cmd0) (m : Msg) (d : Dev) : Option Status :=
  firstFail [(!c.lenOk m, stLENGTH), ((m.bcast && !c.bcast) || (c.head && !isHead d) || d.power.leaving.isSome, stSTATE),
    (c.session && !d.sess.isOpen, stAUTH)]

theorem executeCmd_checked {c : Cmd0} {f : Dev → Ans} {d : Dev} {st : Status} (gap : Bool) (h : rowChecks c m d = some st) :
    executeCmd c m f gap d = answer c.code m.seq.toNat (m.body.length + 2) m.quiet m.bcast gap st [] d := by
  unfold rowChecks at h
  unfold executeCmd
  dsimp only
  rw [h]

end Messages

/-! ## The words of a response -/

theorem rspHeader_gap {code seq len : Nat} (hlen : len < 4096) : bit (rspHeader code seq true false len) 12 = true := by
  unfold bit rspHeader Word.of
  rw [BitVec.getLsbD_ofNat]
  simp only [b2n, if_true, Bool.false_eq_true, if_false]
  rw [Nat.testBit_eq_decide_div_mod_eq, Bool.and_eq_true]
  exact ⟨rfl, decide_eq_true (by omega)⟩

theorem statusWord_ok (addr : Nat) : bf (statusWord addr 0 stOK) 24 8 = 0 := by
  have hlow : addr % 64 < 2 ^ 24 := by omega
  unfold bf statusWord Word.of
  rw [BitVec.toNat_ofNat, Nat.shiftRight_eq_div_pow]
  show (0 * 2 ^ 24 + 0 * 2 ^ 16 + 0 * 2 ^ 14 + 0 * 2 ^ 6 + addr % 64) % 2 ^ 32 / 2 ^ 24 % 2 ^ 8 = 0
  omega

/-! ## IDENTIFY and CAPS -/

/-- What IDENTIFY answers (R434). -/
def identity (d : Dev) : List Word :=
  [idWord d, 0x03020300, Word.of (causeCode d.power.cause * 2 ^ 24 + b2n (isHead d) * 2 ^ 23 + pstateCode d * 2 ^ 20 + ownAddr d),
    Word.of (d.otp.uid.toNat % 2 ^ 32), Word.of (d.otp.uid.toNat / 2 ^ 32), d.part.cap0, d.part.cap1,
    Word.of (genEmpty d * 2 ^ 8 + genUsed d)]

/-- What CAPS answers (R434). -/
def capacities (d : Dev) : List Word :=
  [d.part.cap0, d.part.cap1, Word.of (historyDepth d.part * 2 ^ 16 + historyDepth d.part / 8), Word.of (d.part.pool * 2 ^ 16 + weir d),
    0x10040404, 0x01000100]

theorem identity_eq (d : Dev) : identity d =
    [Word.of (partCode d.part * 2 ^ 16 + 0xB130 + (if isHead d then 8 else 0)), 0x03020300,
     Word.of (causeCode d.power.cause * 2 ^ 24 + (if isHead d then 2 ^ 23 else 0) + pstateCode d * 2 ^ 20 +
       (if isHead d then 1 else d.ring.addr)),
     Word.of (d.otp.uid.toNat % 2 ^ 32), Word.of (d.otp.uid.toNat / 2 ^ 32), d.part.cap0, d.part.cap1,
     Word.of (genEmpty d * 2 ^ 8 + d.otp.used.getD 0xFF)] := by
  unfold identity idWord ownAddr genUsed
  cases isHead d <;> simp [b2n]

/-- A command without a session that is not the head's alone needs its LENGTH only. -/
theorem admits_plain {code : Nat} {lenOk : Msg → Bool} {bcast : Bool} {m : Msg} {d : Dev} (h : lenOk m = true) :
    admits ⟨code, lenOk, bcast, false, false⟩ m d := ⟨h, nofun, nofun⟩

section Identify

variable {s : State} {m : Msg}

theorem exec_identify (m : Msg) (s : State) :
    exec (.identify m) s = runDev s (runCmd ⟨0x01, lenIs 2, false, false, false⟩ m (fun d => okWith (identity d) d)) := rfl

theorem exec_caps (m : Msg) (s : State) :
    exec (.caps m) s = runDev s (runCmd ⟨0x02, lenIs 2, false, false, false⟩ m (fun d => okWith (capacities d) d)) := rfl

theorem lenIs_empty {m : Msg} (h : m.body = []) : lenIs 2 m = true := by
  unfold lenIs
  rw [h]
  rfl

theorem identify_replies (ht : takes s.toDev 0x01 false m = true) (hc : Calm s.toDev) (hb : m.body = []) :
    Answers (.identify m) s (Replied 0x01 m stOK (identity s.toDev) s.toDev) :=
  have hf : (fun d => okWith (identity d) d) (counted m s.toDev) = okWith (identity s.toDev) (counted m s.toDev) := rfl
  replied_read (c := ⟨0x01, lenIs 2, false, false, false⟩) (exec_identify m s) ht hc (admits_plain (lenIs_empty hb)) hf

theorem caps_replies (ht : takes s.toDev 0x02 false m = true) (hc : Calm s.toDev) (hb : m.body = []) :
    Answers (.caps m) s (Replied 0x02 m stOK (capacities s.toDev) s.toDev) :=
  have hf : (fun d => okWith (capacities d) d) (counted m s.toDev) = okWith (capacities s.toDev) (counted m s.toDev) := rfl
  replied_read (c := ⟨0x02, lenIs 2, false, false, false⟩) (exec_caps m s) ht hc (admits_plain (lenIs_empty hb)) hf

end Identify

section Checked

variable {s : State} {m : Msg} {i : Instr} {r : Cmd0}

theorem replied_answer {g : Dev → Dev} {code : Nat} {st : Status} {data : List Word} (hi : exec i s = runDev s g)
    (hg : g s.toDev = answer code m.seq.toNat (m.body.length + 2) m.quiet m.bcast false st data (counted m s.toDev)) (hc : Calm s.toDev) :
    Answers i s (Replied code m st data s.toDev) := by
  obtain ⟨hreply, hcalm, hpower⟩ := sent_of_answer code m st data s.toDev _ rfl hc
  generalize answer code m.seq.toNat (m.body.length + 2) m.quiet m.bcast false st data (counted m s.toDev) = y at *
  refine ⟨{ s with toDev := effect g s.toDev }, hi, rfl, ?_⟩
  show Replied code m st data s.toDev (effect g s.toDev)
  rw [effect_calm (by rw [hg]; exact hcalm) (by rw [hg, hpower]; exact id), hg]
  exact hreply

/-- While the housekeeper restarts the message waits (R426). -/
theorem answers_kept_waiting (hr : Runs m s i r) (hinj : ∀ i ∈ s.fault.inject, i.1 ≠ 4) (hc : Calm s.toDev) (ha : awake s.toDev = true)
    (hk : s.cmd.hkReady = false) :
    Answers i s (Beside { s.toDev with cmd := { s.cmd with waiting := [(m.bcast, msgWords r.code m)] } }) := by
  obtain ⟨f, g, hi, hg⟩ := hr
  have hrun := hg _ (runCmd_waits ha hk hc.2.1) hinj
  have hstays : flushUnknown { s.toDev with cmd := { s.cmd with waiting := [(m.bcast, msgWords r.code m)] } } =
      { s.toDev with cmd := { s.cmd with waiting := [(m.bcast, msgWords r.code m)] } } := by
    unfold flushUnknown
    dsimp only
    rw [if_neg]
    rw [hk]
    simp
  exact hstays ▸ answers_mailbox hi hrun hc rfl hc.1

theorem rowChecks_length {d : Dev} (hl : r.lenOk m = false) : rowChecks r m d = some stLENGTH := by simp [rowChecks, firstFail, hl]

theorem rowChecks_state {d : Dev} (hl : r.lenOk m = true) (h : ((m.bcast && !r.bcast) || (r.head && !isHead d) || d.power.leaving.isSome) = true) :
    rowChecks r m d = some stSTATE := by
  unfold rowChecks
  rw [h, hl]
  rfl

theorem rowChecks_session {d : Dev} (hl : r.lenOk m = true)
    (h : ((m.bcast && !r.bcast) || (r.head && !isHead d) || d.power.leaving.isSome) = false) (hs : r.session = true) (ho : d.sess.isOpen = false) :
    rowChecks r m d = some stAUTH := by
  unfold rowChecks
  rw [h, hl, hs, ho]
  rfl

theorem rowChecks_none {d : Dev} (hl : r.lenOk m = true)
    (h : ((m.bcast && !r.bcast) || (r.head && !isHead d) || d.power.leaving.isSome) = false) (hs : r.session = false) : rowChecks r m d = none := by
  unfold rowChecks
  rw [h, hl, hs]
  rfl

theorem countSeq_ordered (m : Msg) (d : Dev) : countSeq m.seq.toNat false d = counted m d := by
  unfold countSeq counted
  exact if_neg (by decide)

/-- A message that the device takes, but for a departure, is refused by the checks of its row. -/
theorem answers_checked {st : Status} (hr : Runs m s i r) (hinj : ∀ i ∈ s.fault.inject, i.1 ≠ 4) (hc : Calm s.toDev)
    (ht : takes { s.toDev with power := { s.power with leaving := none } } r.code true m = true)
    (hst : rowChecks r m s.toDev = some st) : Answers i s (Replied r.code m st [] s.toDev) := by
  obtain ⟨ha, hk, -, hcrc, hf, -, -, hca, hgap⟩ := takes_parts ht
  have hgap' : seqGap s.toDev m.seq.toNat = false := hgap
  have hst' : rowChecks r m (counted m s.toDev) = some st := hst
  refine answers_refused hr hinj hc fun f => ?_
  have hrun := runCmd_ordered (c := r) (f := f) (d := s.toDev) ha hk hc hcrc hf hca
  rw [hrun, hgap']
  exact executeCmd_checked false hst'

/-- IDENTIFY with reserved header bits (R13, R427). -/
theorem identify_reserved (hrsv : m.rsv ≠ 0) (ha : awake s.toDev = true) (hk : s.cmd.hkReady = true) (hl : s.power.leaving = none)
    (hcrc : crc32 (msgWords 0x01 m).dropLast = m.crc) (hf : (m.rsp || m.head || m.gap) = false) (hca : cached s.toDev m.seq.toNat 0x01 = none)
    (hgap : seqGap s.toDev m.seq.toNat = false) (hbc : m.bcast = false) (hb : m.body = []) (hc : Calm s.toDev) :
    runCmd ⟨0x01, lenIs 2, false, false, false⟩ m (fun d => okWith (identity d) d) s.toDev =
      answer 0x01 m.seq.toNat (m.body.length + 2) m.quiet m.bcast false stRANGE [] (counted m s.toDev) := by
  have hl' : (counted m s.toDev).power.leaving = none := hl
  have hnone : rowChecks ⟨0x01, lenIs 2, false, false, false⟩ m (counted m s.toDev) = none :=
    rowChecks_none (r := ⟨0x01, lenIs 2, false, false, false⟩) (lenIs_empty hb) (by rw [hbc, hl']; rfl) rfl
  have hrun := runCmd_ordered (c := ⟨0x01, lenIs 2, false, false, false⟩) (f := fun d => okWith (identity d) d) (d := s.toDev) ha hk hc hcrc hf hca
  rw [hrun, hgap]
  unfold rowChecks at hnone
  unfold executeCmd
  dsimp only
  rw [countSeq_ordered, hnone, if_pos (by simpa using hrsv)]
  rfl

end Checked

section Gap

variable {s : State} {m : Msg}

/-- What an answer leaves in the cache, and of the commands. -/
theorem answer_cache (code seq len : Nat) (quiet bcast gap : Bool) (st : Status) (data : List Word) (d : Dev) :
    (answer code seq len quiet bcast gap st data d).cmd.cache =
      (⟨seq, code, rspWords (ownAddr d) code seq gap false 0 st (withAccept d bcast code seq data)⟩ :: d.cmd.cache).take 8 ∧
    (answer code seq len quiet bcast gap st data d).cmd.expSeq = d.cmd.expSeq ∧
    (answer code seq len quiet bcast gap st data d).host.seqGaps = d.host.seqGaps ∧
    (answer code seq len quiet bcast gap st data d).host.evf = d.host.evf := by
  unfold answer deliver
  dsimp only
  split
  · split <;> exact ⟨rfl, rfl, rfl, rfl⟩
  · split <;> exact ⟨rfl, rfl, rfl, rfl⟩

/-- IDENTIFY on a device that has just counted a gap (R414). -/
theorem identify_answers {e : Dev} (hbc : m.bcast = false) (hb : m.body = []) (hr : m.rsv = 0) (hl : e.power.leaving = none) :
    executeCmd ⟨0x01, lenIs 2, false, false, false⟩ m (fun d => okWith (identity d) d) true e =
      answer 0x01 m.seq.toNat (m.body.length + 2) m.quiet m.bcast true stOK (identity e) e := by
  have hnone : rowChecks ⟨0x01, lenIs 2, false, false, false⟩ m e = none :=
    rowChecks_none (r := ⟨0x01, lenIs 2, false, false, false⟩) (lenIs_empty hb) (by rw [hbc, hl]; rfl) rfl
  unfold rowChecks at hnone
  unfold executeCmd
  dsimp only
  rw [hnone, if_neg (by simp [hr])]
  show (if stOK.code != 0 then _ else if !journalRoom e e then _ else _) = _
  rw [if_neg (by decide), if_neg (by rw [journalRoom_self]; decide)]

/-- The words of an answer with SEQ_GAP (R405, R407). -/
theorem gapWords (addr code seq : Nat) (data : List Word) (h : data.length < 4093) :
    bit (nth (rspWords addr code seq true false 0 stOK data) 0 0) 12 = true ∧ bf (nth (rspWords addr code seq true false 0 stOK data) 1 0) 24 8 = 0 :=
  ⟨rspHeader_gap (by omega), statusWord_ok addr⟩

theorem answers_gap {e : Nat} (hc : Calm s.toDev) (ht : takes { s.toDev with cmd := { s.cmd with expSeq := none } } 0x01 false m = true)
    (hb : m.body = []) (he : s.cmd.expSeq = some e) (hne : e ≠ m.seq.toNat) (hpl : Plain s.toDev 125) : Answers (.identify m) s (fun t =>
      t.host.seqGaps = satInc 255 s.host.seqGaps ∧ mbit t.host.evf 125 = true ∧ t.cmd.expSeq = some ((m.seq.toNat + 1) % 256) ∧
      (∃ x : Cached, t.cmd.cache.head? = some x ∧ x.seq = m.seq.toNat ∧ x.code = 0x01 ∧
        bit (nth x.words 0 0) 12 = true ∧ bf (nth x.words 1 0) 24 8 = 0)) := by
  obtain ⟨ha, hk, hlv, hcrc, hf, hrsv, hbc, hca, -⟩ := takes_parts ht
  have hbcast : m.bcast = false := hbc.resolve_left (by decide)
  have hgap : seqGap s.toDev m.seq.toNat = true := by
    unfold seqGap
    rw [he]
    simpa using hne
  have hocc : Occurred 125 (gapCounted m.seq.toNat s.toDev) (raise 125 (gapCounted m.seq.toNat s.toDev)) := occurred_raise 125 hpl
  have hcalm : Calm (raise 125 (gapCounted m.seq.toNat s.toDev)) := calm_of_occurred hocc hc
  have hrun := runCmd_ordered (c := ⟨0x01, lenIs 2, false, false, false⟩) (f := fun d => okWith (identity d) d) (d := s.toDev) ha hk hc hcrc hf hca
  have hcount : countSeq m.seq.toNat true s.toDev = raise 125 (gapCounted m.seq.toNat s.toDev) := rfl
  rw [hgap, hcount] at hrun
  have hevf := hocc.1
  obtain ⟨hcmd, -, hpower, -, -, -, -, -, -, hgaps⟩ := occurred_answers hocc
  generalize raise 125 (gapCounted m.seq.toNat s.toDev) = y at *
  rw [identify_answers hbcast hb hrsv (by rw [hpower]; exact hlv)] at hrun
  obtain ⟨hcache, hexp, hsg, hef⟩ := answer_cache 0x01 m.seq.toNat (m.body.length + 2) m.quiet m.bcast true stOK (identity y) y
  obtain ⟨hzcalm, hzpower, -⟩ := calm_answerWrite (answerWrite_answer 0x01 m.seq.toNat (m.body.length + 2) m.quiet m.bcast true stOK (identity y) y) hcalm
  generalize answer 0x01 m.seq.toNat (m.body.length + 2) m.quiet m.bcast true stOK (identity y) y = z at *
  refine answers_mono (answers_beside (exec_identify m s) hrun hzcalm (by rw [hzpower, hpower]; exact id)) fun t ht => ?_
  rw [host_of_beside ht, cmd_of_beside ht]
  refine ⟨by rw [hsg, hgaps]; rfl, ?_, by rw [hexp, hcmd]; rfl, ?_⟩
  · rw [hef, hevf]
    exact mbit_mset_self _ (by decide)
  · rw [hcache]
    refine ⟨_, rfl, rfl, rfl, gapWords _ _ _ _ ?_⟩
    rw [withAccept, hbcast, Bool.false_and, if_neg (by decide)]
    show 8 < 4093
    decide

end Gap

/-- Settles O51: the mailbox, the CRC-32, the flags and the cache come before the row's checks, and these before the command's part. -/
theorem messagesFollowTheProtocol : Obligations.MessagesFollowTheProtocol := by
  intro s m codes ax hc hinj
  refine ⟨fun ht hb => ?_, fun ht hb => ?_, fun hrsv ha hk hl hcrc hf hca hgap hbc hb => ?_, fun p hp => ⟨fun ha => ?_, fun ha hk => ?_,
    fun ha hk => ⟨fun hcrc hpl => ?_, fun hcrc hf => ?_, fun x hcrc hf hx => ?_⟩, fun ht => ⟨fun hl => ?_, fun hl hst => ?_, fun hl hb hlv hs ho => ?_⟩⟩,
    fun e ht hb he hne hpl => ?_⟩
  · rw [← identity_eq]
    exact identify_replies ht hc hb
  · exact caps_replies ht hc hb
  · exact replied_answer (exec_identify m s) (identify_reserved hrsv ha hk hl hcrc hf hca hgap hbc hb hc) hc
  · exact answers_message (summary_runs m s codes ax p hp) (fun f => runCmd_asleep ha) hinj hc id rfl
  · exact answers_kept_waiting (summary_runs m s codes ax p hp) hinj hc ha hk
  · exact answers_badCheck (summary_runs m s codes ax p hp) hinj hc hpl fun f => (runCmd_next ha hk hc).trans (if_pos hcrc)
  · exact answers_sent (summary_runs m s codes ax p hp) hinj hc fun f =>
      (runCmd_next ha hk hc).trans ((if_neg (fun h => h hcrc)).trans (if_pos hf))
  · exact answers_sent (summary_runs m s codes ax p hp) hinj hc fun f =>
      (runCmd_next ha hk hc).trans ((if_neg (fun h => h hcrc)).trans ((if_neg (by rw [hf]; decide)).trans (by rw [hx])))
  · exact answers_checked (summary_runs m s codes ax p hp) hinj hc ht (rowChecks_length hl)
  · exact answers_checked (summary_runs m s codes ax p hp) hinj hc ht (rowChecks_state hl hst)
  · have hhead := summary_session m codes ax p hp hs
    exact answers_checked (summary_runs m s codes ax p hp) hinj hc ht (rowChecks_session hl (by rw [hb, hhead, hlv]; rfl) hs ho)
  · exact answers_gap hc ht hb he hne hpl

end Sys2Proof.Proofs
end

section
/-! PROOF. An immediate capture freezes every capture that is due, its own or not (05_cell_conversion.md R153). -/

namespace Sys2Proof.Proofs

open Sys2Proof Sys2Proof.Machine Sys2Proof.Safety Sys2Proof.Laws

/-- A visible record of TSEQ 5. -/
def visibleRec : Rec := { Rec.reset with tseq := 5 }

/-- A head in STANDBY whose capture 1, TRIGGERED at TSEQ 3 with POST 1, is due to freeze. -/
def dueHead : State :=
  { State.reset with
    power := { State.reset.power with pstate := .standby, stepNo := 9 }
    clk := { State.reset.clk with pllP := true, boot := false }
    cmd := { State.reset.cmd with hkReady := true }
    conv := { State.reset.conv with
      live := [visibleRec]
      caps := [Capture.reset, { Capture.reset with state := 2, trigTseq := 3, pre := 1, post := 1 }, Capture.reset, Capture.reset] } }

/-- CAPTURE_ARM with TRIG 4, PRE 1 and POST 1, its CRC-32 to be set. -/
def armUnsealed : Msg :=
  { seq := 1, rsp := false, head := false, quiet := false, gap := false, rsv := 0, bcast := false, body := [0x04000000, 1, 1], crc := 0 }

/-- CAPTURE_ARM at once. -/
def armNow : Msg := { armUnsealed with crc := crc32 (msgWords 0x24 armUnsealed).dropLast }

/-- STATE of capture c after a command. -/
def capStateAfter (i : Instr) (s : State) (c : Nat) : Nat :=
  match exec i s with
  | .next t => (capAt t.toDev c).state
  | _ => 0

theorem capStateAfter_next {i : Instr} {s t : State} (h : exec i s = .next t) (c : Nat) : capStateAfter i s c = (capAt t.toDev c).state := by
  unfold capStateAfter
  rw [h]

theorem dueHead_calm : Calm dueHead.toDev := by decide +kernel

theorem dueHead_free : JournalFree dueHead.toDev := by decide +kernel

theorem armNow_takes : takes dueHead.toDev 0x24 false armNow = true := by decide +kernel

theorem armNow_passes : capAbsent dueHead.toDev armNow = false ∧ armCheck dueHead.toDev armNow = none := by decide +kernel

theorem armNow_freezes : capStateAfter (.captureArm armNow) dueHead 1 = 3 := by decide +kernel

/-- Refutes O53: an ARM with TRIG 4 triggers at once and freezes every capture that is due, so that capture 1, TRIGGERED with its
POST record visible, is FROZEN by the arming of capture 0. -/
theorem not_measurementMessagesReadAndArm : ¬ Obligations.MeasurementMessagesReadAndArm := by
  intro h
  obtain ⟨-, -, -, hcapture, -⟩ := h dueHead armNow dueHead_calm dueHead_free rfl
  obtain ⟨-, -, hops⟩ := hcapture armNow_takes rfl
  obtain ⟨harm, -⟩ := hops armNow_passes.1 (by decide)
  obtain ⟨t, ht, -, -, -, -, -, -, -, -, -, hothers⟩ := harm 0 (by decide) armNow_passes.2 rfl
  have hkept : (capAt t.toDev 1).state = 2 := by
    rw [hothers 1 (by decide)]
    rfl
  rw [← capStateAfter_next ht, armNow_freezes] at hkept
  cases hkept

end Sys2Proof.Proofs
end

section
/-! PROOF. How a message that succeeds is answered, the masks of its words, and lists of units that a command goes through
(14_aeddo_command_reference.md R427, R431). -/

namespace Sys2Proof.Proofs

open Sys2Proof Sys2Proof.Machine Sys2Proof.Safety Sys2Proof.Laws

/-! ## Answers -/

section Done

variable {s : State} {m : Msg} {c : Cmd0} {f : Dev → Ans} {i : Instr}

/-- A command whose own part ends leaves what it has made with its answer sent. -/
theorem answers_done {data : List Word} {e : Dev} (hi : exec i s = runDev s (runCmd c m f)) (ht : takes s.toDev c.code c.bcast m = true)
    (hc : Calm s.toDev) (ha : admits c m s.toDev) (hf : f (counted m s.toDev) = .done stOK data e) (hce : Calm e)
    (hp : e.power.safeHold = true → s.power.safeHold = true) (hj : journalRoom s.toDev e = true) :
    Answers i s (Beside (answer c.code m.seq.toNat (m.body.length + 2) m.quiet m.bcast false stOK data e)) := by
  have hrun : runCmd c m f s.toDev = answer c.code m.seq.toNat (m.body.length + 2) m.quiet m.bcast false stOK data e := by
    rw [runCmd_takes ht hc, executeCmd_admits ht ha, hf]
    have hj' : journalRoom (counted m s.toDev) e = true := hj
    have h0 : (stOK.code != 0) = false := by decide
    simp [hj', h0]
  obtain ⟨hcalm, hpower, -⟩ := calm_answerWrite (answerWrite_answer c.code m.seq.toNat (m.body.length + 2) m.quiet m.bcast false stOK data e) hce
  exact answers_beside hi hrun hcalm (by rw [hpower]; exact hp)

/-- Of what the answer is about nothing changes by it; the cache holds it first. -/
theorem answer_leaves {code : Nat} {data : List Word} {e t : Dev}
    (h : Beside (answer code m.seq.toNat (m.body.length + 2) m.quiet m.bcast false stOK data e) t) :
    t.bal = { e.bal with held := t.bal.held, onAll := t.bal.onAll, offAll := t.bal.offAll, fallback := t.bal.fallback } ∧
    t.eis = { e.eis with fetHeld := t.eis.fetHeld, win := t.eis.win, banksOn := t.eis.banksOn } ∧
    (∀ b, bankCore (bank t b) = bankCore (bank e b)) ∧ t.cmd.cache.head? = some ⟨m.seq.toNat, code, rspOf code m stOK data e⟩ := by
  have hw := answerWrite_answer code m.seq.toNat (m.body.length + 2) m.quiet m.bcast false stOK data e
  obtain ⟨hcache, -⟩ := answer_cache code m.seq.toNat (m.body.length + 2) m.quiet m.bcast false stOK data e
  generalize answer code m.seq.toNat (m.body.length + 2) m.quiet m.bcast false stOK data e = y at *
  have hbal : y.bal = e.bal := by rw [hw]
  have heis : y.eis = e.eis := by rw [hw]
  have hbanks : y.banks = e.banks := by rw [hw]
  refine ⟨?_, ?_, fun b => ?_, ?_⟩
  · rw [← hbal]
    exact bal_of_beside h
  · rw [← heis]
    exact eis_of_beside h
  · rw [bankCore_of_beside h b, bank, hbanks]
    rfl
  · rw [cmd_of_beside h, hcache]
    rfl

theorem counted_jchange (ctx : Ctx) (it : Nat) (old new : Word) (d : Dev) :
    jchange ctx it old new (counted m d) = counted m (jchange ctx it old new d) := by
  unfold jchange
  split <;> rfl

/-- A list of at most 200 entries is taken in a free journal. -/
theorem journalRoom_free {d e : Dev} (hj : JournalFree d) (h : e.jrn.q27.length ≤ d.jrn.q27.length + 200) : journalRoom d e = true := by
  obtain ⟨hq, hfree⟩ := hj
  unfold journalRoom
  simp only [Bool.or_eq_true, Bool.and_eq_true, decide_eq_true_eq]
  exact .inr ⟨by omega, hfree⟩

theorem jchange_length (ctx : Ctx) (it : Nat) (old new : Word) (d : Dev) :
    (jchange ctx it old new d).jrn.q27.length ≤ d.jrn.q27.length + 1 := by
  unfold jchange
  split
  · omega
  · simp [jput]

end Done

/-! ## Masks -/

theorem bit_bf (w : Word) (lo n i : Nat) (h : i < n) : (BitVec.ofNat n (bf w lo n)).getLsbD i = bit w (lo + i) := by
  unfold bf bit
  rw [BitVec.getLsbD_ofNat, Nat.testBit_mod_two_pow, Nat.testBit_shiftRight, BitVec.getLsbD]
  simp [h]

/-- The units that a field names. -/
theorem mlist_bf (w : Word) (lo n : Nat) : mlist (BitVec.ofNat n (bf w lo n)) = (List.range n).filter (fun i => bit w (lo + i)) := by
  unfold mlist
  refine List.filter_congr fun i hi => ?_
  exact bit_bf w lo n i (List.mem_range.mp hi)

/-- Only bits of a mask are set. -/
theorem onlyBits_iff (mask : Nat) (w : Word) : onlyBits mask w = true ↔ w &&& ~~~ Word.of mask = 0 := by
  unfold onlyBits
  exact beq_iff_eq

/-! ## Units one after the other -/

section Units

variable {α β : Type}

/-- A command that sets what belongs to each unit of a list, in order, leaves what belongs to the others. -/
theorem forEach_reads {step : α → Dev → Dev} {key : α → Nat} {Inv : Dev → Prop} {g : Dev → Nat → β} {val : α → β → β} (l : List α)
    (hinv : ∀ x ∈ l, ∀ d, Inv d → Inv (step x d)) (hset : ∀ x ∈ l, ∀ d, Inv d → g (step x d) (key x) = val x (g d (key x)))
    (hkeep : ∀ x ∈ l, ∀ d n, Inv d → n ≠ key x → g (step x d) n = g d n) (hnd : (l.map key).Nodup) (d : Dev) (hd : Inv d) :
    Inv (forEach l step d) ∧ (∀ x ∈ l, g (forEach l step d) (key x) = val x (g d (key x))) ∧
      ∀ n, n ∉ l.map key → g (forEach l step d) n = g d n := by
  induction l generalizing d with
  | nil => exact ⟨hd, fun x hx => absurd hx (List.not_mem_nil), fun _ _ => rfl⟩
  | cons a t ih =>
    rw [List.map_cons, List.nodup_cons] at hnd
    have hda := hinv a List.mem_cons_self d hd
    obtain ⟨hi, hs, hk⟩ := ih (fun x hx => hinv x (List.mem_cons_of_mem _ hx)) (fun x hx => hset x (List.mem_cons_of_mem _ hx))
      (fun x hx => hkeep x (List.mem_cons_of_mem _ hx)) hnd.2 (step a d) hda
    refine ⟨hi, fun x hx => ?_, fun n hn => ?_⟩
    · rcases List.mem_cons.mp hx with rfl | hx
      · exact (hk (key x) hnd.1).trans (hset x List.mem_cons_self d hd)
      · have hne : key x ≠ key a := fun h => hnd.1 (h ▸ List.mem_map_of_mem hx)
        rw [show forEach (a :: t) step d = forEach t step (step a d) from rfl, hs x hx, hkeep a List.mem_cons_self d _ hd hne]
    · rw [List.map_cons, List.mem_cons, not_or] at hn
      exact (hk n hn.2).trans (hkeep a List.mem_cons_self d n hd hn.1)

end Units

end Sys2Proof.Proofs
end

section
/-! PROOF. Duties, plans and driver commands, cell by cell and bank by bank (08_balancing.md R228, R229, R231, R240, R457, R458). -/

namespace Sys2Proof.Proofs

open Sys2Proof Sys2Proof.Machine Sys2Proof.Safety Sys2Proof.Laws

/-! ## Cells of a command -/

theorem balCells_nodup (m : Msg) : ((balCells m).map (fun n => n - 1)).Nodup := by
  have hid : (balCells m).map (fun n => n - 1) = mlist (BitVec.ofNat 24 (bf (req m 1) 0 24)) := by
    unfold balCells
    rw [List.map_map]
    exact List.map_id'' (fun n => Nat.add_sub_cancel n 1) _
  rw [hid]
  exact List.nodup_range.filter _

theorem balCells_range {m : Msg} {n : Nat} (h : n ∈ balCells m) : 1 ≤ n ∧ n ≤ 24 := by
  unfold balCells mlist at h
  obtain ⟨i, hi, rfl⟩ := List.mem_map.mp h
  have hlt := List.mem_range.mp (List.mem_filter.mp hi).1
  omega

theorem balCells_count (m : Msg) : (balCells m).length ≤ 24 := by
  unfold balCells mlist
  rw [List.length_map]
  exact (List.length_filter_le _ _).trans (by rw [List.length_range])

/-- A cell from 1 is named where its index from 0 is. -/
theorem index_notMem {m : Msg} {n : Nat} (h1 : 1 ≤ n) (hn : n ∉ balCells m) : n - 1 ∉ (balCells m).map (fun n => n - 1) := by
  intro h
  obtain ⟨k, hk, hkn⟩ := List.mem_map.mp h
  have hk1 := (balCells_range hk).1
  exact hn (by rwa [show k = n by omega] at hk)

theorem zipIdx_nodup (m : Msg) : ((balCells m).zipIdx.map (fun e => e.1 - 1)).Nodup := by
  have hmap : (balCells m).zipIdx.map (fun e => e.1 - 1) = (balCells m).map (fun n => n - 1) := by
    have hfst := List.zipIdx_map_fst 0 (balCells m)
    conv_rhs => rw [← hfst, List.map_map]
    rfl
  rw [hmap]
  exact balCells_nodup m

theorem zipIdx_notMem {m : Msg} {n : Nat} (h1 : 1 ≤ n) (hn : n ∉ balCells m) : n - 1 ∉ (balCells m).zipIdx.map (fun e => e.1 - 1) := by
  have hmap : (balCells m).zipIdx.map (fun e => e.1 - 1) = (balCells m).map (fun n => n - 1) := by
    have hfst := List.zipIdx_map_fst 0 (balCells m)
    conv_rhs => rw [← hfst, List.map_map]
    rfl
  rw [hmap]
  exact index_notMem h1 hn

/-! ## One cell -/

/-- Claims on the FETs after cell n is given a duty (R228). -/
def dutyOwner (n v : Nat) (l : List Nat) : List Nat :=
  if v = 0 then (if nth l (n - 1) 0 = 0x38 then l.set (n - 1) 0 else l) else l.set (n - 1) 0x38

theorem giveDuty_leaves (n v : Nat) (d : Dev) : giveDuty n v d = { d with
    bal := { d.bal with duty := d.bal.duty.set (n - 1) v, plans := d.bal.plans.set (n - 1) none, owner := dutyOwner n v d.bal.owner } } := by
  unfold giveDuty clearCell dutyOwner
  split
  · next h =>
    rw [h]
  · rfl

theorem setDuty_leaves (ctx : Ctx) (n v : Nat) (d : Dev) : setDuty ctx n v d = { d with
    bal := { d.bal with duty := d.bal.duty.set (n - 1) v, plans := d.bal.plans.set (n - 1) none, owner := dutyOwner n v d.bal.owner }
    jrn := (jchange ctx (0x0480 + n) (Word.of (nth d.bal.duty (n - 1) 0)) (Word.of v) d).jrn } := by
  unfold setDuty
  rw [giveDuty_leaves, jchange_kept]

/-- Balancing's lists hold an entry for each cell. -/
def Cells (d : Dev) : Prop :=
  d.bal.duty.length = 24 ∧ d.bal.owner.length = 24 ∧ d.bal.plans.length = 24 ∧ d.bal.q.length = 24

theorem dutyOwner_length (n v : Nat) (l : List Nat) : (dutyOwner n v l).length = l.length := by
  unfold dutyOwner
  split
  · split <;> simp
  · simp

/-- The claim of a cell after a duty v. -/
def ownerAfter (v old : Nat) : Nat := if v = 0 then (if old = 0x38 then 0 else old) else 0x38

theorem dutyOwner_self {n v : Nat} {l : List Nat} (h : n - 1 < l.length) : nth (dutyOwner n v l) (n - 1) 0 = ownerAfter v (nth l (n - 1) 0) := by
  unfold dutyOwner ownerAfter
  split
  · split
    · exact nth_set_self _ _ h
    · rfl
  · exact nth_set_self _ _ h

theorem dutyOwner_ne {n v i : Nat} {l : List Nat} (h : i ≠ n - 1) : nth (dutyOwner n v l) i 0 = nth l i 0 := by
  unfold dutyOwner
  split
  · split
    · exact nth_set_ne _ _ h
    · rfl
  · exact nth_set_ne _ _ h

/-- What balancing keeps of the cell of index i: duty, plan, claim, fault latch, charge. -/
def cellState (d : Dev) (i : Nat) : Nat × Option Plan × Nat × Bool × Nat :=
  (nth d.bal.duty i 0, nth d.bal.plans i none, nth d.bal.owner i 0, mbit d.bal.faultOc i, nth d.bal.q i 0)

/-- b is a but for what balancing commands write, with entries. -/
def BalWrite (a b : Dev) : Prop := b = { a with
  bal := { a.bal with duty := b.bal.duty, plans := b.bal.plans, owner := b.bal.owner, faultOc := b.bal.faultOc, q := b.bal.q, qOn := b.bal.qOn }
  jrn := { a.jrn with q27 := b.jrn.q27 } }

theorem balWrite_refl (a : Dev) : BalWrite a a := rfl

theorem balWrite_trans {a b c : Dev} (hab : BalWrite a b) (hbc : BalWrite b c) : BalWrite a c := by
  unfold BalWrite at *
  rw [hab] at hbc
  exact hbc

theorem calm_of_balWrite {a b : Dev} (h : BalWrite a b) (hc : Calm a) : Calm b :=
  calm_of_eq hc (by rw [h]) (by rw [h]) (by rw [h]) (by rw [h])

theorem balWrite_jrn (ctx : Ctx) (it : Nat) (old new : Word) (d : Dev) :
    (jchange ctx it old new d).jrn = { d.jrn with q27 := (jchange ctx it old new d).jrn.q27 } := by
  unfold jchange jput
  split <;> rfl

theorem mbit_mset_false {w i : Nat} (m : BitVec w) (h : i < w) : mbit (mset m i false) i = false := by
  unfold mset mbit one
  rw [if_neg Bool.false_ne_true, BitVec.getLsbD_and, BitVec.getLsbD_not, BitVec.getLsbD_ofNat, Nat.testBit_two_pow_self]
  simp [h]

end Sys2Proof.Proofs
end

section
/-! PROOF. BAL_SET and BAL_PLAN (08_balancing.md R228, R229, R231, 14_aeddo_command_reference.md R457). -/

namespace Sys2Proof.Proofs

open Sys2Proof Sys2Proof.Machine Sys2Proof.Safety Sys2Proof.Laws

/-! ## A device within a balancing command -/

/-- d is within a command on b that writes balancing, its lists whole. -/
def Balancing (b d : Dev) : Prop := Cells d ∧ BalWrite b d

theorem balancing_cell {b d : Dev} (hd : Balancing b d) {i : Nat} (h : i < 24) :
    i < d.bal.duty.length ∧ i < d.bal.plans.length ∧ i < d.bal.owner.length ∧ i < d.bal.q.length := by
  obtain ⟨⟨h1, h2, h3, h4⟩, -⟩ := hd
  omega

theorem forEach_entries {α : Type} {step : α → Dev → Dev} (hs : ∀ x d, (step x d).jrn.q27.length ≤ d.jrn.q27.length + 1) (l : List α) (d : Dev) :
    (forEach l step d).jrn.q27.length ≤ d.jrn.q27.length + l.length := by
  induction l generalizing d with
  | nil => exact Nat.le_refl _
  | cons a t ih =>
    have h1 := hs a d
    have h2 := ih (step a d)
    rw [show forEach (a :: t) step d = forEach t step (step a d) from rfl, List.length_cons]
    omega

/-! ## BAL_SET -/

/-- BAL_SET's part for one cell. -/
def balStep (m : Msg) (e : Nat × Nat) (d : Dev) : Dev :=
  setDuty (msgCtx d 0x38 m) e.1 e.2 { d with bal.faultOc := mset d.bal.faultOc (e.1 - 1) false }

theorem balStep_leaves (m : Msg) (e : Nat × Nat) (d : Dev) : ∃ q, q.length ≤ d.jrn.q27.length + 1 ∧ balStep m e d = { d with
    bal := { d.bal with duty := d.bal.duty.set (e.1 - 1) e.2, plans := d.bal.plans.set (e.1 - 1) none, owner := dutyOwner e.1 e.2 d.bal.owner
                        faultOc := mset d.bal.faultOc (e.1 - 1) false }
    jrn := { d.jrn with q27 := q } } := by
  refine ⟨_, jchange_length (msgCtx d 0x38 m) (0x0480 + e.1) (Word.of (nth d.bal.duty (e.1 - 1) 0)) (Word.of e.2)
    { d with bal.faultOc := mset d.bal.faultOc (e.1 - 1) false }, ?_⟩
  unfold balStep
  rw [setDuty_leaves, balWrite_jrn]

theorem balStep_balancing {b d : Dev} (m : Msg) (e : Nat × Nat) (hd : Balancing b d) : Balancing b (balStep m e d) := by
  obtain ⟨⟨h1, h2, h3, h4⟩, hw⟩ := hd
  obtain ⟨q, -, hq⟩ := balStep_leaves m e d
  rw [hq]
  exact ⟨⟨by simpa using h1, by simpa [dutyOwner_length] using h2, by simpa using h3, h4⟩, balWrite_trans hw rfl⟩

/-- A cell after a BAL_SET. -/
def balCell (v : Nat) (x : Nat × Option Plan × Nat × Bool × Nat) : Nat × Option Plan × Nat × Bool × Nat :=
  (v, none, ownerAfter v x.2.2.1, false, x.2.2.2.2)

theorem balStep_self {b d : Dev} (m : Msg) {e : Nat × Nat} (hd : Balancing b d) (he : e.1 - 1 < 24) :
    cellState (balStep m e d) (e.1 - 1) = balCell e.2 (cellState d (e.1 - 1)) := by
  obtain ⟨hduty, hplan, howner, -⟩ := balancing_cell hd he
  obtain ⟨q, -, hq⟩ := balStep_leaves m e d
  rw [hq]
  simp only [cellState, balCell, nth_set_self _ _ hduty, nth_set_self _ _ hplan, dutyOwner_self howner, mbit_mset_false _ he]

theorem balStep_ne (m : Msg) (e : Nat × Nat) (d : Dev) {i : Nat} (hi : i ≠ e.1 - 1) : cellState (balStep m e d) i = cellState d i := by
  obtain ⟨q, -, hq⟩ := balStep_leaves m e d
  rw [hq]
  simp only [cellState, nth_set_ne _ _ hi, dutyOwner_ne hi, mbit_mset_ne _ _ hi]

theorem setDuties_cells (m : Msg) : (setDuties m).map (fun e => e.1 - 1) = (balCells m).zipIdx.map (fun e => e.1 - 1) := by
  unfold setDuties
  rw [List.map_map]
  rfl

theorem setDuties_range {m : Msg} {e : Nat × Nat} (he : e ∈ setDuties m) : e.1 - 1 < 24 := by
  unfold setDuties at he
  obtain ⟨p, hp, rfl⟩ := List.mem_map.mp he
  have h := balCells_range (List.fst_mem_of_mem_zipIdx hp)
  exact (show p.1 - 1 < 24 by omega)

/-- The device after the cells of a BAL_SET. -/
theorem balSet_cells (m : Msg) {d : Dev} (hd : Cells d) :
    Balancing d (forEach (setDuties m) (balStep m) d) ∧
    (∀ e ∈ setDuties m, cellState (forEach (setDuties m) (balStep m) d) (e.1 - 1) = balCell e.2 (cellState d (e.1 - 1))) ∧
    (∀ n, 1 ≤ n → n ∉ balCells m → cellState (forEach (setDuties m) (balStep m) d) (n - 1) = cellState d (n - 1)) ∧
    (forEach (setDuties m) (balStep m) d).jrn.q27.length ≤ d.jrn.q27.length + 24 := by
  obtain ⟨hinv, hset, hkeep⟩ := forEach_reads (key := fun e : Nat × Nat => e.1 - 1) (Inv := Balancing d) (g := cellState)
    (val := fun e => balCell e.2) (setDuties m) (fun e _ _ h => balStep_balancing m e h) (fun e he _ h => balStep_self m h (setDuties_range he))
    (fun e _ x _ _ hn => balStep_ne m e x hn) (by rw [setDuties_cells]; exact zipIdx_nodup m) d ⟨hd, balWrite_refl d⟩
  refine ⟨hinv, hset, fun n h1 hn => hkeep _ ?_, ?_⟩
  · rw [setDuties_cells]
    exact zipIdx_notMem h1 hn
  · have hlen : (setDuties m).length ≤ 24 := by
      unfold setDuties
      rw [List.length_map, List.length_zipIdx]
      exact balCells_count m
    have hgrow := forEach_entries (step := balStep m) (fun e x => by
      obtain ⟨q, hle, hq⟩ := balStep_leaves m e x
      rw [hq]
      exact hle) (setDuties m) d
    omega

/-- BAL_SET's part of the command. -/
def balSetAns (m : Msg) (d : Dev) : Ans :=
  match balCheck d m (setDuties m) false with
  | some e => refuse e d
  | none => okWith [Word.of (balHeldMask (forEach (setDuties m) (balStep m) d))] (restartTimer (forEach (setDuties m) (balStep m) d))

section Commands

variable {s : State} {m : Msg}

/-- What the claims show is what the cells show. -/
theorem balHeldMask_beside {code : Nat} {data : List Word} {e t : Dev}
    (h : Beside (answer code m.seq.toNat (m.body.length + 2) m.quiet m.bcast false stOK data e) t) : balHeldMask t = balHeldMask e := by
  obtain ⟨hbal, -⟩ := answer_leaves h
  unfold balHeldMask
  rw [hbal]

theorem balSet_done (hc : Calm s.toDev) (hj : JournalFree s.toDev) (hd : Cells s.toDev) (ht : takes s.toDev 0x38 false m = true)
    (hl : lenIs (3 + (balCells m).length) m = true) (hk : balCheck s.toDev m (setDuties m) false = none) :
    Answers (.balSet m) s (fun t =>
        (∀ e ∈ setDuties m, nth t.bal.duty (e.1 - 1) 0 = e.2 ∧ nth t.bal.plans (e.1 - 1) none = none ∧
          mbit t.bal.faultOc (e.1 - 1) = false ∧ (e.2 ≠ 0 → nth t.bal.owner (e.1 - 1) 0 = 0x38) ∧
          (e.2 = 0 → nth t.bal.owner (e.1 - 1) 0 ≠ 0x38)) ∧
        (∀ n, 1 ≤ n → n ≤ 24 → n ∉ balCells m → nth t.bal.duty (n - 1) 0 = nth s.bal.duty (n - 1) 0 ∧
          nth t.bal.owner (n - 1) 0 = nth s.bal.owner (n - 1) 0 ∧ nth t.bal.plans (n - 1) none = nth s.bal.plans (n - 1) none) ∧
        t.bal.timeout = false ∧ (t.bal.timerOn = true ↔ itemN s.toDev 0x0407 ≠ 0) ∧
        t.cmd.cache.head? = some ⟨m.seq.toNat, 0x38, rspOf 0x38 m stOK [Word.of (balHeldMask t)] s.toDev⟩) := by
  obtain ⟨⟨-, hw⟩, hset, hkeep, hgrow⟩ := balSet_cells m (d := counted m s.toDev) hd
  have hf : balSetAns m (counted m s.toDev) = .done stOK [Word.of (balHeldMask (forEach (setDuties m) (balStep m) (counted m s.toDev)))]
      (restartTimer (forEach (setDuties m) (balStep m) (counted m s.toDev))) := by
    have hk' : balCheck (counted m s.toDev) m (setDuties m) false = none := hk
    unfold balSetAns
    rw [hk']
    rfl
  generalize forEach (setDuties m) (balStep m) (counted m s.toDev) = y at *
  have hcy : Calm (restartTimer y) := calm_of_eq (calm_of_balWrite hw (show Calm (counted m s.toDev) from hc)) rfl rfl rfl rfl
  have hpy : (restartTimer y).power = s.toDev.power := by
    show y.power = _
    rw [hw]
    rfl
  have hroom : journalRoom s.toDev (restartTimer y) = true := journalRoom_free hj (by
    have h0 : y.jrn.q27.length ≤ s.toDev.jrn.q27.length + 24 := hgrow
    exact (show y.jrn.q27.length ≤ s.toDev.jrn.q27.length + 200 by omega))
  refine answers_mono (answers_done (c := ⟨0x38, fun m => lenIs (3 + (balCells m).length) m, false, false, false⟩) (f := balSetAns m) rfl ht hc
    (admits_plain hl) hf hcy (by rw [hpy]; exact id) hroom) fun t h => ?_
  obtain ⟨hbal, -, -, hcache⟩ := answer_leaves h
  have hmask : balHeldMask t = balHeldMask y := (balHeldMask_beside h).trans rfl
  have hcell : ∀ i, cellState t i = cellState y i := fun i => by
    unfold cellState
    rw [hbal]
    rfl
  refine ⟨fun e he => ?_, fun n h1 _ hn => ?_, ?_, ?_, ?_⟩
  · have hx := (hcell (e.1 - 1)).trans (hset e he)
    simp only [cellState, balCell, Prod.mk.injEq] at hx
    obtain ⟨hduty, hplan, howner, hoc, -⟩ := hx
    refine ⟨hduty, hplan, hoc, fun hne => ?_, fun hz => ?_⟩
    · rw [howner, ownerAfter, if_neg hne]
    · rw [howner, ownerAfter, if_pos hz]
      split
      · decide
      · assumption
  · have hx := (hcell (n - 1)).trans (hkeep n h1 hn)
    simp only [cellState, Prod.mk.injEq] at hx
    obtain ⟨hduty, hplan, howner, -⟩ := hx
    exact ⟨hduty, howner, hplan⟩
  · rw [hbal]
    rfl
  · have hitem : itemN y 0x0407 = itemN s.toDev 0x0407 := by
      rw [hw]
      rfl
    rw [hbal, ← hitem]
    exact bne_iff_ne
  · have hrsp := rspOf_congr 0x38 m stOK [Word.of (balHeldMask y)] (a := s.toDev) (b := restartTimer y) hpy
      (by show y.ring = _; rw [hw]; rfl) (by show y.host.outst = _; rw [hw]; rfl)
    rw [hcache, hmask, hrsp]

theorem balSet_refused (hc : Calm s.toDev) (ht : takes s.toDev 0x38 false m = true) (hl : lenIs (3 + (balCells m).length) m = true)
    {e : Status} (hk : balCheck s.toDev m (setDuties m) false = some e) (he : e.code ≠ 0) :
    Answers (.balSet m) s (Replied 0x38 m e [] s.toDev) := by
  have hk' : balCheck (counted m s.toDev) m (setDuties m) false = some e := hk
  refine replied_refused (c := ⟨0x38, fun m => lenIs (3 + (balCells m).length) m, false, false, false⟩) (f := balSetAns m) rfl ht hc
    (admits_plain hl) (e := counted m s.toDev) ?_ he
  unfold balSetAns
  rw [hk']
  rfl

end Commands

/-! ## BAL_PLAN -/

/-- BAL_PLAN's part for one cell. -/
def planStep (m : Msg) (e : Nat × Nat) (d : Dev) : Dev := startCellPlan (msgCtx d 0x39 m) e.1 (planOf m e.2) d

theorem planStep_leaves (m : Msg) (e : Nat × Nat) (d : Dev) : ∃ q, q.length ≤ d.jrn.q27.length + 1 ∧ planStep m e d = { d with
    bal := { d.bal with duty := d.bal.duty.set (e.1 - 1) (planOf m e.2).1
                        plans := (d.bal.plans.set (e.1 - 1) none).set (e.1 - 1) (some (planOf m e.2).2)
                        owner := dutyOwner e.1 (planOf m e.2).1 d.bal.owner
                        q := d.bal.q.set (e.1 - 1) 0, qOn := mset d.bal.qOn (e.1 - 1) true }
    jrn := { d.jrn with q27 := q } } := by
  refine ⟨_, jchange_length (msgCtx d 0x39 m) (0x0480 + e.1) (Word.of (nth d.bal.duty (e.1 - 1) 0)) (Word.of (planOf m e.2).1) d, ?_⟩
  unfold planStep startCellPlan
  rw [setDuty_leaves, balWrite_jrn]

theorem planStep_balancing {b d : Dev} (m : Msg) (e : Nat × Nat) (hd : Balancing b d) : Balancing b (planStep m e d) := by
  obtain ⟨⟨h1, h2, h3, h4⟩, hw⟩ := hd
  obtain ⟨q, -, hq⟩ := planStep_leaves m e d
  rw [hq]
  exact ⟨⟨by simpa using h1, by simpa [dutyOwner_length] using h2, by simpa using h3, by simpa using h4⟩, balWrite_trans hw rfl⟩

/-- A cell after a BAL_PLAN. -/
def planCell (p : Nat × Plan) (x : Nat × Option Plan × Nat × Bool × Nat) : Nat × Option Plan × Nat × Bool × Nat :=
  (p.1, some p.2, ownerAfter p.1 x.2.2.1, x.2.2.2.1, 0)

theorem planStep_self {b d : Dev} (m : Msg) {e : Nat × Nat} (hd : Balancing b d) (he : e.1 - 1 < 24) :
    cellState (planStep m e d) (e.1 - 1) = planCell (planOf m e.2) (cellState d (e.1 - 1)) := by
  obtain ⟨hduty, hplan, howner, hq0⟩ := balancing_cell hd he
  have hplan' : e.1 - 1 < (d.bal.plans.set (e.1 - 1) none).length := by rwa [List.length_set]
  obtain ⟨q, -, hq⟩ := planStep_leaves m e d
  rw [hq]
  simp only [cellState, planCell, nth_set_self _ _ hduty, nth_set_self _ _ hplan', dutyOwner_self howner, nth_set_self _ _ hq0]

theorem planStep_ne (m : Msg) (e : Nat × Nat) (d : Dev) {i : Nat} (hi : i ≠ e.1 - 1) : cellState (planStep m e d) i = cellState d i := by
  obtain ⟨q, -, hq⟩ := planStep_leaves m e d
  rw [hq]
  simp only [cellState, nth_set_ne _ _ hi, dutyOwner_ne hi]

/-- The device after the cells of a BAL_PLAN. -/
theorem balPlan_cells (m : Msg) {d : Dev} (hd : Cells d) :
    Balancing d (forEach (balCells m).zipIdx (planStep m) d) ∧
    (∀ e ∈ (balCells m).zipIdx,
      cellState (forEach (balCells m).zipIdx (planStep m) d) (e.1 - 1) = planCell (planOf m e.2) (cellState d (e.1 - 1))) ∧
    (∀ n, 1 ≤ n → n ∉ balCells m → cellState (forEach (balCells m).zipIdx (planStep m) d) (n - 1) = cellState d (n - 1)) ∧
    (forEach (balCells m).zipIdx (planStep m) d).jrn.q27.length ≤ d.jrn.q27.length + 24 := by
  obtain ⟨hinv, hset, hkeep⟩ := forEach_reads (key := fun e : Nat × Nat => e.1 - 1) (Inv := Balancing d) (g := cellState)
    (val := fun e => planCell (planOf m e.2)) (balCells m).zipIdx (fun e _ _ h => planStep_balancing m e h)
    (fun e he _ h => planStep_self m h (by
      have hr := balCells_range (List.fst_mem_of_mem_zipIdx he)
      exact (show e.1 - 1 < 24 by omega)))
    (fun e _ x _ _ hn => planStep_ne m e x hn) (zipIdx_nodup m) d ⟨hd, balWrite_refl d⟩
  refine ⟨hinv, hset, fun n h1 hn => hkeep _ (zipIdx_notMem h1 hn), ?_⟩
  have hlen : (balCells m).zipIdx.length ≤ 24 := by
    rw [List.length_zipIdx]
    exact balCells_count m
  have hgrow := forEach_entries (step := planStep m) (fun e x => by
    obtain ⟨q, hle, hq⟩ := planStep_leaves m e x
    rw [hq]
    exact hle) (balCells m).zipIdx d
  omega

/-- BAL_PLAN's part of the command. -/
def balPlanAns (m : Msg) (d : Dev) : Ans :=
  match balCheck d m ((balCells m).zipIdx.map (fun e => (e.1, (planOf m e.2).1))) ((balCells m).zipIdx.any (fun e => planFieldBad m e.2)) with
  | some e => refuse e d
  | none => okWith [Word.of (balHeldMask (forEach (balCells m).zipIdx (planStep m) d))] (forEach (balCells m).zipIdx (planStep m) d)

section Plans

variable {s : State} {m : Msg}

theorem balPlan_done (hc : Calm s.toDev) (hj : JournalFree s.toDev) (hd : Cells s.toDev) (ht : takes s.toDev 0x39 false m = true)
    (hl : lenIs (3 + 3 * (balCells m).length) m = true)
    (hk : balCheck s.toDev m ((balCells m).zipIdx.map (fun e => (e.1, (planOf m e.2).1)))
        ((balCells m).zipIdx.any (fun e => planFieldBad m e.2)) = none) :
    Answers (.balPlan m) s (fun t =>
        (∀ e ∈ (balCells m).zipIdx, nth t.bal.duty (e.1 - 1) 0 = bf (req m (2 + 3 * e.2)) 16 9 ∧
          nth t.bal.plans (e.1 - 1) none = some { vStop := bf (req m (2 + 3 * e.2)) 0 16, qT := (req m (3 + 3 * e.2)).toNat,
                                                  limit := bf (req m (4 + 3 * e.2)) 0 16, run := 0 } ∧
          nth t.bal.q (e.1 - 1) 0 = 0) ∧
        (∀ n, 1 ≤ n → n ≤ 24 → n ∉ balCells m → nth t.bal.duty (n - 1) 0 = nth s.bal.duty (n - 1) 0 ∧
          nth t.bal.plans (n - 1) none = nth s.bal.plans (n - 1) none ∧ nth t.bal.q (n - 1) 0 = nth s.bal.q (n - 1) 0) ∧
        t.cmd.cache.head? = some ⟨m.seq.toNat, 0x39, rspOf 0x39 m stOK [Word.of (balHeldMask t)] s.toDev⟩) := by
  obtain ⟨⟨-, hw⟩, hset, hkeep, hgrow⟩ := balPlan_cells m (d := counted m s.toDev) hd
  have hf : balPlanAns m (counted m s.toDev) = .done stOK [Word.of (balHeldMask (forEach (balCells m).zipIdx (planStep m) (counted m s.toDev)))]
      (forEach (balCells m).zipIdx (planStep m) (counted m s.toDev)) := by
    unfold balPlanAns
    rw [show balCheck (counted m s.toDev) m _ _ = none from hk]
    rfl
  generalize forEach (balCells m).zipIdx (planStep m) (counted m s.toDev) = y at *
  have hcy : Calm y := calm_of_balWrite hw (show Calm (counted m s.toDev) from hc)
  have hpy : y.power = s.toDev.power := by
    rw [hw]
    rfl
  have hroom : journalRoom s.toDev y = true := journalRoom_free hj (by
    have h0 : y.jrn.q27.length ≤ s.toDev.jrn.q27.length + 24 := hgrow
    omega)
  refine answers_mono (answers_done (c := ⟨0x39, fun m => lenIs (3 + 3 * (balCells m).length) m, false, false, false⟩) (f := balPlanAns m) rfl ht hc
    (admits_plain hl) hf hcy (by rw [hpy]; exact id) hroom) fun t h => ?_
  obtain ⟨hbal, -, -, hcache⟩ := answer_leaves h
  have hmask : balHeldMask t = balHeldMask y := balHeldMask_beside h
  have hcell : ∀ i, cellState t i = cellState y i := fun i => by
    unfold cellState
    rw [hbal]
  refine ⟨fun e he => ?_, fun n h1 _ hn => ?_, ?_⟩
  · have hx := (hcell (e.1 - 1)).trans (hset e he)
    simp only [cellState, planCell, Prod.mk.injEq] at hx
    obtain ⟨hduty, hplan, -, -, hq⟩ := hx
    exact ⟨hduty, hplan, hq⟩
  · have hx := (hcell (n - 1)).trans (hkeep n h1 hn)
    simp only [cellState, Prod.mk.injEq] at hx
    obtain ⟨hduty, hplan, -, -, hq⟩ := hx
    exact ⟨hduty, hplan, hq⟩
  · have hrsp := rspOf_congr 0x39 m stOK [Word.of (balHeldMask y)] (a := s.toDev) (b := y) hpy (by rw [hw]; rfl) (by rw [hw]; rfl)
    rw [hcache, hmask, hrsp]

theorem balPlan_refused (hc : Calm s.toDev) (ht : takes s.toDev 0x39 false m = true) (hl : lenIs (3 + 3 * (balCells m).length) m = true)
    {e : Status} (hk : balCheck s.toDev m ((balCells m).zipIdx.map (fun e => (e.1, (planOf m e.2).1)))
        ((balCells m).zipIdx.any (fun e => planFieldBad m e.2)) = some e) (he : e.code ≠ 0) :
    Answers (.balPlan m) s (Replied 0x39 m e [] s.toDev) := by
  refine replied_refused (c := ⟨0x39, fun m => lenIs (3 + 3 * (balCells m).length) m, false, false, false⟩) (f := balPlanAns m) rfl ht hc
    (admits_plain hl) (e := counted m s.toDev) ?_ he
  unfold balPlanAns
  rw [show balCheck (counted m s.toDev) m _ _ = some e from hk]
  rfl

end Plans

end Sys2Proof.Proofs
end

section
/-! PROOF. ACTIVE_SET (08_balancing.md R231, R240, 14_aeddo_command_reference.md R457, R458). -/

namespace Sys2Proof.Proofs

open Sys2Proof Sys2Proof.Machine Sys2Proof.Safety Sys2Proof.Laws

/-! ## Pins -/

/-- b is a but for the pins and the marks that pulse on them. -/
def PinWrite (a b : Dev) : Prop := b = { a with pins := b.pins, tb := { a.tb with markPulse := b.tb.markPulse } }

theorem gpioRelease_pins (fn pin : Nat) (d : Dev) : PinWrite d (gpioRelease fn pin d) := by
  unfold gpioRelease
  split <;> rfl

theorem pinWrite_trans {a b c : Dev} (hab : PinWrite a b) (hbc : PinWrite b c) : PinWrite a c := by
  unfold PinWrite at *
  rw [hab] at hbc
  exact hbc

theorem gpioReleases_pins (fn : Nat) (l : List Nat) (d : Dev) : PinWrite d (l.foldl (fun d p => gpioRelease fn p d) d) := by
  induction l generalizing d with
  | nil => rfl
  | cons p t ih => exact pinWrite_trans (gpioRelease_pins fn p d) (ih _)

theorem releaseAdEn_pins (d : Dev) : PinWrite d (releaseAdEn d) := by
  unfold releaseAdEn gpioReleaseFn
  split
  · rfl
  · exact gpioReleases_pins 6 _ d

/-! ## Banks of a command -/

theorem activeList_banks (m : Msg) : (activeList m).map (fun e => e.1) = mlist (BitVec.ofNat 4 (bf (req m 1) 0 4)) := by
  unfold activeList
  rw [List.map_map]
  exact List.zipIdx_map_fst 0 _

theorem activeList_nodup (m : Msg) : ((activeList m).map (fun e => e.1)).Nodup := by
  rw [activeList_banks]
  exact List.nodup_range.filter _

theorem activeList_range {m : Msg} {e : Nat × Int} (he : e ∈ activeList m) : e.1 < 4 := by
  have h : e.1 ∈ mlist (BitVec.ofNat 4 (bf (req m 1) 0 4)) := by
    rw [← activeList_banks]
    exact List.mem_map_of_mem he
  exact List.mem_range.mp (List.mem_filter.mp h).1

theorem activeList_count (m : Msg) : (activeList m).length ≤ 4 := by
  have h : (activeList m).length = (mlist (BitVec.ofNat 4 (bf (req m 1) 0 4))).length := by
    rw [← activeList_banks, List.length_map]
  rw [h]
  exact (List.length_filter_le _ _).trans (by rw [List.length_range])

/-! ## One bank -/

/-- A bank after its command v. -/
def bankAfter (v : Int) (x : Bank) : Bank :=
  let y := { x with cmd := v, limit := false, faultErr := false, faultSense := false }
  if v = 0 then { y with on := false, applied := 0, owner := 0 }
  else if x.on then { y with owner := 0x3A }
  else { y with on := true, applied := 0, owner := 0x3A, badRun := 0, devRun := 0 }

theorem bankAfter_fields (v : Int) (x : Bank) :
    (bankAfter v x).cmd = v ∧ (bankAfter v x).owner = (if v = 0 then 0 else 0x3A) ∧ (bankAfter v x).on = !(decide (v = 0)) := by
  unfold bankAfter
  by_cases hv : v = 0
  · rw [if_pos hv, if_pos hv]
    exact ⟨rfl, rfl, by simp [hv]⟩
  · rw [if_neg hv, if_neg hv]
    by_cases hon : x.on = true
    · rw [if_pos hon]
      exact ⟨rfl, rfl, by simpa [hv] using hon⟩
    · rw [if_neg hon]
      exact ⟨rfl, rfl, by simp [hv]⟩

theorem bankCore_fields {x y : Bank} (h : bankCore x = bankCore y) : x.owner = y.owner ∧ x.cmd = y.cmd ∧ x.on = y.on := by
  have howner := congrArg Bank.owner h
  have hcmd := congrArg Bank.cmd h
  have hon := congrArg Bank.on h
  exact ⟨howner, hcmd, hon⟩

/-- ACTIVE_SET's part for one bank. -/
def activeStep (m : Msg) (e : Nat × Int) (d : Dev) : Dev := setBank (msgCtx d 0x3A m) e.1 e.2 d

theorem activeStep_leaves (m : Msg) (e : Nat × Int) (d : Dev) : ∃ q, q.length ≤ d.jrn.q27.length + 1 ∧ activeStep m e d =
    { d with banks := d.banks.modify e.1 (bankAfter e.2), jrn := { d.jrn with q27 := q } } := by
  refine ⟨_, jchange_length (msgCtx d 0x3A m) (0x04A1 + e.1) (itemWord (bank d e.1).cmd) (itemWord e.2) d, ?_⟩
  unfold activeStep setBank modBank
  rw [jchange_kept, balWrite_jrn]
  rfl

/-- d is within an ACTIVE_SET on b, its banks whole. -/
def Driving (b d : Dev) : Prop := d.banks.length = 4 ∧ d = { b with banks := d.banks, jrn := { b.jrn with q27 := d.jrn.q27 } }

theorem activeStep_driving {b d : Dev} (m : Msg) (e : Nat × Int) (hd : Driving b d) : Driving b (activeStep m e d) := by
  obtain ⟨hlen, hw⟩ := hd
  obtain ⟨q, -, hq⟩ := activeStep_leaves m e d
  rw [hq]
  refine ⟨by simpa using hlen, ?_⟩
  rw [hw]

theorem activeStep_bank {b d : Dev} (m : Msg) (e : Nat × Int) (hd : Driving b d) {i : Nat} (hi : i < 4) :
    bank (activeStep m e d) i = if e.1 = i then bankAfter e.2 (bank d i) else bank d i := by
  obtain ⟨q, -, hq⟩ := activeStep_leaves m e d
  rw [hq]
  exact bank_modBank d i e.1 (bankAfter e.2) (by rw [hd.1]; exact hi)

/-- What the module keeps of a bank; there are four. -/
def bankAt (d : Dev) (i : Nat) : Bank := if i < 4 then bank d i else Bank.reset

/-- The device after the banks of an ACTIVE_SET. -/
theorem activeSet_banks (m : Msg) {d : Dev} (hd : d.banks.length = 4) :
    Driving d (forEach (activeList m) (activeStep m) d) ∧
    (∀ e ∈ activeList m, bank (forEach (activeList m) (activeStep m) d) e.1 = bankAfter e.2 (bank d e.1)) ∧
    (∀ b, b < 4 → b ∉ (activeList m).map (fun e => e.1) → bank (forEach (activeList m) (activeStep m) d) b = bank d b) ∧
    (forEach (activeList m) (activeStep m) d).jrn.q27.length ≤ d.jrn.q27.length + 4 := by
  obtain ⟨hinv, hset, hkeep⟩ := forEach_reads (key := fun e : Nat × Int => e.1) (Inv := Driving d) (g := bankAt)
    (val := fun e => bankAfter e.2) (activeList m) (fun e _ _ h => activeStep_driving m e h)
    (fun e he _ h => by
      have hlt := activeList_range he
      unfold bankAt
      rw [if_pos hlt, if_pos hlt, activeStep_bank m e h hlt, if_pos rfl])
    (fun e _ x n h hn => by
      unfold bankAt
      split
      · next hlt => rw [activeStep_bank m e h hlt, if_neg (Ne.symm hn)]
      · rfl) (activeList_nodup m) d ⟨hd, rfl⟩
  refine ⟨hinv, fun e he => ?_, fun b hb hn => ?_, ?_⟩
  · have h := hset e he
    unfold bankAt at h
    rwa [if_pos (activeList_range he), if_pos (activeList_range he)] at h
  · have h := hkeep b hn
    unfold bankAt at h
    rwa [if_pos hb, if_pos hb] at h
  · have hlen := activeList_count m
    have hgrow := forEach_entries (step := activeStep m) (fun e x => by
      obtain ⟨q, hle, hq⟩ := activeStep_leaves m e x
      rw [hq]
      exact hle) (activeList m) d
    omega

/-! ## The command -/

/-- The claim of AD_EN's pin where the first driver turns on (R240). -/
def adEnClaimed (m : Msg) (d : Dev) : Dev :=
  if (activeList m).any (fun e => e.2 != 0) && !anyDriver d && itemN d 0x0A15 != 0 then gpioClaim 6 (itemN d 0x0A15) d else d

theorem adEnClaimed_pins (m : Msg) (d : Dev) : PinWrite d (adEnClaimed m d) := by
  unfold adEnClaimed
  split <;> rfl

/-- ACTIVE_SET's part of the command. -/
def activeSetAns (m : Msg) (d : Dev) : Ans :=
  match activeCheck d m (activeList m) with
  | some e => refuse e d
  | none => okWith [Word.of (bankHeldMask (forEach (activeList m) (activeStep m) (adEnClaimed m d)))]
      (restartTimer (releaseAdEn (forEach (activeList m) (activeStep m) (adEnClaimed m d))))

/-- LENGTH of ACTIVE_SET. -/
def activeLen (m : Msg) : Bool := lenIs (3 + mcount (BitVec.ofNat 4 (bf (req m 1) 0 4))) m

/-- b is a but for the banks, the pins, the balancing timer and entries. -/
def DriverWrite (a b : Dev) : Prop := b = { a with
  banks := b.banks, pins := b.pins, tb := { a.tb with markPulse := b.tb.markPulse }
  bal := { a.bal with timeout := b.bal.timeout, timerOn := b.bal.timerOn }, jrn := { a.jrn with q27 := b.jrn.q27 } }

section Active

variable {s : State} {m : Msg}

theorem activeSet_leaves (m : Msg) (d : Dev) (hd : d.banks.length = 4) {x y : Dev} (hx : x = forEach (activeList m) (activeStep m) (adEnClaimed m d))
    (hy : y = restartTimer (releaseAdEn x)) :
    DriverWrite d y ∧ y.banks = x.banks ∧ y.bal.timeout = false ∧ y.bal.timerOn = (itemN d 0x0407 != 0) ∧
      y.jrn.q27.length ≤ d.jrn.q27.length + 4 := by
  have hclaim := adEnClaimed_pins m d
  have hbanks : (adEnClaimed m d).banks.length = 4 := by
    rw [hclaim]
    exact hd
  obtain ⟨⟨-, hdrive⟩, -, -, hgrow⟩ := activeSet_banks m hbanks
  rw [← hx] at hdrive hgrow
  have hrelease := releaseAdEn_pins x
  unfold PinWrite at hclaim hrelease
  have hq : (adEnClaimed m d).jrn.q27.length = d.jrn.q27.length := by
    rw [hclaim]
  have hw : releaseAdEn x = { d with
      banks := x.banks, pins := (releaseAdEn x).pins, tb := { d.tb with markPulse := (releaseAdEn x).tb.markPulse }
      jrn := { d.jrn with q27 := x.jrn.q27 } } := by
    generalize releaseAdEn x = z at *
    generalize adEnClaimed m d = a at *
    rw [hrelease, hdrive, hclaim]
  rw [hy]
  unfold restartTimer
  generalize releaseAdEn x = z at *
  refine ⟨?_, ?_, rfl, ?_, ?_⟩
  · unfold DriverWrite
    rw [hw]
  · show z.banks = x.banks
    rw [hw]
  · show (itemN z 0x0407 != 0) = _
    unfold itemN item
    rw [hw]
  · show z.jrn.q27.length ≤ _
    rw [hw]
    show x.jrn.q27.length ≤ _
    omega

theorem activeSet_done (hc : Calm s.toDev) (hj : JournalFree s.toDev) (hd : s.banks.length = 4) (ht : takes s.toDev 0x3A false m = true)
    (hl : activeLen m = true) (hk : activeCheck s.toDev m (activeList m) = none) :
    Answers (.activeSet m) s (fun t =>
        (∀ e ∈ activeList m, (bank t e.1).cmd = e.2 ∧ (bank t e.1).owner = (if e.2 = 0 then 0 else 0x3A) ∧
          (bank t e.1).on = !(decide (e.2 = 0))) ∧
        (∀ b, b < 4 → b ∉ (activeList m).map (fun e => e.1) → bankCore (bank t b) = bankCore (bank s.toDev b)) ∧
        t.bal.timeout = false ∧ (t.bal.timerOn = true ↔ itemN s.toDev 0x0407 ≠ 0) ∧ t.bal.duty = s.bal.duty ∧
        t.cmd.cache.head? = some ⟨m.seq.toNat, 0x3A, rspOf 0x3A m stOK [Word.of (bankHeldMask t)] s.toDev⟩) := by
  have hclaim := adEnClaimed_pins m (counted m s.toDev)
  have hbanks : (adEnClaimed m (counted m s.toDev)).banks = s.banks := by
    rw [hclaim]
    rfl
  obtain ⟨-, hset, hkeep, -⟩ := activeSet_banks m (d := adEnClaimed m (counted m s.toDev)) (by rw [hbanks]; exact hd)
  obtain ⟨hw, hyb, hto, htimer, hgrow⟩ := activeSet_leaves m (counted m s.toDev) hd rfl rfl
  have hf : activeSetAns m (counted m s.toDev) =
      .done stOK [Word.of (bankHeldMask (forEach (activeList m) (activeStep m) (adEnClaimed m (counted m s.toDev))))]
        (restartTimer (releaseAdEn (forEach (activeList m) (activeStep m) (adEnClaimed m (counted m s.toDev))))) := by
    unfold activeSetAns
    rw [show activeCheck (counted m s.toDev) m _ = none from hk]
    rfl
  have hclaimed : ∀ b, bank (adEnClaimed m (counted m s.toDev)) b = bank s.toDev b := fun b => by
    unfold bank
    rw [hbanks]
  generalize restartTimer (releaseAdEn (forEach (activeList m) (activeStep m) (adEnClaimed m (counted m s.toDev)))) = y at *
  generalize forEach (activeList m) (activeStep m) (adEnClaimed m (counted m s.toDev)) = x at *
  unfold DriverWrite at hw
  have hyx : ∀ b, bank y b = bank x b := fun b => by
    unfold bank
    rw [hyb]
  have hcy : Calm y := calm_of_eq (show Calm (counted m s.toDev) from hc) (by rw [hw]) (by rw [hw]) (by rw [hw]) (by rw [hw])
  have hpy : y.power = s.toDev.power := by
    rw [hw]
    rfl
  have hroom : journalRoom s.toDev y = true := journalRoom_free hj (by
    have h0 : y.jrn.q27.length ≤ s.toDev.jrn.q27.length + 4 := hgrow
    omega)
  refine answers_mono (answers_done (c := ⟨0x3A, activeLen, false, false, false⟩) (f := activeSetAns m) rfl ht hc
    (admits_plain hl) hf hcy (by rw [hpy]; exact id) hroom) fun t h => ?_
  obtain ⟨hbal, -, hcore, hcache⟩ := answer_leaves h
  have hfields := fun b => bankCore_fields ((hcore b).trans (congrArg bankCore (hyx b)))
  have howner : ∀ b, (bank t b).owner = (bank x b).owner := fun b => (hfields b).1
  refine ⟨fun e he => ?_, fun b hb hn => ?_, ?_, ?_, ?_, ?_⟩
  · obtain ⟨h1, h2, h3⟩ := bankAfter_fields e.2 (bank (adEnClaimed m (counted m s.toDev)) e.1)
    obtain ⟨hown, hcmd, hon⟩ := hfields e.1
    rw [hcmd, hown, hon, hset e he]
    exact ⟨h1, h2, h3⟩
  · rw [hcore, hyx, hkeep b hb hn, hclaimed]
  · rw [hbal]
    exact hto
  · have hitem : y.bal.timerOn = (itemN s.toDev 0x0407 != 0) := htimer
    rw [hbal]
    show y.bal.timerOn = true ↔ _
    rw [hitem]
    exact bne_iff_ne
  · rw [hbal]
    show y.bal.duty = _
    rw [hw]
    rfl
  · have hmask : bankHeldMask t = bankHeldMask x := by
      unfold bankHeldMask
      simp only [howner]
    have hrsp := rspOf_congr 0x3A m stOK [Word.of (bankHeldMask x)] (a := s.toDev) (b := y) hpy (by rw [hw]; rfl) (by rw [hw]; rfl)
    rw [hcache, hmask, hrsp]

theorem activeSet_refused (hc : Calm s.toDev) (ht : takes s.toDev 0x3A false m = true) (hl : activeLen m = true)
    {e : Status} (hk : activeCheck s.toDev m (activeList m) = some e) (he : e.code ≠ 0) :
    Answers (.activeSet m) s (Replied 0x3A m e [] s.toDev) := by
  refine replied_refused (c := ⟨0x3A, activeLen, false, false, false⟩) (f := activeSetAns m) rfl ht hc
    (admits_plain hl) (e := counted m s.toDev) ?_ he
  unfold activeSetAns
  rw [show activeCheck (counted m s.toDev) m _ = some e from hk]
  rfl

theorem activeCheck_absent (h : s.part.hasBanks = false) : activeCheck s.toDev m (activeList m) = some stABSENT := by
  unfold activeCheck firstFail
  rw [h]
  rfl

end Active

end Sys2Proof.Proofs
end

section
/-! PROOF. EIS_PLAN, EIS_READ and TEMP_TABLE_LOAD; obligation O54 (09_impedance.md R258 to R261, R277,
14_aeddo_command_reference.md R459 to R461). -/

namespace Sys2Proof.Proofs

open Sys2Proof Sys2Proof.Machine Sys2Proof.Safety Sys2Proof.Laws

section Impedance

variable {s : State} {m : Msg}

/-! ## EIS_PLAN -/

/-- EIS_PLAN's part of the command. -/
def eisPlanAns (m : Msg) (d : Dev) : Ans :=
  if d.part.freqs = 0 then refuse stABSENT d
  else if eisSource m = 0 then okWith (eisData d none) (eisAccept (msgCtx d 0x40 m) none d)
  else match eisCheck d m (eisForm m) with
    | some e => refuse e d
    | none => okWith (eisData d (some (eisForm m))) (eisAccept (msgCtx d 0x40 m) (some (eisForm m)) d)

/-- EIS_PLAN as a row of the table. -/
def eisPlanRow : Cmd0 := ⟨0x40, fun m => lenIs (6 + 2 * eisNfreq m) m, true, false, false⟩

theorem eisAccept_counted (c : Ctx) (np : Option EisPlan) (d : Dev) : eisAccept c np (counted m d) = counted m (eisAccept c np d) :=
  counted_jchange c 0x05F0 _ _ { d with eis.next := some np }

theorem eisAccept_leaves (c : Ctx) (np : Option EisPlan) (d : Dev) : ∃ q, q.length ≤ d.jrn.q27.length + 1 ∧
    eisAccept c np d = { d with eis := { d.eis with next := some np }, jrn := { d.jrn with q27 := q } } := by
  refine ⟨_, jchange_length c 0x05F0 (readEisItem d 0x05F0) (recordOf (np.elim [] (fun p => p.block))) { d with eis.next := some np }, ?_⟩
  unfold eisAccept
  rw [jchange_kept, balWrite_jrn]

theorem eisAccept_fits (hc : Calm s.toDev) (hj : JournalFree s.toDev) (c : Ctx) (np : Option EisPlan) :
    Calm (eisAccept c np s.toDev) ∧ ((eisAccept c np s.toDev).power.safeHold = true → s.power.safeHold = true) ∧
      journalRoom s.toDev (eisAccept c np s.toDev) = true := by
  obtain ⟨q, hle, hq⟩ := eisAccept_leaves c np s.toDev
  rw [hq]
  refine ⟨calm_of_eq hc rfl rfl rfl rfl, id, journalRoom_free hj ?_⟩
  exact (show q.length ≤ s.toDev.jrn.q27.length + 200 by omega)

theorem eisData_none (d : Dev) : eisData d none = [Word.of (eisCode d * 2 ^ 30)] := by
  unfold eisData
  rw [Option.elim_none, Nat.add_zero]

theorem eisPlan_stops (hc : Calm s.toDev) (hj : JournalFree s.toDev) (ht : takes s.toDev 0x40 true m = true)
    (hl : lenIs (6 + 2 * eisNfreq m) m = true) (hfr : s.part.freqs ≠ 0) (hsrc : eisSource m = 0) :
    Answers (.eisPlan m) s (Replied 0x40 m stOK [Word.of (eisCode s.toDev * 2 ^ 30)]
      (eisAccept (cmdCtx s.toDev 0x40 m.seq.toNat) none s.toDev)) := by
  obtain ⟨hca, hpa, hja⟩ := eisAccept_fits hc hj (cmdCtx s.toDev 0x40 m.seq.toNat) none
  have hf : eisPlanAns m (counted m s.toDev) = .done stOK (eisData s.toDev none)
      (counted m (eisAccept (cmdCtx s.toDev 0x40 m.seq.toNat) none s.toDev)) := by
    unfold eisPlanAns
    rw [if_neg (show (counted m s.toDev).part.freqs ≠ 0 from hfr), if_pos hsrc, eisAccept_counted]
    rfl
  rw [← eisData_none]
  exact replied_ok (c := eisPlanRow) (f := eisPlanAns m) rfl ht hc (admits_plain hl) hf hca hpa hja

theorem eisPlan_done (hc : Calm s.toDev) (hj : JournalFree s.toDev) (ht : takes s.toDev 0x40 true m = true)
    (hl : lenIs (6 + 2 * eisNfreq m) m = true) (hfr : s.part.freqs ≠ 0) (hsrc : eisSource m ≠ 0)
    (hk : eisCheck s.toDev m (eisForm m) = none) : Answers (.eisPlan m) s (fun t =>
        t.eis.next = some (some (eisForm m)) ∧ (eisForm m).block = m.body ∧ t.eis.plan = s.eis.plan ∧
        t.cmd.cache.head? = some ⟨m.seq.toNat, 0x40, rspOf 0x40 m stOK (eisData s.toDev (some (eisForm m))) s.toDev⟩) := by
  obtain ⟨hca, hpa, hja⟩ := eisAccept_fits hc hj (cmdCtx s.toDev 0x40 m.seq.toNat) (some (eisForm m))
  have hf : eisPlanAns m (counted m s.toDev) = .done stOK (eisData s.toDev (some (eisForm m)))
      (counted m (eisAccept (cmdCtx s.toDev 0x40 m.seq.toNat) (some (eisForm m)) s.toDev)) := by
    unfold eisPlanAns
    rw [if_neg (show (counted m s.toDev).part.freqs ≠ 0 from hfr), if_neg hsrc, show eisCheck (counted m s.toDev) m _ = none from hk,
      eisAccept_counted]
    rfl
  obtain ⟨q, -, hq⟩ := eisAccept_leaves (cmdCtx s.toDev 0x40 m.seq.toNat) (some (eisForm m)) s.toDev
  refine answers_mono (answers_done (c := eisPlanRow) (f := eisPlanAns m) rfl ht hc (admits_plain hl) hf hca hpa hja) fun t h => ?_
  obtain ⟨-, heis, -, hcache⟩ := answer_leaves h
  generalize eisAccept (cmdCtx s.toDev 0x40 m.seq.toNat) (some (eisForm m)) s.toDev = y at *
  have hrsp := rspOf_congr 0x40 m stOK (eisData s.toDev (some (eisForm m))) (a := s.toDev) (b := counted m y)
    (by show y.power = _; rw [hq]) (by show y.ring = _; rw [hq]) (by show y.host.outst = _; rw [hq])
  have hnext : y.eis.next = some (some (eisForm m)) ∧ y.eis.plan = s.eis.plan := by
    rw [hq]
    exact ⟨rfl, rfl⟩
  refine ⟨?_, rfl, ?_, ?_⟩
  · rw [heis]
    exact hnext.1
  · rw [heis]
    exact hnext.2
  · exact hcache.trans (congrArg (fun r => some (⟨m.seq.toNat, 0x40, r⟩ : Cached)) hrsp)

theorem eisPlan_refused (hc : Calm s.toDev) (ht : takes s.toDev 0x40 true m = true) (hl : lenIs (6 + 2 * eisNfreq m) m = true)
    (hfr : s.part.freqs ≠ 0) (hsrc : eisSource m ≠ 0) {e : Status} (hk : eisCheck s.toDev m (eisForm m) = some e) (he : e.code ≠ 0) :
    Answers (.eisPlan m) s (Replied 0x40 m e [] s.toDev) := by
  refine replied_refused (c := eisPlanRow) (f := eisPlanAns m) rfl ht hc (admits_plain hl) (e := counted m s.toDev) ?_ he
  unfold eisPlanAns
  rw [if_neg (show (counted m s.toDev).part.freqs ≠ 0 from hfr), if_neg hsrc, show eisCheck (counted m s.toDev) m _ = some e from hk]
  rfl

theorem eisPlan_absent (hc : Calm s.toDev) (ht : takes s.toDev 0x40 true m = true) (hl : lenIs (6 + 2 * eisNfreq m) m = true)
    (hfr : s.part.freqs = 0) : Answers (.eisPlan m) s (Replied 0x40 m stABSENT [] s.toDev) := by
  refine replied_refused (c := eisPlanRow) (f := eisPlanAns m) rfl ht hc (admits_plain hl) (e := counted m s.toDev) ?_ (by decide)
  exact if_pos hfr

/-! ## EIS_READ -/

/-- EIS_READ's part of the command, of its cells and indices. -/
def eisReadOf (cells ks : List Nat) (d : Dev) : Ans :=
  if d.part.freqs = 0 || cells.any (fun i => decide (d.part.cells ≤ i)) then refuse stABSENT d
  else if 42 < cells.length * ks.length then refuse stRANGE d
  else okWith (cells.flatMap (fun i => ks.flatMap (eisRecordOf d (i + 1)))) d

/-- Cells that an EIS_READ names, from 0. -/
def eisCells (m : Msg) : List Nat := mlist (BitVec.ofNat 24 (bf (req m 1) 0 24))

/-- Indices that an EIS_READ names. -/
def eisTones (m : Msg) : List Nat := mlist (BitVec.ofNat 8 (bf (req m 1) 24 8))

theorem eisCells_eq (m : Msg) : eisCells m = (List.range 24).filter (bit (req m 1)) := by
  unfold eisCells
  rw [mlist_bf]
  simp only [Nat.zero_add]

theorem eisTones_eq (m : Msg) : eisTones m = (List.range 8).filter (fun k => bit (req m 1) (24 + k)) := mlist_bf _ _ _

theorem eisRead_absent (hc : Calm s.toDev) (ht : takes s.toDev 0x41 false m = true) (hl : lenIs 3 m = true)
    (h : s.part.freqs = 0 ∨ (eisCells m).any (fun i => decide (s.part.cells ≤ i)) = true) :
    Answers (.eisRead m) s (Replied 0x41 m stABSENT [] s.toDev) := by
  refine replied_refused (c := ⟨0x41, lenIs 3, false, false, false⟩) (f := eisReadOf (eisCells m) (eisTones m)) rfl ht hc (admits_plain hl)
    (e := counted m s.toDev) ?_ (by decide)
  refine if_pos ?_
  rcases h with h | h
  · exact Bool.or_eq_true_iff.mpr (.inl (decide_eq_true h))
  · exact Bool.or_eq_true_iff.mpr (.inr h)

theorem eisRead_passes (hfr : s.part.freqs ≠ 0) (h : (eisCells m).all (fun i => decide (i < s.part.cells)) = true) :
    ¬ (decide ((counted m s.toDev).part.freqs = 0) || (eisCells m).any (fun i => decide ((counted m s.toDev).part.cells ≤ i))) = true := by
  intro hx
  rcases Bool.or_eq_true_iff.mp hx with h0 | h0
  · exact hfr (of_decide_eq_true h0)
  · obtain ⟨i, hi, hle⟩ := List.any_eq_true.mp h0
    have hlt := of_decide_eq_true (List.all_eq_true.mp h i hi)
    exact absurd (of_decide_eq_true hle) (Nat.not_le.mpr hlt)

theorem eisRead_done (hc : Calm s.toDev) (ht : takes s.toDev 0x41 false m = true) (hl : lenIs 3 m = true) (hfr : s.part.freqs ≠ 0)
    (h : (eisCells m).all (fun i => decide (i < s.part.cells)) = true) (hn : (eisCells m).length * (eisTones m).length ≤ 42) :
    Answers (.eisRead m) s (Replied 0x41 m stOK ((eisCells m).flatMap (fun i => (eisTones m).flatMap (eisRecordOf s.toDev (i + 1)))) s.toDev) := by
  refine replied_read (c := ⟨0x41, lenIs 3, false, false, false⟩) (f := eisReadOf (eisCells m) (eisTones m)) rfl ht hc (admits_plain hl) ?_
  exact (if_neg (eisRead_passes hfr h)).trans (if_neg (Nat.not_lt.mpr hn))

theorem eisRead_many (hc : Calm s.toDev) (ht : takes s.toDev 0x41 false m = true) (hl : lenIs 3 m = true) (hfr : s.part.freqs ≠ 0)
    (h : (eisCells m).all (fun i => decide (i < s.part.cells)) = true) (hn : 42 < (eisCells m).length * (eisTones m).length) :
    Answers (.eisRead m) s (Replied 0x41 m stRANGE [] s.toDev) := by
  refine replied_refused (c := ⟨0x41, lenIs 3, false, false, false⟩) (f := eisReadOf (eisCells m) (eisTones m)) rfl ht hc (admits_plain hl)
    (e := counted m s.toDev) ?_ (by decide)
  exact (if_neg (eisRead_passes hfr h)).trans (if_pos hn)

/-! ## TEMP_TABLE_LOAD -/

/-- A table that may be loaded (R277, R461). -/
def TableGood (m : Msg) : Prop :=
  bf (req m 1) 24 8 ≤ 1 ∧ req m 1 &&& ~~~ 0xFFFF0000 = 0 ∧ 50 ≤ (req m 2).toNat ∧ (req m 2).toNat ≤ 4000000 ∧
    (tablePoints m.body).all (fun x => decide (-5000 ≤ x.2) && decide (x.2 ≤ 15000)) = true ∧
    ((tablePoints m.body).Pairwise (fun x y => x.1 < y.1) ∨ (tablePoints m.body).Pairwise (fun x y => y.1 < x.1))

/-- What TEMP_TABLE_LOAD refuses for its range. -/
def tableBad (m : Msg) : Bool :=
  1 < bf (req m 1) 24 8 || !onlyBits 0xFFFF0000 (req m 1) || (req m 2).toNat < 50 || 4000000 < (req m 2).toNat ||
    (tablePoints m.body).any (fun x => decide (x.2 < -5000) || decide (15000 < x.2)) || !strictly ((tablePoints m.body).map (fun x => x.1))

theorem points_inRange (l : List (Int × Int)) : l.any (fun x => decide (x.2 < -5000) || decide (15000 < x.2)) = false ↔
    l.all (fun x => decide (-5000 ≤ x.2) && decide (x.2 ≤ 15000)) = true := by
  rw [List.any_eq_false, List.all_eq_true]
  refine forall₂_congr fun x _ => ?_
  simp only [Bool.or_eq_true, Bool.and_eq_true, decide_eq_true_eq, not_or, Int.not_lt]

theorem strictly_iff (l : List (Int × Int)) :
    strictly (l.map (fun x => x.1)) = true ↔ l.Pairwise (fun x y => x.1 < y.1) ∨ l.Pairwise (fun x y => y.1 < x.1) := by
  unfold strictly
  rw [Bool.or_eq_true, decide_eq_true_eq, decide_eq_true_eq, List.pairwise_map, List.pairwise_map]

theorem tableBad_iff (m : Msg) : tableBad m = false ↔ TableGood m := by
  have hbits : onlyBits 0xFFFF0000 (req m 1) = true ↔ req m 1 &&& ~~~ 0xFFFF0000 = 0 := onlyBits_iff 0xFFFF0000 (req m 1)
  unfold tableBad TableGood
  rw [Bool.or_eq_false_iff, Bool.or_eq_false_iff, Bool.or_eq_false_iff, Bool.or_eq_false_iff, Bool.or_eq_false_iff,
    decide_eq_false_iff_not, Bool.not_eq_false', decide_eq_false_iff_not, decide_eq_false_iff_not, Bool.not_eq_false', points_inRange,
    strictly_iff, hbits, Nat.not_lt, Nat.not_lt, Nat.not_lt]
  tauto

/-- TEMP_TABLE_LOAD's part of the command. -/
def tempTableAns (m : Msg) (d : Dev) : Ans :=
  if d.part.freqs = 0 then refuse stABSENT d
  else if tableBad m then refuse stRANGE d
  else okWith [] (jchange (msgCtx d 0x42 m) (0x05F1 + bf (req m 1) 24 8) (recordOf (nth d.eis.temp (bf (req m 1) 24 8) [])) (recordOf m.body)
    { d with eis.temp := d.eis.temp.set (bf (req m 1) 24 8) m.body })

theorem execTempTable_runs : exec (.tempTableLoad m) s = runDev s (runCmd ⟨0x42, lenIs 20, true, false, false⟩ m (tempTableAns m)) := by
  show execTempTableLoad m s = _
  unfold execTempTableLoad tempTableAns tableBad
  simp only [Bool.or_eq_true, decide_eq_true_eq]

theorem tempTable_absent (hc : Calm s.toDev) (ht : takes s.toDev 0x42 true m = true) (hl : lenIs 20 m = true) (hfr : s.part.freqs = 0) :
    Answers (.tempTableLoad m) s (Replied 0x42 m stABSENT [] s.toDev) := by
  refine replied_refused (c := ⟨0x42, lenIs 20, true, false, false⟩) (f := tempTableAns m) execTempTable_runs ht hc (admits_plain hl)
    (e := counted m s.toDev) ?_ (by decide)
  exact if_pos hfr

theorem tempTable_refused (hc : Calm s.toDev) (ht : takes s.toDev 0x42 true m = true) (hl : lenIs 20 m = true) (hfr : s.part.freqs ≠ 0)
    (hg : ¬ TableGood m) : Answers (.tempTableLoad m) s (Replied 0x42 m stRANGE [] s.toDev) := by
  refine replied_refused (c := ⟨0x42, lenIs 20, true, false, false⟩) (f := tempTableAns m) execTempTable_runs ht hc (admits_plain hl)
    (e := counted m s.toDev) ?_ (by decide)
  exact (if_neg hfr).trans (if_pos (Bool.not_eq_false _ ▸ fun h => hg ((tableBad_iff m).mp h)))

theorem tempTable_done (hc : Calm s.toDev) (hj : JournalFree s.toDev) (ht : takes s.toDev 0x42 true m = true) (hl : lenIs 20 m = true)
    (hfr : s.part.freqs ≠ 0) (hg : TableGood m) : Answers (.tempTableLoad m) s (Replied 0x42 m stOK []
      (jchange (cmdCtx s.toDev 0x42 m.seq.toNat) (0x05F1 + bf (req m 1) 24 8) (recordOf (nth s.eis.temp (bf (req m 1) 24 8) []))
        (recordOf m.body) { s.toDev with eis.temp := s.eis.temp.set (bf (req m 1) 24 8) m.body })) := by
  have hbad : tableBad m = false := (tableBad_iff m).mpr hg
  generalize hx : ({ s.toDev with eis.temp := s.eis.temp.set (bf (req m 1) 24 8) m.body } : Dev) = x
  have hxc : Calm x := by
    rw [← hx]
    exact calm_of_eq hc rfl rfl rfl rfl
  have hf : tempTableAns m (counted m s.toDev) = .done stOK [] (counted m (jchange (cmdCtx s.toDev 0x42 m.seq.toNat)
      (0x05F1 + bf (req m 1) 24 8) (recordOf (nth s.eis.temp (bf (req m 1) 24 8) [])) (recordOf m.body) x)) := by
    unfold tempTableAns
    rw [if_neg (show (counted m s.toDev).part.freqs ≠ 0 from hfr), hbad, if_neg Bool.false_ne_true, ← counted_jchange, ← hx]
    rfl
  have hlen := jchange_length (cmdCtx s.toDev 0x42 m.seq.toNat) (0x05F1 + bf (req m 1) 24 8) (recordOf (nth s.eis.temp (bf (req m 1) 24 8) []))
    (recordOf m.body) x
  have hxq : x.jrn = s.jrn ∧ x.power = s.power := by
    rw [← hx]
    exact ⟨rfl, rfl⟩
  refine replied_ok (c := ⟨0x42, lenIs 20, true, false, false⟩) (f := tempTableAns m) execTempTable_runs ht hc (admits_plain hl) hf ?_ ?_
    (journalRoom_free hj ?_)
  · rw [jchange_kept]
    exact calm_of_eq hxc rfl rfl rfl rfl
  · rw [jchange_kept]
    show x.power.safeHold = true → _
    rw [hxq.2]
    exact id
  · rw [hxq.1] at hlen
    exact (show _ ≤ s.jrn.q27.length + 200 by omega)

end Impedance

/-! ## O54 -/

/-- Settles O54: the cells and banks of a command are written one after the other, each once. -/
theorem balancingAndImpedanceMessages : Obligations.BalancingAndImpedanceMessages := by
  intro s m hc hj hduty howner hplans hq hbanks
  have hcells : Cells s.toDev := ⟨hduty, howner, hplans, hq⟩
  refine ⟨fun ht hl => ?_, fun ht hl => ?_, fun ht hl => ?_, fun ht hl => ?_, fun ht hl => ?_, fun ht hl => ?_⟩
  · have hlen : lenIs (3 + (balCells m).length) m = true := by
      unfold lenIs
      rw [hl]
      simp
      omega
    exact ⟨balSet_done hc hj hcells ht hlen, fun e => balSet_refused hc ht hlen⟩
  · have hlen : lenIs (3 + 3 * (balCells m).length) m = true := by
      unfold lenIs
      rw [hl]
      simp
      omega
    exact ⟨balPlan_done hc hj hcells ht hlen, fun e => balPlan_refused hc ht hlen⟩
  · have hlen : activeLen m = true := by
      unfold activeLen lenIs
      rw [hl]
      simp
      omega
    exact ⟨activeSet_done hc hj hbanks ht hlen, fun e => activeSet_refused hc ht hlen,
      fun h => activeSet_refused hc ht hlen (activeCheck_absent h) (by decide)⟩
  · have hlen : lenIs (6 + 2 * eisNfreq m) m = true := by
      unfold lenIs
      rw [hl]
      simp
      omega
    exact ⟨eisPlan_stops hc hj ht hlen, eisPlan_done hc hj ht hlen, fun e hfr hsrc => eisPlan_refused hc ht hlen hfr hsrc, eisPlan_absent hc ht hlen⟩
  · have hlen : lenIs 3 m = true := by
      unfold lenIs
      rw [hl]
      rfl
    intro cells ks
    rw [show cells = eisCells m from (eisCells_eq m).symm, show ks = eisTones m from (eisTones_eq m).symm]
    exact ⟨eisRead_absent hc ht hlen, fun hfr hall => ⟨eisRead_done hc ht hlen hfr hall, eisRead_many hc ht hlen hfr hall⟩⟩
  · have hlen : lenIs 20 m = true := by
      unfold lenIs
      rw [hl]
      rfl
    exact ⟨tempTable_absent hc ht hlen, tempTable_done hc hj ht hlen, tempTable_refused hc ht hlen⟩

end Sys2Proof.Proofs
end

section
/-! PROOF. KERNEL_LOAD: images staged, discarded and installed (10_engines_and_flumes.md R311 to R314). -/

namespace Sys2Proof.Proofs

open Sys2Proof Sys2Proof.Machine Sys2Proof.Safety Sys2Proof.Laws

/-! ## Answers -/

section Answers

variable {s : State} {m : Msg} {c : Cmd0} {f : Dev → Ans} {i : Instr}

/-- A command that refuses and has discarded something all the same. -/
theorem replied_forced {st : Status} {data : List Word} {a : Dev} (hi : exec i s = runDev s (runCmd c m f))
    (ht : takes s.toDev c.code c.bcast m = true) (hc : Calm s.toDev) (ha : admits c m s.toDev)
    (hf : f (counted m s.toDev) = .forced st data (counted m a)) (hca : Calm a) (hs : a.power.safeHold = true → s.toDev.power.safeHold = true) :
    Answers i s (Replied c.code m st data a) := by
  have hrun : runCmd c m f s.toDev = answer c.code m.seq.toNat (m.body.length + 2) m.quiet m.bcast false st data (counted m a) := by
    rw [runCmd_takes ht hc, executeCmd_admits ht ha, hf]
  obtain ⟨hreply, hcalm, hpower⟩ := sent_of_answer c.code m st data a _ rfl hca
  generalize answer c.code m.seq.toNat (m.body.length + 2) m.quiet m.bcast false st data (counted m a) = y at *
  refine ⟨{ s with toDev := effect (runCmd c m f) s.toDev }, hi, rfl, ?_⟩
  show Replied c.code m st data a (effect (runCmd c m f) s.toDev)
  rw [effect_calm (by rw [hrun]; exact hcalm) (by rw [hrun, hpower]; exact hs), hrun]
  exact hreply

/-- The array's registers are not changed by an answer. -/
theorem answer_eng {code : Nat} {data : List Word} {e t : Dev}
    (h : Beside (answer code m.seq.toNat (m.body.length + 2) m.quiet m.bcast false stOK data e) t) :
    t.eng = { e.eng with freeMin := t.eng.freeMin, linkHeld := t.eng.linkHeld, copyHeld := t.eng.copyHeld } := by
  have hw := answerWrite_answer code m.seq.toNat (m.body.length + 2) m.quiet m.bcast false stOK data e
  have heng := eng_of_beside h
  generalize answer code m.seq.toNat (m.body.length + 2) m.quiet m.bcast false stOK data e = y at *
  have hy : y.eng = e.eng := by rw [hw]
  rw [hy] at heng
  exact heng

end Answers

/-! ## Association lists -/

/-- Words put into an association list under their keys, each key once. -/
theorem akey_puts {α : Type} (es : List (Nat × α)) (l : List (Nat × α)) (hnd : (es.map (fun e => e.1)).Nodup) :
    (∀ e ∈ es, akey (es.foldl (fun l e => aset l e.1 e.2) l) e.1 = some e.2) ∧
    ∀ j, j ∉ es.map (fun e => e.1) → akey (es.foldl (fun l e => aset l e.1 e.2) l) j = akey l j := by
  induction es generalizing l with
  | nil => exact ⟨fun e he => absurd he List.not_mem_nil, fun _ _ => rfl⟩
  | cons a t ih =>
    rw [List.map_cons, List.nodup_cons] at hnd
    obtain ⟨hmem, hout⟩ := ih (aset l a.1 a.2) hnd.2
    refine ⟨fun e he => ?_, fun j hj => ?_⟩
    · rcases List.mem_cons.mp he with rfl | he
      · exact (hout _ hnd.1).trans (akey_aset_self l _ _)
      · exact hmem e he
    · rw [List.map_cons, List.mem_cons, not_or] at hj
      exact (hout j hj.2).trans (akey_aset_ne l _ hj.1)

/-- Image words of a DATA with their offsets. -/
def stagedWords (o : Nat) (ws : List Word) : List (Nat × Word) := ws.zipIdx.map (fun e => (o + e.2, e.1))

theorem stagedWords_keys (o : Nat) (ws : List Word) : (stagedWords o ws).map (fun e => e.1) = (List.range ws.length).map (fun i => o + i) := by
  unfold stagedWords
  have hsnd := List.zipIdx_map_snd 0 ws
  rw [List.range_eq_range', ← hsnd, List.map_map, List.map_map]
  rfl

theorem stagedWords_nodup (o : Nat) (ws : List Word) : ((stagedWords o ws).map (fun e => e.1)).Nodup := by
  rw [stagedWords_keys]
  exact List.nodup_range.map (fun _ _ h => Nat.add_left_cancel h)

theorem stagedWords_mem {o i : Nat} {ws : List Word} (h : i < ws.length) : (o + i, nth ws i 0) ∈ stagedWords o ws := by
  unfold stagedWords
  refine List.mem_map.mpr ⟨(nth ws i 0, i), ?_, rfl⟩
  rw [List.mem_zipIdx_iff_getElem?]
  simp [nth, h]

theorem stagedWords_notMem {o j : Nat} {ws : List Word} (h : j < o ∨ o + ws.length ≤ j) : j ∉ (stagedWords o ws).map (fun e => e.1) := by
  rw [stagedWords_keys]
  intro hj
  obtain ⟨i, hi, rfl⟩ := List.mem_map.mp hj
  have hlt := List.mem_range.mp hi
  omega

/-! ## Slots -/

theorem kernelAt_modKernel {d : Dev} (k j : Nat) (f : Kernel → Kernel) (hk : k < d.eng.kernels.length) :
    kernelAt (modKernel k f d) j = if j = k then f (kernelAt d k) else kernelAt d j := by
  unfold kernelAt modKernel
  by_cases h : j = k
  · subst h
    rw [if_pos rfl]
    exact nth_modify_self _ _ hk
  · rw [if_neg h]
    simp [nth, List.getD_eq_getElem?_getD, Ne.symm h]

theorem kerSlot_lt (m : Msg) : bf (req m 1) 22 2 < 4 := Nat.mod_lt _ (by decide)

section Load

variable {s : State} {m : Msg}

theorem kernelCmd_begin (h : bf (req m 1) 24 8 = 1) (d : Dev) : kernelCmd m d = kerBegin m d := by
  simp only [kernelCmd, kerOp, h]

theorem kernelCmd_data (h : bf (req m 1) 24 8 = 2) (d : Dev) : kernelCmd m d = kerData m d := by
  simp only [kernelCmd, kerOp, h]

theorem kernelCmd_end (h : bf (req m 1) 24 8 = 3) (d : Dev) : kernelCmd m d = kerEnd m d := by
  simp only [kernelCmd, kerOp, h]

theorem kernelCmd_unload (h : bf (req m 1) 24 8 = 4) (d : Dev) : kernelCmd m d = kerUnload m d := by
  simp only [kernelCmd, kerOp, h]

theorem kernelCmd_other (h : bf (req m 1) 24 8 = 0 ∨ 5 ≤ bf (req m 1) 24 8) (d : Dev) : kernelCmd m d = refuse stRANGE d := by
  unfold kernelCmd kerOp
  split
  · omega
  · omega
  · omega
  · omega
  · rfl

/-- KERNEL_LOAD refused in its own checks. -/
theorem kernel_refused {i : Instr} {st : Status} (hi : exec i s = runDev s (runCmd kerCmd m (kernelCmd m))) (hc : Calm s.toDev)
    (ht : takes s.toDev 0x48 true m = true) (hl : kerLen m = true) (hf : kernelCmd m (counted m s.toDev) = refuse st (counted m s.toDev))
    (hst : st.code ≠ 0) : Answers i s (Replied 0x48 m st [] s.toDev) :=
  replied_refused (c := kerCmd) (f := kernelCmd m) hi ht hc (admits_plain hl) hf hst

/-! ## BEGIN -/

theorem kernelBegin_range (hc : Calm s.toDev) (ht : takes s.toDev 0x48 true m = true) (hl : kerLen m = true)
    (h : (bf (req m 1) 24 8 = 0 ∨ 5 ≤ bf (req m 1) 24 8) ∨ bf (req m 1) 24 8 = 1 ∧ req m 1 &&& ~~~ 0xFFC00000 ≠ 0) :
    Answers (.kernelLoadBegin m) s (Replied 0x48 m stRANGE [] s.toDev) := by
  refine kernel_refused rfl hc ht hl ?_ (by decide)
  rcases h with h | ⟨hop, hw⟩
  · exact kernelCmd_other h _
  · have hbits : onlyBits 0xFFC00000 (req m 1) = false := Bool.eq_false_iff.mpr fun h => hw ((onlyBits_iff _ _).mp h)
    rw [kernelCmd_begin hop, kerBegin, hbits]
    rfl

theorem kernelBegin_done (hc : Calm s.toDev) (ht : takes s.toDev 0x48 true m = true) (hl : kerLen m = true) (hop : bf (req m 1) 24 8 = 1)
    (hw : req m 1 &&& ~~~ 0xFFC00000 = 0) (hk : (kernelAt s.toDev (bf (req m 1) 22 2)).loaded = false) :
    Answers (.kernelLoadBegin m) s (Replied 0x48 m stOK [0]
      (modKernel (bf (req m 1) 22 2) (fun x => { x with staging := some (req m 2).toNat, staged := [] }) s.toDev)) := by
  have hbits : onlyBits 0xFFC00000 (req m 1) = true := (onlyBits_iff _ _).mpr hw
  refine replied_ok (c := kerCmd) (f := kernelCmd m) rfl ht hc (admits_plain hl) ?_ (calm_of_eq hc rfl rfl rfl rfl) id (journalRoom_self s.toDev)
  rw [kernelCmd_begin hop, kerBegin, hbits, show (kernelAt (counted m s.toDev) (kerSlot m)).loaded = false from hk]
  rfl

theorem kernelBegin_conflict (hc : Calm s.toDev) (ht : takes s.toDev 0x48 true m = true) (hl : kerLen m = true) (hop : bf (req m 1) 24 8 = 1)
    (hw : req m 1 &&& ~~~ 0xFFC00000 = 0) (hk : (kernelAt s.toDev (bf (req m 1) 22 2)).loaded = true) :
    Answers (.kernelLoadBegin m) s (Replied 0x48 m (stCONFLICT 1 0x48) [] s.toDev) := by
  have hbits : onlyBits 0xFFC00000 (req m 1) = true := (onlyBits_iff _ _).mpr hw
  refine kernel_refused rfl hc ht hl ?_ (by decide)
  rw [kernelCmd_begin hop, kerBegin, hbits, show (kernelAt (counted m s.toDev) (kerSlot m)).loaded = true from hk]
  rfl

/-! ## DATA -/

/-- The device with the words of a DATA staged. -/
def kerStaged (m : Msg) (d : Dev) : Dev :=
  modKernel (bf (req m 1) 22 2) (fun k => { k with
    staged := (stagedWords (bf (req m 1) 0 16) (m.body.drop 1)).foldl (fun l e => aset l e.1 e.2) k.staged }) d

theorem kernelData_done (hc : Calm s.toDev) (ht : takes s.toDev 0x48 true m = true) (hl : kerLen m = true) (h4 : s.eng.kernels.length = 4)
    (hop : bf (req m 1) 24 8 = 2) (hw : req m 1 &&& ~~~ 0xFFC0FFFF = 0) {n : Nat}
    (hk : (kernelAt s.toDev (bf (req m 1) 22 2)).staging = some n) (hn : bf (req m 1) 0 16 + (m.body.drop 1).length ≤ n) :
    Answers (.kernelLoadData m) s (fun t =>
      (∀ i, i < (m.body.drop 1).length →
        akey (kernelAt t (bf (req m 1) 22 2)).staged (bf (req m 1) 0 16 + i) = some (nth (m.body.drop 1) i 0)) ∧
      (∀ o, o < bf (req m 1) 0 16 ∨ bf (req m 1) 0 16 + (m.body.drop 1).length ≤ o →
        akey (kernelAt t (bf (req m 1) 22 2)).staged o = akey (kernelAt s.toDev (bf (req m 1) 22 2)).staged o) ∧
      (∀ j, j ≠ bf (req m 1) 22 2 → kernelAt t j = kernelAt s.toDev j) ∧
      t.cmd.cache.head? = some ⟨m.seq.toNat, 0x48, rspOf 0x48 m stOK [Word.of (kernelAt t (bf (req m 1) 22 2)).staged.length] s.toDev⟩) := by
  have hbits : onlyBits 0xFFC0FFFF (req m 1) = true := (onlyBits_iff _ _).mpr hw
  have hlt : bf (req m 1) 22 2 < s.eng.kernels.length := by
    rw [h4]
    exact kerSlot_lt m
  have hf : kernelCmd m (counted m s.toDev) = .done stOK [Word.of (kernelAt (kerStaged m s.toDev) (bf (req m 1) 22 2)).staged.length]
      (counted m (kerStaged m s.toDev)) := by
    rw [kernelCmd_data hop, kerData, hbits, show (kernelAt (counted m s.toDev) (kerSlot m)).staging = some n from hk]
    exact if_neg (Nat.not_lt.mpr hn)
  refine answers_mono (answers_done (c := kerCmd) (f := kernelCmd m) rfl ht hc (admits_plain hl) hf
    (calm_of_eq (show Calm (counted m s.toDev) from hc) rfl rfl rfl rfl) id (journalRoom_self s.toDev)) fun t h => ?_
  obtain ⟨-, -, -, hcache⟩ := answer_leaves h
  have heng := answer_eng h
  have hat : ∀ j, kernelAt t j = kernelAt (kerStaged m s.toDev) j := fun j => by
    unfold kernelAt
    rw [heng]
    rfl
  have hslot : (kernelAt t (bf (req m 1) 22 2)).staged = (stagedWords (bf (req m 1) 0 16) (m.body.drop 1)).foldl (fun l e => aset l e.1 e.2)
      (kernelAt s.toDev (bf (req m 1) 22 2)).staged := by
    rw [hat, kerStaged, kernelAt_modKernel _ _ _ hlt, if_pos rfl]
  obtain ⟨hin, hout⟩ := akey_puts (stagedWords (bf (req m 1) 0 16) (m.body.drop 1)) (kernelAt s.toDev (bf (req m 1) 22 2)).staged
    (stagedWords_nodup _ _)
  refine ⟨fun i hi => ?_, fun o ho => ?_, fun j hj => ?_, ?_⟩
  · rw [hslot]
    exact hin _ (stagedWords_mem hi)
  · rw [hslot]
    exact hout o (stagedWords_notMem ho)
  · rw [hat, kerStaged, kernelAt_modKernel _ _ _ hlt, if_neg hj]
  · rw [hcache, hat]
    rfl

theorem kernelData_range (hc : Calm s.toDev) (ht : takes s.toDev 0x48 true m = true) (hl : kerLen m = true)
    (hop : bf (req m 1) 24 8 = 2) (hw : req m 1 &&& ~~~ 0xFFC0FFFF = 0) {n : Nat}
    (hk : (kernelAt s.toDev (bf (req m 1) 22 2)).staging = some n) (hn : n < bf (req m 1) 0 16 + (m.body.drop 1).length) :
    Answers (.kernelLoadData m) s (Replied 0x48 m stRANGE [] s.toDev) := by
  have hbits : onlyBits 0xFFC0FFFF (req m 1) = true := (onlyBits_iff _ _).mpr hw
  refine kernel_refused rfl hc ht hl ?_ (by decide)
  rw [kernelCmd_data hop, kerData, hbits, show (kernelAt (counted m s.toDev) (kerSlot m)).staging = some n from hk]
  exact if_pos hn

theorem kernelData_state (hc : Calm s.toDev) (ht : takes s.toDev 0x48 true m = true) (hl : kerLen m = true)
    (hop : bf (req m 1) 24 8 = 2) (hw : req m 1 &&& ~~~ 0xFFC0FFFF = 0) (hk : (kernelAt s.toDev (bf (req m 1) 22 2)).staging = none) :
    Answers (.kernelLoadData m) s (Replied 0x48 m stSTATE [] s.toDev) := by
  have hbits : onlyBits 0xFFC0FFFF (req m 1) = true := (onlyBits_iff _ _).mpr hw
  refine kernel_refused rfl hc ht hl ?_ (by decide)
  rw [kernelCmd_data hop, kerData, hbits, show (kernelAt (counted m s.toDev) (kerSlot m)).staging = none from hk]
  rfl

theorem kernelData_reserved (hc : Calm s.toDev) (ht : takes s.toDev 0x48 true m = true) (hl : kerLen m = true)
    (hop : bf (req m 1) 24 8 = 2) (hw : req m 1 &&& ~~~ 0xFFC0FFFF ≠ 0) : Answers (.kernelLoadData m) s (Replied 0x48 m stRANGE [] s.toDev) := by
  have hbits : onlyBits 0xFFC0FFFF (req m 1) = false := Bool.eq_false_iff.mpr fun h => hw ((onlyBits_iff _ _).mp h)
  refine kernel_refused rfl hc ht hl ?_ (by decide)
  rw [kernelCmd_data hop, kerData, hbits]
  rfl

/-! ## END -/

theorem otpRead_whole {lo n : Nat} {d : Dev} (hb : d.fault.otpBad = []) (ho : d.otp.bad = []) : otpRead lo n d = (d, []) := by
  unfold otpRead
  generalize (List.range n).map (fun i => lo + i) = l
  have hd : ({ d with fault.otpBad := [] } : Dev) = d := by rw [← hb]
  induction l with
  | nil => rfl
  | cons w t ih =>
    rw [List.foldl_cons]
    simp only [hb, ho, adel, List.filter_nil]
    rw [hd]
    exact ih

theorem kerHash_whole {key : Nat} {d : Dev} (hb : d.fault.otpBad = []) (ho : d.otp.bad = []) : (kerHash key d).1 = d := by
  unfold kerHash
  split
  · rw [otpRead_whole hb ho]
  · split
    · rw [otpRead_whole hb ho]
    · rfl

theorem kerHash_counted (key : Nat) (hb : s.fault.otpBad = []) (ho : s.otp.bad = []) : (kerHash key (counted m s.toDev)).2 = (kerHash key s.toDev).2 := by
  have h1 : ∀ lo n, otpRead lo n (counted m s.toDev) = (counted m s.toDev, []) := fun lo n => otpRead_whole hb ho
  have h2 : ∀ lo n, otpRead lo n s.toDev = (s.toDev, []) := fun lo n => otpRead_whole hb ho
  unfold kerHash
  rw [h1, h1, h2, h2]
  split
  · rfl
  · split <;> rfl

end Load

end Sys2Proof.Proofs
end

section
/-! PROOF. An image installed, discarded or refused at its END, and the array's statistics (10_engines_and_flumes.md R311, R313, R314,
R317). -/

namespace Sys2Proof.Proofs

open Sys2Proof Sys2Proof.Machine Sys2Proof.Safety Sys2Proof.Laws

/-! ## Generators -/

/-- b is a but for generators that have started; none of a kernel that is being unloaded starts. -/
def Started (a b : Dev) : Prop :=
  b = { a with eng := { a.eng with kernels := b.eng.kernels } } ∧
  ∀ j, kernelAt b j = { kernelAt a j with genOn := (kernelAt b j).genOn } ∧ ((kernelAt a j).unloading = true → kernelAt b j = kernelAt a j)

theorem started_refl (a : Dev) : Started a a := ⟨rfl, fun _ => ⟨rfl, fun _ => rfl⟩⟩

theorem started_trans {a b c : Dev} (hab : Started a b) (hbc : Started b c) : Started a c := by
  obtain ⟨hb, hkb⟩ := hab
  obtain ⟨hc, hkc⟩ := hbc
  refine ⟨?_, fun j => ⟨?_, fun h => ?_⟩⟩
  · rw [hb] at hc
    exact hc
  · have h1 := (hkc j).1
    rw [(hkb j).1] at h1
    exact h1
  · have hun : (kernelAt b j).unloading = true := by
      rw [(hkb j).2 h]
      exact h
    exact ((hkc j).2 hun).trans ((hkb j).2 h)

/-- Slot k's generator started, where it may. -/
theorem started_slot (k : Nat) (d : Dev) (p : Bool) (hp : p = true → (kernelAt d k).unloading = false) :
    Started d (if p = true then modKernel k (fun x => { x with genOn := true }) d else d) := by
  split
  · next h =>
    refine ⟨rfl, fun j => ?_⟩
    by_cases hk : k < d.eng.kernels.length
    · rw [kernelAt_modKernel k j _ hk]
      split
      · next hj =>
        subst hj
        exact ⟨rfl, fun hu => absurd (hu.symm.trans (hp h)) (by decide)⟩
      · exact ⟨rfl, fun _ => rfl⟩
    · have hsame : kernelAt (modKernel k (fun x => { x with genOn := true }) d) j = kernelAt d j := by
        unfold kernelAt modKernel
        rw [List.modify_eq_self (Nat.le_of_not_lt hk)]
      rw [hsame]
      exact ⟨rfl, fun _ => rfl⟩
  · exact started_refl d

theorem startGens_started (d : Dev) : Started d (startGens d) := by
  have hall : ∀ (l : List Nat) (g : Nat → Dev → Dev), (∀ k x, Started x (g k x)) → ∀ x : Dev, Started x (forEach l g x) := fun l g hg x => by
    induction l generalizing x with
    | nil => exact started_refl x
    | cons k t ih => exact started_trans (hg k x) (ih _)
  refine hall [0, 1, 2, 3] _ (fun k x => ?_) d
  refine started_slot k x _ fun h => ?_
  simp only [Bool.and_eq_true, Bool.not_eq_true'] at h
  exact h.1.1.1.2

section Load

variable {s : State} {m : Msg}

/-! ## END -/

theorem kerInstall_leaves (c : Ctx) {k : Nat} (l : List Word) {d : Dev} (hk : k < d.eng.kernels.length) :
    ∃ q e, q.length ≤ d.jrn.q27.length + 1 ∧ kerInstall c k l d = { d with eng := e, jrn := { d.jrn with q27 := q } } ∧
      (kernelAt (kerInstall c k l d) k).loaded = true ∧ (kernelAt (kerInstall c k l d) k).image = l ∧
      (kernelAt (kerInstall c k l d) k).staging = none := by
  generalize hx : ({ modKernel k (fun x => { Kernel.reset with loaded := true, image := l, gen := (x.gen + 1) % 256 }) d with
    eng := { (modKernel k (fun x => { Kernel.reset with loaded := true, image := l, gen := (x.gen + 1) % 256 }) d).eng with
      copies := (modKernel k (fun x => { Kernel.reset with loaded := true, image := l, gen := (x.gen + 1) % 256 }) d).eng.copies ++
        ((List.range 16).filter (fun e => inService (eng (modKernel k (fun x => { Kernel.reset with loaded := true, image := l, gen := (x.gen + 1) % 256 }) d) e))).map
          (fun e => (e, k)) } } : Dev) = x
  have hinst : kerInstall c k l d = startGens (jchange c (0x0BE0 + k) 0 (recordOf l) x) := by
    rw [← hx]
    rfl
  have hslot : kernelAt x k = { Kernel.reset with loaded := true, image := l, gen := ((kernelAt d k).gen + 1) % 256 } := by
    rw [← hx]
    refine (kernelAt_modKernel k k _ hk).trans (if_pos rfl)
  have hlen := jchange_length c (0x0BE0 + k) 0 (recordOf l) x
  have hjrn : x.jrn = d.jrn := by
    rw [← hx]
    rfl
  have hxd : x = { d with eng := x.eng } := by
    rw [← hx]
    rfl
  obtain ⟨hgen, hkern⟩ := startGens_started (jchange c (0x0BE0 + k) 0 (recordOf l) x)
  have hmid : kernelAt (jchange c (0x0BE0 + k) 0 (recordOf l) x) k = kernelAt x k := by
    rw [jchange_kept]
    rfl
  have hfin : kernelAt (kerInstall c k l d) k =
      { kernelAt x k with genOn := (kernelAt (startGens (jchange c (0x0BE0 + k) 0 (recordOf l) x)) k).genOn } := by
    rw [hinst, ← hmid]
    exact (hkern k).1
  refine ⟨(jchange c (0x0BE0 + k) 0 (recordOf l) x).jrn.q27, (kerInstall c k l d).eng, ?_, ?_, ?_, ?_, ?_⟩
  · rw [hjrn] at hlen
    exact hlen
  · rw [hinst, hgen, jchange_kept, balWrite_jrn, hjrn]
    dsimp only
    rw [hxd]
  · rw [hfin, hslot]
  · rw [hfin, hslot]
  · rw [hfin, hslot]
    rfl

theorem kernelEnd_reserved (hc : Calm s.toDev) (ht : takes s.toDev 0x48 true m = true) (hl : kerLen m = true)
    (hop : bf (req m 1) 24 8 = 3) (hw : req m 1 &&& ~~~ 0xFFC00000 ≠ 0) : Answers (.kernelLoadEnd m) s (Replied 0x48 m stRANGE [] s.toDev) := by
  have hbits : onlyBits 0xFFC00000 (req m 1) = false := Bool.eq_false_iff.mpr fun h => hw ((onlyBits_iff _ _).mp h)
  refine kernel_refused rfl hc ht hl ?_ (by decide)
  rw [kernelCmd_end hop, kerEnd, hbits]
  rfl

/-- The answer of an END that refuses an image. -/
theorem kernelEnd_discards {st : Status} (hc : Calm s.toDev) (ht : takes s.toDev 0x48 true m = true) (hl : kerLen m = true)
    (hf : kernelCmd m (counted m s.toDev) = .forced st [] (counted m (kerDiscard (bf (req m 1) 22 2) s.toDev))) :
    Answers (.kernelLoadEnd m) s (Replied 0x48 m st [] (kerDiscard (bf (req m 1) 22 2) s.toDev)) :=
  replied_forced (c := kerCmd) (f := kernelCmd m) rfl ht hc (admits_plain hl) hf (calm_of_eq hc rfl rfl rfl rfl) id

theorem kernelEnd_partial (hc : Calm s.toDev) (ht : takes s.toDev 0x48 true m = true) (hl : kerLen m = true)
    (hop : bf (req m 1) 24 8 = 3) (hw : req m 1 &&& ~~~ 0xFFC00000 = 0) (hk : kerImage (kernelAt s.toDev (bf (req m 1) 22 2)) = none) :
    Answers (.kernelLoadEnd m) s (Replied 0x48 m stCHECK [] (kerDiscard (bf (req m 1) 22 2) s.toDev)) := by
  have hbits : onlyBits 0xFFC00000 (req m 1) = true := (onlyBits_iff _ _).mpr hw
  refine kernelEnd_discards hc ht hl ?_
  rw [kernelCmd_end hop, kerEnd, hbits, show kerImage (kernelAt (counted m s.toDev) (kerSlot m)) = none from hk]
  rfl

theorem kerBad_counted (l : List Word) (d : Dev) : kerBad (counted m d) l = kerBad d l := by
  unfold kerBad
  rfl

section Whole

variable (hc : Calm s.toDev) (hb : s.fault.otpBad = []) (ho : s.otp.bad = []) (ht : takes s.toDev 0x48 true m = true) (hl : kerLen m = true)
  (hop : bf (req m 1) 24 8 = 3) (hw : req m 1 &&& ~~~ 0xFFC00000 = 0) {l : List Word}
  (hk : kerImage (kernelAt s.toDev (bf (req m 1) 22 2)) = some l)
include hb ho hop hw hk

/-- What an END answers of a whole image. -/
theorem kernelEnd_whole : kernelCmd m (counted m s.toDev) =
    if !kerSigned l (kerHash (bf (nth l 1 0) 16 8) s.toDev).2 then .forced stAUTH [] (counted m (kerDiscard (bf (req m 1) 22 2) s.toDev))
    else if kerBad s.toDev l then .forced stRANGE [] (counted m (kerDiscard (bf (req m 1) 22 2) s.toDev))
    else okWith [Word.of (0x80 + bf (req m 1) 22 2), crc32 l]
      (kerInstall (cmdCtx s.toDev 0x48 m.seq.toNat) (bf (req m 1) 22 2) l (counted m s.toDev)) := by
  have hbits : onlyBits 0xFFC00000 (req m 1) = true := (onlyBits_iff _ _).mpr hw
  rw [kernelCmd_end hop, kerEnd, hbits, show kerImage (kernelAt (counted m s.toDev) (kerSlot m)) = some l from hk]
  simp only [Bool.not_true, Bool.false_eq_true, if_false]
  rw [kerHash_counted _ hb ho, kerHash_whole (d := counted m s.toDev) hb ho, kerBad_counted]
  rfl

include hc ht hl

theorem kernelEnd_unsigned (hs : kerSigned l (kerHash (bf (nth l 1 0) 16 8) s.toDev).2 = false) :
    Answers (.kernelLoadEnd m) s (Replied 0x48 m stAUTH [] (kerDiscard (bf (req m 1) 22 2) s.toDev)) := by
  refine kernelEnd_discards hc ht hl ?_
  rw [kernelEnd_whole hb ho hop hw hk, hs]
  rfl

theorem kernelEnd_outside (hs : kerSigned l (kerHash (bf (nth l 1 0) 16 8) s.toDev).2 = true) (hbad : kerBad s.toDev l = true) :
    Answers (.kernelLoadEnd m) s (Replied 0x48 m stRANGE [] (kerDiscard (bf (req m 1) 22 2) s.toDev)) := by
  refine kernelEnd_discards hc ht hl ?_
  rw [kernelEnd_whole hb ho hop hw hk, hs, hbad]
  rfl

theorem kernelEnd_done (hj : JournalFree s.toDev) (h4 : s.eng.kernels.length = 4)
    (hs : kerSigned l (kerHash (bf (nth l 1 0) 16 8) s.toDev).2 = true) (hbad : kerBad s.toDev l = false) :
    Answers (.kernelLoadEnd m) s (fun t =>
      (kernelAt t (bf (req m 1) 22 2)).loaded = true ∧ (kernelAt t (bf (req m 1) 22 2)).image = l ∧
      (kernelAt t (bf (req m 1) 22 2)).staging = none ∧
      t.cmd.cache.head? = some ⟨m.seq.toNat, 0x48, rspOf 0x48 m stOK [Word.of (0x80 + bf (req m 1) 22 2), crc32 l] s.toDev⟩) := by
  have hlt : bf (req m 1) 22 2 < (counted m s.toDev).eng.kernels.length := by
    rw [show (counted m s.toDev).eng.kernels.length = 4 from h4]
    exact kerSlot_lt m
  obtain ⟨q, e, hle, heq, hload, himage, hstage⟩ := kerInstall_leaves (cmdCtx s.toDev 0x48 m.seq.toNat) l hlt
  have hf : kernelCmd m (counted m s.toDev) = .done stOK [Word.of (0x80 + bf (req m 1) 22 2), crc32 l]
      (kerInstall (cmdCtx s.toDev 0x48 m.seq.toNat) (bf (req m 1) 22 2) l (counted m s.toDev)) := by
    rw [kernelEnd_whole hb ho hop hw hk, hs, hbad]
    rfl
  generalize kerInstall (cmdCtx s.toDev 0x48 m.seq.toNat) (bf (req m 1) 22 2) l (counted m s.toDev) = y at *
  have hcy : Calm y := calm_of_eq (show Calm (counted m s.toDev) from hc) (by rw [heq]) (by rw [heq]) (by rw [heq]) (by rw [heq])
  have hpy : y.power = s.toDev.power := by
    rw [heq]
    rfl
  have hroom : journalRoom s.toDev y = true := journalRoom_free hj (by
    have h0 : q.length ≤ s.toDev.jrn.q27.length + 1 := hle
    rw [heq]
    exact (show q.length ≤ s.toDev.jrn.q27.length + 200 by omega))
  refine answers_mono (answers_done (c := kerCmd) (f := kernelCmd m) rfl ht hc (admits_plain hl) hf hcy (by rw [hpy]; exact id) hroom) fun t h => ?_
  obtain ⟨-, -, -, hcache⟩ := answer_leaves h
  have heng := answer_eng h
  have hat : kernelAt t (bf (req m 1) 22 2) = kernelAt y (bf (req m 1) 22 2) := by
    unfold kernelAt
    rw [heng]
  have hrsp := rspOf_congr 0x48 m stOK [Word.of (0x80 + bf (req m 1) 22 2), crc32 l] (a := s.toDev) (b := y) hpy (by rw [heq]; rfl)
    (by rw [heq]; rfl)
  rw [hat]
  refine ⟨hload, himage, hstage, ?_⟩
  exact hcache.trans (congrArg (fun r => some (⟨m.seq.toNat, 0x48, r⟩ : Cached)) hrsp)

end Whole

/-! ## JOB_STATS -/

/-- JOB_STATS' part of the command. -/
def jobStatsAns (m : Msg) (d : Dev) : Ans :=
  if !onlyBits 1 (req m 1) then refuse stRANGE d
  else okWith (statsBlock d) (if bit (req m 1) 0 then clearStats d else d)

theorem jobStats_shown (hc : Calm s.toDev) (ht : takes s.toDev 0x49 false m = true) (hl : lenIs 3 m = true) (hw : req m 1 = 0) :
    Answers (.jobStats m) s (Replied 0x49 m stOK (statsBlock s.toDev) s.toDev) := by
  refine replied_read (c := ⟨0x49, lenIs 3, false, false, false⟩) (f := jobStatsAns m) rfl ht hc (admits_plain hl) ?_
  unfold jobStatsAns
  rw [hw]
  rfl

theorem jobStats_cleared (hc : Calm s.toDev) (ht : takes s.toDev 0x49 false m = true) (hl : lenIs 3 m = true) (hw : req m 1 = 1) :
    Answers (.jobStats m) s (Replied 0x49 m stOK (statsBlock s.toDev) (clearStats s.toDev)) := by
  refine replied_ok (c := ⟨0x49, lenIs 3, false, false, false⟩) (f := jobStatsAns m) (a := clearStats s.toDev) rfl ht hc (admits_plain hl) ?_
    (calm_of_eq hc rfl rfl rfl rfl) id (journalRoom_self s.toDev)
  unfold jobStatsAns
  rw [hw]
  rfl

theorem clearStats_engines (d : Dev) : ∀ e ∈ (clearStats d).eng.engines, e.jobs = 0 ∧ e.steals = 0 ∧ e.busy = 0 ∧ e.traps = 0 := by
  intro e he
  obtain ⟨x, -, rfl⟩ := List.mem_map.mp he
  exact ⟨rfl, rfl, rfl, rfl⟩

theorem onlyBits_one {w : Word} (h : onlyBits 1 w = true) : w = 0 ∨ w = 1 := by
  have hand := (onlyBits_iff 1 w).mp h
  have hsplit : w = w &&& 1 := by
    have hor : w = (w &&& ~~~ Word.of 1) ||| (w &&& Word.of 1) := by
      rw [← BitVec.and_or_distrib_left, BitVec.or_comm, BitVec.or_not_self, BitVec.and_allOnes]
    rw [hand] at hor
    exact hor.trans BitVec.zero_or
  rw [hsplit, show w &&& 1 = _ from BitVec.and_one_eq_setWidth_ofBool_getLsbD]
  cases w.getLsbD 0
  · exact .inl rfl
  · exact .inr rfl

theorem jobStats_range (hc : Calm s.toDev) (ht : takes s.toDev 0x49 false m = true) (hl : lenIs 3 m = true) (h0 : req m 1 ≠ 0) (h1 : req m 1 ≠ 1) :
    Answers (.jobStats m) s (Replied 0x49 m stRANGE [] s.toDev) := by
  refine replied_refused (c := ⟨0x49, lenIs 3, false, false, false⟩) (f := jobStatsAns m) rfl ht hc (admits_plain hl) (e := counted m s.toDev) ?_
    (by decide)
  have hbits : onlyBits 1 (req m 1) = false := by
    refine Bool.eq_false_iff.mpr fun h => ?_
    rcases onlyBits_one h with h | h
    · exact h0 h
    · exact h1 h
  unfold jobStatsAns
  rw [hbits]
  rfl

end Load

end Sys2Proof.Proofs
end

section
/-! PROOF. KERNEL_LOAD UNLOAD: the kernel's queued jobs are freed, and the slot is free where none runs; a SAFE_STATE reaction of the
quorum's event on the way changes nothing of that (10_engines_and_flumes.md R287, R307, R316). -/

namespace Sys2Proof.Proofs

open Sys2Proof Sys2Proof.Machine Sys2Proof.Safety Sys2Proof.Laws

/-! ## What the array goes through -/

/-- The heart of a device but for its power registers. -/
def still (d : Dev) : Heart := { heart d with power := Power.reset }

/-- The running jobs, engine by engine. -/
def runsOf (d : Dev) : List (Option Nat) := d.eng.engines.map (fun (e : Engine) => e.running)

/-- b is a with commands, captures and waits, the pool, the running jobs and the kernel being unloaded in slot k kept; a hold that
has begun holds the core die in reset. -/
structure Spared (k : Nat) (a b : Dev) : Prop where
  still : still b = still a
  pool : b.eng.pool = a.eng.pool
  runs : runsOf b = runsOf a
  slot : (kernelAt a k).unloading = true → kernelAt b k = kernelAt a k
  hold : b.power.safeHold = true → a.power.safeHold = true ∨ b.power.coreReset = true
  reset : a.power.coreReset = true → b.power.coreReset = true

section Spared

variable {k : Nat} {a b c d : Dev}

theorem spared_same (hs : still b = still a := by rfl) (he : b.eng = a.eng := by rfl) (hp : b.power = a.power := by rfl) : Spared k a b := by
  refine ⟨hs, by rw [he], by rw [runsOf, he, runsOf], fun _ => by rw [kernelAt, he, kernelAt], fun h => ?_, fun h => ?_⟩
  · rw [hp] at h
    exact .inl h
  · rw [hp]
    exact h

theorem spared_trans (hab : Spared k a b) (hbc : Spared k b c) : Spared k a c where
  still := hbc.still.trans hab.still
  pool := hbc.pool.trans hab.pool
  runs := hbc.runs.trans hab.runs
  slot h := by
    have hb := hab.slot h
    exact (hbc.slot (by rw [hb]; exact h)).trans hb
  hold h := by
    rcases hbc.hold h with hb | hr
    · rcases hab.hold hb with ha | hr
      · exact .inl ha
      · exact .inr (hbc.reset hr)
    · exact .inr hr
  reset h := hbc.reset (hab.reset h)

theorem spared_forEach (l : List Nat) (f : Nat → Dev → Dev) (h : ∀ x d, Spared k d (f x d)) (d : Dev) : Spared k d (forEach l f d) := by
  induction l generalizing d with
  | nil => exact spared_same
  | cons x t ih => exact spared_trans (h x d) (ih _)

/-! ## The quorum's event -/

theorem spared_noteEvent (n : Nat) (d : Dev) : Spared k d (noteEvent n d) := by
  cases h : srcAbsent d.part n with
  | true =>
    unfold noteEvent
    rw [if_pos h]
    exact spared_same
  | false =>
    obtain ⟨-, -, hframe⟩ := noteEvent_frame n d h
    rw [hframe]
    exact spared_same

theorem spared_enterSafeHold (cause : Cause) (d : Dev) : Spared k d (enterSafeHold cause d) := by
  unfold enterSafeHold
  split
  · exact spared_same
  · split
    · exact spared_same
    · exact spared_same
    · exact spared_same
    · exact ⟨rfl, rfl, rfl, fun _ => rfl, fun _ => .inr rfl, fun _ => rfl⟩

theorem spared_safeReaction (n : Nat) (d : Dev) : Spared k d (safeReaction n d) := by
  unfold safeReaction
  refine spared_trans ?_ (spared_enterSafeHold _ _)
  exact ⟨rfl, rfl, rfl, fun _ => rfl, .inl, id⟩

theorem spared_becomeSevere (n unit : Nat) (d : Dev) : Spared k d (becomeSevere reactSafe n unit [] false d) := by
  have hsev : Spared k d (triggerStretch (modEsc n (fun e => { e with state := 2, count := escCount d n, unit := unit, pulse := true }) d)) :=
    spared_same
  unfold becomeSevere reactSafe
  dsimp only
  generalize triggerStretch (modEsc n (fun e => { e with state := 2, count := escCount d n, unit := unit, pulse := true }) d) = y at hsev ⊢
  split
  · exact hsev
  · split
    · exact spared_trans hsev (spared_safeReaction n y)
    · exact hsev

theorem spared_raiseNS (n unit : Nat) (d : Dev) : Spared k d (raiseNS n unit d) := by
  have hnote := spared_noteEvent (k := k) n d
  have hmod : ∀ f : Esc → Esc, Spared k d (modEsc n f (noteEvent n d)) := fun f => spared_trans hnote spared_same
  have hsevere : Spared k (noteEvent n d) (becomeSevere reactSafe n unit [] false (noteEvent n d)) := spared_becomeSevere _ _ _
  unfold raiseNS occurWith
  dsimp only
  split
  · exact spared_same
  · split
    · exact hmod _
    · split
      · exact hnote
      · split
        · exact hmod _
        · split
          · exact spared_trans hnote hsevere
          · exact hmod _

/-! ## Engines -/

theorem runsOf_modEng (e : Nat) (f : Engine → Engine) (hf : ∀ x, (f x).running = x.running) (d : Dev) : runsOf (modEng e f d) = runsOf d := by
  unfold runsOf modEng
  refine List.ext_getElem? fun i => ?_
  rw [List.getElem?_map, List.getElem?_map, List.getElem?_modify]
  cases d.eng.engines[i]? with
  | none => rfl
  | some x =>
    show some (if e = i then f x else x).running = some x.running
    split
    · rw [hf x]
    · rfl

theorem spared_startGens (d : Dev) : Spared k d (startGens d) := by
  obtain ⟨hw, hkern⟩ := startGens_started d
  have hslot := (hkern k).2
  refine ⟨?_, ?_, ?_, hslot, ?_, ?_⟩
  · rw [hw]
    rfl
  · rw [hw]
  · unfold runsOf
    rw [hw]
  · rw [hw]
    exact .inl
  · rw [hw]
    exact id

theorem spared_noteQuorum (d : Dev) : Spared k d (noteQuorum d) := by
  unfold noteQuorum
  split
  · split
    · exact spared_same
    · exact spared_trans (b := { d with eng.quorum := true }) ⟨rfl, rfl, rfl, fun _ => rfl, .inl, id⟩ (spared_raiseNS _ _ _)
  · exact ⟨rfl, rfl, rfl, fun _ => rfl, .inl, id⟩

theorem spared_setEngState (e : Nat) (st : EngState) (d : Dev) : Spared k d (setEngState e st d) := by
  have hmod : Spared k d (modEng e (fun x => { x with state := st }) d) :=
    ⟨rfl, rfl, runsOf_modEng e (fun x => { x with state := st }) (fun _ => rfl) d, fun _ => rfl, .inl, id⟩
  unfold setEngState
  refine spared_trans ?_ (spared_trans (spared_startGens _) (spared_noteQuorum _))
  split
  · exact hmod
  · exact spared_trans hmod ⟨rfl, rfl, rfl, fun _ => rfl, .inl, id⟩

theorem spared_drainOut (d : Dev) : Spared k d (drainOut d) := by
  refine spared_forEach _ _ (fun e d => ?_) d
  dsimp only
  split
  · exact spared_setEngState e .out d
  · exact spared_same

theorem spared_armInHold {before : Dev} (h : d.power.safeHold = true → before.power.safeHold = true ∨ d.power.coreReset = true) :
    Spared k d (armInHold before d) := by
  unfold armInHold
  split
  · next hh =>
    simp only [Bool.and_eq_true, Bool.not_eq_true'] at hh
    obtain ⟨hheld, hbefore⟩ := hh
    have hreset := (h hheld).resolve_left (by rw [hbefore]; decide)
    obtain ⟨hw, -⟩ := edgeWrite_rearm (d := d) (.inl hreset)
    rw [hw]
    exact ⟨rfl, rfl, rfl, fun _ => rfl, .inl, id⟩
  · exact spared_same

end Spared

/-! ## The slot and the queued jobs -/

/-- Jobs of slot k's kernel that do not run. -/
def queuedJobs (k : Nat) (d : Dev) : List Nat :=
  (d.eng.pool.filter (fun (x : Desc) => x.kernel == 0x80 + k && !isRunning d x.id)).map (fun x => x.id)

/-- Slot k's generator stopped. -/
def genStopped (k : Nat) (d : Dev) : Dev := modKernel k (fun x => { x with genOn := false, unloading := true, gen := (x.gen + 1) % 256 }) d

/-- The queued jobs freed and the engines' copies given up. -/
def unloaded (k : Nat) (d : Dev) : Dev :=
  let x := forEach (queuedJobs k (genStopped k d)) freeDesc (genStopped k d)
  forEach (List.range 16) (fun e d => holdKernels e (mset (eng d e).kernels k false) d)
    { x with eng.copies := x.eng.copies.filter (fun c => c.2 != k) }

section Slot

variable {k : Nat} {d : Dev}

theorem freeDescs_leaves (l : List Nat) (d : Dev) : forEach l freeDesc d = { d with eng := (forEach l freeDesc d).eng } ∧
    (forEach l freeDesc d).eng.kernels = d.eng.kernels ∧ runsOf (forEach l freeDesc d) = runsOf d ∧
    (forEach l freeDesc d).eng.pool = d.eng.pool.filter (fun x => !l.contains x.id) := by
  induction l generalizing d with
  | nil =>
    refine ⟨rfl, rfl, rfl, ?_⟩
    exact (List.filter_eq_self.mpr fun _ _ => rfl).symm
  | cons a t ih =>
    obtain ⟨hw, hk, hr, hp⟩ := ih (freeDesc a d)
    rw [show forEach (a :: t) freeDesc d = forEach t freeDesc (freeDesc a d) from rfl]
    refine ⟨hw, hk, ?_, ?_⟩
    · rw [hr]
      unfold runsOf freeDesc
      rw [List.map_map]
      rfl
    · rw [hp]
      unfold freeDesc
      rw [List.filter_filter]
      refine List.filter_congr fun x _ => ?_
      rw [List.contains_cons, Bool.not_or, bne, Bool.and_comm]

theorem holdAll_leaves (l : List Nat) (f : Dev → Nat → BitVec 4) (d : Dev) :
    forEach l (fun e d => holdKernels e (f d e) d) d = { d with eng := (forEach l (fun e d => holdKernels e (f d e) d) d).eng } ∧
    (forEach l (fun e d => holdKernels e (f d e) d) d).eng.kernels = d.eng.kernels ∧
    runsOf (forEach l (fun e d => holdKernels e (f d e) d) d) = runsOf d ∧
    (forEach l (fun e d => holdKernels e (f d e) d) d).eng.pool = d.eng.pool := by
  induction l generalizing d with
  | nil => exact ⟨rfl, rfl, rfl, rfl⟩
  | cons a t ih =>
    obtain ⟨hw, hk, hr, hp⟩ := ih (holdKernels a (f d a) d)
    refine ⟨hw, hk, hr.trans ?_, hp⟩
    exact runsOf_modEng a (fun y => { y with kernels := f d a, code := codeOf d (f d a) }) (fun _ => rfl) d

theorem unloaded_leaves (hk : k < d.eng.kernels.length) : unloaded k d = { d with eng := (unloaded k d).eng } ∧
    kernelAt (unloaded k d) k = { kernelAt d k with genOn := false, unloading := true, gen := ((kernelAt d k).gen + 1) % 256 } ∧
    runsOf (unloaded k d) = runsOf d ∧ (unloaded k d).eng.pool = d.eng.pool.filter (fun x => !(queuedJobs k d).contains x.id) := by
  obtain ⟨hw1, hk1, hr1, hp1⟩ := freeDescs_leaves (queuedJobs k (genStopped k d)) (genStopped k d)
  unfold unloaded
  dsimp only
  generalize hx : forEach (queuedJobs k (genStopped k d)) freeDesc (genStopped k d) = x at *
  obtain ⟨hw2, hk2, hr2, hp2⟩ := holdAll_leaves (List.range 16) (fun d e => mset (eng d e).kernels k false)
    { x with eng.copies := x.eng.copies.filter (fun c => c.2 != k) }
  generalize forEach (List.range 16) (fun e d => holdKernels e (mset (eng d e).kernels k false) d)
    { x with eng.copies := x.eng.copies.filter (fun c => c.2 != k) } = y at *
  have hkern : y.eng.kernels = (genStopped k d).eng.kernels := hk2.trans hk1
  refine ⟨?_, ?_, hr2.trans hr1, hp2.trans hp1⟩
  · rw [hw2, hw1]
    rfl
  · have hslot := kernelAt_modKernel k k (fun x => { x with genOn := false, unloading := true, gen := (x.gen + 1) % 256 }) hk
    rw [if_pos rfl] at hslot
    rw [← hslot]
    unfold kernelAt
    rw [hkern]
    rfl

theorem isRunning_runs (d : Dev) (id : Nat) : isRunning d id = (runsOf d).any (fun r => r == some id) := by
  unfold isRunning runsOf
  rw [List.any_map]
  rfl

/-- A job of the kernel is among the running. -/
def ranKernel (pool : List Desc) (kernel : Nat) (r : Option Nat) : Bool :=
  match r with
  | some id => ((pool.find? (fun x => x.id == id)).map (fun x => x.kernel == kernel)).getD false
  | none => false

theorem kernelRuns_runs (d : Dev) (kernel : Nat) : kernelRuns d kernel = (runsOf d).any (ranKernel d.eng.pool kernel) := by
  unfold kernelRuns runsOf
  rw [List.any_map]
  rfl

theorem queuedJobs_notRunning {id : Nat} (h : id ∈ queuedJobs k d) : isRunning d id = false := by
  obtain ⟨x, hx, rfl⟩ := List.mem_map.mp h
  have hp := (List.mem_filter.mp hx).2
  simp only [Bool.and_eq_true, Bool.not_eq_true'] at hp
  exact hp.2

/-- A running job's descriptor stays where the queued ones are freed. -/
theorem find_kept {id : Nat} (h : isRunning d id = true) :
    (d.eng.pool.filter (fun x => !(queuedJobs k d).contains x.id)).find? (fun x => x.id == id) = d.eng.pool.find? (fun x => x.id == id) := by
  have hnot : id ∉ queuedJobs k d := fun hm => by
    rw [queuedJobs_notRunning hm] at h
    cases h
  rw [List.find?_filter]
  congr 1
  funext x
  by_cases hx : x.id = id
  · subst hx
    simp [hnot]
  · simp [hx]

/-- Whether a job of the kernel runs is not changed by the freeing of its queued jobs. -/
theorem kernelRuns_unloaded {y : Dev} (hr : runsOf y = runsOf d) (hp : y.eng.pool = d.eng.pool.filter (fun x => !(queuedJobs k d).contains x.id)) :
    kernelRuns y (0x80 + k) = kernelRuns d (0x80 + k) := by
  rw [kernelRuns_runs, kernelRuns_runs, hr, hp]
  have hsame : ∀ r ∈ runsOf d, ranKernel (d.eng.pool.filter (fun x => !(queuedJobs k d).contains x.id)) (0x80 + k) r =
      ranKernel d.eng.pool (0x80 + k) r := fun r hmem => ?_
  · rw [Bool.eq_iff_iff, List.any_eq_true, List.any_eq_true]
    exact exists_congr fun r => and_congr_right fun hmem => by rw [hsame r hmem]
  unfold ranKernel
  split
  · next id =>
    have hrun : isRunning d id = true := by
      rw [isRunning_runs]
      exact List.any_eq_true.mpr ⟨_, hmem, beq_self_eq_true _⟩
    rw [find_kept hrun]
  · rfl

/-- Where no job of the kernel runs, and each descriptor has its own number, none of its jobs is left. -/
theorem pool_freed (hnd : (d.eng.pool.map (fun x => x.id)).Nodup) (hruns : kernelRuns d (0x80 + k) = false) :
    (d.eng.pool.filter (fun x => !(queuedJobs k d).contains x.id)).all (fun x => x.kernel != 0x80 + k) = true := by
  refine List.all_eq_true.mpr fun x hx => ?_
  obtain ⟨hmem, hkept⟩ := List.mem_filter.mp hx
  by_contra hk
  have hkern : x.kernel = 0x80 + k := by simpa using hk
  have hrun : isRunning d x.id = true := by
    by_contra hnot
    have hqueued : x.id ∈ queuedJobs k d := by
      refine List.mem_map.mpr ⟨x, List.mem_filter.mpr ⟨hmem, ?_⟩, rfl⟩
      rw [hkern, Bool.eq_false_iff.mpr hnot, beq_self_eq_true]
      rfl
    simp [hqueued] at hkept
  have hfind : d.eng.pool.find? (fun y => y.id == x.id) = some x := by
    cases hf : d.eng.pool.find? (fun y => y.id == x.id) with
    | none =>
      have hno := List.find?_eq_none.mp hf x hmem
      simp at hno
    | some y =>
      have hy := List.mem_of_find?_eq_some hf
      have hid : y.id = x.id := by simpa using List.find?_some hf
      rw [List.inj_on_of_nodup_map hnd hy hmem hid]
  rw [kernelRuns_runs, List.any_eq_false] at hruns
  rw [isRunning_runs] at hrun
  obtain ⟨r, hr, hrid⟩ := List.any_eq_true.mp hrun
  have hsome : r = some x.id := by simpa using hrid
  refine hruns r hr ?_
  rw [hsome]
  unfold ranKernel
  simp only [hfind, Option.map_some, Option.getD_some, hkern, beq_self_eq_true]

end Slot

end Sys2Proof.Proofs
end

section
/-! PROOF. What UNLOAD and ENUMERATE answer, the CENSUS command; obligation O55 (10_engines_and_flumes.md R316, 12_ring_membership.md
R369, R375, R376). -/

namespace Sys2Proof.Proofs

open Sys2Proof Sys2Proof.Machine Sys2Proof.Safety Sys2Proof.Laws

/-! ## Commands that last -/

section Lasting

variable {s : State} {m : Msg} {c : Cmd0} {f : Dev → Ans} {i : Instr}

/-- The device after a command has begun. -/
def begun (c : Cmd0) (m : Msg) (arg : Nat) (e : Dev) : Dev := { e with cmd := { e.cmd with busy := some (begunOf c.code m arg) } }

/-- A command that lasts: what ends it in its own wake follows. -/
theorem answers_begun {arg : Nat} {e : Dev} (hi : exec i s = runDev s (runCmd c m f)) (ht : takes s.toDev c.code c.bcast m = true)
    (hc : Calm s.toDev) (ha : admits c m s.toDev) (hf : f (counted m s.toDev) = .long arg e)
    {z : Dev} (hz : armInHold s.toDev (begun c m arg e) = z) (hu : Unarmed z) (hd : DacIdle (longEnds z)) :
    Answers i s (Beside (longEnds z)) := by
  have hrun : runCmd c m f s.toDev = begun c m arg e := by
    rw [runCmd_takes ht hc, executeCmd_admits ht ha, hf]
    rfl
  refine ⟨{ s with toDev := effect (runCmd c m f) s.toDev }, hi, rfl, ?_⟩
  show Beside _ (effect (runCmd c m f) s.toDev)
  unfold effect wake
  rw [hrun, hz, afterEvents_unarmed 4 _ _ hu, serveDac_idle hd, serveSlice_idle hd]
  exact beside_settle _

end Lasting

/-! ## UNLOAD -/

section Unload

variable {s : State} {m : Msg}

/-- The device on which an UNLOAD has begun. -/
def unloadBegun (m : Msg) (s : State) : Dev :=
  armInHold s.toDev (begun kerCmd m (bf (req m 1) 22 2) (drainOut (unloaded (bf (req m 1) 22 2) (counted m s.toDev))))

theorem still_eng (d : Dev) (e : Eng) : still { d with eng := e } = still d := rfl

theorem begun_power (c : Cmd0) (m : Msg) (arg : Nat) (e : Dev) : (begun c m arg e).power = e.power := rfl

/-- What an UNLOAD has done before the running jobs are looked at. -/
theorem unloadBegun_leaves (h4 : s.eng.kernels.length = 4) :
    (unloadBegun m s).cmd = { (counted m s.toDev).cmd with busy := some (begunOf 0x48 m (bf (req m 1) 22 2)) } ∧
    still { unloadBegun m s with cmd := s.cmd } = still s.toDev ∧
    kernelAt (unloadBegun m s) (bf (req m 1) 22 2) = { kernelAt s.toDev (bf (req m 1) 22 2) with
      genOn := false, unloading := true, gen := ((kernelAt s.toDev (bf (req m 1) 22 2)).gen + 1) % 256 } ∧
    runsOf (unloadBegun m s) = runsOf s.toDev ∧
    (unloadBegun m s).eng.pool = s.eng.pool.filter (fun x => !(queuedJobs (bf (req m 1) 22 2) s.toDev).contains x.id) := by
  have hlt : bf (req m 1) 22 2 < (counted m s.toDev).eng.kernels.length := by
    rw [show (counted m s.toDev).eng.kernels.length = 4 from h4]
    exact kerSlot_lt m
  obtain ⟨hw, hslot, hruns, hpool⟩ := unloaded_leaves hlt
  have hdrain := spared_drainOut (k := bf (req m 1) 22 2) (unloaded (bf (req m 1) 22 2) (counted m s.toDev))
  unfold unloadBegun
  generalize drainOut (unloaded (bf (req m 1) 22 2) (counted m s.toDev)) = x at *
  have hpower : (unloaded (bf (req m 1) 22 2) (counted m s.toDev)).power = s.power := by
    rw [hw]
    rfl
  have hstill : still (unloaded (bf (req m 1) 22 2) (counted m s.toDev)) = still (counted m s.toDev) := by
    rw [hw]
    exact still_eng _ _
  generalize unloaded (bf (req m 1) 22 2) (counted m s.toDev) = u at *
  have hpx : x.power.safeHold = true → s.power.safeHold = true ∨ x.power.coreReset = true := by
    have h := hdrain.hold
    rw [hpower] at h
    exact h
  have hpz := begun_power kerCmd m (bf (req m 1) 22 2) x
  rw [← hpz] at hpx
  have harm : Spared (bf (req m 1) 22 2) (begun kerCmd m (bf (req m 1) 22 2) x) (armInHold s.toDev (begun kerCmd m (bf (req m 1) 22 2) x)) :=
    spared_armInHold hpx
  have hx : still x = still (counted m s.toDev) := hdrain.still.trans hstill
  have hkx : kernelAt x (bf (req m 1) 22 2) = { kernelAt s.toDev (bf (req m 1) 22 2) with
      genOn := false, unloading := true, gen := ((kernelAt s.toDev (bf (req m 1) 22 2)).gen + 1) % 256 } :=
    (hdrain.slot (by rw [hslot])).trans hslot
  refine ⟨?_, ?_, ?_, ?_, ?_⟩
  · have hcmd : x.cmd = (counted m s.toDev).cmd := congrArg Heart.cmd hx
    have h1 : (armInHold s.toDev (begun kerCmd m (bf (req m 1) 22 2) x)).cmd = (begun kerCmd m (bf (req m 1) 22 2) x).cmd :=
      congrArg Heart.cmd harm.still
    rw [h1]
    unfold begun
    rw [hcmd]
    rfl
  · have hwith : ∀ y : Dev, still { y with cmd := s.cmd } = { still y with cmd := s.cmd } := fun _ => rfl
    rw [hwith, harm.still]
    show { still x with cmd := s.cmd } = _
    rw [hx]
    rfl
  · refine (harm.slot ?_).trans hkx
    show (kernelAt x (bf (req m 1) 22 2)).unloading = true
    rw [hkx]
  · exact harm.runs.trans (hdrain.runs.trans hruns)
  · exact harm.pool.trans (hdrain.pool.trans hpool)

theorem calm_of_still {a b : Dev} (h : still b = still a) (hc : Calm a) : Calm b := by
  have hb : heart { b with power := Power.reset } = heart { a with power := Power.reset } := h
  have hca : Calm { a with power := Power.reset } := hc
  have hcb : Calm { b with power := Power.reset } := calm_of_heart hb hca
  exact hcb

theorem kernelUnload_begins (hop : bf (req m 1) 24 8 = 4) (hw : req m 1 &&& ~~~ 0xFFC00000 = 0)
    (hk : (kernelAt s.toDev (bf (req m 1) 22 2)).loaded = true) :
    kernelCmd m (counted m s.toDev) = .long (bf (req m 1) 22 2) (drainOut (unloaded (bf (req m 1) 22 2) (counted m s.toDev))) := by
  have hbits : onlyBits 0xFFC00000 (req m 1) = true := (onlyBits_iff _ _).mpr hw
  rw [kernelCmd_unload hop, kerUnload, hbits, show (kernelAt (counted m s.toDev) (kerSlot m)).loaded = true from hk]
  rfl

theorem kernelUnload_reserved (hc : Calm s.toDev) (ht : takes s.toDev 0x48 true m = true) (hl : kerLen m = true)
    (hop : bf (req m 1) 24 8 = 4) (hw : req m 1 &&& ~~~ 0xFFC00000 ≠ 0) : Answers (.kernelUnload m) s (Replied 0x48 m stRANGE [] s.toDev) := by
  have hbits : onlyBits 0xFFC00000 (req m 1) = false := Bool.eq_false_iff.mpr fun h => hw ((onlyBits_iff _ _).mp h)
  refine kernel_refused rfl hc ht hl ?_ (by decide)
  rw [kernelCmd_unload hop, kerUnload, hbits]
  rfl

theorem kernelUnload_empty (hc : Calm s.toDev) (ht : takes s.toDev 0x48 true m = true) (hl : kerLen m = true)
    (hop : bf (req m 1) 24 8 = 4) (hw : req m 1 &&& ~~~ 0xFFC00000 = 0) (hk : (kernelAt s.toDev (bf (req m 1) 22 2)).loaded = false) :
    Answers (.kernelUnload m) s (Replied 0x48 m stSTATE [] s.toDev) := by
  have hbits : onlyBits 0xFFC00000 (req m 1) = true := (onlyBits_iff _ _).mpr hw
  refine kernel_refused rfl hc ht hl ?_ (by decide)
  rw [kernelCmd_unload hop, kerUnload, hbits, show (kernelAt (counted m s.toDev) (kerSlot m)).loaded = false from hk]
  rfl

/-- An UNLOAD waits for the running jobs. -/
theorem longEnds_waits {z : Dev} {b : Busy} (hb : z.cmd.busy = some b) (hcode : b.code = 0x48) (hr : kernelRuns z (0x80 + b.arg) = true)
    (hw : z.cmd.waiting = []) : longEnds z = z := by
  have hun : unloadEnds z = z := by
    unfold unloadEnds
    rw [hb]
    dsimp only
    rw [hr, Bool.not_true, Bool.and_false, if_neg Bool.false_ne_true]
  have hpack : packLost z = z := by
    unfold packLost
    rw [hb]
    dsimp only
    rw [hcode]
    rfl
  rw [longEnds, hun, hpack, flushUnknown, hw]

/-- What an UNLOAD leaves of its slot, with its entry. -/
def slotFreed (b : Busy) (z : Dev) : Dev :=
  jchange (cmdCtx z 0x48 b.seq) (0x0BE0 + b.arg) (recordOf (kernelAt z b.arg).image) 0
    (modKernel b.arg (fun _ => { Kernel.reset with gen := (kernelAt z b.arg).gen }) z)

theorem longEnds_ends {z : Dev} {b : Busy} (hb : z.cmd.busy = some b) (hcode : b.code = 0x48) (hr : kernelRuns z (0x80 + b.arg) = false)
    (hw : z.cmd.waiting = []) : longEnds z = finishBusy stOK [] (slotFreed b z) := by
  have hun : unloadEnds z = finishBusy stOK [] (slotFreed b z) := by
    unfold unloadEnds
    rw [hb]
    dsimp only
    rw [hr, hcode]
    rfl
  have hcmd : (slotFreed b z).cmd = z.cmd := by
    unfold slotFreed
    rw [jchange_kept]
    rfl
  have hfin := answerWrite_finishBusy (d := slotFreed b z) (x := b) (by rw [hcmd]; exact hb) stOK []
  rw [longEnds, hun]
  generalize finishBusy stOK [] (slotFreed b z) = y at hfin ⊢
  have hbusy : y.cmd.busy = none := by rw [hfin]
  have hwait : y.cmd.waiting = [] := by
    rw [hfin]
    show (slotFreed b z).cmd.waiting = []
    rw [hcmd, hw]
  have hpack : packLost y = y := by
    unfold packLost
    rw [hbusy]
  rw [hpack, flushUnknown, hwait]

theorem finishBusy_cache {d : Dev} {b : Busy} (hb : d.cmd.busy = some b) (hcopies : b.copies = []) (st : Status) (data : List Word) :
    (finishBusy st data d).cmd.cache.head? = some ⟨b.seq, b.code, rspWords (ownAddr d) b.code b.seq b.gap false 0 st
      (withAccept d b.bcast b.code b.seq data)⟩ := by
  have heq : finishBusy st data d = answer b.code b.seq b.len b.quiet b.bcast b.gap st data { d with cmd.busy := none } := by
    rw [finishBusy, hb]
    dsimp only
    rw [hcopies]
    rfl
  obtain ⟨hcache, -⟩ := answer_cache b.code b.seq b.len b.quiet b.bcast b.gap st data { d with cmd.busy := none }
  rw [heq, hcache]
  rfl

theorem kernelUnload_waits (hc : Calm s.toDev) (ht : takes s.toDev 0x48 true m = true) (hl : kerLen m = true) (h4 : s.eng.kernels.length = 4)
    (hop : bf (req m 1) 24 8 = 4) (hw : req m 1 &&& ~~~ 0xFFC00000 = 0) (hk : (kernelAt s.toDev (bf (req m 1) 22 2)).loaded = true)
    (hr : kernelRuns s.toDev (0x80 + bf (req m 1) 22 2) = true) :
    Answers (.kernelUnload m) s (fun t => (kernelAt t (bf (req m 1) 22 2)).genOn = false ∧ (kernelAt t (bf (req m 1) 22 2)).unloading = true ∧
      t.cmd.busy = some (begunOf 0x48 m (bf (req m 1) 22 2)) ∧ t.cmd.cache = s.cmd.cache) := by
  have hbegun : armInHold s.toDev (begun kerCmd m (bf (req m 1) 22 2) (drainOut (unloaded (bf (req m 1) 22 2) (counted m s.toDev)))) =
      unloadBegun m s := rfl
  obtain ⟨hcmd, hstill, hslot, hruns, hpool⟩ := unloadBegun_leaves (m := m) h4
  generalize unloadBegun m s = u at *
  have hkeeps : longEnds u = u :=
    longEnds_waits (by rw [hcmd]) rfl ((kernelRuns_unloaded hruns hpool).trans hr) (by rw [hcmd]; exact hc.2.1)
  have hcalm := calm_of_still hstill hc
  obtain ⟨-, -, hunarmed, hidle⟩ := hcalm
  refine answers_mono (answers_begun (c := kerCmd) (f := kernelCmd m) rfl ht hc (admits_plain hl) (kernelUnload_begins hop hw hk) hbegun
    hunarmed (by rw [hkeeps]; exact hidle)) fun t h => ?_
  rw [hkeeps] at h
  have hat : kernelAt t (bf (req m 1) 22 2) = kernelAt u (bf (req m 1) 22 2) := by
    unfold kernelAt
    rw [eng_of_beside h]
  rw [hat, hslot, cmd_of_beside h, hcmd]
  exact ⟨rfl, rfl, rfl, rfl⟩

theorem kernelUnload_done (hc : Calm s.toDev) (ht : takes s.toDev 0x48 true m = true) (hl : kerLen m = true) (h4 : s.eng.kernels.length = 4)
    (hop : bf (req m 1) 24 8 = 4) (hw : req m 1 &&& ~~~ 0xFFC00000 = 0) (hk : (kernelAt s.toDev (bf (req m 1) 22 2)).loaded = true)
    (hr : kernelRuns s.toDev (0x80 + bf (req m 1) 22 2) = false) (hnd : (s.eng.pool.map (fun x => x.id)).Nodup) :
    Answers (.kernelUnload m) s (fun t => (kernelAt t (bf (req m 1) 22 2)).loaded = false ∧ (kernelAt t (bf (req m 1) 22 2)).genOn = false ∧
      t.cmd.busy = none ∧ (t.eng.pool.all (fun x => x.kernel != 0x80 + bf (req m 1) 22 2)) = true ∧
      (t.cmd.cache.head?.any (fun x => x.code == 0x48 && bf (nth x.words 1 0) 24 8 == 0)) = true) := by
  have hbegun : armInHold s.toDev (begun kerCmd m (bf (req m 1) 22 2) (drainOut (unloaded (bf (req m 1) 22 2) (counted m s.toDev)))) =
      unloadBegun m s := rfl
  obtain ⟨hcmd, hstill, hslot, hruns, hpool⟩ := unloadBegun_leaves (m := m) h4
  generalize unloadBegun m s = u at *
  have hbusy : u.cmd.busy = some (begunOf 0x48 m (bf (req m 1) 22 2)) := by rw [hcmd]
  have hends : longEnds u = finishBusy stOK [] (slotFreed (begunOf 0x48 m (bf (req m 1) 22 2)) u) :=
    longEnds_ends hbusy rfl ((kernelRuns_unloaded hruns hpool).trans hr) (by rw [hcmd]; exact hc.2.1)
  have hfreed : slotFreed (begunOf 0x48 m (bf (req m 1) 22 2)) u = { u with
      eng := (modKernel (bf (req m 1) 22 2) (fun _ => { Kernel.reset with gen := (kernelAt u (bf (req m 1) 22 2)).gen })
        u).eng
      jrn := (slotFreed (begunOf 0x48 m (bf (req m 1) 22 2)) u).jrn } := by
    unfold slotFreed
    rw [jchange_kept]
    rfl
  have hlen : bf (req m 1) 22 2 < u.eng.kernels.length := by
    by_contra hge
    have hdef : (kernelAt u (bf (req m 1) 22 2)).unloading = false := by
      unfold kernelAt nth
      rw [List.getD_eq_default _ _ (Nat.le_of_not_lt hge)]
      rfl
    rw [hslot] at hdef
    cases hdef
  generalize slotFreed (begunOf 0x48 m (bf (req m 1) 22 2)) u = y at hends hfreed
  have hcalm := calm_of_still hstill hc
  obtain ⟨-, -, hunarmed, hidle⟩ := hcalm
  have hyb : y.cmd.busy = some (begunOf 0x48 m (bf (req m 1) 22 2)) := by
    rw [hfreed]
    exact hbusy
  have hfin := answerWrite_finishBusy hyb stOK []
  have hcache := finishBusy_cache hyb rfl stOK []
  generalize finishBusy stOK [] y = z at hends hfin hcache
  have hz : z.aux = u.aux ∧ z.bist = u.bist ∧ z.eng = y.eng ∧ z.cmd.busy = none := by
    rw [hfin, hfreed]
    exact ⟨rfl, rfl, rfl, rfl⟩
  obtain ⟨haux, hbist, heng, hnone⟩ := hz
  have hzidle : DacIdle z := by
    unfold DacIdle
    rw [haux, hbist]
    exact hidle
  refine answers_mono (answers_begun (c := kerCmd) (f := kernelCmd m) rfl ht hc (admits_plain hl) (kernelUnload_begins hop hw hk) hbegun
    hunarmed (by rw [hends]; exact hzidle)) fun t h => ?_
  rw [hends] at h
  have heng' : ∀ (k : Nat), kernelAt t k = kernelAt y k := fun k => by
    unfold kernelAt
    rw [eng_of_beside h, ← heng]
  have hslot' : kernelAt t (bf (req m 1) 22 2) = { Kernel.reset with gen := (kernelAt u (bf (req m 1) 22 2)).gen } := by
    rw [heng', hfreed]
    refine (kernelAt_modKernel _ _ _ hlen).trans (if_pos rfl)
  rw [hslot', cmd_of_beside h, hcache]
  refine ⟨rfl, rfl, hnone, ?_, ?_⟩
  · have hpools : t.eng.pool = u.eng.pool := by
      rw [eng_of_beside h]
      show z.eng.pool = _
      rw [heng, hfreed]
      rfl
    rw [hpools, hpool]
    exact pool_freed hnd hr
  · rw [Option.any_some]
    have hst : ∀ addr : Nat, bf (statusWord addr 0 stOK) 24 8 = 0 := statusWord_ok
    simp only [rspWords, sealWords, List.cons_append, nth, List.getD_cons_succ, List.getD_cons_zero, hst]
    rfl

end Unload

/-! ## ENUMERATE -/

section Enumerate

variable {s : State} {m : Msg}

/-- A device with other commands. -/
def withCmd (c : Cmd) (d : Dev) : Dev := { d with cmd := c }

theorem requeue_withCmd (c : Cmd) (f : Flight) (d : Dev) : requeue f (withCmd c d) = withCmd c (requeue f d) := by
  unfold requeue
  split
  · rfl
  · split <;> rfl

theorem requeues_withCmd (c : Cmd) (l : List Flight) (d : Dev) : l.foldr requeue (withCmd c d) = withCmd c (l.foldr requeue d) := by
  induction l with
  | nil => rfl
  | cons f t ih =>
    rw [List.foldr_cons, List.foldr_cons, ih]
    exact requeue_withCmd c f _

theorem dropFrames_withCmd (c : Cmd) (d : Dev) : dropFrames (withCmd c d) = withCmd c (dropFrames d) := by
  unfold dropFrames
  dsimp only
  rw [show (withCmd c d).head = d.head from rfl, requeues_withCmd]
  rfl

theorem headRsps_withCmd (c : Cmd) (l : List Outst) (d : Dev) :
    forEach l (fun o d => headRsp 5 stBUSY o d) (withCmd c d) = withCmd c (forEach l (fun o d => headRsp 5 stBUSY o d) d) := by
  induction l generalizing d with
  | nil => rfl
  | cons o t ih => exact ih (headRsp 5 stBUSY o d)

theorem remoteDone_withCmd (c : Cmd) (ok : Bool) (v : Word) (d : Dev) : remoteDone ok v (withCmd c d) = withCmd c (remoteDone ok v d) := by
  unfold remoteDone
  rw [show (withCmd c d).host = d.host from rfl]
  split <;> rfl

theorem ringDown_withCmd (c : Cmd) (d : Dev) : ringDown (withCmd c d) = withCmd c (ringDown d) := by
  unfold ringDown
  dsimp only
  rw [show (withCmd c d).host = d.host from rfl, headRsps_withCmd]
  generalize forEach (d.host.outst.filter needsRing) (fun o d => headRsp 5 stBUSY o d) d = x
  exact remoteDone_withCmd c false 0 { x with head := { x.head with tunnel := [] } }

theorem startEnum_withCmd (c : Cmd) (d : Dev) : startEnum (withCmd c d) = withCmd c (startEnum d) := by
  unfold startEnum
  rw [dropFrames_withCmd, ringDown_withCmd]
  rfl

/-- ENUMERATE as a row of the table. -/
def enumRow : Cmd0 := ⟨0x50, lenIs 3, false, true, false⟩

/-- ENUMERATE's part of the command. -/
def enumAns (m : Msg) (d : Dev) : Ans :=
  match firstFail [(req m 1 != 0, stRANGE), (d.ring.stat == .conflict, stSTATE), (d.ring.stat == .enumerating, stBUSY)] with
  | some e => refuse e d
  | none => .long 0 (startEnum d)

section Head

variable (hc : Calm s.toDev) (ht : takes s.toDev 0x50 false m = true) (hl : lenIs 3 m = true) (hh : isHead s.toDev = true)
include hc ht hl hh

theorem enumerate_refused {st : Status} (hst : st.code ≠ 0)
    (hk : firstFail [(req m 1 != 0, stRANGE), (s.ring.stat == .conflict, stSTATE), (s.ring.stat == .enumerating, stBUSY)] = some st) :
    Answers (.enumerate m) s (Replied 0x50 m st [] s.toDev) := by
  refine replied_refused (c := enumRow) (f := enumAns m) rfl ht hc ⟨hl, fun _ => hh, nofun⟩ (e := counted m s.toDev) ?_ hst
  unfold enumAns
  rw [show (counted m s.toDev).ring = s.ring from rfl, hk]
  rfl

theorem enumerate_done (hw : req m 1 = 0) (he : s.ring.stat ≠ .enumerating) (hn : s.ring.stat ≠ .conflict) :
    Answers (.enumerate m) s (fun t =>
      Begun 0x50 m 0 (startEnum s.toDev) t ∧ t.ring.stat = .enumerating ∧ t.ring.attempts = 1 ∧ t.cmd.cache = s.cmd.cache) := by
  have hf : enumAns m (counted m s.toDev) = .long 0 (startEnum (counted m s.toDev)) := by
    unfold enumAns firstFail firstFail firstFail
    rw [show (counted m s.toDev).ring = s.ring from rfl, hw, beq_false_of_ne he, beq_false_of_ne hn]
    rfl
  have hstart : startEnum (counted m s.toDev) = withCmd (counted m s.toDev).cmd (startEnum s.toDev) := startEnum_withCmd _ _
  have hheart := heart_startEnum s.toDev
  obtain ⟨-, hstat, -⟩ := startEnum_leaves s.toDev
  have hattempts : (startEnum s.toDev).ring.attempts = 1 := rfl
  generalize startEnum s.toDev = e at *
  rw [hstart] at hf
  have hcmd : e.cmd = s.cmd := congrArg Heart.cmd hheart
  have hpower : e.power = s.power := congrArg Heart.power hheart
  have hcalm : Calm e := calm_of_heart hheart hc
  obtain ⟨-, -, hunarmed, hidle⟩ := hcalm
  have hz : armInHold s.toDev (begun enumRow m 0 (withCmd (counted m s.toDev).cmd e)) = begun enumRow m 0 (withCmd (counted m s.toDev).cmd e) := by
    refine armInHold_kept ?_
    show e.power.safeHold = true → _
    rw [hpower]
    exact id
  have hkeeps : longEnds (begun enumRow m 0 (withCmd (counted m s.toDev).cmd e)) = begun enumRow m 0 (withCmd (counted m s.toDev).cmd e) := by
    have hwait : (begun enumRow m 0 (withCmd (counted m s.toDev).cmd e)).cmd.waiting = [] := hc.2.1
    rw [longEnds_enumerate (fun b hb => by cases hb; rfl), flushUnknown, hwait]
  refine answers_mono (answers_begun (c := enumRow) (f := enumAns m) rfl ht hc ⟨hl, fun _ => hh, nofun⟩ hf hz hunarmed
    (by rw [hkeeps]; exact hidle)) fun t h => ?_
  rw [hkeeps] at h
  have hsame : begun enumRow m 0 (withCmd (counted m s.toDev).cmd e) =
      { e with cmd := { e.cmd with expSeq := some ((m.seq.toNat + 1) % 256), busy := some (begunOf 0x50 m 0) } } := by
    unfold begun withCmd counted
    rw [hcmd]
    rfl
  have hbegun : Begun 0x50 m 0 e t := by
    rw [hsame] at h
    exact h
  refine ⟨hbegun, ?_, ?_, ?_⟩
  · rw [ring_of_beside h]
    exact hstat
  · rw [ring_of_beside h]
    exact hattempts
  · rw [cmd_of_beside h]
    rfl

end Head

end Enumerate

/-! ## CENSUS -/

section Census

variable {s : State} {m : Msg}

theorem censusData_ring {a b : Dev} (h : b.ring = a.ring) : censusData b = censusData a := by
  unfold censusData presentMembers mapAt
  rw [h]

theorem mapAt_ring {a b : Dev} (h : b.ring = a.ring) (n : Nat) : mapAt b n = mapAt a n := by
  unfold mapAt
  rw [h]

theorem pushCensus_counted (d : Dev) : pushCensus (counted m d) = counted m (pushCensus d) := by
  unfold pushCensus
  rw [show (counted m d).ring = d.ring from rfl, show (counted m d).head = d.head from rfl, show wrapped (counted m d) = wrapped d from rfl]
  split <;> rfl

/-- Of the device a census changes its queue of frames only. -/
theorem pushCensus_kept (d : Dev) : pushCensus d = { d with head := (pushCensus d).head } := by
  unfold pushCensus pushRing
  split <;> rfl

theorem answer_ring {code : Nat} {data : List Word} {e t : Dev}
    (h : Beside (answer code m.seq.toNat (m.body.length + 2) m.quiet m.bcast false stOK data e) t) : t.ring = e.ring := by
  have hw := answerWrite_answer code m.seq.toNat (m.body.length + 2) m.quiet m.bcast false stOK data e
  rw [ring_of_beside h]
  generalize answer code m.seq.toNat (m.body.length + 2) m.quiet m.bcast false stOK data e = y at *
  rw [hw]

/-- What the head answers does not hang on its ring registers. -/
theorem rspOf_head (code : Nat) (m : Msg) (st : Status) (data : List Word) {a b : Dev} (hh : isHead a = true) (hp : b.power = a.power)
    (ho : b.host.outst = a.host.outst) : rspOf code m st data b = rspOf code m st data a := by
  have hb : isHead b = true := (isHead_of_power hp).trans hh
  unfold rspOf withAccept ownAddr
  rw [hh, hb, ho]
  rfl

theorem nth_modify_ne {α : Type} {l : List α} {i j : Nat} (f : α → α) (z : α) (h : j ≠ i) : nth (l.modify i f) j z = nth l j z := by
  unfold nth
  rw [List.getD_eq_getElem?_getD, List.getD_eq_getElem?_getD, List.getElem?_modify_ne _ _ (Ne.symm h)]

section Head

variable (hc : Calm s.toDev) (ht : takes s.toDev 0x51 false m = true) (hl : lenIs 3 m = true) (hh : isHead s.toDev = true)
include hc ht hl hh

theorem census_range (h : bf (req m 1) 0 2 = 3 ∨ req m 1 &&& ~~~ 0x3F03 ≠ 0) : Answers (.censusQuery m) s (Replied 0x51 m stRANGE [] s.toDev) := by
  refine replied_refused (c := censusRow) (f := censusCmd m) rfl ht hc ⟨hl, fun _ => hh, nofun⟩ (e := counted m s.toDev) ?_ (by decide)
  refine if_pos ?_
  rcases h with h | h
  · exact Bool.or_eq_true_iff.mpr (.inl (decide_eq_true h))
  · have hbits : onlyBits 0x3F03 (req m 1) = false := Bool.eq_false_iff.mpr fun hx => h ((onlyBits_iff _ _).mp hx)
    exact Bool.or_eq_true_iff.mpr (.inr (by rw [hbits]; rfl))

variable (hw : req m 1 &&& ~~~ 0x3F03 = 0)
include hw

omit hc ht hl hh in
theorem census_passes (h : bf (req m 1) 0 2 ≠ 3) : ¬ (decide (bf (req m 1) 0 2 = 3) || !onlyBits 0x3F03 (req m 1)) = true := by
  have hbits : onlyBits 0x3F03 (req m 1) = true := (onlyBits_iff _ _).mpr hw
  rw [hbits, decide_eq_false h]
  decide

theorem census_query (hop : bf (req m 1) 0 2 = 0) : Answers (.censusQuery m) s (Replied 0x51 m stOK (censusData s.toDev) s.toDev) := by
  refine replied_read (c := censusRow) (f := censusCmd m) rfl ht hc ⟨hl, fun _ => hh, nofun⟩ ?_
  have h1 : bf (req m 1) 0 2 ≠ 1 := by rw [hop]; decide
  have h2 : bf (req m 1) 0 2 ≠ 2 := by rw [hop]; decide
  exact (if_neg (census_passes hw (by rw [hop]; decide))).trans ((if_neg h1).trans ((if_neg h2).trans
    (congrArg (fun x => okWith x (counted m s.toDev)) (censusData_ring rfl))))

theorem census_notReserved (hop : bf (req m 1) 0 2 = 1) (hr : (mapAt s.toDev (bf (req m 1) 8 6)).reserved = false) :
    Answers (.censusRelease m) s (Replied 0x51 m stSTATE [] s.toDev) := by
  refine replied_refused (c := censusRow) (f := censusCmd m) rfl ht hc ⟨hl, fun _ => hh, nofun⟩ (e := counted m s.toDev) ?_ (by decide)
  refine (if_neg (census_passes hw (by rw [hop]; decide))).trans ((if_pos hop).trans (if_pos ?_))
  rw [mapAt_ring (a := s.toDev) (b := counted m s.toDev) rfl, hr]
  rfl

theorem census_release (hop : bf (req m 1) 0 2 = 1) (hr : (mapAt s.toDev (bf (req m 1) 8 6)).reserved = true) :
    Answers (.censusRelease m) s (fun t =>
      mapAt t (bf (req m 1) 8 6) = MapEntry.reset ∧ (∀ a, a ≠ bf (req m 1) 8 6 → mapAt t a = mapAt s.toDev a) ∧
      t.cmd.cache.head? = some ⟨m.seq.toNat, 0x51, rspOf 0x51 m stOK (censusData t) s.toDev⟩) := by
  have hlen : bf (req m 1) 8 6 < s.ring.map.length := by
    by_contra hge
    unfold mapAt nth at hr
    rw [List.getD_eq_default _ _ (Nat.le_of_not_lt hge)] at hr
    cases hr
  have hf : censusCmd m (counted m s.toDev) = .done stOK (censusData (modMap (bf (req m 1) 8 6) (fun _ => MapEntry.reset) (counted m s.toDev)))
      (modMap (bf (req m 1) 8 6) (fun _ => MapEntry.reset) (counted m s.toDev)) := by
    refine (if_neg (census_passes hw (by rw [hop]; decide))).trans ((if_pos hop).trans (if_neg ?_))
    rw [mapAt_ring (a := s.toDev) (b := counted m s.toDev) rfl, hr]
    decide
  refine answers_mono (answers_done (c := censusRow) (f := censusCmd m) rfl ht hc ⟨hl, fun _ => hh, nofun⟩ hf
    (calm_of_eq (show Calm (counted m s.toDev) from hc) rfl rfl rfl rfl) id (journalRoom_self s.toDev)) fun t h => ?_
  obtain ⟨-, -, -, hcache⟩ := answer_leaves h
  have hring := answer_ring h
  have hdata := censusData_ring hring
  have hrsp := rspOf_head 0x51 m stOK (censusData t) (a := s.toDev)
    (b := modMap (bf (req m 1) 8 6) (fun _ => MapEntry.reset) (counted m s.toDev)) hh rfl rfl
  refine ⟨?_, fun a ha => ?_, ?_⟩
  · rw [mapAt_ring hring]
    exact nth_modify_self _ _ hlen
  · rw [mapAt_ring hring]
    exact nth_modify_ne _ _ ha
  · rw [← hrsp, hdata]
    exact hcache

theorem census_run (hop : bf (req m 1) 0 2 = 2) :
    Answers (.censusRun m) s (Replied 0x51 m stOK (censusData (pushCensus s.toDev)) (pushCensus s.toDev)) := by
  have hkept := pushCensus_kept s.toDev
  have hf : censusCmd m (counted m s.toDev) = .done stOK (censusData (pushCensus s.toDev)) (counted m (pushCensus s.toDev)) := by
    have h1 : bf (req m 1) 0 2 ≠ 1 := by rw [hop]; decide
    refine (if_neg (census_passes hw (by rw [hop]; decide))).trans ((if_neg h1).trans ((if_pos hop).trans ?_))
    rw [pushCensus_counted]
    exact congrArg (fun x => okWith x (counted m (pushCensus s.toDev))) (censusData_ring rfl)
  generalize pushCensus s.toDev = y at *
  exact replied_ok (c := censusRow) (f := censusCmd m) rfl ht hc ⟨hl, fun _ => hh, nofun⟩ hf
    (calm_of_eq hc (by rw [hkept]) (by rw [hkept]) (by rw [hkept]) (by rw [hkept])) (by rw [hkept]; exact id)
    (by rw [hkept]; exact journalRoom_self s.toDev)

theorem census_closed (hop : bf (req m 1) 0 2 = 2) (hs : s.ring.stat = .closed) (hr : s.head.ringFrames = []) :
    Answers (.censusRun m) s (Replied 0x51 m stOK
      (censusData s.toDev) { s.toDev with head.ringFrames := [censusFrame s.toDev none] }) := by
  have hdue : pushCensus s.toDev = { s.toDev with head.ringFrames := [censusFrame s.toDev none] } := by
    rw [pushCensus_due ⟨.inl hs, by rw [hr]; exact nofun⟩, pushRing, hr]
    rfl
  have hrun := census_run hc ht hl hh hw hop
  have hdata : censusData (pushCensus s.toDev) = censusData s.toDev := censusData_ring (by rw [hdue])
  rw [hdata, hdue] at hrun
  exact hrun

end Head

end Census

/-! ## O55 -/

/-- Settles O55: each message is taken apart by its operation; an UNLOAD whose jobs have ended is answered in its own wake. -/
theorem engineAndRingMessages : Obligations.EngineAndRingMessages := by
  intro s m hc hj h4 hb ho
  refine ⟨fun ht hl => ⟨fun hop hw => ?_, fun h => kernelBegin_range hc ht hl h, fun hop hw => ?_, fun hop hw => kernelData_reserved hc ht hl hop hw,
    fun hop hw => ?_, fun hop hw => kernelEnd_reserved hc ht hl hop hw, fun hop hw => ?_, fun hop hw => kernelUnload_reserved hc ht hl hop hw⟩,
    fun ht hl => ?_, fun ht hl hh => ?_, fun ht hl hh _ => ?_⟩
  · exact ⟨kernelBegin_done hc ht hl hop hw, kernelBegin_conflict hc ht hl hop hw⟩
  · exact ⟨fun _ hk hn => kernelData_done hc ht hl h4 hop hw hk hn, fun _ hk hn => kernelData_range hc ht hl hop hw hk hn,
      kernelData_state hc ht hl hop hw⟩
  · exact ⟨fun _ hk => ⟨kernelEnd_done hc hb ho ht hl hop hw hk hj h4, kernelEnd_outside hc hb ho ht hl hop hw hk,
      kernelEnd_unsigned hc hb ho ht hl hop hw hk⟩, kernelEnd_partial hc ht hl hop hw⟩
  · exact ⟨kernelUnload_done hc ht hl h4 hop hw, kernelUnload_waits hc ht hl h4 hop hw, kernelUnload_empty hc ht hl hop hw⟩
  · have hlen : lenIs 3 m = true := by
      unfold lenIs
      rw [hl]
      rfl
    refine ⟨jobStats_shown hc ht hlen, fun hw => answers_mono (jobStats_cleared hc ht hlen hw) fun t h => ⟨h, ?_⟩, jobStats_range hc ht hlen⟩
    have heng := eng_of_beside h
    rw [heng]
    exact ⟨rfl, rfl, rfl, clearStats_engines s.toDev⟩
  · have hlen : lenIs 3 m = true := by
      unfold lenIs
      rw [hl]
      rfl
    refine ⟨enumerate_done hc ht hlen hh, fun hw he => enumerate_refused hc ht hlen hh (by decide) ?_,
      fun hw he => enumerate_refused hc ht hlen hh (by decide) ?_, fun hw => enumerate_refused hc ht hlen hh (by decide) ?_⟩
    · rw [hw, he]
      rfl
    · rw [hw, he]
      rfl
    · unfold firstFail
      rw [if_pos (bne_iff_ne.mpr hw)]
  · have hlen : lenIs 3 m = true := by
      unfold lenIs
      rw [hl]
      rfl
    exact ⟨census_range hc ht hlen hh, fun hw => ⟨census_query hc ht hlen hh hw, census_release hc ht hlen hh hw,
      census_notReserved hc ht hlen hh hw, census_closed hc ht hlen hh hw, census_run hc ht hlen hh hw⟩⟩

end Sys2Proof.Proofs
end

section
/-! PROOF. INJECT, BIST_READ and the SERVICE commands (15_faults_and_sluices.md R497, R498, 14_aeddo_command_reference.md R469, R471,
R473, 17_journal_otp_security.md R534, R535). -/

namespace Sys2Proof.Proofs

open Sys2Proof Sys2Proof.Machine Sys2Proof.Safety Sys2Proof.Laws

section Service

variable {s : State} {m : Msg}

/-- An answer changes the mailboxes and the cache only. -/
theorem answer_others {code : Nat} {data : List Word} {e t : Dev}
    (h : Beside (answer code m.seq.toNat (m.body.length + 2) m.quiet m.bcast false stOK data e) t) :
    t.sess = e.sess ∧ t.fault = e.fault ∧ t.jrn = e.jrn ∧ t.now = e.now ∧ t.cfg = e.cfg ∧ t.cmd.hkReady = e.cmd.hkReady := by
  have hw := answerWrite_answer code m.seq.toNat (m.body.length + 2) m.quiet m.bcast false stOK data e
  have h1 := sess_of_beside h
  have h2 := fault_of_beside h
  have h3 := jrn_of_beside h
  have h4 := now_of_beside h
  have h5 := cfg_of_beside h
  have h6 := congrArg Cmd.hkReady (cmd_of_beside h)
  generalize answer code m.seq.toNat (m.body.length + 2) m.quiet m.bcast false stOK data e = y at *
  rw [hw] at h1 h2 h3 h4 h5 h6
  exact ⟨h1, h2, h3, h4, h5, h6⟩

/-! ## INJECT -/

/-- INJECT as a row of the table. -/
def injectRow : Cmd0 := ⟨0x5A, lenIs 4, false, false, true⟩

/-- INJECT's part of the command. -/
def injectAns (m : Msg) (d : Dev) : Ans :=
  match injectCheck d m with
  | some e => refuse e d
  | none => okWith [Word.of (injectDo m (jput (msgCtx d 0x5A m) 0x0BF1 0 (req m 1) d)).2]
      (injectDo m (jput (msgCtx d 0x5A m) 0x0BF1 0 (req m 1) d)).1

theorem inject_refused (hc : Calm s.toDev) (ht : takes s.toDev 0x5A false m = true) (hl : lenIs 4 m = true) (ho : s.sess.isOpen = true)
    {e : Status} (hk : injectCheck s.toDev m = some e) (he : e.code ≠ 0) (hi : ∀ i ∈ s.fault.inject, i.1 ≠ 4) :
    Answers (.inject m) s (Replied 0x5A m e [] s.toDev) := by
  have hf : injectAns m (counted m s.toDev) = .done e [] (counted m s.toDev) := by
    unfold injectAns
    rw [show injectCheck (counted m s.toDev) m = some e from hk]
    rfl
  have hrun : runCmd injectRow m (injectAns m) s.toDev =
      answer injectRow.code m.seq.toNat (m.body.length + 2) m.quiet m.bcast false e [] (counted m s.toDev) := by
    rw [runCmd_takes (c := injectRow) ht hc, executeCmd_admits (c := injectRow) ht ⟨hl, nofun, fun _ => ho⟩, hf]
    simp [he]
  refine replied_answer (g := fun d => lockstepDue (runCmd injectRow m (injectAns m) d)) rfl ?_ hc
  show lockstepDue (runCmd injectRow m (injectAns m) s.toDev) = _
  rw [hrun]
  refine lockstepDue_none fun i hi' => hi i ?_
  have hw := answerWrite_answer injectRow.code m.seq.toNat (m.body.length + 2) m.quiet m.bcast false e [] (counted m s.toDev)
  rw [hw] at hi'
  exact hi'

/-- What an INJECT leaves (R497): only the notes of injections and its entry differ. -/
theorem injectDo_leaves (m : Msg) (d : Dev) : (injectDo m d).1 = { d with fault := { d.fault with
      inject := (injectDo m d).1.fault.inject, sramBad := (injectDo m d).1.fault.sramBad, otpBad := (injectDo m d).1.fault.otpBad } } := by
  unfold injectDo
  dsimp only
  split
  · rfl
  · split
    · rfl
    · split <;> rfl

theorem injectDo_sram (h : bf (req m 1) 0 4 = 1) (d : Dev) : (injectDo m d).1.fault.inject = d.fault.inject ∧
    (∀ x ∈ injectWords (injectOf m), x ∈ (injectDo m d).1.fault.sramBad) ∧ (injectDo m d).2 = (injectWords (injectOf m)).length := by
  have heq : injectDo m d = ({ d with
      fault := { d.fault with
        sramBad := (d.fault.sramBad.filter (fun e => !(injectWords (injectOf m)).any (fun x => x.1 == e.1)) ++ injectWords (injectOf m)) } },
      (injectWords (injectOf m)).length) := if_pos h
  rw [heq]
  exact ⟨rfl, fun x hx => List.mem_append_right _ hx, rfl⟩

theorem injectDo_otp (h : bf (req m 1) 0 4 = 5) (d : Dev) : (injectDo m d).1.fault.inject = d.fault.inject ∧
    (injectDo m d).1.fault.otpBad = injectWords (injectOf m) := by
  have heq : injectDo m d = ({ d with fault.otpBad := injectWords (injectOf m) }, 0) :=
    (if_neg (show ¬ bf (req m 1) 0 4 = 1 by omega)).trans (if_pos h)
  rw [heq]
  exact ⟨rfl, rfl⟩

theorem injectDo_compare (h : bf (req m 1) 0 4 = 4) (d : Dev) : (injectDo m d).1.fault.inject = [injectOf m] := by
  have heq : injectDo m d = ({ d with fault.inject := [injectOf m] }, 1) :=
    (if_neg (show ¬ bf (req m 1) 0 4 = 1 by omega)).trans ((if_neg (show ¬ bf (req m 1) 0 4 = 5 by omega)).trans (if_pos h))
  rw [heq]

theorem injectDo_arms (h : bf (req m 1) 0 4 = 2 ∨ bf (req m 1) 0 4 = 3) (d : Dev) :
    (injectDo m d).1.fault.inject = [injectOf m] ∧ (injectDo m d).2 = 0 := by
  have heq : injectDo m d = ({ d with fault.inject := [injectOf m] }, 0) := by
    refine (if_neg ?_).trans ((if_neg ?_).trans (if_neg ?_)) <;>
    · show ¬ bf (req m 1) 0 4 = _
      omega
  rw [heq]
  exact ⟨rfl, rfl⟩

/-- The housekeeper restarts where a compare cycle was inverted. -/
theorem lockstepDue_leaves (d : Dev) : lockstepDue d = { d with
    cmd := { d.cmd with hkReady := (lockstepDue d).cmd.hkReady }, fault := { d.fault with inject := (lockstepDue d).fault.inject } } := by
  unfold lockstepDue hkDown
  split <;> rfl

/-- The injection, journalled, on a device that has none. -/
def injected (m : Msg) (d : Dev) : Dev := (injectDo m (jput (msgCtx d 0x5A m) 0x0BF1 0 (req m 1) d)).1

/-- What its response tells of an injection. -/
def injectedCount (m : Msg) (d : Dev) : Nat := (injectDo m (jput (msgCtx d 0x5A m) 0x0BF1 0 (req m 1) d)).2

/-- An INJECT that passes answers OK, and what is armed restarts the housekeeper where it is a compare cycle. -/
theorem inject_answers (hc : Calm s.toDev) (hj : JournalFree s.toDev) (ht : takes s.toDev 0x5A false m = true) (hl : lenIs 4 m = true)
    (ho : s.sess.isOpen = true) (hk : injectCheck s.toDev m = none) :
    Answers (.inject m) s (fun t => ∃ y, y = answer 0x5A m.seq.toNat (m.body.length + 2) m.quiet m.bcast false stOK
      [Word.of (injectedCount m (counted m s.toDev))] (injected m (counted m s.toDev)) ∧ Beside (lockstepDue y) t) := by
  have hf : injectAns m (counted m s.toDev) =
      .done stOK [Word.of (injectedCount m (counted m s.toDev))] (injected m (counted m s.toDev)) := by
    unfold injectAns
    rw [show injectCheck (counted m s.toDev) m = none from hk]
    rfl
  have hinj := injectDo_leaves m (jput (msgCtx (counted m s.toDev) 0x5A m) 0x0BF1 0 (req m 1) (counted m s.toDev))
  have hroom : journalRoom (counted m s.toDev) (injected m (counted m s.toDev)) = true := by
    have hq : (injected m (counted m s.toDev)).jrn.q27.length = s.jrn.q27.length + 1 := by
      unfold injected
      rw [hinj, jput, List.length_append]
      rfl
    exact journalRoom_free (d := counted m s.toDev) hj (by
      have h0 : (counted m s.toDev).jrn.q27.length = s.jrn.q27.length := rfl
      omega)
  have hrun : runCmd injectRow m (injectAns m) s.toDev = answer 0x5A m.seq.toNat (m.body.length + 2) m.quiet m.bcast false stOK
      [Word.of (injectedCount m (counted m s.toDev))] (injected m (counted m s.toDev)) := by
    have h0 : (stOK.code != 0) = false := by decide
    rw [runCmd_takes (c := injectRow) ht hc, executeCmd_admits (c := injectRow) ht ⟨hl, nofun, fun _ => ho⟩, hf]
    simp only [hroom, h0, Bool.not_true, Bool.false_eq_true, if_false]
    rfl
  have hcalm : Calm (injected m (counted m s.toDev)) ∧ (injected m (counted m s.toDev)).power = s.power := by
    unfold injected
    rw [hinj]
    exact ⟨hc, rfl⟩
  obtain ⟨hcy, hpy, -⟩ := calm_answerWrite (answerWrite_answer 0x5A m.seq.toNat (m.body.length + 2) m.quiet m.bcast false stOK
    [Word.of (injectedCount m (counted m s.toDev))] (injected m (counted m s.toDev))) hcalm.1
  refine answers_mono (answers_beside (f := fun d => lockstepDue (runCmd injectRow m (injectAns m) d)) rfl
    (congrArg lockstepDue hrun) ?_ ?_) fun t h => ⟨_, rfl, h⟩
  · rw [lockstepDue_leaves]
    exact hcy
  · rw [lockstepDue_leaves]
    show (answer 0x5A m.seq.toNat (m.body.length + 2) m.quiet m.bcast false stOK
      [Word.of (injectedCount m (counted m s.toDev))] (injected m (counted m s.toDev))).power.safeHold = true → _
    rw [hpy, hcalm.2]
    exact id

theorem injectWords_form (m : Msg) : injectWords (injectOf m) =
    (List.range (bf (req m 1) 16 8)).map (fun j => ((req m 2).toNat / 8 + j, bf (req m 1) 8 2)) := rfl

theorem lockstepDue_compares {d : Dev} (h : d.fault.inject = [injectOf m]) (h4 : bf (req m 1) 0 4 = 4) :
    (lockstepDue d).cmd.hkReady = false ∧ (lockstepDue d).fault.inject = [] := by
  have hany : d.fault.inject.any (fun i => i.1 == 4) = true := by
    rw [h]
    simp [injectOf, h4]
  have hnone : d.fault.inject.filter (fun i => i.1 != 4) = [] := by
    rw [h]
    simp [injectOf, h4]
  unfold lockstepDue
  rw [if_pos hany, hnone]
  exact ⟨rfl, rfl⟩

theorem inject_done (hc : Calm s.toDev) (hj : JournalFree s.toDev) (ht : takes s.toDev 0x5A false m = true) (hl : lenIs 4 m = true)
    (ho : s.sess.isOpen = true) (hk : injectCheck s.toDev m = none) :
    Answers (.inject m) s (fun t =>
      (bf (req m 1) 0 4 = 2 ∨ bf (req m 1) 0 4 = 3 →
        t.fault.inject = [(bf (req m 1) 0 4, bf (req m 1) 8 2, bf (req m 1) 12 1, bf (req m 1) 16 8, (req m 2).toNat)] ∧ t.cmd.hkReady = true ∧
          t.cmd.cache.head? = some ⟨m.seq.toNat, 0x5A, rspOf 0x5A m stOK [0] s.toDev⟩) ∧
      (bf (req m 1) 0 4 = 4 → t.cmd.hkReady = false ∧ t.fault.inject = []) ∧
      (bf (req m 1) 0 4 = 5 → t.fault.otpBad = (List.range (bf (req m 1) 16 8)).map (fun j => ((req m 2).toNat / 8 + j, bf (req m 1) 8 2))) ∧
      (bf (req m 1) 0 4 = 1 → (∀ j, j < bf (req m 1) 16 8 → ((req m 2).toNat / 8 + j, bf (req m 1) 8 2) ∈ t.fault.sramBad) ∧
        t.cmd.cache.head? = some ⟨m.seq.toNat, 0x5A, rspOf 0x5A m stOK [Word.of (bf (req m 1) 16 8)] s.toDev⟩) ∧
      (let e := (t.jrn.q27.getLast?).getD Entry.reset
       t.jrn.q27 = s.jrn.q27 ++ [e] ∧ e.item = 0x0BF1 ∧ e.old = 0 ∧ e.new = req m 1)) := by
  refine answers_mono (inject_answers hc hj ht hl ho hk) fun t ⟨y, hy, h⟩ => ?_
  have hk1 : s.cmd.hkReady = true := by
    simp only [takes, Bool.and_eq_true] at ht
    exact ht.1.1.1.1.1.1.1.2
  have hleaves := injectDo_leaves m (jput (msgCtx (counted m s.toDev) 0x5A m) 0x0BF1 0 (req m 1) (counted m s.toDev))
  have hw := answerWrite_answer 0x5A m.seq.toNat (m.body.length + 2) m.quiet m.bcast false stOK
    [Word.of (injectedCount m (counted m s.toDev))] (injected m (counted m s.toDev))
  obtain ⟨hcache, -⟩ := answer_cache 0x5A m.seq.toNat (m.body.length + 2) m.quiet m.bcast false stOK
    [Word.of (injectedCount m (counted m s.toDev))] (injected m (counted m s.toDev))
  rw [← hy] at hw hcache
  have hyf : y.fault = (injected m (counted m s.toDev)).fault := by rw [hw]
  have hyj : y.jrn = (injected m (counted m s.toDev)).jrn := by rw [hw]
  have hyk : y.cmd.hkReady = true := by
    rw [hw]
    unfold injected
    rw [hleaves]
    exact hk1
  have hlock := lockstepDue_leaves y
  have htf := fault_of_beside h
  have htc := cmd_of_beside h
  have htj := jrn_of_beside h
  have hrsp : ∀ data : List Word, rspOf 0x5A m stOK data (injected m (counted m s.toDev)) = rspOf 0x5A m stOK data s.toDev := fun data => by
    refine rspOf_congr 0x5A m stOK data ?_ ?_ ?_ <;>
    · unfold injected
      rw [hleaves]
      rfl
  have hhead : t.cmd.cache.head? = some ⟨m.seq.toNat, 0x5A, rspOf 0x5A m stOK [Word.of (injectedCount m (counted m s.toDev))] s.toDev⟩ := by
    rw [htc, hlock, ← hrsp]
    show y.cmd.cache.head? = _
    rw [hcache]
    rfl
  have hstays : (∀ i ∈ y.fault.inject, i.1 ≠ 4) → lockstepDue y = y := lockstepDue_none
  refine ⟨fun h23 => ?_, fun h4 => ?_, fun h5 => ?_, fun h1 => ?_, ?_⟩
  · obtain ⟨hone, hzero⟩ := injectDo_arms h23 (jput (msgCtx (counted m s.toDev) 0x5A m) 0x0BF1 0 (req m 1) (counted m s.toDev))
    have hyi : y.fault.inject = [injectOf m] := by
      rw [hyf]
      exact hone
    have hsame := hstays (by
      rw [hyi]
      intro i hi4
      rw [List.mem_singleton.mp hi4]
      show bf (req m 1) 0 4 ≠ 4
      omega)
    rw [hsame] at htf htc
    refine ⟨?_, ?_, ?_⟩
    · rw [htf, hyi]
      rfl
    · rw [htc]
      exact hyk
    · have hcount : injectedCount m (counted m s.toDev) = 0 := hzero
      rw [hcount] at hhead
      exact hhead
  · have hone := injectDo_compare h4 (jput (msgCtx (counted m s.toDev) 0x5A m) 0x0BF1 0 (req m 1) (counted m s.toDev))
    have hyi : y.fault.inject = [injectOf m] := by
      rw [hyf]
      exact hone
    obtain ⟨hdown, hnone⟩ := lockstepDue_compares hyi h4
    rw [htf, htc]
    exact ⟨hdown, hnone⟩
  · obtain ⟨-, hbad⟩ := injectDo_otp h5 (jput (msgCtx (counted m s.toDev) 0x5A m) 0x0BF1 0 (req m 1) (counted m s.toDev))
    rw [htf, hlock]
    show y.fault.otpBad = _
    rw [hyf]
    exact hbad
  · obtain ⟨-, hmem, hcount⟩ := injectDo_sram h1 (jput (msgCtx (counted m s.toDev) 0x5A m) 0x0BF1 0 (req m 1) (counted m s.toDev))
    have hlen : injectedCount m (counted m s.toDev) = bf (req m 1) 16 8 := by
      refine Eq.trans hcount ?_
      rw [injectWords_form, List.length_map, List.length_range]
    rw [hlen] at hhead
    refine ⟨fun j hj8 => ?_, hhead⟩
    rw [htf, hlock]
    show _ ∈ y.fault.sramBad
    rw [hyf]
    exact hmem _ (by rw [injectWords_form]; exact List.mem_map_of_mem (List.mem_range.mpr hj8))
  · have hq : t.jrn.q27 = (jput (msgCtx (counted m s.toDev) 0x5A m) 0x0BF1 0 (req m 1) (counted m s.toDev)).jrn.q27 := by
      rw [htj, hlock]
      show y.jrn.q27 = _
      rw [hyj]
      unfold injected
      rw [hleaves]
    obtain ⟨e, he, hitem, hold, hnew, -⟩ := jput_q27 (msgCtx (counted m s.toDev) 0x5A m) 0x0BF1 0 (req m 1) (counted m s.toDev)
    rw [he] at hq
    rw [hq]
    intro x
    have hx : x = e := by
      show (((counted m s.toDev).jrn.q27 ++ [e]).getLast?).getD Entry.reset = e
      rw [List.getLast?_concat]
      rfl
    rw [hx]
    exact ⟨rfl, hitem, hold, hnew⟩

end Service

end Sys2Proof.Proofs
end

section
/-! PROOF. BIST_READ and the SERVICE commands (14_aeddo_command_reference.md R471, R473, 17_journal_otp_security.md R534, R535). -/

namespace Sys2Proof.Proofs

open Sys2Proof Sys2Proof.Machine Sys2Proof.Safety Sys2Proof.Laws

section Service

variable {s : State} {m : Msg}

/-! ## BIST_READ -/

/-- The counters of BIST_READ start again. -/
def bistCleared (d : Dev) : Dev := { d with
  bist := { d.bist with deferred := 0, kinds := d.bist.kinds.map (fun (x : Kind) => { x with fails := 0, incomplete := 0 }) } }

/-- The words of BIST_READ. -/
def bistWords (d : Dev) : List Word :=
  ((List.range 5).filter (kindOn d)).flatMap (fun k => kindWords (kindAt d k)) ++ [Word.of (d.bist.lastCycle * 2 ^ 16 + d.bist.deferred)]

/-- BIST_READ's part of the command. -/
def bistReadAns (m : Msg) (d : Dev) : Ans :=
  if !onlyBits 1 (req m 1) then refuse stRANGE d
  else okWith (bistWords d) (if bit (req m 1) 0 then bistCleared d else d)

theorem bistRead_shown (hc : Calm s.toDev) (ht : takes s.toDev 0x5D false m = true) (hl : lenIs 3 m = true) (hw : req m 1 = 0) :
    Answers (.bistRead m) s (Replied 0x5D m stOK (bistWords s.toDev) s.toDev) := by
  refine replied_read (c := ⟨0x5D, lenIs 3, false, false, false⟩) (f := bistReadAns m) rfl ht hc (admits_plain hl) ?_
  unfold bistReadAns
  rw [hw]
  rfl

theorem bistRead_cleared (hc : Calm s.toDev) (ht : takes s.toDev 0x5D false m = true) (hl : lenIs 3 m = true) (hw : req m 1 = 1) :
    Answers (.bistRead m) s (Replied 0x5D m stOK (bistWords s.toDev) (bistCleared s.toDev)) := by
  refine replied_ok (c := ⟨0x5D, lenIs 3, false, false, false⟩) (f := bistReadAns m) (a := bistCleared s.toDev) rfl ht hc (admits_plain hl) ?_ hc
    id (journalRoom_self s.toDev)
  unfold bistReadAns
  rw [hw]
  rfl

theorem bistRead_range (hc : Calm s.toDev) (ht : takes s.toDev 0x5D false m = true) (hl : lenIs 3 m = true) (h0 : req m 1 ≠ 0)
    (h1 : req m 1 ≠ 1) : Answers (.bistRead m) s (Replied 0x5D m stRANGE [] s.toDev) := by
  refine replied_refused (c := ⟨0x5D, lenIs 3, false, false, false⟩) (f := bistReadAns m) rfl ht hc (admits_plain hl) (e := counted m s.toDev) ?_
    (by decide)
  have hbits : onlyBits 1 (req m 1) = false := Bool.eq_false_iff.mpr fun h => (onlyBits_one h).elim h0 h1
  unfold bistReadAns
  rw [hbits]
  rfl

/-! ## CHALLENGE -/

theorem serviceLen_challenge (hl : m.body.length = 1) (hop : bf (req m 1) 0 2 = 1) : serviceCmd.lenOk m = true := by
  show (match bf (req m 1) 0 2 with | 1 => lenIs 3 m | 2 => lenIs 11 m | _ => lenIs 3 m || lenIs 11 m) = true
  rw [hop]
  show lenIs 3 m = true
  unfold lenIs
  rw [hl]
  rfl

theorem serviceLen_answer (hl : m.body.length = 9) (hop : bf (req m 1) 0 2 = 2) : serviceCmd.lenOk m = true := by
  show (match bf (req m 1) 0 2 with | 1 => lenIs 3 m | 2 => lenIs 11 m | _ => lenIs 3 m || lenIs 11 m) = true
  rw [hop]
  show lenIs 11 m = true
  unfold lenIs
  rw [hl]
  rfl

theorem serviceLen_other (hl : m.body.length = 1 ∨ m.body.length = 9) (hop : bf (req m 1) 0 2 = 0 ∨ bf (req m 1) 0 2 = 3) :
    serviceCmd.lenOk m = true := by
  have hlen : (lenIs 3 m || lenIs 11 m) = true := by
    unfold lenIs
    rcases hl with h | h
    · rw [h]
      rfl
    · rw [h]
      rfl
  show (match bf (req m 1) 0 2 with | 1 => lenIs 3 m | 2 => lenIs 11 m | _ => lenIs 3 m || lenIs 11 m) = true
  rcases hop with h | h
  · rw [h]
    exact hlen
  · rw [h]
    exact hlen

theorem serviceOpen_challenge (hop : bf (req m 1) 0 2 = 1) (d : Dev) : serviceOpen m d = challenge m d := by
  simp only [serviceOpen, hop]

theorem serviceOpen_answer (hop : bf (req m 1) 0 2 = 2) (d : Dev) : serviceOpen m d = answerMac m d := by
  simp only [serviceOpen, hop]

theorem serviceOpen_other (hop : bf (req m 1) 0 2 = 0 ∨ bf (req m 1) 0 2 = 3) (d : Dev) : serviceOpen m d = refuse stRANGE d := by
  rcases hop with h | h
  · simp only [serviceOpen, h]
  · simp only [serviceOpen, h]

/-- SERVICE_OPEN refused in its own checks. -/
theorem service_refused {i : Instr} {st : Status} (hi : exec i s = runDev s (runCmd serviceCmd m (serviceOpen m))) (hc : Calm s.toDev)
    (ht : takes s.toDev 0x61 false m = true) (hl : serviceCmd.lenOk m = true)
    (hf : serviceOpen m (counted m s.toDev) = refuse st (counted m s.toDev)) (hst : st.code ≠ 0) :
    Answers i s (Replied 0x61 m st [] s.toDev) :=
  replied_refused (c := serviceCmd) (f := serviceOpen m) hi ht hc ⟨hl, nofun, nofun⟩ hf hst

theorem authWait_counted (d : Dev) : authWait (counted m d) = authWait d := by
  unfold authWait
  rfl

/-- The checks of a CHALLENGE. -/
theorem challenge_checked (d : Dev) {st : Status}
    (h : firstFail [(!onlyBits 0xFF03 (req m 1), stRANGE), (d.sess.isOpen, stSTATE), (authWait d, stBUSY)] = some st) :
    challenge m (counted m d) = refuse st (counted m d) := by
  unfold challenge
  rw [show (counted m d).sess = d.sess from rfl, authWait_counted, h]

section Challenge

variable (hc : Calm s.toDev) (ht : takes s.toDev 0x61 false m = true) (hl : m.body.length = 1) (hop : bf (req m 1) 0 2 = 1)
include hc ht hl hop

theorem challenge_reserved (hw : req m 1 &&& ~~~ 0xFF03 ≠ 0) : Answers (.serviceChallenge m) s (Replied 0x61 m stRANGE [] s.toDev) := by
  have hbits : onlyBits 0xFF03 (req m 1) = false := Bool.eq_false_iff.mpr fun h => hw ((onlyBits_iff _ _).mp h)
  refine service_refused rfl hc ht (serviceLen_challenge hl hop) ((serviceOpen_challenge hop _).trans (challenge_checked _ ?_)) (by decide)
  rw [hbits]
  rfl

theorem challenge_open (hw : req m 1 &&& ~~~ 0xFF03 = 0) (ho : s.sess.isOpen = true) :
    Answers (.serviceChallenge m) s (Replied 0x61 m stSTATE [] s.toDev) := by
  have hbits : onlyBits 0xFF03 (req m 1) = true := (onlyBits_iff _ _).mpr hw
  refine service_refused rfl hc ht (serviceLen_challenge hl hop) ((serviceOpen_challenge hop _).trans (challenge_checked _ ?_)) (by decide)
  rw [hbits, ho]
  rfl

theorem challenge_early (hw : req m 1 &&& ~~~ 0xFF03 = 0) (ho : s.sess.isOpen = false) (ha : authWait s.toDev = true) :
    Answers (.serviceChallenge m) s (Replied 0x61 m stBUSY [] s.toDev) := by
  have hbits : onlyBits 0xFF03 (req m 1) = true := (onlyBits_iff _ _).mpr hw
  refine service_refused rfl hc ht (serviceLen_challenge hl hop) ((serviceOpen_challenge hop _).trans (challenge_checked _ ?_)) (by decide)
  rw [hbits, ho, ha]
  rfl

theorem challenge_done (hw : req m 1 &&& ~~~ 0xFF03 = 0) (ho : s.sess.isOpen = false) (ha : authWait s.toDev = false) :
    Answers (.serviceChallenge m) s (fun t =>
      let n := t.sess.nonce.getD []
      t.sess.nonce = some n ∧ n.length = 4 ∧ t.sess.asked = bf (req m 1) 8 8 ∧
      t.cmd.cache.head? = some ⟨m.seq.toNat, 0x61, rspOf 0x61 m stOK n s.toDev⟩) := by
  have hbits : onlyBits 0xFF03 (req m 1) = true := (onlyBits_iff _ _).mpr hw
  have hf : serviceOpen m (counted m s.toDev) = .done stOK ((List.range 4).map (fun i => Config.freeWord (s.free + i)))
      { counted m s.toDev with
        free := s.free + 4
        sess := { s.sess with nonce := some ((List.range 4).map (fun i => Config.freeWord (s.free + i))), asked := bf (req m 1) 8 8 } } := by
    rw [serviceOpen_challenge hop]
    unfold challenge
    rw [show (counted m s.toDev).sess = s.sess from rfl, authWait_counted, hbits, ho, ha]
    rfl
  generalize hn : (List.range 4).map (fun i => Config.freeWord (s.free + i)) = n at hf
  have hlen : n.length = 4 := by
    rw [← hn, List.length_map, List.length_range]
  refine answers_mono (answers_done (c := serviceCmd) (f := serviceOpen m) rfl ht hc ⟨serviceLen_challenge hl hop, nofun, nofun⟩ hf
    (calm_of_eq (show Calm (counted m s.toDev) from hc) rfl rfl rfl rfl) id (journalRoom_self s.toDev)) fun t h => ?_
  obtain ⟨-, -, -, hcache⟩ := answer_leaves h
  obtain ⟨hsess, -⟩ := answer_others h
  have hrsp := rspOf_congr 0x61 m stOK n (a := s.toDev) (b := { counted m s.toDev with
        free := s.free + 4
        sess := { s.sess with nonce := some n, asked := bf (req m 1) 8 8 } }) rfl rfl rfl
  rw [hsess]
  refine ⟨rfl, hlen, rfl, ?_⟩
  exact hcache.trans (congrArg (fun r => some (⟨m.seq.toNat, 0x61, r⟩ : Cached)) hrsp)

end Challenge

theorem service_unknown (hc : Calm s.toDev) (ht : takes s.toDev 0x61 false m = true) (hl : m.body.length = 1 ∨ m.body.length = 9)
    (hop : bf (req m 1) 0 2 = 0 ∨ bf (req m 1) 0 2 = 3) : Answers (.serviceChallenge m) s (Replied 0x61 m stRANGE [] s.toDev) :=
  service_refused rfl hc ht (serviceLen_other hl hop) (serviceOpen_other hop _) (by decide)

/-! ## ANSWER -/

theorem onlyBits_three {w : Word} (h : onlyBits 3 w = true) (hop : bf w 0 2 = 2) : w = 2 := by
  have hand := (onlyBits_iff 3 w).mp h
  have hsplit : w = w &&& 3 := by
    have hor : w = (w &&& ~~~ Word.of 3) ||| (w &&& Word.of 3) := by
      rw [← BitVec.and_or_distrib_left, BitVec.or_comm, BitVec.or_not_self, BitVec.and_allOnes]
    rw [hand] at hor
    exact hor.trans BitVec.zero_or
  refine BitVec.eq_of_toNat_eq ?_
  have hnat := congrArg BitVec.toNat hsplit
  rw [BitVec.toNat_and, show BitVec.toNat (3 : Word) = 2 ^ 2 - 1 from rfl, Nat.and_two_pow_sub_one_eq_mod] at hnat
  rw [hnat]
  exact hop

theorem rightMac_counted (d : Dev) (n : List Word) (bad : List Nat) : rightMac (counted m d) n bad = rightMac d n bad := by
  unfold rightMac
  rfl

section Answer

variable (hc : Calm s.toDev) (ht : takes s.toDev 0x61 false m = true) (hl : m.body.length = 9)
include hc ht hl

theorem answer_range (hop : bf (req m 1) 0 2 = 2) (hw : req m 1 ≠ 2) : Answers (.serviceAnswer m) s (Replied 0x61 m stRANGE [] s.toDev) := by
  have hbits : onlyBits 3 (req m 1) = false := Bool.eq_false_iff.mpr fun h => hw (onlyBits_three h hop)
  refine service_refused rfl hc ht (serviceLen_answer hl hop) ((serviceOpen_answer hop _).trans ?_) (by decide)
  unfold answerMac
  rw [hbits]
  rfl

theorem answer_early (hw : req m 1 = 2) (hn : s.sess.nonce = none) : Answers (.serviceAnswer m) s (Replied 0x61 m stSTATE [] s.toDev) := by
  have hop : bf (req m 1) 0 2 = 2 := by rw [hw]; rfl
  refine service_refused rfl hc ht (serviceLen_answer hl hop) ((serviceOpen_answer hop _).trans ?_) (by decide)
  unfold answerMac
  rw [hw, show (counted m s.toDev).sess = s.sess from rfl, hn]
  rfl

omit hc ht hl in
/-- What an ANSWER with a nonce does. -/
theorem answerMac_judged (hb : s.fault.otpBad = []) (ho : s.otp.bad = []) (hw : req m 1 = 2) {n : List Word} (hn : s.sess.nonce = some n) :
    serviceOpen m (counted m s.toDev) =
      if rightMac s.toDev n [] == some (m.body.drop 1) then
        okWith [] (jput ⟨oSERVICE, 0x61, s.sess.asked⟩ 0x0BF2 0 1 (counted m { s.toDev with sess := { s.sess with
          nonce := none, isOpen := true, tester := s.sess.asked, openAt := s.now, failRun := 0 } }))
      else .forced stAUTH [] (counted m { s.toDev with sess := { s.sess with
          nonce := none, failRun := satInc 255 s.sess.failRun, fails := satInc 65535 s.sess.fails, failAt := s.now } }) := by
  have hop : bf (req m 1) 0 2 = 2 := by rw [hw]; rfl
  rw [serviceOpen_answer hop]
  unfold answerMac
  rw [hw, show (counted m s.toDev).sess = s.sess from rfl, hn]
  dsimp only
  rw [otpRead_whole (d := counted m s.toDev) hb ho, rightMac_counted]
  rfl

theorem answer_wrong (hb : s.fault.otpBad = []) (ho : s.otp.bad = []) (hw : req m 1 = 2) {n : List Word} (hn : s.sess.nonce = some n)
    (hmac : rightMac s.toDev n [] ≠ some (m.body.drop 1)) :
    Answers (.serviceAnswer m) s (Replied 0x61 m stAUTH [] { s.toDev with
      sess := { s.sess with nonce := none, failRun := satInc 255 s.sess.failRun, fails := satInc 65535 s.sess.fails, failAt := s.now } }) := by
  have hop : bf (req m 1) 0 2 = 2 := by rw [hw]; rfl
  refine replied_forced (c := serviceCmd) (f := serviceOpen m) rfl ht hc ⟨serviceLen_answer hl hop, nofun, nofun⟩ ?_
    (calm_of_eq hc rfl rfl rfl rfl) id
  rw [answerMac_judged hb ho hw hn, beq_false_of_ne hmac]
  rfl

theorem answer_right (hj : JournalFree s.toDev) (hb : s.fault.otpBad = []) (ho : s.otp.bad = []) (hw : req m 1 = 2) {n : List Word}
    (hn : s.sess.nonce = some n) (hmac : rightMac s.toDev n [] = some (m.body.drop 1)) :
    Answers (.serviceAnswer m) s (fun t =>
      t.sess.isOpen = true ∧ t.sess.tester = s.sess.asked ∧ t.sess.openAt = s.now ∧ t.sess.failRun = 0 ∧ t.sess.nonce = none ∧
      (let e := (t.jrn.q27.getLast?).getD Entry.reset
       t.jrn.q27 = s.jrn.q27 ++ [e] ∧ e.item = 0x0BF2 ∧ e.old = 0 ∧ e.new = 1)) := by
  have hop : bf (req m 1) 0 2 = 2 := by rw [hw]; rfl
  have hf : serviceOpen m (counted m s.toDev) = .done stOK [] (jput ⟨oSERVICE, 0x61, s.sess.asked⟩ 0x0BF2 0 1 (counted m { s.toDev with
      sess := { s.sess with nonce := none, isOpen := true, tester := s.sess.asked, openAt := s.now, failRun := 0 } })) := by
    rw [answerMac_judged hb ho hw hn, hmac, beq_self_eq_true]
    rfl
  obtain ⟨e, he, hitem, hold, hnew, -⟩ := jput_q27 ⟨oSERVICE, 0x61, s.sess.asked⟩ 0x0BF2 0 1 (counted m { s.toDev with
      sess := { s.sess with nonce := none, isOpen := true, tester := s.sess.asked, openAt := s.now, failRun := 0 } })
  have hroom : journalRoom s.toDev (jput ⟨oSERVICE, 0x61, s.sess.asked⟩ 0x0BF2 0 1 (counted m { s.toDev with
      sess := { s.sess with nonce := none, isOpen := true, tester := s.sess.asked, openAt := s.now, failRun := 0 } })) = true := by
    refine journalRoom_free hj ?_
    rw [he, List.length_append]
    exact Nat.add_le_add_left (show 1 ≤ 200 by decide) _
  refine answers_mono (answers_done (c := serviceCmd) (f := serviceOpen m) rfl ht hc ⟨serviceLen_answer hl hop, nofun, nofun⟩ hf hc id hroom)
    fun t h => ?_
  obtain ⟨hsess, -, hjrn, -⟩ := answer_others h
  rw [hsess, hjrn, he]
  refine ⟨rfl, rfl, rfl, rfl, rfl, ?_⟩
  intro x
  have hx : x = e := by
    show ((s.jrn.q27 ++ [e]).getLast?).getD Entry.reset = e
    rw [List.getLast?_concat]
    rfl
  rw [hx]
  exact ⟨rfl, hitem, hold, hnew⟩

end Answer

/-! ## CLOSE -/

/-- SERVICE_CLOSE's part of the command. -/
def closeAns (d : Dev) : Ans :=
  if d.sess.isOpen then okWith [] (closeSession (jput ⟨oSERVICE, 0x62, d.sess.tester⟩ 0x0BF2 1 0 d)) else refuse stSTATE d

theorem close_without (hc : Calm s.toDev) (ht : takes s.toDev 0x62 false m = true) (hl : lenIs 2 m = true) (ho : s.sess.isOpen = false) :
    Answers (.serviceClose m) s (Replied 0x62 m stSTATE [] s.toDev) := by
  refine replied_refused (c := ⟨0x62, lenIs 2, false, false, false⟩) (f := closeAns) rfl ht hc (admits_plain hl) (e := counted m s.toDev) ?_
    (by decide)
  unfold closeAns
  rw [show (counted m s.toDev).sess = s.sess from rfl, ho]
  rfl

theorem close_done (hc : Calm s.toDev) (hj : JournalFree s.toDev) (ht : takes s.toDev 0x62 false m = true) (hl : lenIs 2 m = true)
    (ho : s.sess.isOpen = true) : Answers (.serviceClose m) s (fun t => t.sess.isOpen = false ∧ t.fault.inject = [] ∧ t.fault.otpBad = [] ∧
      (let e := (t.jrn.q27.getLast?).getD Entry.reset
       t.jrn.q27 = s.jrn.q27 ++ [e] ∧ e.item = 0x0BF2 ∧ e.old = 1 ∧ e.new = 0)) := by
  have hf : closeAns (counted m s.toDev) =
      .done stOK [] (closeSession (jput ⟨oSERVICE, 0x62, s.sess.tester⟩ 0x0BF2 1 0 (counted m s.toDev))) := by
    unfold closeAns
    rw [show (counted m s.toDev).sess = s.sess from rfl, ho]
    rfl
  obtain ⟨e, he, hitem, hold, hnew, -⟩ := jput_q27 ⟨oSERVICE, 0x62, s.sess.tester⟩ 0x0BF2 1 0 (counted m s.toDev)
  have hclosed : (closeSession (jput ⟨oSERVICE, 0x62, s.sess.tester⟩ 0x0BF2 1 0 (counted m s.toDev))).jrn.q27 = s.jrn.q27 ++ [e] := he
  have hroom : journalRoom s.toDev (closeSession (jput ⟨oSERVICE, 0x62, s.sess.tester⟩ 0x0BF2 1 0 (counted m s.toDev))) = true := by
    refine journalRoom_free hj ?_
    rw [hclosed, List.length_append]
    exact Nat.add_le_add_left (show 1 ≤ 200 by decide) _
  refine answers_mono (answers_done (c := ⟨0x62, lenIs 2, false, false, false⟩) (f := closeAns) rfl ht hc (admits_plain hl) hf hc id hroom)
    fun t h => ?_
  obtain ⟨hsess, hfault, hjrn, -⟩ := answer_others h
  rw [hsess, hfault, hjrn, hclosed]
  refine ⟨rfl, rfl, rfl, ?_⟩
  intro x
  have hx : x = e := by
    show ((s.jrn.q27 ++ [e]).getLast?).getD Entry.reset = e
    rw [List.getLast?_concat]
    rfl
  rw [hx]
  exact ⟨rfl, hitem, hold, hnew⟩

end Service

end Sys2Proof.Proofs
end

section
/-! PROOF. FAULT_READ and JOURNAL_READ (14_aeddo_command_reference.md R468, R472, 15_faults_and_sluices.md R480, R484, R495). -/

namespace Sys2Proof.Proofs

open Sys2Proof Sys2Proof.Machine Sys2Proof.Safety Sys2Proof.Laws

/-! ## Occurrences do not read the commands -/

section Cmd

variable (c : Cmd)

theorem evtRecord_withCmd (kind source : Nat) (body : List Word) (d : Dev) :
    evtRecord kind source body (withCmd c d) = withCmd c (evtRecord kind source body d) := by
  unfold evtRecord
  dsimp only
  rw [show weir (withCmd c d) = weir d from rfl, show freeCount (withCmd c d) = freeCount d from rfl,
    show (withCmd c d).host = d.host from rfl]
  split <;> rfl

theorem noteEvent_withCmd (k : Nat) (d : Dev) : noteEvent k (withCmd c d) = withCmd c (noteEvent k d) := by
  unfold noteEvent
  rw [show (withCmd c d).part = d.part from rfl]
  split
  · rfl
  · dsimp only
    rw [show (withCmd c d).host = d.host from rfl]
    split
    · exact evtRecord_withCmd c 2 k (stampWords d 0) { d with host := { d.host with evf := mset d.host.evf k true } }
    · rfl

theorem enterSafeHold_withCmd (cause : Cause) (d : Dev) : enterSafeHold cause (withCmd c d) = withCmd c (enterSafeHold cause d) := by
  unfold enterSafeHold
  rw [show (withCmd c d).power = d.power from rfl]
  split
  · rfl
  · split <;> rfl

theorem safeReaction_withCmd (k : Nat) (d : Dev) : safeReaction k (withCmd c d) = withCmd c (safeReaction k d) :=
  enterSafeHold_withCmd c .safeWire (modEsc k (fun e => { e with inForce := 5 }) { d with
    fault := { d.fault with safePrev := safeSrcNat d, safeSrc := k, safeAt := recentSafe d ++ [d.now], safeReact := true }
    power := { d.power with tripThird := decide (3 ≤ (recentSafe d ++ [d.now]).length), wakeSeen := false, safeWireC := true } })

theorem becomeSevere_withCmd (k unit : Nat) (d : Dev) :
    becomeSevere reactSafe k unit [] false (withCmd c d) = withCmd c (becomeSevere reactSafe k unit [] false d) := by
  unfold becomeSevere reactSafe
  dsimp only
  rw [show escReaction (withCmd c d) k = escReaction d k from rfl]
  split
  · rfl
  · split
    · exact safeReaction_withCmd c k (triggerStretch (modEsc k (fun e => { e with state := 2, count := escCount d k, unit := unit, pulse := true }) d))
    · rfl

theorem raiseNS_withCmd (k unit : Nat) (d : Dev) : raiseNS k unit (withCmd c d) = withCmd c (raiseNS k unit d) := by
  unfold raiseNS occurWith
  dsimp only
  rw [show (withCmd c d).part = d.part from rfl, show (withCmd c d).power = d.power from rfl, show esc (withCmd c d) k = esc d k from rfl,
    show escCount (withCmd c d) k = escCount d k from rfl, noteEvent_withCmd]
  split
  · rfl
  · split
    · rfl
    · split
      · rfl
      · split
        · rfl
        · split
          · exact becomeSevere_withCmd c k unit _
          · rfl

theorem sramReadWord_withCmd (w : Nat) (d : Dev) : sramReadWord w (withCmd c d) = withCmd c (sramReadWord w d) := by
  unfold sramReadWord
  rw [show (withCmd c d).fault = d.fault from rfl]
  split
  · exact raiseNS_withCmd c 90 w { d with fault := { d.fault with sramBad := adel d.fault.sramBad w } }
  · exact raiseNS_withCmd c 91 w d
  · rfl

theorem sramRead_withCmd (kind : Nat) (keys : List Nat) (d : Dev) : sramRead kind keys (withCmd c d) = withCmd c (sramRead kind keys d) := by
  have hall : ∀ (l : List Nat) (d : Dev), forEach l sramReadWord (withCmd c d) = withCmd c (forEach l sramReadWord d) := fun l => by
    induction l with
    | nil => exact fun _ => rfl
    | cons w t ih =>
      intro d
      rw [show forEach (w :: t) sramReadWord (withCmd c d) = forEach t sramReadWord (sramReadWord w (withCmd c d)) from rfl, sramReadWord_withCmd]
      exact ih _
  unfold sramRead
  rw [show (withCmd c d).fault = d.fault from rfl]
  split
  · rfl
  · exact hall _ d

end Cmd

section Reads

variable {s : State} {m : Msg}

/-! ## JOURNAL_READ -/

/-- The entries that a JOURNAL_READ answers, each with its place. -/
def journalTaken (m : Msg) (d : Dev) : List (Nat × List Word) := (journalFrom d (req m 1).toNat).2.take (req m 2).toNat

/-- JOURNAL_READ's part of the command. -/
def journalReadAns (m : Msg) (d : Dev) : Ans :=
  if (req m 2).toNat = 0 || 41 < (req m 2).toNat then refuse stRANGE d
  else okWith ([Word.of d.jrn.next, Word.of d.jrn.wraps, Word.of (journalFrom d (req m 1).toNat).1] ++ (journalTaken m d).flatMap (fun e => e.2))
    (sramRead 1 ((journalTaken m d).flatMap (fun e => entryKeys d e.1)) d)

theorem journalFrom_counted (d : Dev) (n : Nat) : journalFrom (counted m d) n = journalFrom d n := rfl

theorem sramRead_counted {d : Dev} (hn : NoSafe d) (kind : Nat) (keys : List Nat) :
    sramRead kind keys (counted m d) = counted m (sramRead kind keys d) := by
  have hcmd : (sramRead kind keys d).cmd = d.cmd := congrArg Heart.cmd (heart_of_core (mild_sramRead kind keys d hn).core)
  have hwith : counted m d = withCmd (counted m d).cmd d := rfl
  rw [hwith, sramRead_withCmd]
  generalize sramRead kind keys d = y at hcmd ⊢
  unfold withCmd counted
  rw [hcmd]

theorem journalRead_range (hc : Calm s.toDev) (ht : takes s.toDev 0x60 false m = true) (hl : lenIs 4 m = true)
    (h : (req m 2).toNat = 0 ∨ 41 < (req m 2).toNat) : Answers (.journalRead m) s (Replied 0x60 m stRANGE [] s.toDev) := by
  refine replied_refused (c := ⟨0x60, lenIs 4, false, false, false⟩) (f := journalReadAns m) rfl ht hc (admits_plain hl) (e := counted m s.toDev) ?_
    (by decide)
  refine if_pos ?_
  rw [Bool.or_eq_true, decide_eq_true_eq, decide_eq_true_eq]
  exact h

theorem journalRead_done (hc : Calm s.toDev) (hn : NoSafe s.toDev) (ht : takes s.toDev 0x60 false m = true) (hl : lenIs 4 m = true)
    (h1 : 1 ≤ (req m 2).toNat) (h41 : (req m 2).toNat ≤ 41) : Answers (.journalRead m) s (Replied 0x60 m stOK
      ([Word.of s.jrn.next, Word.of s.jrn.wraps, Word.of (journalFrom s.toDev (req m 1).toNat).1] ++
        (journalTaken m s.toDev).flatMap (fun e => e.2))
      (sramRead 1 ((journalTaken m s.toDev).flatMap (fun e => entryKeys s.toDev e.1)) s.toDev)) := by
  have htaken : journalTaken m (counted m s.toDev) = journalTaken m s.toDev := by
    unfold journalTaken
    rw [journalFrom_counted]
  have hf : journalReadAns m (counted m s.toDev) = .done stOK
      ([Word.of s.jrn.next, Word.of s.jrn.wraps, Word.of (journalFrom s.toDev (req m 1).toNat).1] ++
        (journalTaken m s.toDev).flatMap (fun e => e.2))
      (counted m (sramRead 1 ((journalTaken m s.toDev).flatMap (fun e => entryKeys s.toDev e.1)) s.toDev)) := by
    have hpass : ¬ (decide ((req m 2).toNat = 0) || decide (41 < (req m 2).toNat)) = true := by
      rw [Bool.or_eq_true, decide_eq_true_eq, decide_eq_true_eq]
      omega
    refine (if_neg hpass).trans ?_
    rw [htaken, journalFrom_counted]
    exact congrArg (fun x => okWith _ x) (sramRead_counted hn 1 _)
  have hkept := (mild_sramRead 1 ((journalTaken m s.toDev).flatMap (fun e => entryKeys s.toDev e.1)) s.toDev hn).core
  generalize sramRead 1 ((journalTaken m s.toDev).flatMap (fun e => entryKeys s.toDev e.1)) s.toDev = y at *
  have hheart := heart_of_core hkept
  have hjrn := congrArg Dev.jrn hkept
  refine replied_ok (c := ⟨0x60, lenIs 4, false, false, false⟩) (f := journalReadAns m) rfl ht hc (admits_plain hl) hf (calm_of_heart hheart hc)
    (by rw [power_of_heart hheart]; exact id) ?_
  have hroom := journalRoom_self s.toDev
  unfold journalRoom at hroom ⊢
  rw [show y.jrn = s.jrn from hjrn]
  exact hroom

/-! ## FAULT_READ -/

/-- A source's counters after its word has been returned. -/
def escRead (k : Nat) (e : Esc) : Esc := if isInfo k then { e with count := 0 } else { e with lost := 0 }

/-- d is b with other counters of the 128 sources. -/
def Counting (b d : Dev) : Prop := d.fault.esc.length = 128 ∧ d = { b with fault := { b.fault with esc := d.fault.esc } }

theorem faultClear_counting {b d : Dev} (k : Nat) (h : Counting b d) : Counting b (faultClear k d) := by
  obtain ⟨hlen, hw⟩ := h
  refine ⟨(List.length_modify _ _ _).trans hlen, ?_⟩
  rw [hw]
  rfl

theorem faultClear_self {b d : Dev} {k : Nat} (h : Counting b d) (hk : k < 128) : esc (faultClear k d) k = escRead k (esc d k) :=
  esc_modEsc_self _ (by rw [h.1]; exact hk)

theorem faultClear_ne {k n : Nat} (d : Dev) (hn : n ≠ k) : esc (faultClear k d) n = esc d n := nth_modify_ne _ _ hn

/-- The sources that a FAULT_READ names. -/
def readSources (m : Msg) : List Nat := (List.range (bf (req m 1) 8 7)).map (fun i => bf (req m 1) 0 7 + i)

theorem readSources_mem {k : Nat} : k ∈ readSources m ↔ bf (req m 1) 0 7 ≤ k ∧ k < bf (req m 1) 0 7 + bf (req m 1) 8 7 := by
  unfold readSources
  rw [List.mem_map]
  refine ⟨fun ⟨i, hi, hk⟩ => ?_, fun ⟨h1, h2⟩ => ⟨k - bf (req m 1) 0 7, List.mem_range.mpr (by omega), by omega⟩⟩
  have hlt := List.mem_range.mp hi
  omega

theorem readSources_clear {d : Dev} (hlen : d.fault.esc.length = 128) (hmax : bf (req m 1) 0 7 + bf (req m 1) 8 7 ≤ 128) :
    Counting d (forEach (readSources m) faultClear d) ∧
    (∀ k ∈ readSources m, esc (forEach (readSources m) faultClear d) k = escRead k (esc d k)) ∧
    ∀ k, k ∉ readSources m → esc (forEach (readSources m) faultClear d) k = esc d k := by
  have hnd : (readSources m).Nodup := List.nodup_range.map (fun _ _ h => Nat.add_left_cancel h)
  have h := forEach_reads (key := fun k : Nat => k) (Inv := Counting d) (g := esc) (val := escRead) (readSources m)
    (fun k _ _ h => faultClear_counting k h)
    (fun k hk _ h => faultClear_self h (by
      have hr := readSources_mem.mp hk
      omega))
    (fun k _ x n _ hn => faultClear_ne x hn) (by rw [List.map_id']; exact hnd) d ⟨hlen, rfl⟩
  rw [List.map_id'] at h
  exact h

/-- FAULT_READ's part of the command. -/
def faultReadAns (m : Msg) (d : Dev) : Ans :=
  if !onlyBits 0x80007F7F (req m 1) || bf (req m 1) 8 7 = 0 || 128 < bf (req m 1) 0 7 + bf (req m 1) 8 7 then refuse stRANGE d
  else if bit (req m 1) 31 then
    okWith ((readSources m).map (faultWord d) ++ Word.of (d.eng.msgs.take (252 - bf (req m 1) 8 7)).length :: d.eng.msgs.take (252 - bf (req m 1) 8 7))
      { forEach (readSources m) faultClear d with
        eng := { (forEach (readSources m) faultClear d).eng with msgs := d.eng.msgs.drop (252 - bf (req m 1) 8 7) } }
  else okWith ((readSources m).map (faultWord d)) (forEach (readSources m) faultClear d)

theorem faultRead_runs : exec (.faultRead m) s = runDev s (runCmd ⟨0x59, lenIs 3, false, false, false⟩ m (faultReadAns m)) := rfl

theorem faultRead_range (hc : Calm s.toDev) (ht : takes s.toDev 0x59 false m = true) (hl : lenIs 3 m = true)
    (h : req m 1 &&& ~~~ 0x80007F7F ≠ 0 ∨ bf (req m 1) 8 7 = 0 ∨ 128 < bf (req m 1) 0 7 + bf (req m 1) 8 7) :
    Answers (.faultRead m) s (Replied 0x59 m stRANGE [] s.toDev) := by
  refine replied_refused (c := ⟨0x59, lenIs 3, false, false, false⟩) (f := faultReadAns m) faultRead_runs ht hc (admits_plain hl)
    (e := counted m s.toDev) ?_ (by decide)
  refine if_pos ?_
  rw [Bool.or_eq_true, Bool.or_eq_true, decide_eq_true_eq, decide_eq_true_eq, Bool.not_eq_true']
  rcases h with h | h | h
  · exact .inl (.inl (Bool.eq_false_iff.mpr fun hx => h ((onlyBits_iff _ _).mp hx)))
  · exact .inl (.inr h)
  · exact .inr h

/-- The messages that a FAULT_READ takes. -/
def readMsgs (m : Msg) (d : Dev) : List Word :=
  if bit (req m 1) 31 then Word.of (min d.eng.msgs.length (252 - bf (req m 1) 8 7)) :: d.eng.msgs.take (252 - bf (req m 1) 8 7) else []

theorem faultRead_done (hc : Calm s.toDev) (hlen : s.fault.esc.length = 128) (ht : takes s.toDev 0x59 false m = true) (hl : lenIs 3 m = true)
    (hw : req m 1 &&& ~~~ 0x80007F7F = 0) (h1 : 1 ≤ bf (req m 1) 8 7) (hmax : bf (req m 1) 0 7 + bf (req m 1) 8 7 ≤ 128) :
    Answers (.faultRead m) s (fun t =>
        t.cmd.cache.head? = some ⟨m.seq.toNat, 0x59, rspOf 0x59 m stOK
          ((List.range (bf (req m 1) 8 7)).map (fun i => faultWord s.toDev (bf (req m 1) 0 7 + i)) ++ readMsgs m s.toDev) s.toDev⟩ ∧
        t.eng.msgs = (if bit (req m 1) 31 then s.eng.msgs.drop (252 - bf (req m 1) 8 7) else s.eng.msgs) ∧
        (∀ i, i < bf (req m 1) 8 7 → if isInfo (bf (req m 1) 0 7 + i) then (esc t (bf (req m 1) 0 7 + i)).count = 0
          else (esc t (bf (req m 1) 0 7 + i)).lost = 0) ∧
        (∀ k, k < bf (req m 1) 0 7 ∨ bf (req m 1) 0 7 + bf (req m 1) 8 7 ≤ k → esc t k = esc s.toDev k)) := by
  have hbits : onlyBits 0x80007F7F (req m 1) = true := (onlyBits_iff _ _).mpr hw
  obtain ⟨⟨-, hcount⟩, hset, hkeep⟩ := readSources_clear (m := m) (d := counted m s.toDev) hlen hmax
  have hpass : ¬ (!onlyBits 0x80007F7F (req m 1) || decide (bf (req m 1) 8 7 = 0) ||
      decide (128 < bf (req m 1) 0 7 + bf (req m 1) 8 7)) = true := by
    rw [hbits, Bool.or_eq_true, Bool.or_eq_true, decide_eq_true_eq, decide_eq_true_eq]
    simp only [Bool.not_true, Bool.false_eq_true, false_or]
    omega
  have hwords : (readSources m).map (faultWord (counted m s.toDev)) =
      (List.range (bf (req m 1) 8 7)).map (fun i => faultWord s.toDev (bf (req m 1) 0 7 + i)) := by
    unfold readSources
    rw [List.map_map]
    rfl
  have hf : ∃ y, faultReadAns m (counted m s.toDev) = .done stOK
      ((List.range (bf (req m 1) 8 7)).map (fun i => faultWord s.toDev (bf (req m 1) 0 7 + i)) ++ readMsgs m s.toDev) y ∧
      y = { counted m s.toDev with
        fault := { s.fault with esc := (forEach (readSources m) faultClear (counted m s.toDev)).fault.esc }
        eng := { s.eng with msgs := if bit (req m 1) 31 then s.eng.msgs.drop (252 - bf (req m 1) 8 7) else s.eng.msgs } } := by
    unfold faultReadAns readMsgs
    rw [if_neg hpass, hwords]
    generalize forEach (readSources m) faultClear (counted m s.toDev) = x at hcount ⊢
    split
    · refine ⟨_, ?_, rfl⟩
      rw [List.length_take, Nat.min_comm]
      refine congrArg (Ans.done stOK _) ?_
      rw [hcount]
      rfl
    · refine ⟨_, ?_, rfl⟩
      rw [List.append_nil]
      refine congrArg (Ans.done stOK _) ?_
      rw [hcount]
      rfl
  obtain ⟨y, hdone, hy⟩ := hf
  have hcy : Calm y := by
    rw [hy]
    exact calm_of_eq (show Calm (counted m s.toDev) from hc) rfl rfl rfl rfl
  refine answers_mono (answers_done (c := ⟨0x59, lenIs 3, false, false, false⟩) (f := faultReadAns m) faultRead_runs ht hc (admits_plain hl) hdone
    hcy (by rw [hy]; exact id) (by rw [hy]; exact journalRoom_self s.toDev)) fun t h => ?_
  obtain ⟨-, -, -, hcache⟩ := answer_leaves h
  obtain ⟨-, hfault, -⟩ := answer_others h
  have heng := answer_eng h
  have hesc : ∀ k, esc t k = esc (forEach (readSources m) faultClear (counted m s.toDev)) k := fun k => by
    unfold esc
    rw [hfault, hy]
  refine ⟨?_, ?_, fun i hi => ?_, fun k hk => ?_⟩
  · have hrsp := rspOf_congr 0x59 m stOK ((List.range (bf (req m 1) 8 7)).map (fun i => faultWord s.toDev (bf (req m 1) 0 7 + i)) ++ readMsgs m s.toDev)
      (a := s.toDev) (b := y) (by rw [hy]; rfl) (by rw [hy]; rfl) (by rw [hy]; rfl)
    exact hcache.trans (congrArg (fun r => some (⟨m.seq.toNat, 0x59, r⟩ : Cached)) hrsp)
  · rw [heng, hy]
  · have hmem : bf (req m 1) 0 7 + i ∈ readSources m := readSources_mem.mpr (by omega)
    rw [hesc, hset _ hmem, escRead]
    split <;> rfl
  · rw [hesc, hkeep k (fun hmem => by
      have hr := readSources_mem.mp hmem
      omega)]
    rfl

end Reads

end Sys2Proof.Proofs
end

section
/-! PROOF. Lists of ordinary items that a command writes: their checks, what they leave, the counters of their sources
(14_aeddo_command_reference.md R428, R439, 15_faults_and_sluices.md R486). -/

namespace Sys2Proof.Proofs

open Sys2Proof Sys2Proof.Machine Sys2Proof.Safety Sys2Proof.Laws

/-! ## The item list -/

theorem akey_cfgIns_self (id : Nat) (v : Int) (l : List (Nat × Int)) : akey (cfgIns id v l) id = some v := by
  induction l with
  | nil => simp [cfgIns, akey]
  | cons e t ih =>
    unfold cfgIns
    split
    · simp [akey]
    · split
      · simp [akey]
      · next hne =>
        have hkey : (e.1 == id) = false := beq_false_of_ne (Ne.symm hne)
        unfold akey at ih ⊢
        rw [List.find?_cons, hkey]
        exact ih

theorem akey_cfgIns_ne {id j : Nat} (v : Int) (l : List (Nat × Int)) (h : j ≠ id) : akey (cfgIns id v l) j = akey l j := by
  have hj : (id == j) = false := beq_false_of_ne (Ne.symm h)
  induction l with
  | nil => simp [cfgIns, akey, hj]
  | cons e t ih =>
    unfold cfgIns
    split
    · simp [akey, hj]
    · split
      · next he => simp [akey, ← he, hj]
      · unfold akey at ih ⊢
        rw [List.find?_cons, List.find?_cons]
        split
        · rfl
        · exact ih

theorem item_setItem_self (id : Nat) (v : Int) (d : Dev) : item (setItem d id v) id = v := by
  unfold item setItem cfgGet cfgPut
  split
  · next hv =>
    have hnone : akey (d.cfg.filter (fun e => e.1 != id)) id = none := by
      unfold akey
      rw [List.find?_eq_none.mpr fun e he => by simpa using List.of_mem_filter he]
      rfl
    rw [hnone]
    exact hv.symm
  · rw [akey_cfgIns_self]
    rfl

theorem item_setItem_ne {id j : Nat} (v : Int) (d : Dev) (h : j ≠ id) : item (setItem d id v) j = item d j := by
  unfold item setItem cfgGet cfgPut
  refine congrArg (fun o => Option.getD o _) ?_
  split
  · have hset : d.cfg.filter (fun e => e.1 != id) ++ [(id, v)] = aset d.cfg id v := rfl
    have hother := akey_aset_ne d.cfg v h
    rw [← hset] at hother
    unfold akey at hother ⊢
    rw [← hother, List.find?_append]
    have hlast : [(id, v)].find? (fun e : Nat × Int => e.1 == j) = none := by simp [Ne.symm h]
    rw [hlast, Option.or_none]
  · exact akey_cfgIns_ne v d.cfg h

theorem item_jput (c : Ctx) (it : Nat) (old new : Word) (d : Dev) (id : Nat) : item (jput c it old new d) id = item d id := rfl

theorem item_putItem_self (c : Ctx) (id : Nat) (v : Int) (d : Dev) : item (putItem c id v d) id = v := by
  unfold putItem
  split
  · assumption
  · exact item_setItem_self id v _

theorem item_putItem_ne {id j : Nat} (c : Ctx) (v : Int) (d : Dev) (h : j ≠ id) : item (putItem c id v d) j = item d j := by
  unfold putItem
  split
  · rfl
  · exact item_setItem_ne v _ h

theorem putItem_fault (c : Ctx) (id : Nat) (v : Int) (d : Dev) : (putItem c id v d).fault = d.fault := by
  unfold putItem
  split <;> rfl

theorem putItem_entries (c : Ctx) (id : Nat) (v : Int) (d : Dev) : (putItem c id v d).jrn.q27.length ≤ d.jrn.q27.length + 1 := by
  unfold putItem
  split
  · omega
  · simp [jput]

theorem putItem_withCmd (k : Cmd) (c : Ctx) (id : Nat) (v : Int) (d : Dev) : putItem c id v (withCmd k d) = withCmd k (putItem c id v d) := by
  unfold putItem
  rw [show item (withCmd k d) id = item d id from rfl]
  split <;> rfl

/-! ## One ordinary item -/

/-- The items that FAULT_CFG and BIST_CFG write: the settings of the sources and of the self-test. -/
def Plainly (id : Nat) : Prop := (0x0800 ≤ id ∧ id ≤ 0x087F) ∨ (0x0901 ≤ id ∧ id ≤ 0x0903)

/-- The source whose setting the item is starts its counter again. -/
def recounted (id : Nat) (d : Dev) : Dev := if 0x0800 ≤ id ∧ id ≤ 0x087F then escWritten (id - 0x0800) d else d

/-- One of these items written. -/
def plainWrite (c : Ctx) (x : Word × Word) (d : Dev) : Dev :=
  putItem c x.1.toNat (storedValue x.1.toNat x.2) (recounted x.1.toNat d)

theorem writeEntry_plain {x : Word × Word} (c : Ctx) (h : Plainly x.1.toNat) (d : Dev) :
    writeEntry c x.1.toNat x.2 d = (plainWrite c x d, item d x.1.toNat != storedValue x.1.toNat x.2) := by
  unfold Plainly at h
  unfold writeEntry
  rw [if_neg (by omega), if_neg (by omega), if_neg (by omega), if_neg (by omega), if_neg (by omega), if_neg (by omega), if_neg (by omega)]
  rfl

theorem ownCheck_plain {id : Nat} (h : Plainly id) (d : Dev) (w : Word) : ownCheck d id w = none := by
  unfold Plainly at h
  unfold ownCheck
  rw [if_neg (by omega), if_neg (by omega), if_neg (by omega), if_neg (by omega), if_neg (by omega)]

/-- Such items have no effect beyond their value. -/
theorem itemEffects_plain {wr ch : List Nat} (o : Dev) (hwr : ∀ x ∈ wr, Plainly x) (hch : ∀ x ∈ ch, Plainly x) (d : Dev) :
    itemEffects o wr ch d = d := by
  have hno : ∀ l : List Nat, (∀ x ∈ l, ¬ Plainly x) → ch.any (fun x => l.contains x) = false := fun l hl =>
    List.any_eq_false.mpr fun x hx hmem => hl x (List.contains_iff_mem.mp hmem) (hch x hx)
  have hconv : ch.any (fun x => 0x0101 ≤ x && x ≤ 0x0149) = false := List.any_eq_false.mpr fun x hx hmem => by
    have hp := hch x hx
    unfold Plainly at hp
    simp only [Bool.and_eq_true, decide_eq_true_eq] at hmem
    omega
  have htime : wr.contains 0x0706 = false := Bool.eq_false_iff.mpr fun hmem => by
    have hp := hwr _ (List.contains_iff_mem.mp hmem)
    unfold Plainly at hp
    omega
  have h1 := hno [0x0101, 0x0301, 0x0302, 0x0307] (by simp [Plainly])
  have h2 := hno [0x0401, 0x0402] (by simp [Plainly])
  have h3 := hno [0x0601] (by simp [Plainly])
  have h4 := hno [0x0602] (by simp [Plainly])
  have h5 := hno [0x0608] (by simp [Plainly])
  have h6 := hno [0x0707] (by simp [Plainly])
  have h7 := hno [0x0A07] (by simp [Plainly])
  have h8 := hno [0x0B03] (by simp [Plainly])
  simp only [itemEffects, whenDo, hconv, htime, h1, h2, h3, h4, h5, h6, h7, h8, Bool.false_and, Bool.false_eq_true, if_false]

/-! ## The source of an item -/

/-- The counter of a source whose setting is written (R486). -/
def escAgain (k : Nat) (e : Esc) : Esc := if isInfo k then e else if e.state = 2 then e else { e with state := 0, count := 0 }

theorem escWritten_withCmd (c : Cmd) (k : Nat) (d : Dev) : escWritten k (withCmd c d) = withCmd c (escWritten k d) := by
  unfold escWritten
  split <;> rfl

theorem escWritten_length (k : Nat) (d : Dev) : (escWritten k d).fault.esc.length = d.fault.esc.length := by
  unfold escWritten
  split
  · rfl
  · exact List.length_modify _ _ _

theorem esc_escWritten_self {k : Nat} {d : Dev} (h : k < d.fault.esc.length) : esc (escWritten k d) k = escAgain k (esc d k) := by
  unfold escWritten escAgain
  split
  · rfl
  · exact esc_modEsc_self _ h

theorem esc_escWritten_ne {k j : Nat} (d : Dev) (h : j ≠ k) : esc (escWritten k d) j = esc d j := by
  unfold escWritten
  split
  · rfl
  · exact nth_modify_ne _ _ h

theorem escWritten_frame (k : Nat) (d : Dev) : escWritten k d = { d with fault := { d.fault with esc := (escWritten k d).fault.esc } } := by
  unfold escWritten
  split <;> rfl

theorem recounted_frame (id : Nat) (d : Dev) : recounted id d = { d with fault := { d.fault with esc := (recounted id d).fault.esc } } := by
  unfold recounted
  split
  · exact escWritten_frame _ d
  · rfl

theorem plainWrite_withCmd (k : Cmd) (c : Ctx) (x : Word × Word) (d : Dev) : plainWrite c x (withCmd k d) = withCmd k (plainWrite c x d) := by
  have hre : recounted x.1.toNat (withCmd k d) = withCmd k (recounted x.1.toNat d) := by
    unfold recounted
    split
    · exact escWritten_withCmd k _ d
    · rfl
  unfold plainWrite
  rw [hre, putItem_withCmd]

theorem plainWrite_frame (c : Ctx) (x : Word × Word) (d : Dev) : plainWrite c x d = { d with
    cfg := (plainWrite c x d).cfg, jrn := { d.jrn with q27 := (plainWrite c x d).jrn.q27 }
    fault := { d.fault with esc := (plainWrite c x d).fault.esc } } := by
  unfold plainWrite
  have hre := recounted_frame x.1.toNat d
  generalize recounted x.1.toNat d = y at *
  rw [hre]
  unfold putItem
  split <;> rfl

theorem plainWrite_entries (c : Ctx) (x : Word × Word) (d : Dev) : (plainWrite c x d).jrn.q27.length ≤ d.jrn.q27.length + 1 := by
  have h := putItem_entries c x.1.toNat (storedValue x.1.toNat x.2) (recounted x.1.toNat d)
  rwa [show (recounted x.1.toNat d).jrn = d.jrn by rw [recounted_frame]] at h

theorem item_plainWrite_self (c : Ctx) (x : Word × Word) (d : Dev) : item (plainWrite c x d) x.1.toNat = storedValue x.1.toNat x.2 :=
  item_putItem_self c _ _ _

theorem item_plainWrite_ne (c : Ctx) (x : Word × Word) (d : Dev) {j : Nat} (h : j ≠ x.1.toNat) : item (plainWrite c x d) j = item d j := by
  unfold plainWrite
  rw [item_putItem_ne c _ _ h, recounted_frame]
  rfl

theorem esc_plainWrite_self (c : Ctx) (x : Word × Word) {d : Dev} (hlen : d.fault.esc.length = 128)
    (h : 0x0800 ≤ x.1.toNat ∧ x.1.toNat ≤ 0x087F) :
    esc (plainWrite c x d) (x.1.toNat - 0x0800) = escAgain (x.1.toNat - 0x0800) (esc d (x.1.toNat - 0x0800)) := by
  rw [plainWrite, esc, putItem_fault, recounted, if_pos h]
  exact esc_escWritten_self (by omega)

theorem esc_plainWrite_ne (c : Ctx) (x : Word × Word) (d : Dev) {k : Nat} (h : x.1.toNat ≠ 0x0800 + k) : esc (plainWrite c x d) k = esc d k := by
  rw [plainWrite, esc, putItem_fault, recounted]
  split
  · exact esc_escWritten_ne d (by omega)
  · rfl

theorem esc_plainWrite_length (c : Ctx) (x : Word × Word) (d : Dev) : (plainWrite c x d).fault.esc.length = d.fault.esc.length := by
  rw [plainWrite, putItem_fault, recounted]
  split
  · exact escWritten_length _ d
  · rfl

end Sys2Proof.Proofs
end

section
/-! PROOF. A command that writes such items writes all of them or none (14_aeddo_command_reference.md R428, R439). -/

namespace Sys2Proof.Proofs

open Sys2Proof Sys2Proof.Machine Sys2Proof.Safety Sys2Proof.Laws

/-! ## Checks that fail have a status -/

theorem firstFail_code {l : List (Bool × Status)} {st : Status} (hl : ∀ x ∈ l, x.2.code ≠ 0) (h : firstFail l = some st) : st.code ≠ 0 := by
  induction l with
  | nil => exact nomatch h
  | cons x t ih =>
    unfold firstFail at h
    split at h
    · cases h
      exact hl x List.mem_cons_self
    · exact ih (fun y hy => hl y (List.mem_cons_of_mem _ hy)) h

theorem entryCheck_code {d : Dev} {seen : List Nat} {idw w : Word} {st : Status} (hp : Plainly idw.toNat)
    (h : entryCheck d seen idw w = some st) : st.code ≠ 0 := by
  unfold entryCheck at h
  dsimp only at h
  split at h
  · cases h
    decide
  · split at h
    · next hff =>
      cases h
      exact firstFail_code (by simp [stABSENT, stSTATE, stRANGE, stAUTH, Machine.st]) hff
    · rw [ownCheck_plain hp] at h
      exact nomatch h

theorem entryCheck_fresh {d : Dev} {seen : List Nat} {idw w : Word} (h : entryCheck d seen idw w = none) : idw.toNat ∉ seen := by
  unfold entryCheck at h
  dsimp only at h
  split at h
  · exact nomatch h
  · split at h
    · exact nomatch h
    · next hff =>
      intro hmem
      simp only [firstFail, List.contains_iff_mem.mpr hmem, Bool.or_true, if_true] at hff
      split_ifs at hff

theorem jointCheck_code {d e : Dev} {st : Status} (h : jointCheck d e = some st) : st.code ≠ 0 :=
  firstFail_code (by simp [stRANGE, stSTATE, stCONFLICT, Machine.st]) h

theorem pinConflict_code {d : Dev} {l : List (Nat × Word)} {st : Status} (h : pinConflict d l = some st) : st.code ≠ 0 :=
  firstFail_code (fun x hx => by
    obtain ⟨y, -, rfl⟩ := List.mem_map.mp hx
    simp [stCONFLICT]) h

/-! ## Checks do not read the commands -/

section Cmd

variable (k : Cmd)

theorem entryCheck_withCmd (d : Dev) (seen : List Nat) (idw w : Word) : entryCheck (withCmd k d) seen idw w = entryCheck d seen idw w := rfl

theorem jointCheck_withCmd (d e : Dev) : jointCheck (withCmd k d) (withCmd k e) = jointCheck d e := rfl

theorem pinConflict_withCmd (d : Dev) (l : List (Nat × Word)) : pinConflict (withCmd k d) l = pinConflict d l := rfl

theorem tryEntry_withCmd (id : Nat) (w : Word) (d : Dev) : tryEntry id w (withCmd k d) = withCmd k (tryEntry id w d) := by
  unfold tryEntry
  split
  · rfl
  · split
    · rfl
    · split
      · split <;> rfl
      · rfl

theorem listCheck_withCmd {l : List (Word × Word)} (hp : ∀ x ∈ l, Plainly x.1.toNat) (i : Nat) (seen : List Nat) (e : Dev) (ps : Progs) :
    listCheck l i seen (withCmd k e) ps = (listCheck l i seen e ps).map (fun y => (withCmd k y.1, y.2)) := by
  induction l generalizing i seen e ps with
  | nil => rfl
  | cons x t ih =>
    have hx : ¬ (x.1.toNat = 0x0B19 ∨ x.1.toNat = 0x0B29) := by
      have h := hp x List.mem_cons_self
      unfold Plainly at h
      omega
    unfold listCheck
    rw [entryCheck_withCmd]
    split
    · rfl
    · dsimp only
      rw [if_neg hx, if_neg hx, tryEntry_withCmd]
      exact ih (fun y hy => hp y (List.mem_cons_of_mem _ hy)) _ _ _ _

end Cmd

theorem listCheck_code {l : List (Word × Word)} (hp : ∀ x ∈ l, Plainly x.1.toNat) {i : Nat} {seen : List Nat} {e : Dev} {ps : Progs}
    {st : Status × Nat × Nat} (h : listCheck l i seen e ps = .error st) : st.1.code ≠ 0 := by
  induction l generalizing i seen e ps with
  | nil => exact nomatch h
  | cons x t ih =>
    unfold listCheck at h
    split at h
    · next hcheck =>
      cases h
      exact entryCheck_code (hp x List.mem_cons_self) hcheck
    · exact ih (fun y hy => hp y (List.mem_cons_of_mem _ hy)) h

/-- A list that passes programs nothing and names each item once. -/
theorem listCheck_passed {l : List (Word × Word)} (hp : ∀ x ∈ l, Plainly x.1.toNat) {i : Nat} {seen : List Nat} {e : Dev} {ps : Progs}
    {y : Dev × Progs} (h : listCheck l i seen e ps = .ok y) :
    y.2 = ps ∧ (l.map (fun x => x.1.toNat)).Nodup ∧ ∀ x ∈ l, x.1.toNat ∉ seen := by
  induction l generalizing i seen e ps with
  | nil =>
    cases h
    exact ⟨rfl, List.nodup_nil, fun x hx => absurd hx List.not_mem_nil⟩
  | cons x t ih =>
    have hx : ¬ (x.1.toNat = 0x0B19 ∨ x.1.toNat = 0x0B29) := by
      have h := hp x List.mem_cons_self
      unfold Plainly at h
      omega
    unfold listCheck at h
    split at h
    · exact nomatch h
    · next hcheck =>
      dsimp only at h
      rw [if_neg hx] at h
      obtain ⟨hps, hnd, hseen⟩ := ih (fun y hy => hp y (List.mem_cons_of_mem _ hy)) h
      refine ⟨hps, ?_, fun z hz => ?_⟩
      · rw [List.map_cons, List.nodup_cons]
        refine ⟨fun hmem => ?_, hnd⟩
        obtain ⟨z, hz, hzx⟩ := List.mem_map.mp hmem
        exact hseen z hz (hzx ▸ List.mem_cons_self)
      · rcases List.mem_cons.mp hz with rfl | hz
        · exact entryCheck_fresh hcheck
        · exact fun hmem => hseen z hz (List.mem_cons_of_mem _ hmem)

/-! ## The writes -/

/-- One entry of a list written, with the items changed so far. -/
def fileEntry (c : Ctx) (acc : Dev × List Nat) (x : Nat × Word) : Dev × List Nat :=
  let y := writeEntry c x.1 x.2 acc.1
  (y.1, if y.2 then acc.2 ++ [x.1] else acc.2)

/-- What writing a list of such items leaves. -/
def plainWrites (c : Ctx) (l : List (Word × Word)) (d : Dev) : Dev := forEach l (plainWrite c) d

theorem fileEntries_plain (k : Cmd) (c : Ctx) {l : List (Word × Word)} (hp : ∀ x ∈ l, Plainly x.1.toNat) (d : Dev) (ch : List Nat)
    (hch : ∀ x ∈ ch, Plainly x) : ∃ ch' : List Nat, (∀ x ∈ ch', Plainly x) ∧
      (l.map (fun x => (x.1.toNat, x.2))).foldl (fileEntry c) (d, ch) = (plainWrites c l d, ch') ∧
      (l.map (fun x => (x.1.toNat, x.2))).foldl (fileEntry c) (withCmd k d, ch) = (withCmd k (plainWrites c l d), ch') := by
  induction l generalizing d ch with
  | nil => exact ⟨ch, hch, rfl, rfl⟩
  | cons x t ih =>
    have hx := hp x List.mem_cons_self
    have hstep : ∀ d, fileEntry c (d, ch) (x.1.toNat, x.2) =
        (plainWrite c x d, if item d x.1.toNat != storedValue x.1.toNat x.2 then ch ++ [x.1.toNat] else ch) := fun d => by
      unfold fileEntry
      dsimp only
      rw [writeEntry_plain c hx]
    obtain ⟨ch', hplain, h, hk⟩ := ih (fun y hy => hp y (List.mem_cons_of_mem _ hy)) (plainWrite c x d)
      (if item d x.1.toNat != storedValue x.1.toNat x.2 then ch ++ [x.1.toNat] else ch) (by
        split
        · intro y hy
          rcases List.mem_append.mp hy with hy | hy
          · exact hch y hy
          · rw [List.mem_singleton.mp hy]
            exact hx
        · exact hch)
    refine ⟨ch', hplain, ?_, ?_⟩
    · rw [List.map_cons, List.foldl_cons, hstep]
      exact h
    · rw [List.map_cons, List.foldl_cons, hstep, plainWrite_withCmd]
      exact hk

/-- How a list ends whose checks pass and that programs nothing. -/
def setResult (o : Dev) (ids : List (Nat × Word)) (r : Dev × List Nat) : SetResult :=
  ⟨stOK, 0xFF, 0, r.2.length, itemEffects o (ids.map (fun x => x.1)) r.2 r.1, false⟩

theorem setItems_error (c : Ctx) {l : List (Word × Word)} {d : Dev} {st : Status × Nat × Nat} (h : listCheck l 1 [] d [] = .error st) :
    setItems c l d = ⟨st.1, st.2.1, st.2.2, 0, d, false⟩ := by
  unfold setItems
  rw [h]

theorem setItems_joint (c : Ctx) {l : List (Word × Word)} {d e : Dev} {ps : Progs} {st : Status} (h : listCheck l 1 [] d [] = .ok (e, ps))
    (hj : jointCheck d e = some st) : setItems c l d = ⟨st, 0xFF, 0, 0, d, false⟩ := by
  unfold setItems
  rw [h]
  dsimp only
  rw [hj]

theorem setItems_pin (c : Ctx) {l : List (Word × Word)} {d e : Dev} {ps : Progs} {st : Status} (h : listCheck l 1 [] d [] = .ok (e, ps))
    (hj : jointCheck d e = none) (hp : pinConflict d (l.map (fun x => (x.1.toNat, x.2))) = some st) :
    setItems c l d = ⟨st, 0xFF, 0, 0, d, false⟩ := by
  unfold setItems
  rw [h]
  dsimp only
  rw [hj, hp]

theorem setItems_passed (c : Ctx) {l : List (Word × Word)} {d e : Dev} (h : listCheck l 1 [] d [] = .ok (e, []))
    (hj : jointCheck d e = none) (hp : pinConflict d (l.map (fun x => (x.1.toNat, x.2))) = none) :
    setItems c l d = setResult d (l.map (fun x => (x.1.toNat, x.2))) ((l.map (fun x => (x.1.toNat, x.2))).foldl (fileEntry c) (d, [])) := by
  unfold setItems
  rw [h]
  dsimp only
  rw [hj, hp]
  rfl

theorem setResult_plain (o : Dev) {l : List (Word × Word)} (hp : ∀ x ∈ l, Plainly x.1.toNat) {ch : List Nat} (hch : ∀ x ∈ ch, Plainly x)
    (y : Dev) : setResult o (l.map (fun x => (x.1.toNat, x.2))) (y, ch) = ⟨stOK, 0xFF, 0, ch.length, y, false⟩ := by
  unfold setResult
  rw [itemEffects_plain o (fun x hx => ?_) hch]
  rw [List.map_map] at hx
  obtain ⟨z, hz, rfl⟩ := List.mem_map.mp hx
  exact hp z hz

/-- A list of such items is refused as a whole or written as a whole, whatever command is in hand. -/
theorem setItems_plain (k : Cmd) (c : Ctx) {l : List (Word × Word)} (hp : ∀ x ∈ l, Plainly x.1.toNat) (d : Dev) :
    ((setItems c l d).st.code ≠ 0 ∧ (setItems c l d).forced = false ∧
      setItems c l (withCmd k d) = { setItems c l d with dev := withCmd k d }) ∨
    ((l.map (fun x => x.1.toNat)).Nodup ∧ ∃ n, setItems c l d = ⟨stOK, 0xFF, 0, n, plainWrites c l d, false⟩ ∧
      setItems c l (withCmd k d) = ⟨stOK, 0xFF, 0, n, withCmd k (plainWrites c l d), false⟩) := by
  have hcmd := listCheck_withCmd k hp 1 [] d []
  cases hcheck : listCheck l 1 [] d [] with
  | error st =>
    rw [hcheck] at hcmd
    rw [setItems_error c hcheck, setItems_error c hcmd]
    exact .inl ⟨listCheck_code hp hcheck, rfl, rfl⟩
  | ok y =>
    obtain ⟨e, ps⟩ := y
    obtain ⟨hps, hnd, -⟩ := listCheck_passed hp hcheck
    cases hps
    rw [hcheck] at hcmd
    have hjk := jointCheck_withCmd k d e
    have hpk := pinConflict_withCmd k d (l.map (fun x => (x.1.toNat, x.2)))
    cases hjoint : jointCheck d e with
    | some st =>
      rw [setItems_joint c hcheck hjoint, setItems_joint c hcmd (hjk.trans hjoint)]
      exact .inl ⟨jointCheck_code hjoint, rfl, rfl⟩
    | none =>
      cases hpin : pinConflict d (l.map (fun x => (x.1.toNat, x.2))) with
      | some st =>
        rw [setItems_pin c hcheck hjoint hpin, setItems_pin c hcmd (hjk.trans hjoint) (hpk.trans hpin)]
        exact .inl ⟨pinConflict_code hpin, rfl, rfl⟩
      | none =>
        obtain ⟨ch, hch, h, hk⟩ := fileEntries_plain k c hp d [] (fun x hx => absurd hx List.not_mem_nil)
        rw [setItems_passed c hcheck hjoint hpin, setItems_passed c hcmd (hjk.trans hjoint) (hpk.trans hpin), h, hk,
          setResult_plain d hp hch, setResult_plain (withCmd k d) hp hch]
        exact .inr ⟨hnd, ch.length, rfl, rfl⟩

/-! ## What the writes leave -/

theorem plainWrites_withCmd (k : Cmd) (c : Ctx) (l : List (Word × Word)) (d : Dev) :
    plainWrites c l (withCmd k d) = withCmd k (plainWrites c l d) := by
  induction l generalizing d with
  | nil => rfl
  | cons x t ih =>
    rw [show plainWrites c (x :: t) (withCmd k d) = plainWrites c t (plainWrite c x (withCmd k d)) from rfl, plainWrite_withCmd]
    exact ih _

theorem plainWrites_frame (c : Ctx) (l : List (Word × Word)) (d : Dev) : plainWrites c l d = { d with
    cfg := (plainWrites c l d).cfg, jrn := { d.jrn with q27 := (plainWrites c l d).jrn.q27 }
    fault := { d.fault with esc := (plainWrites c l d).fault.esc } } := by
  induction l generalizing d with
  | nil => rfl
  | cons x t ih =>
    have hx := plainWrite_frame c x d
    have ht := ih (plainWrite c x d)
    rw [show plainWrites c (x :: t) d = plainWrites c t (plainWrite c x d) from rfl]
    generalize plainWrites c t (plainWrite c x d) = y at *
    generalize plainWrite c x d = z at *
    rw [ht, hx]

theorem plainWrites_entries (c : Ctx) (l : List (Word × Word)) (d : Dev) :
    (plainWrites c l d).jrn.q27.length ≤ d.jrn.q27.length + l.length :=
  forEach_entries (plainWrite_entries c) l d

theorem item_plainWrites (c : Ctx) {l : List (Word × Word)} (hnd : (l.map (fun x => x.1.toNat)).Nodup) (d : Dev) :
    ∀ x ∈ l, item (plainWrites c l d) x.1.toNat = storedValue x.1.toNat x.2 :=
  (forEach_reads (step := plainWrite c) (key := fun x => x.1.toNat) (Inv := fun _ => True) (g := item) (val := fun x _ => storedValue x.1.toNat x.2)
    l (fun _ _ _ _ => trivial) (fun x _ d _ => item_plainWrite_self c x d) (fun x _ d _ _ hne => item_plainWrite_ne c x d hne) hnd d trivial).2.1

/-- Writing the settings of sources starts their counters again, and no other's. -/
theorem escs_plainWrites (c : Ctx) {l : List (Word × Word)} (hl : ∀ x ∈ l, 0x0800 ≤ x.1.toNat ∧ x.1.toNat ≤ 0x087F)
    (hnd : (l.map (fun x => x.1.toNat)).Nodup) (d : Dev) (hlen : d.fault.esc.length = 128) :
    (plainWrites c l d).fault.esc.length = 128 ∧
    (∀ x ∈ l, esc (plainWrites c l d) (x.1.toNat - 0x0800) = escAgain (x.1.toNat - 0x0800) (esc d (x.1.toNat - 0x0800))) ∧
    ∀ k, (∀ x ∈ l, x.1.toNat ≠ 0x0800 + k) → esc (plainWrites c l d) k = esc d k := by
  have hkeys : (l.map (fun x => x.1.toNat - 0x0800)).Nodup := by
    rw [show l.map (fun x => x.1.toNat - 0x0800) = (l.map (fun x => x.1.toNat)).map (· - 0x0800) by rw [List.map_map]; rfl]
    refine List.Nodup.map_on (fun a ha b hb hab => ?_) hnd
    obtain ⟨x, hx, rfl⟩ := List.mem_map.mp ha
    obtain ⟨y, hy, rfl⟩ := List.mem_map.mp hb
    have hxr := hl x hx
    have hyr := hl y hy
    omega
  obtain ⟨hinv, hset, hkeep⟩ := forEach_reads (step := plainWrite c) (key := fun x => x.1.toNat - 0x0800)
    (Inv := fun y => y.fault.esc.length = 128) (g := esc) (val := fun x => escAgain (x.1.toNat - 0x0800)) l
    (fun x _ y hy => (esc_plainWrite_length c x y).trans hy) (fun x hx y hy => esc_plainWrite_self c x hy (hl x hx))
    (fun x hx y n _ hne => esc_plainWrite_ne c x y (by
      have hxr := hl x hx
      omega)) hkeys d hlen
  refine ⟨hinv, hset, fun k hk => hkeep k fun hmem => ?_⟩
  obtain ⟨x, hx, hxk⟩ := List.mem_map.mp hmem
  have hxr := hl x hx
  exact hk x hx (by omega)

end Sys2Proof.Proofs
end

section
/-! PROOF. FAULT_CFG and BIST_CFG (14_aeddo_command_reference.md R467, R470, 15_faults_and_sluices.md R479, R486,
16_periodic_self_test.md R507). -/

namespace Sys2Proof.Proofs

open Sys2Proof Sys2Proof.Machine Sys2Proof.Safety Sys2Proof.Laws

theorem item_of_beside {a t : Dev} (h : Beside a t) (id : Nat) : item t id = item a id := by
  unfold item
  rw [part_of_beside h, cfg_of_beside h]

/-! ## FCOPY -/

section Copy

variable {m : Msg}

theorem gpioReleases_withCmd (k : Cmd) (fn : Nat) (l : List Nat) (d : Dev) :
    l.foldl (fun d p => gpioRelease fn p d) (withCmd k d) = withCmd k (l.foldl (fun d p => gpioRelease fn p d) d) := by
  induction l generalizing d with
  | nil => rfl
  | cons pin t ih =>
    have hone : gpioRelease fn pin (withCmd k d) = withCmd k (gpioRelease fn pin d) := by
      unfold gpioRelease
      rw [show gpioHolder (withCmd k d) pin = gpioHolder d pin from rfl]
      split <;> rfl
    rw [List.foldl_cons, List.foldl_cons, hone]
    exact ih _

theorem gpioReleaseFn_withCmd (k : Cmd) (fn : Nat) (d : Dev) : gpioReleaseFn fn (withCmd k d) = withCmd k (gpioReleaseFn fn d) :=
  gpioReleases_withCmd k fn [1, 2, 3, 4] d

theorem gpioClaim_withCmd (k : Cmd) (fn pin : Nat) (d : Dev) : gpioClaim fn pin (withCmd k d) = withCmd k (gpioClaim fn pin d) := rfl

theorem fcopyDo_withCmd (k : Cmd) (d : Dev) : fcopyDo m (withCmd k d) = withCmd k (fcopyDo m d) := by
  unfold fcopyDo
  split
  · rfl
  · exact gpioReleaseFn_withCmd k 5 d
  · rw [show gpioHolder (withCmd k d) (fcopyPin m) = gpioHolder d (fcopyPin m) from rfl, gpioReleaseFn_withCmd,
      gpioClaim_withCmd]
    split <;> rfl

theorem gpioClaim_pins (fn pin : Nat) (d : Dev) : PinWrite d (gpioClaim fn pin d) := rfl

theorem gpioReleaseFn_pins (fn : Nat) (d : Dev) : PinWrite d (gpioReleaseFn fn d) := gpioReleases_pins fn [1, 2, 3, 4] d

theorem item_of_pinWrite {a b : Dev} (h : PinWrite a b) (id : Nat) : item b id = item a id := by
  unfold item
  rw [h]

theorem fcopyDo_pins (d : Dev) : PinWrite d (fcopyDo m d) := by
  unfold fcopyDo
  split
  · rfl
  · exact gpioReleaseFn_pins 5 d
  · split
    · rfl
    · exact pinWrite_trans (gpioReleaseFn_pins 5 d) (gpioClaim_pins 5 (fcopyPin m) _)

end Copy

section Config

variable {s : State} {m : Msg}

/-! ## FAULT_CFG -/

theorem escList_sources {x : Word × Word} (hx : x ∈ escList m) : 0x0800 ≤ x.1.toNat ∧ x.1.toNat ≤ 0x087F := by
  obtain ⟨j, -, rfl⟩ := List.mem_map.mp hx
  have hbf : bf (req m (2 + 2 * j)) 24 7 < 2 ^ 7 := Nat.mod_lt _ (by decide)
  have hval : (Word.of (0x0800 + bf (req m (2 + 2 * j)) 24 7)).toNat = 0x0800 + bf (req m (2 + 2 * j)) 24 7 :=
    Nat.mod_eq_of_lt (by omega)
  show 0x0800 ≤ (Word.of (0x0800 + bf (req m (2 + 2 * j)) 24 7)).toNat ∧ (Word.of (0x0800 + bf (req m (2 + 2 * j)) 24 7)).toNat ≤ 0x087F
  omega

theorem escList_plain : ∀ x ∈ escList m, Plainly x.1.toNat := fun _ hx => .inl (escList_sources hx)

theorem escList_length : (escList m).length = bf (req m 1) 0 8 := by
  unfold escList
  rw [List.length_map, List.length_range]
  rfl

/-- FAULT_CFG and the length of its message. -/
def faultCfgCmd : Cmd0 := ⟨0x58, fun m => lenIs (3 + 2 * escEntries m) m, true, false, false⟩

/-- The first checks of FAULT_CFG. -/
def faultCfgChecks (m : Msg) (d : Dev) : Option Status :=
  firstFail [((escList m).any (fun e => srcAbsent d.part (e.1.toNat - 0x0800)), stABSENT),
    (!onlyBits 0x3FF (req m 1) || decide (126 < escEntries m) || escReserved m, stRANGE)]

/-- FAULT_CFG's part of the command. -/
def faultCfgAns (m : Msg) (d : Dev) : Ans :=
  match faultCfgChecks m d with
  | some e => refuse e d
  | none =>
    let r := setItems (msgCtx d 0x58 m) (escList m) d
    if r.st.code != 0 then refuse r.st d
    else match fcopyCheck d m with
      | some e => refuse e d
      | none => okWith [Word.of r.changed] (fcopyDo m r.dev)

theorem faultCfg_runs : exec (.faultCfg m) s = runDev s (runCmd faultCfgCmd m (faultCfgAns m)) := rfl

theorem faultCfg_len (hl : m.body.length = 1 + 2 * bf (req m 1) 0 8) : faultCfgCmd.lenOk m = true := by
  show (m.body.length + 2 == 3 + 2 * bf (req m 1) 0 8) = true
  rw [hl, beq_iff_eq]
  omega

/-- What FAULT_CFG writes. -/
def faultCfgSet (m : Msg) (d : Dev) : SetResult := setItems (cmdCtx d 0x58 m.seq.toNat) (escList m) d

variable (hc : Calm s.toDev) (ht : takes s.toDev 0x58 true m = true) (hl : m.body.length = 1 + 2 * bf (req m 1) 0 8)

include hc ht hl

theorem faultCfg_refused {st : Status} (hf : faultCfgAns m (counted m s.toDev) = refuse st (counted m s.toDev)) (hst : st.code ≠ 0) :
    Answers (.faultCfg m) s (Replied 0x58 m st [] s.toDev) :=
  replied_refused (c := faultCfgCmd) (f := faultCfgAns m) faultCfg_runs ht hc (admits_plain (faultCfg_len hl)) hf hst

theorem faultCfg_checked {st : Status} (h : faultCfgChecks m s.toDev = some st) (hst : st.code ≠ 0) :
    Answers (.faultCfg m) s (Replied 0x58 m st [] s.toDev) := by
  refine faultCfg_refused hc ht hl ?_ hst
  unfold faultCfgAns
  rw [show faultCfgChecks m (counted m s.toDev) = faultCfgChecks m s.toDev from rfl, h]

theorem faultCfg_absent (ha : (escList m).any (fun x => srcAbsent s.part (x.1.toNat - 0x0800)) = true) :
    Answers (.faultCfg m) s (Replied 0x58 m stABSENT [] s.toDev) := by
  refine faultCfg_checked hc ht hl ?_ (by decide)
  exact if_pos ha

theorem faultCfg_range (ha : (escList m).any (fun x => srcAbsent s.part (x.1.toNat - 0x0800)) = false)
    (h : req m 1 &&& ~~~ 0x3FF ≠ 0 ∨ 126 < bf (req m 1) 0 8 ∨ escReserved m = true) :
    Answers (.faultCfg m) s (Replied 0x58 m stRANGE [] s.toDev) := by
  refine faultCfg_checked hc ht hl ?_ (by decide)
  have hbad : (!onlyBits 0x3FF (req m 1) || decide (126 < escEntries m) || escReserved m) = true := by
    rw [Bool.or_eq_true, Bool.or_eq_true, Bool.not_eq_true', decide_eq_true_eq]
    rcases h with h | h | h
    · exact .inl (.inl (Bool.eq_false_iff.mpr fun hb => h ((onlyBits_iff _ _).mp hb)))
    · exact .inl (.inr h)
    · exact .inr h
  unfold faultCfgChecks firstFail
  rw [if_neg (Bool.eq_false_iff.mp ha)]
  exact if_pos hbad

omit hc ht hl in
theorem faultCfg_passes (ha : (escList m).any (fun x => srcAbsent s.part (x.1.toNat - 0x0800)) = false) (hw : req m 1 &&& ~~~ 0x3FF = 0)
    (hn : bf (req m 1) 0 8 ≤ 126) (hr : escReserved m = false) : faultCfgChecks m (counted m s.toDev) = none := by
  have hgood : (!onlyBits 0x3FF (req m 1) || decide (126 < escEntries m) || escReserved m) = false := by
    rw [(onlyBits_iff _ _).mpr hw, hr, decide_eq_false (show ¬ 126 < escEntries m from Nat.not_lt.mpr hn)]
    rfl
  unfold faultCfgChecks firstFail
  refine (if_neg (Bool.eq_false_iff.mp ha)).trans ?_
  unfold firstFail
  exact if_neg (Bool.eq_false_iff.mp hgood)

section Passed

variable (hpass : faultCfgChecks m (counted m s.toDev) = none)

include hpass

/-- FAULT_CFG whose items do not pass. -/
theorem faultCfg_items (hst : (faultCfgSet m s.toDev).st.code ≠ 0) :
    Answers (.faultCfg m) s (Replied 0x58 m (faultCfgSet m s.toDev).st [] s.toDev) := by
  refine faultCfg_refused hc ht hl ?_ hst
  rcases setItems_plain (counted m s.toDev).cmd (cmdCtx s.toDev 0x58 m.seq.toNat) escList_plain s.toDev with ⟨-, -, hk⟩ | ⟨-, n, h, -⟩
  · have hset : setItems (msgCtx (counted m s.toDev) 0x58 m) (escList m) (counted m s.toDev) =
        { faultCfgSet m s.toDev with dev := counted m s.toDev } := hk
    unfold faultCfgAns
    rw [hpass]
    dsimp only
    rw [hset]
    exact if_pos (bne_iff_ne.mpr hst)
  · exact absurd (by rw [faultCfgSet, h]; rfl) hst

variable (hok : (faultCfgSet m s.toDev).st.code = 0)

include hok

omit hc ht hl hpass in
/-- Items that pass are written as a whole. -/
theorem faultCfgSet_passed : ((escList m).map (fun x => x.1.toNat)).Nodup ∧
    (faultCfgSet m s.toDev).dev = plainWrites (cmdCtx s.toDev 0x58 m.seq.toNat) (escList m) s.toDev ∧
    setItems (msgCtx (counted m s.toDev) 0x58 m) (escList m) (counted m s.toDev) =
      { faultCfgSet m s.toDev with dev := withCmd (counted m s.toDev).cmd (faultCfgSet m s.toDev).dev } := by
  rcases setItems_plain (counted m s.toDev).cmd (cmdCtx s.toDev 0x58 m.seq.toNat) escList_plain s.toDev with ⟨hst, -, -⟩ | ⟨hnd, n, h, hk⟩
  · exact absurd hok hst
  · have hset : faultCfgSet m s.toDev = ⟨stOK, 0xFF, 0, n, plainWrites (cmdCtx s.toDev 0x58 m.seq.toNat) (escList m) s.toDev, false⟩ := h
    rw [hset]
    exact ⟨hnd, rfl, hk⟩

theorem faultCfg_pin {st : Status} (hpin : fcopyCheck s.toDev m = some st) (hst : st.code ≠ 0) :
    Answers (.faultCfg m) s (Replied 0x58 m st [] s.toDev) := by
  refine faultCfg_refused hc ht hl ?_ hst
  obtain ⟨-, -, hset⟩ := faultCfgSet_passed hok
  unfold faultCfgAns
  rw [hpass]
  dsimp only
  rw [hset, show fcopyCheck (counted m s.toDev) m = fcopyCheck s.toDev m from rfl, hpin]
  exact if_neg (by rw [hok]; decide)

theorem faultCfg_replies (hj : JournalFree s.toDev) (hn : bf (req m 1) 0 8 ≤ 126) (hpin : fcopyCheck s.toDev m = none) :
    Answers (.faultCfg m) s (Replied 0x58 m stOK [Word.of (faultCfgSet m s.toDev).changed] (fcopyDo m (faultCfgSet m s.toDev).dev)) := by
  obtain ⟨-, hdev, hset⟩ := faultCfgSet_passed hok
  have hframe := plainWrites_frame (cmdCtx s.toDev 0x58 m.seq.toNat) (escList m) s.toDev
  have hentries := plainWrites_entries (cmdCtx s.toDev 0x58 m.seq.toNat) (escList m) s.toDev
  rw [escList_length] at hentries
  rw [← hdev] at hframe hentries
  have hf : faultCfgAns m (counted m s.toDev) = .done stOK [Word.of (faultCfgSet m s.toDev).changed]
      (fcopyDo m (withCmd (counted m s.toDev).cmd (faultCfgSet m s.toDev).dev)) := by
    unfold faultCfgAns
    rw [hpass]
    dsimp only
    rw [hset, show fcopyCheck (counted m s.toDev) m = fcopyCheck s.toDev m from rfl, hpin]
    exact if_neg (by rw [hok]; decide)
  generalize (faultCfgSet m s.toDev).dev = y at hframe hentries hf ⊢
  have hpins := fcopyDo_pins (m := m) y
  rw [fcopyDo_withCmd] at hf
  have hcmd : (fcopyDo m y).cmd = s.cmd := by rw [hpins, hframe]
  have hcount : withCmd (counted m s.toDev).cmd (fcopyDo m y) = counted m (fcopyDo m y) := by
    unfold withCmd counted
    rw [hcmd]
  rw [hcount] at hf
  refine replied_ok (c := faultCfgCmd) (f := faultCfgAns m) faultCfg_runs ht hc (admits_plain (faultCfg_len hl)) hf ?_ ?_ ?_
  · generalize fcopyDo m y = z at *
    refine calm_of_eq hc hcmd ?_ ?_ ?_
    · rw [hpins, hframe]
    · rw [hpins, hframe]
    · rw [hpins, hframe]
  · rw [hpins, hframe]
    exact id
  · refine journalRoom_free hj ?_
    rw [show (fcopyDo m y).jrn = y.jrn by rw [hpins]]
    omega

theorem faultCfg_done (hj : JournalFree s.toDev) (hlen : s.fault.esc.length = 128) (hn : bf (req m 1) 0 8 ≤ 126)
    (hpin : fcopyCheck s.toDev m = none) : Answers (.faultCfg m) s (fun t =>
      Replied 0x58 m stOK [Word.of (faultCfgSet m s.toDev).changed] (fcopyDo m (faultCfgSet m s.toDev).dev) t ∧
      (∀ x ∈ escList m, item t x.1.toNat = storedValue x.1.toNat x.2 ∧ (isInfo (x.1.toNat - 0x0800) = false →
        (esc s.toDev (x.1.toNat - 0x0800)).state ≠ 2 →
          (esc t (x.1.toNat - 0x0800)).state = 0 ∧ (esc t (x.1.toNat - 0x0800)).count = 0)) ∧
      (∀ k, k < 128 → (escList m).all (fun x => x.1.toNat != 0x0800 + k) = true → esc t k = esc s.toDev k)) := by
  refine answers_mono (faultCfg_replies hc ht hl hpass hok hj hn hpin) fun t h => ⟨h, ?_⟩
  obtain ⟨hnd, hdev, -⟩ := faultCfgSet_passed hok
  have hpins := fcopyDo_pins (m := m) (faultCfgSet m s.toDev).dev
  have hfault : t.fault = (plainWrites (cmdCtx s.toDev 0x58 m.seq.toNat) (escList m) s.toDev).fault := by
    rw [fault_of_beside h, hpins, hdev]
  have hitem : ∀ id, item t id = item (plainWrites (cmdCtx s.toDev 0x58 m.seq.toNat) (escList m) s.toDev) id := fun id => by
    rw [← hdev]
    exact (item_of_beside h id).trans (item_of_pinWrite hpins id)
  have hesc : ∀ k, esc t k = esc (plainWrites (cmdCtx s.toDev 0x58 m.seq.toNat) (escList m) s.toDev) k := fun k => by rw [esc, hfault, esc]
  obtain ⟨-, hset, hkeep⟩ := escs_plainWrites (cmdCtx s.toDev 0x58 m.seq.toNat) (fun x hx => escList_sources hx) hnd s.toDev hlen
  refine ⟨fun x hx => ⟨?_, fun hinfo hstate => ?_⟩, fun k _ hall => ?_⟩
  · rw [hitem, item_plainWrites _ hnd _ x hx]
  · rw [hesc, hset x hx, escAgain, if_neg (by rw [hinfo]; decide), if_neg hstate]
    exact ⟨rfl, rfl⟩
  · rw [hesc, hkeep k fun x hx => bne_iff_ne.mp (List.all_eq_true.mp hall x hx)]

end Passed

end Config

end Sys2Proof.Proofs
end

section
/-! PROOF. BIST_CFG (14_aeddo_command_reference.md R470, 16_periodic_self_test.md R507), and the fault and service commands together. -/

namespace Sys2Proof.Proofs

open Sys2Proof Sys2Proof.Machine Sys2Proof.Safety Sys2Proof.Laws

/-! ## The coverage period -/

theorem coverage_of_beside {a t : Dev} (h : Beside a t) : coverage t = coverage a := by
  rw [h.2]
  rfl

theorem coverage_of_answerWrite {a b : Dev} (h : AnswerWrite a b) : coverage b = coverage a := by
  rw [h]
  rfl

section Bist

variable {s : State} {m : Msg}

/-! ## BIST_CFG -/

/-- The items that BIST_CFG writes. -/
def bistItems (m : Msg) : List (Word × Word) := [(0x0901, req m 1), (0x0902, req m 2), (0x0903, req m 3)]

theorem bistItems_plain : ∀ x ∈ bistItems m, Plainly x.1.toNat := fun x hx => by
  unfold bistItems at hx
  simp only [List.mem_cons, List.not_mem_nil, or_false] at hx
  rcases hx with rfl | rfl | rfl
  · exact .inr (show 0x0901 ≤ (0x0901 : Word).toNat ∧ (0x0901 : Word).toNat ≤ 0x0903 by decide)
  · exact .inr (show 0x0901 ≤ (0x0902 : Word).toNat ∧ (0x0902 : Word).toNat ≤ 0x0903 by decide)
  · exact .inr (show 0x0901 ≤ (0x0903 : Word).toNat ∧ (0x0903 : Word).toNat ≤ 0x0903 by decide)

/-- BIST_CFG's part of the command. -/
def bistCfgAns (m : Msg) (d : Dev) : Ans := setAnswer (setItems (msgCtx d 0x5C m) (bistItems m) d) (fun d => [Word.of (coverage d)])

/-- What BIST_CFG writes. -/
def bistCfgSet (m : Msg) (d : Dev) : SetResult := setItems (cmdCtx d 0x5C m.seq.toNat) (bistItems m) d

variable (hc : Calm s.toDev) (ht : takes s.toDev 0x5C true m = true) (hl : lenIs 5 m = true)

include hc ht hl

theorem bistCfg_refused (hst : (bistCfgSet m s.toDev).st.code ≠ 0) :
    Answers (.bistCfg m) s (Replied 0x5C m (bistCfgSet m s.toDev).st [] s.toDev) := by
  refine replied_refused (c := ⟨0x5C, lenIs 5, true, false, false⟩) (f := bistCfgAns m) rfl ht hc (admits_plain hl) (e := counted m s.toDev) ?_ hst
  rcases setItems_plain (counted m s.toDev).cmd (cmdCtx s.toDev 0x5C m.seq.toNat) bistItems_plain s.toDev with ⟨-, hforced, hk⟩ | ⟨-, n, h, -⟩
  · have hset : setItems (msgCtx (counted m s.toDev) 0x5C m) (bistItems m) (counted m s.toDev) =
        { bistCfgSet m s.toDev with dev := counted m s.toDev } := hk
    have hwhole : (bistCfgSet m s.toDev).forced = false := hforced
    unfold bistCfgAns setAnswer
    rw [hset, if_neg hst, if_neg (by rw [hwhole]; decide)]
  · exact absurd (by rw [bistCfgSet, h]; rfl) hst

theorem bistCfg_done (hj : JournalFree s.toDev) (hok : (bistCfgSet m s.toDev).st.code = 0) : Answers (.bistCfg m) s (fun t =>
    itemN t 0x0901 = (req m 1).toNat ∧ itemN t 0x0902 = (req m 2).toNat ∧ itemN t 0x0903 = (req m 3).toNat ∧
    t.cmd.cache.head? = some ⟨m.seq.toNat, 0x5C, rspOf 0x5C m stOK [Word.of (coverage t)] s.toDev⟩) := by
  rcases setItems_plain (counted m s.toDev).cmd (cmdCtx s.toDev 0x5C m.seq.toNat) bistItems_plain s.toDev with ⟨hst, -, -⟩ | ⟨hnd, n, -, hk⟩
  · exact absurd hok hst
  have hframe := plainWrites_frame (cmdCtx s.toDev 0x5C m.seq.toNat) (bistItems m) s.toDev
  have hentries := plainWrites_entries (cmdCtx s.toDev 0x5C m.seq.toNat) (bistItems m) s.toDev
  have hitems := item_plainWrites (cmdCtx s.toDev 0x5C m.seq.toNat) hnd s.toDev
  generalize plainWrites (cmdCtx s.toDev 0x5C m.seq.toNat) (bistItems m) s.toDev = y at hk hframe hentries hitems
  have hset : setItems (msgCtx (counted m s.toDev) 0x5C m) (bistItems m) (counted m s.toDev) =
      ⟨stOK, 0xFF, 0, n, withCmd (counted m s.toDev).cmd y, false⟩ := hk
  have hf : bistCfgAns m (counted m s.toDev) =
      .done stOK [Word.of (coverage (withCmd (counted m s.toDev).cmd y))] (withCmd (counted m s.toDev).cmd y) := by
    unfold bistCfgAns setAnswer
    rw [hset]
    exact if_pos rfl
  have hcy : Calm (withCmd (counted m s.toDev).cmd y) :=
    calm_of_eq (show Calm (counted m s.toDev) from hc) rfl (by rw [hframe]; rfl) (by rw [hframe]; rfl) (by rw [hframe]; rfl)
  refine answers_mono (answers_done (c := ⟨0x5C, lenIs 5, true, false, false⟩) (f := bistCfgAns m) rfl ht hc (admits_plain hl) hf hcy
    (by rw [show (withCmd (counted m s.toDev).cmd y).power = y.power from rfl, hframe]; exact id)
    (journalRoom_free hj (hentries.trans (Nat.add_le_add_left (show 3 ≤ 200 by decide) _)))) fun t h => ?_
  have hw := answerWrite_answer 0x5C m.seq.toNat (m.body.length + 2) m.quiet m.bcast false stOK
    [Word.of (coverage (withCmd (counted m s.toDev).cmd y))] (withCmd (counted m s.toDev).cmd y)
  have hcover : coverage t = coverage (withCmd (counted m s.toDev).cmd y) := (coverage_of_beside h).trans (coverage_of_answerWrite hw)
  have hitem : ∀ id, item t id = item y id := fun id => (item_of_beside h id).trans (by
    rw [hw]
    rfl)
  obtain ⟨-, -, -, hcache⟩ := answer_leaves h
  refine ⟨?_, ?_, ?_, ?_⟩
  · rw [itemN, hitem, show (0x0901 : Nat) = (0x0901 : Word).toNat from rfl, hitems (0x0901, req m 1) (by simp [bistItems])]
    rfl
  · rw [itemN, hitem, show (0x0902 : Nat) = (0x0902 : Word).toNat from rfl, hitems (0x0902, req m 2) (by simp [bistItems])]
    rfl
  · rw [itemN, hitem, show (0x0903 : Nat) = (0x0903 : Word).toNat from rfl, hitems (0x0903, req m 3) (by simp [bistItems])]
    rfl
  · have hrsp := rspOf_congr 0x5C m stOK [Word.of (coverage t)] (a := s.toDev) (b := withCmd (counted m s.toDev).cmd y)
      (by rw [hframe]; rfl) (by rw [hframe]; rfl) (by rw [hframe]; rfl)
    rw [← hcover] at hcache
    exact hcache.trans (congrArg (fun r => some (⟨m.seq.toNat, 0x5C, r⟩ : Cached)) hrsp)

end Bist

/-! ## O56 -/

theorem lenIs_body {m : Msg} {n k : Nat} (h : m.body.length = n) (hk : n + 2 = k) : lenIs k m = true := by
  unfold lenIs
  rw [h, hk]
  exact beq_self_eq_true k

/-- Settles O56: each message is taken apart by its operation and its checks; lists of items are written as a whole or not at all. -/
theorem faultAndServiceMessages : Obligations.FaultAndServiceMessages := by
  intro s m hc hj hlen hn w w2
  refine ⟨fun ht hl => ⟨faultCfg_absent hc ht hl, faultCfg_range hc ht hl, fun ha hw hmax hr => ?_⟩, fun ht hl => ⟨?_, ?_⟩,
    fun ht hl ho => ⟨?_, ?_⟩, fun ht hl => ⟨?_, ?_⟩, fun ht hl => ⟨?_, ?_⟩, fun ht hl => ⟨?_, ?_⟩, fun ht => ⟨fun hl hop => ⟨?_, ?_⟩,
      service_unknown hc ht, fun hl hop hw => answer_range hc ht hl hop hw, fun hl hw hb ho => ⟨?_, ?_, ?_⟩⟩, fun ht hl => ⟨?_, ?_⟩⟩
  · have hpass := faultCfg_passes ha hw hmax hr
    exact ⟨faultCfg_items hc ht hl hpass, fun _ hok hpin he => faultCfg_pin hc ht hl hpass hok hpin he,
      fun hok hpin _ => faultCfg_done hc ht hl hpass hok hj hlen hmax hpin⟩
  · exact fun hw h1 hmax => faultRead_done hc hlen ht (lenIs_body hl rfl) hw h1 hmax
  · exact faultRead_range hc ht (lenIs_body hl rfl)
  · exact fun hk _ => inject_done hc hj ht (lenIs_body hl rfl) ho hk
  · exact fun _ hk he hi => inject_refused hc ht (lenIs_body hl rfl) ho hk he hi
  · exact bistCfg_done hc ht (lenIs_body hl rfl) hj
  · exact bistCfg_refused hc ht (lenIs_body hl rfl)
  · rintro (h0 | h1)
    · rw [if_pos h0]
      exact bistRead_shown hc ht (lenIs_body hl rfl) h0
    · rw [if_neg (by rw [h1]; decide)]
      exact bistRead_cleared hc ht (lenIs_body hl rfl) h1
  · exact bistRead_range hc ht (lenIs_body hl rfl)
  · exact journalRead_done hc hn ht (lenIs_body hl rfl)
  · exact journalRead_range hc ht (lenIs_body hl rfl)
  · exact challenge_reserved hc ht hl hop
  · exact fun hw => ⟨challenge_done hc ht hl hop hw, challenge_early hc ht hl hop hw, challenge_open hc ht hl hop hw⟩
  · exact fun _ hnonce hmac => answer_right hc ht hl hj hb ho hw hnonce hmac
  · exact fun _ hnonce hmac => answer_wrong hc ht hl hb ho hw hnonce hmac
  · exact answer_early hc ht hl hw
  · exact close_done hc hj ht (lenIs_empty hl)
  · exact close_without hc ht (lenIs_empty hl)

end Sys2Proof.Proofs
end
